-- ==== Sys2Proof/Word.lean ====
section
/-! DEFINITION. The word and byte types of the module: every register of BAR0 is 32 bits wide (22_register_index.md R475). -/

namespace Sys2Proof

/-- One register of BAR0, one word of a record, one word of a shadow space. -/
abbrev Word := BitVec 32

/-- One byte of Cellar, of the NOR or of a host buffer. -/
abbrev Byte := BitVec 8

/-- The number of fabric cells: 3,840 plane cells, 256 input splitters and 256 output combiners (02_fabric.md). -/
abbrev cellCount : Nat := 4352

/-- One bit per fabric cell: a whole image, a live mask or a set of failed cells (03_routing.md R40). -/
abbrev CellSet := BitVec 4352

end Sys2Proof
end

