-- ==== Sys2Proof/Config.lean ====
section
/-! DEFINITION. What an implementation fixes, and the free values: constants without a body, so that no proof can see what they are. -/

namespace Sys2Proof.Config

/-- Ordering code: true for SA5120-LX (VARIANT 0x02), false for SA5120-LQ (VARIANT 0x01) (00_scope.md R1, 14_host_interface.md R325). -/
opaque extendedRange : Bool

/-- The 64-bit module identifier of GLB_UNIQUE_ID (R325). -/
opaque uniqueId : BitVec 64

/-- Values the spec leaves open: the n-th one the machine needs is freeWord n, with n counted in State.freeCtr. -/
opaque freeWord : Nat → BitVec 64

/-- Linear power at the photodiode for a monitor code, in a unit of its own (06_loops.md R118: p is linear power; the spec gives
the code's level in decibels and not the precision of the conversion). -/
opaque linearPower : Nat → Nat

/-- Current of a channel at a code in its voltage range, in 5 mA / 16,384 (05_drive_and_sense.md R87 gives the voltage only). -/
opaque voltageRangeCurrent (x code : Nat) : Nat

/-- g of R118 over a window in which no sample shows any light (its divisor is 0), Q8.24. -/
opaque demodDark : Int

/-- The code an attenuator needs for ATTEN d in 0.1 dB on element x, other than its two calibrated points (04_racking.md R75 and
08_calibration.md R181 give the codes of minimum loss and of 20 dB above it). -/
opaque attenCode (x d : Nat) : Nat

/-- The key hash fused at an index before the first start (15_management.md R340): the spec gives no value. -/
opaque keyHash : Nat → Nat

/-- What a capture channel reads that names an element past EL9215 (16_events_and_capture.md R365 gives no value). -/
opaque captureNone (kind index : Nat) : Int

/-- Row bits (0 to 127) of the path of connection k in acquisition image Ai (19_start_and_modes.md R428 leaves the choice to the device). -/
opaque acqRow (i k : Nat) : Nat

/-- What an image component gives, by its bytes: word w of the loop record of ELx, the tone slot of ELx, the default severity of a source,
and the subsystem identifiers (15_management.md R339 gives no layout of components 5, 7, 8 and 9). -/
opaque loopDefault (component : List (BitVec 8)) (x w : Nat) : BitVec 32
opaque toneDefault (component : List (BitVec 8)) (x : Nat) : BitVec 32
opaque subsystemIds (component : List (BitVec 8)) : BitVec 32
opaque severityDefault (component : List (BitVec 8)) (source : Nat) : Nat

/-- Reference CRC of the protected set, from its registers with the values referred to (17_faults_and_safety.md R397, R403: the order of the
registers is not stated). -/
opaque crcRef (set : List (Nat × BitVec 32)) : BitVec 32

end Sys2Proof.Config
end

