-- ==== Sys2Proof/Machine/Bits.lean ====
section
/-! DEFINITION. Bit fields of a word, signed readings, saturation and small list helpers. -/

namespace Sys2Proof.Machine

/-- A field of a word: its lowest bit and its width (the spec's [msb:lsb] notation). -/
structure Fld where
  lo : Nat
  w : Nat
  deriving DecidableEq, Repr

/-- The field's value. -/
def Fld.get (f : Fld) (v : Word) : Nat := (v.toNat >>> f.lo) % 2 ^ f.w

/-- The word with the field replaced by the low bits of n. -/
def Fld.set (f : Fld) (v : Word) (n : Nat) : Word :=
  let m : Word := BitVec.ofNat 32 ((2 ^ f.w - 1) <<< f.lo)
  (v &&& ~~~ m) ||| BitVec.ofNat 32 ((n % 2 ^ f.w) <<< f.lo)

/-- Bits [lo + w - 1 : lo] of a natural number. -/
def bits (n lo w : Nat) : Nat := (n >>> lo) % 2 ^ w

/-- Bit i of a natural number. -/
def bitOf (n i : Nat) : Bool := Nat.testBit n i

/-- The two's complement reading of the low w bits of n. -/
def signedOf (w n : Nat) : Int :=
  let m := n % 2 ^ w
  if m < 2 ^ (w - 1) then (m : Int) else (m : Int) - ((2 ^ w : Nat) : Int)

/-- The low w bits of an integer, two's complement. -/
def unsignedOf (w : Nat) (z : Int) : Nat := (z % ((2 ^ w : Nat) : Int)).toNat

/-- Clamp into [lo, hi]. -/
def clampInt (lo hi z : Int) : Int := if z < lo then lo else if hi < z then hi else z

/-- Clamp a natural number into [lo, hi]. -/
def clampNat (lo hi n : Nat) : Nat := if n < lo then lo else if hi < n then hi else n

/-- Add without passing the largest value of a w-bit counter. -/
def satAdd (w n k : Nat) : Nat := if n + k < 2 ^ w then n + k else 2 ^ w - 1

/-- Arithmetic right shift of an exact integer, rounding towards minus infinity. -/
def asr (z : Int) (k : Nat) : Int := z.fdiv ((2 ^ k : Nat) : Int)

/-- Division by 2^k with rounding half away from zero. -/
def roundAway (z : Int) (k : Nat) : Int :=
  let h : Int := ((2 ^ (k - 1) : Nat) : Int)
  if k = 0 then z else if 0 ≤ z then (z + h) / ((2 ^ k : Nat) : Int) else - ((- z + h) / ((2 ^ k : Nat) : Int))

/-- 1 for true. -/
def bnat (b : Bool) : Nat := if b then 1 else 0

/-- Element i of a list, or the given default. -/
def nth (d : α) : List α → Nat → α
  | [], _ => d
  | a :: _, 0 => a
  | _ :: l, n + 1 => nth d l n

/-- The list with element i replaced; unchanged where i is past its end. -/
def setNth : List α → Nat → α → List α
  | [], _, _ => []
  | _ :: l, 0, v => v :: l
  | a :: l, n + 1, v => a :: setNth l n v

/-- Apply f to s for i = a, a + 1, … (n of them), in ascending order. -/
def forUp (f : Nat → σ → σ) : Nat → Nat → σ → σ
  | 0, _, s => s
  | n + 1, a, s => forUp f n (a + 1) (f a s)

/-- The numbers a, a + 1, … (n of them). -/
def upFrom (a : Nat) : Nat → List Nat
  | 0 => []
  | n + 1 => a :: upFrom (a + 1) n

/-- The first number below n that satisfies p. -/
def firstBelow (p : Nat → Bool) (n : Nat) : Option Nat := (List.range n).find? p

/-- Ceiling division. -/
def cdiv (a b : Nat) : Nat := (a + b - 1) / b

/-- Bytes of a word, lowest first (little-endian, R304). -/
def wordBytes (v : Word) : List Byte :=
  [BitVec.ofNat 8 v.toNat, BitVec.ofNat 8 (v.toNat >>> 8), BitVec.ofNat 8 (v.toNat >>> 16), BitVec.ofNat 8 (v.toNat >>> 24)]

/-- n bytes of a number, lowest first. -/
def leBytes : Nat → Nat → List Byte
  | 0, _ => []
  | k + 1, v => BitVec.ofNat 8 v :: leBytes k (v >>> 8)

/-- n bytes of a number, highest first (wire order). -/
def beBytes (k v : Nat) : List Byte := (leBytes k v).reverse

/-- The number whose bytes, lowest first, these are. -/
def ofLe : List Byte → Nat
  | [] => 0
  | b :: l => b.toNat + 256 * ofLe l

/-- The number whose bytes, highest first, these are. -/
def ofBe (l : List Byte) : Nat := ofLe l.reverse

/-- Split bytes into words, lowest byte first; a last part word is completed with zeros. -/
def toWords : Nat → List Byte → List Word
  | 0, _ => []
  | n + 1, l => BitVec.ofNat 32 (ofLe (l.take 4)) :: toWords n (l.drop 4)

end Sys2Proof.Machine
end

