-- ==== Sys2Proof/Machine/Tab.lean ====
section
/-! DEFINITION. Sparse tables in one canonical form: keys strictly rising, no entry equal to what an unlisted key reads as.
The register file, Cellar, the NOR slots and every per-element or per-queue record of State are such tables. -/

namespace Sys2Proof.Machine

/-- A table from numbers to values; what an unlisted key reads as is given to each operation. -/
abbrev Tab (α : Type) := List (Nat × α)

/-- Read a key. -/
def Tab.get (d : Nat → α) : Tab α → Nat → α
  | [], k => d k
  | (a, v) :: t, k => if k = a then v else Tab.get d t k

/-- The table without a key. -/
def Tab.drop (k : Nat) (t : Tab α) : Tab α := t.filter fun e => e.1 != k

/-- List a value for a key that is not listed, in its place. -/
def Tab.put (k : Nat) (v : α) : Tab α → Tab α
  | [] => [(k, v)]
  | (a, w) :: t => if k < a then (k, v) :: (a, w) :: t else (a, w) :: Tab.put k v t

/-- Write a key, keeping the canonical form: a value that the key reads as unlisted is not listed. -/
def Tab.set [DecidableEq α] (d : Nat → α) (t : Tab α) (k : Nat) (v : α) : Tab α :=
  if v = d k then Tab.drop k t else Tab.put k v (Tab.drop k t)

/-- Keys all above k, strictly rising, and no entry at its default. -/
def Tab.wfFrom [DecidableEq α] (d : Nat → α) : Nat → Tab α → Bool
  | _, [] => true
  | k, (a, v) :: t => decide (k ≤ a) && !decide (v = d a) && Tab.wfFrom d (a + 1) t

/-- The canonical form. -/
def Tab.wf [DecidableEq α] (d : Nat → α) (t : Tab α) : Bool := Tab.wfFrom d 0 t

/-- Return the keys of [lo, lo + n) to their defaults. -/
def Tab.clear (lo n : Nat) (t : Tab α) : Tab α := t.filter fun e => e.1 < lo || lo + n ≤ e.1

/-- The entries of [lo, lo + n), with their keys counted from 0. -/
def Tab.slice (lo n : Nat) (t : Tab α) : Tab α :=
  (t.filter fun e => lo ≤ e.1 && e.1 < lo + n).map fun e => (e.1 - lo, e.2)

/-- Write a list of values at k, k + 1, … -/
def Tab.setList [DecidableEq α] (d : Nat → α) (t : Tab α) (k : Nat) : List α → Tab α
  | [] => t
  | v :: l => Tab.setList d (Tab.set d t k v) (k + 1) l

/-- Write each listed pair, offset by lo. -/
def Tab.setAll [DecidableEq α] (d : Nat → α) (lo : Nat) : Tab α → Tab α → Tab α
  | [], t => t
  | (k, v) :: l, t => Tab.setAll d lo l (Tab.set d t (lo + k) v)

/-- Make [dst, dst + n) equal to [src, src + n) (both ranges read alike where nothing is listed). -/
def Tab.copy [DecidableEq α] (d : Nat → α) (src dst n : Nat) (t : Tab α) : Tab α :=
  Tab.setAll d dst (Tab.slice src n t) (Tab.clear dst n t)

/-- Exchange [a, a + n) and [b, b + n) (both ranges read alike where nothing is listed). -/
def Tab.swap [DecidableEq α] (d : Nat → α) (a b n : Nat) (t : Tab α) : Tab α :=
  let sa := Tab.slice a n t
  let sb := Tab.slice b n t
  Tab.setAll d b sa (Tab.setAll d a sb (Tab.clear b n (Tab.clear a n t)))

/-- n values from key k upwards. -/
def Tab.getList (d : Nat → α) (t : Tab α) : Nat → Nat → List α
  | _, 0 => []
  | k, n + 1 => Tab.get d t k :: Tab.getList d t (k + 1) n

end Sys2Proof.Machine
end

