-- ==== Sys2Proof/Machine/RegTable.lean ====
section
/-! DEFINITION. The registers of BAR0: their offsets (namespace R), their fields (namespace F), and for every register its
access masks and its reset value, as the register tables of the chapters give them (22_register_index.md R474, R475). -/

namespace Sys2Proof.Machine

/-- Reset values that depend on the register's place in its array. -/
inductive RstKind where
  | chCfg | hkSeq | genFreq | genPhAmp | thmG | chOwn | calTol | calCurve | sev | glbId | uidLo | uidHi
  deriving DecidableEq, Repr

/-- A register's reset value: a constant, or one that depends on its place. -/
inductive Rst where
  | k (n : Nat)
  | own (r : RstKind)
  deriving DecidableEq, Repr

/-- One register or array of registers: its offset, the strides and counts of its indices (outermost first), the bits of
each access code of R4, and its reset value. Bits of no mask are RO or reserved. -/
structure RegDesc where
  base : Nat
  dims : List (Nat × Nat)
  rw : Nat
  w1c : Nat
  rc : Nat
  lk : Nat
  wo : Nat
  rst : Rst
  deriving DecidableEq, Repr

namespace R

@[simp] abbrev GLB_ID : Nat := 0x0
@[simp] abbrev GLB_UNIQUE_ID_LO : Nat := 0x8
@[simp] abbrev GLB_UNIQUE_ID_HI : Nat := 0xC
@[simp] abbrev HIF_CTRL : Nat := 0x10000
@[simp] abbrev HIF_DB_BASE_LO : Nat := 0x10004
@[simp] abbrev HIF_DB_BASE_HI : Nat := 0x10008
@[simp] abbrev HIF_DB_CTRL : Nat := 0x1000C
@[simp] abbrev HIF_NUDGE : Nat := 0x10010
@[simp] abbrev HIF_BEACON_BASE_LO : Nat := 0x10014
@[simp] abbrev HIF_BEACON_BASE_HI : Nat := 0x10018
@[simp] abbrev HIF_BEACON_CTRL : Nat := 0x1001C
@[simp] abbrev HIF_ATTN : Nat := 0x10020
@[simp] abbrev HIF_ATTN_ACK : Nat := 0x10024
@[simp] abbrev HIF_ERR : Nat := 0x10028
@[simp] abbrev HIF_CQ_FULL : Nat := 0x1002C
@[simp] abbrev HIF_SQ_BASE_LO (x : Nat) : Nat := 0x10100 + 16 * x
@[simp] abbrev HIF_SQ_BASE_HI (x : Nat) : Nat := 0x10104 + 16 * x
@[simp] abbrev HIF_SQ_CFG (x : Nat) : Nat := 0x10108 + 16 * x
@[simp] abbrev HIF_SQ_STATUS (x : Nat) : Nat := 0x1010C + 16 * x
@[simp] abbrev HIF_CQ_BASE_LO (x : Nat) : Nat := 0x10300 + 16 * x
@[simp] abbrev HIF_CQ_BASE_HI (x : Nat) : Nat := 0x10304 + 16 * x
@[simp] abbrev HIF_CQ_CFG (x : Nat) : Nat := 0x10308 + 16 * x
@[simp] abbrev HIF_CQ_STATUS (x : Nat) : Nat := 0x1030C + 16 * x
@[simp] abbrev PWR_STATUS : Nat := 0x20000
@[simp] abbrev PWR_WAKE : Nat := 0x20004
@[simp] abbrev PWR_DOM_ON (x : Nat) : Nat := 0x20010 + 4 * x
@[simp] abbrev PWR_INPUT : Nat := 0x20030
@[simp] abbrev THM_CTRL : Nat := 0x30000
@[simp] abbrev THM_STATUS : Nat := 0x30004
@[simp] abbrev THM_VALUES : Nat := 0x30008
@[simp] abbrev THM_DERIVED : Nat := 0x3000C
@[simp] abbrev THM_SENSOR (x : Nat) : Nat := 0x30100 + 4 * x
@[simp] abbrev THM_SENSOR_OVR (x : Nat) : Nat := 0x30240 + 4 * x
@[simp] abbrev THM_NODE (x : Nat) : Nat := 0x30400 + 4 * x
@[simp] abbrev THM_BASE : Nat := 0x30440
@[simp] abbrev THM_MODEL_ALPHA (x : Nat) : Nat := 0x30500 + 4 * x
@[simp] abbrev THM_MODEL_BETA (x : Nat) : Nat := 0x30540 + 4 * x
@[simp] abbrev THM_MODEL_GAMMA : Nat := 0x30580
@[simp] abbrev THM_MODEL_ACT : Nat := 0x30584
@[simp] abbrev THM_MODEL_PSV : Nat := 0x30588
@[simp] abbrev THM_MODEL_G (x : Nat) (y : Nat) : Nat := 0x30800 + 64 * x + 4 * y
@[simp] abbrev FLT_CTRL : Nat := 0x40000
@[simp] abbrev FLT_STATUS : Nat := 0x40004
@[simp] abbrev FLT_LK_ADDR : Nat := 0x40010
@[simp] abbrev FLT_LK_DATA : Nat := 0x40014
@[simp] abbrev FLT_LK_CMD : Nat := 0x40018
@[simp] abbrev FLT_LK_STATUS : Nat := 0x4001C
@[simp] abbrev FLT_CRC_REF : Nat := 0x40020
@[simp] abbrev FLT_INJ : Nat := 0x40030
@[simp] abbrev FLT_INJ_STATUS : Nat := 0x40034
@[simp] abbrev FLT_TEST_INJ : Nat := 0x40038
@[simp] abbrev FLT_OPEN (x : Nat) : Nat := 0x40100 + 4 * x
@[simp] abbrev FLT_SEV (x : Nat) : Nat := 0x41000 + 4 * x
@[simp] abbrev FLT_SRC_COUNT (x : Nat) : Nat := 0x42000 + 4 * x
@[simp] abbrev EVT_REFUSED : Nat := 0x50000
@[simp] abbrev EVT_SW_PULSE : Nat := 0x50004
@[simp] abbrev EVT_LOOP_STATUS : Nat := 0x50008
@[simp] abbrev EVT_MODE_TASK : Nat := 0x5000C
@[simp] abbrev EVT_PIN_CFG (x : Nat) : Nat := 0x50100 + 4 * x
@[simp] abbrev EVT_PIN_STAT (x : Nat) : Nat := 0x50140 + 4 * x
@[simp] abbrev EVT_EVO_CFG (x : Nat) : Nat := 0x50180 + 4 * x
@[simp] abbrev EVT_CH_OWN (x : Nat) : Nat := 0x51000 + 16 * x
@[simp] abbrev EVT_CH_CFG (x : Nat) : Nat := 0x51004 + 16 * x
@[simp] abbrev EVT_CH_TASKS (x : Nat) : Nat := 0x51008 + 16 * x
@[simp] abbrev EVT_CH_COUNT (x : Nat) : Nat := 0x5100C + 16 * x
@[simp] abbrev EVT_TASK_STAT (x : Nat) : Nat := 0x52000 + 4 * x
@[simp] abbrev EVT_CNT (x : Nat) : Nat := 0x52200 + 4 * x
@[simp] abbrev TIM_CTRL : Nat := 0x60000
@[simp] abbrev TIM_SNAP_CMD : Nat := 0x60004
@[simp] abbrev TIM_OSC_COMP_CTRL : Nat := 0x60008
@[simp] abbrev TIM_OSC_COMP_C (x : Nat) : Nat := 0x60010 + 4 * x
@[simp] abbrev TIM_TC_STATS (x : Nat) : Nat := 0x60020 + 4 * x
@[simp] abbrev TIM_TB_CMD (x : Nat) : Nat := 0x60100 + 128 * x
@[simp] abbrev TIM_TB_OPND_SEC_HI (x : Nat) : Nat := 0x60104 + 128 * x
@[simp] abbrev TIM_TB_OPND_SEC_LO (x : Nat) : Nat := 0x60108 + 128 * x
@[simp] abbrev TIM_TB_OPND_NS (x : Nat) : Nat := 0x6010C + 128 * x
@[simp] abbrev TIM_TB_OPND_SUB (x : Nat) : Nat := 0x60110 + 128 * x
@[simp] abbrev TIM_SNAP (x : Nat) (y : Nat) : Nat := 0x60114 + 128 * x + 4 * y
@[simp] abbrev TIM_RATE (x : Nat) : Nat := 0x60124 + 128 * x
@[simp] abbrev TIM_SERVO_CFG (x : Nat) : Nat := 0x60128 + 128 * x
@[simp] abbrev TIM_SERVO_KP (x : Nat) : Nat := 0x6012C + 128 * x
@[simp] abbrev TIM_SERVO_KI (x : Nat) : Nat := 0x60130 + 128 * x
@[simp] abbrev TIM_SERVO_STEP (x : Nat) : Nat := 0x60134 + 128 * x
@[simp] abbrev TIM_SERVO_INT (x : Nat) : Nat := 0x60138 + 128 * x
@[simp] abbrev TIM_SERVO_STATUS (x : Nat) : Nat := 0x6013C + 128 * x
@[simp] abbrev TIM_SERVO_LAST (x : Nat) : Nat := 0x60140 + 128 * x
@[simp] abbrev TIM_PPS_CFG (x : Nat) : Nat := 0x60144 + 128 * x
@[simp] abbrev TIM_PPS_DELAY (x : Nat) : Nat := 0x60148 + 128 * x
@[simp] abbrev TIM_PPS_SEC (x : Nat) : Nat := 0x6014C + 128 * x
@[simp] abbrev TIM_PPS_NS (x : Nat) : Nat := 0x60150 + 128 * x
@[simp] abbrev TIM_CMP_CTRL (x : Nat) (y : Nat) : Nat := 0x61000 + 512 * x + 16 * y
@[simp] abbrev TIM_CMP_TARGET_LO (x : Nat) (y : Nat) : Nat := 0x61004 + 512 * x + 16 * y
@[simp] abbrev TIM_CMP_TARGET_HI (x : Nat) (y : Nat) : Nat := 0x61008 + 512 * x + 16 * y
@[simp] abbrev TIM_CMP_PERIOD (x : Nat) (y : Nat) : Nat := 0x6100C + 512 * x + 16 * y
@[simp] abbrev TIM_EVSTAMP_CTRL (x : Nat) : Nat := 0x62000 + 16 * x
@[simp] abbrev TIM_EVSTAMP_SEC (x : Nat) : Nat := 0x62004 + 16 * x
@[simp] abbrev TIM_EVSTAMP_NS (x : Nat) : Nat := 0x62008 + 16 * x
@[simp] abbrev TIM_EVSTAMP_SUB (x : Nat) : Nat := 0x6200C + 16 * x
@[simp] abbrev TIM_TSQ (x : Nat) (y : Nat) : Nat := 0x63000 + 32 * x + 4 * y
@[simp] abbrev TIM_TSQ_STATUS (x : Nat) : Nat := 0x63010 + 32 * x
@[simp] abbrev TIM_PORT (x : Nat) : Nat := 0x64000 + 4 * x
@[simp] abbrev TIM_PATH_DELAY (x : Nat) : Nat := 0x64200 + 4 * x
@[simp] abbrev PAIR_CFG : Nat := 0x70000
@[simp] abbrev PAIR_STATUS : Nat := 0x70004
@[simp] abbrev PAIR_VERSION : Nat := 0x70008
@[simp] abbrev PAIR_FEATURE : Nat := 0x7000C
@[simp] abbrev PAIR_PEER_ID_LO : Nat := 0x70010
@[simp] abbrev PAIR_PEER_ID_HI : Nat := 0x70014
@[simp] abbrev PAIR_VINTAGE_FABRIC : Nat := 0x70018
@[simp] abbrev PAIR_VINTAGE_PACKET : Nat := 0x7001C
@[simp] abbrev PAIR_COUNTS : Nat := 0x70020
@[simp] abbrev PAIR_DRILL : Nat := 0x70024
@[simp] abbrev PAIR_GAP : Nat := 0x70028
@[simp] abbrev MGT_PROC_STATUS (x : Nat) : Nat := 0x80000 + 4 * x
@[simp] abbrev MGT_REMAP : Nat := 0x80010
@[simp] abbrev MGT_BUS_ERR : Nat := 0x80014
@[simp] abbrev MGT_BUS_ERR_ADDR : Nat := 0x80018
@[simp] abbrev MGT_CELLAR_PAGE : Nat := 0x8001C
@[simp] abbrev MGT_BOOT_STATUS : Nat := 0x80020
@[simp] abbrev MGT_BOOT_COUNT : Nat := 0x80024
@[simp] abbrev MGT_SLOT (x : Nat) : Nat := 0x80030 + 4 * x
@[simp] abbrev MGT_SLOT_SEQ (x : Nat) : Nat := 0x80038 + 4 * x
@[simp] abbrev MGT_NOR_STATUS : Nat := 0x80040
@[simp] abbrev MGT_OTP : Nat := 0x80044
@[simp] abbrev MGT_LOG_OLDEST : Nat := 0x80050
@[simp] abbrev MGT_LOG_NEWEST : Nat := 0x80054
@[simp] abbrev MGT_LOG_STATUS : Nat := 0x80058
@[simp] abbrev FAB_SOLVE_CTRL : Nat := 0x100000
@[simp] abbrev FAB_SOLVE_STATUS : Nat := 0x100004
@[simp] abbrev FAB_SOLVE_BASE : Nat := 0x100008
@[simp] abbrev FAB_SOLVE_STATS : Nat := 0x10000C
@[simp] abbrev FAB_CHECK_STATUS : Nat := 0x100010
@[simp] abbrev FAB_FAILED_EDIT : Nat := 0x100014
@[simp] abbrev FAB_UNROUTED (x : Nat) : Nat := 0x100040 + 4 * x
@[simp] abbrev FAB_RACK_CTRL : Nat := 0x100100
@[simp] abbrev FAB_RACK_EVT : Nat := 0x100104
@[simp] abbrev FAB_RACK_STATUS : Nat := 0x100108
@[simp] abbrev FAB_RACK_UNPREPARED : Nat := 0x10010C
@[simp] abbrev FAB_RACK_SKEWED : Nat := 0x100110
@[simp] abbrev FAB_VINTAGE_FABRIC : Nat := 0x100114
@[simp] abbrev FAB_VINTAGE_PACKET : Nat := 0x100118
@[simp] abbrev FAB_RACK_COUNTS : Nat := 0x10011C
@[simp] abbrev FAB_RACK_COMMITS : Nat := 0x100120
@[simp] abbrev FAB_PKT_SHADOW : Nat := 0x100124
@[simp] abbrev FAB_RACK_STAMP_LO : Nat := 0x100128
@[simp] abbrev FAB_RACK_STAMP_HI : Nat := 0x10012C
@[simp] abbrev FAB_RACK_TS (x : Nat) : Nat := 0x100140 + 4 * x
@[simp] abbrev FAB_SHADOW_MAP (x : Nat) : Nat := 0x100400 + 4 * x
@[simp] abbrev FAB_ACTIVE_MAP (x : Nat) : Nat := 0x100800 + 4 * x
@[simp] abbrev FAB_GEOMETRY : Nat := 0x100F00
@[simp] abbrev FAB_IN_STATE (x : Nat) : Nat := 0x101000 + 4 * x
@[simp] abbrev FAB_OUT_STATE (x : Nat) : Nat := 0x101400 + 4 * x
@[simp] abbrev FAB_IN_POWER (x : Nat) : Nat := 0x101800 + 4 * x
@[simp] abbrev FAB_OUT_POWER (x : Nat) : Nat := 0x101C00 + 4 * x
@[simp] abbrev FAB_FAILED (x : Nat) : Nat := 0x102000 + 4 * x
@[simp] abbrev FAB_ACTIVE_CELLS (x : Nat) : Nat := 0x103000 + 4 * x
@[simp] abbrev FAB_ACTIVE_LIVE (x : Nat) : Nat := 0x103400 + 4 * x
@[simp] abbrev FAB_SHADOW_CELLS (x : Nat) : Nat := 0x103800 + 4 * x
@[simp] abbrev FAB_SHADOW_LIVE (x : Nat) : Nat := 0x103C00 + 4 * x
@[simp] abbrev DRV_BLK_CTRL (x : Nat) : Nat := 0x200100 + 4 * x
@[simp] abbrev DRV_BLK_STATUS (x : Nat) : Nat := 0x200140 + 4 * x
@[simp] abbrev DRV_BANK_STATUS (x : Nat) : Nat := 0x200200 + 4 * x
@[simp] abbrev DRV_HK_CFG (x : Nat) : Nat := 0x200400 + 4 * x
@[simp] abbrev DRV_HK_SEQ (x : Nat) : Nat := 0x200420 + 4 * x
@[simp] abbrev DRV_HK_PERIOD (x : Nat) : Nat := 0x200440 + 4 * x
@[simp] abbrev DRV_HK_STATUS : Nat := 0x200460
@[simp] abbrev DRV_HK_RESULT (x : Nat) : Nat := 0x200480 + 4 * x
@[simp] abbrev DRV_INJ_CFG (x : Nat) : Nat := 0x200500 + 4 * x
@[simp] abbrev DRV_INJ_RESULT (x : Nat) : Nat := 0x200540 + 4 * x
@[simp] abbrev DRV_CH_CFG (x : Nat) : Nat := 0x210000 + 4 * x
@[simp] abbrev DRV_CH_CODE (x : Nat) : Nat := 0x220000 + 4 * x
@[simp] abbrev DRV_CH_FLAG (x : Nat) : Nat := 0x230000 + 4 * x
@[simp] abbrev DRV_MON (x : Nat) : Nat := 0x240000 + 4 * x
@[simp] abbrev LOOP_ENGINE_CTRL : Nat := 0x400000
@[simp] abbrev LOOP_CMD : Nat := 0x400004
@[simp] abbrev LOOP_CMD_STATUS : Nat := 0x400008
@[simp] abbrev LOOP_FF_STATUS : Nat := 0x40000C
@[simp] abbrev LOOP_FF_DT (x : Nat) : Nat := 0x400040 + 4 * x
@[simp] abbrev LOOP_FF_TREF (x : Nat) : Nat := 0x400080 + 4 * x
@[simp] abbrev LOOP_BLK_STATUS (x : Nat) : Nat := 0x400100 + 4 * x
@[simp] abbrev LOOP_BLK_COUNTS (x : Nat) : Nat := 0x400140 + 4 * x
@[simp] abbrev LOOP_BLK_STATES (x : Nat) : Nat := 0x400180 + 4 * x
@[simp] abbrev LOOP_ST (x : Nat) : Nat := 0x410000 + 4 * x
@[simp] abbrev LOOP_RESID (x : Nat) : Nat := 0x420000 + 4 * x
@[simp] abbrev LOOP_XHAT (x : Nat) (y : Nat) : Nat := 0x430000 + 16 * x + 4 * y
@[simp] abbrev LOOP_ACTIVE_CFG (x : Nat) (y : Nat) : Nat := 0x480000 + 192 * x + 4 * y
@[simp] abbrev LOOP_SHADOW_CFG (x : Nat) (y : Nat) : Nat := 0x640000 + 192 * x + 4 * y
@[simp] abbrev SEQ_CMD (x : Nat) : Nat := 0x800000 + 64 * x
@[simp] abbrev SEQ_CTRL (x : Nat) : Nat := 0x800004 + 64 * x
@[simp] abbrev SEQ_TONE_MASK (x : Nat) : Nat := 0x800008 + 64 * x
@[simp] abbrev SEQ_STATUS (x : Nat) : Nat := 0x80000C + 64 * x
@[simp] abbrev SEQ_RESULT (x : Nat) : Nat := 0x800010 + 64 * x
@[simp] abbrev SEQ_SLIP (x : Nat) : Nat := 0x800014 + 64 * x
@[simp] abbrev SEQ_COUNTS (x : Nat) : Nat := 0x800018 + 64 * x
@[simp] abbrev SEQ_STREAM_BASE (x : Nat) : Nat := 0x80001C + 64 * x
@[simp] abbrev SEQ_MEM_ADDR (x : Nat) : Nat := 0x800020 + 64 * x
@[simp] abbrev SEQ_MEM_DATA (x : Nat) : Nat := 0x800024 + 64 * x
@[simp] abbrev SEQ_TARGET (x : Nat) (y : Nat) : Nat := 0x800400 + 32 * x + 4 * y
@[simp] abbrev SEQ_SKEW (x : Nat) : Nat := 0x800600 + 4 * x
@[simp] abbrev SEQ_TS (x : Nat) : Nat := 0x800680 + 4 * x
@[simp] abbrev SEQ_RACK_KIND (x : Nat) : Nat := 0x8006A0 + 4 * x
@[simp] abbrev SEQ_GEN_FREQ (x : Nat) (y : Nat) (z : Nat) : Nat := 0x804000 + 2048 * x + 64 * y + 16 * z
@[simp] abbrev SEQ_GEN_PHAMP (x : Nat) (y : Nat) (z : Nat) : Nat := 0x804004 + 2048 * x + 64 * y + 16 * z
@[simp] abbrev SEQ_SLOT (x : Nat) : Nat := 0x810000 + 4 * x
@[simp] abbrev SEQ_SEG (x : Nat) (y : Nat) (z : Nat) : Nat := 0x820000 + 32768 * x + 8 * y + 4 * z
@[simp] abbrev SEQ_RACK_SEG (x : Nat) (y : Nat) : Nat := 0x8A0000 + 8 * x + 4 * y
@[simp] abbrev SEQ_RACK_SAMPLE (x : Nat) : Nat := 0x8B0000 + 4 * x
@[simp] abbrev CAL_CTRL : Nat := 0x900000
@[simp] abbrev CAL_STATUS : Nat := 0x900004
@[simp] abbrev CAL_SWEEP_DONE : Nat := 0x900008
@[simp] abbrev CAL_SWEEP_SKIPS : Nat := 0x90000C
@[simp] abbrev CAL_NOMINAL : Nat := 0x900010
@[simp] abbrev CAL_TOL (x : Nat) : Nat := 0x900040 + 4 * x
@[simp] abbrev CAL_OSC : Nat := 0x900080
@[simp] abbrev CAL_TAP (x : Nat) : Nat := 0x900100 + 4 * x
@[simp] abbrev CAL_CH_SKEW (x : Nat) : Nat := 0x908000 + 4 * x
@[simp] abbrev CAL_SLICE (x : Nat) (y : Nat) : Nat := 0x912000 + 128 * x + 4 * y
@[simp] abbrev CAL_HK (x : Nat) : Nat := 0x913800 + 4 * x
@[simp] abbrev CAL_DAC (x : Nat) (y : Nat) : Nat := 0x920000 + 16 * x + 4 * y
@[simp] abbrev CAL_CURVE (x : Nat) (y : Nat) : Nat := 0x950000 + 32 * x + 4 * y
@[simp] abbrev CAL_STAGE (x : Nat) (y : Nat) : Nat := 0x9A0000 + 32 * x + 4 * y
@[simp] abbrev HRV_CTRL (x : Nat) : Nat := 0xA00000 + 256 * x
@[simp] abbrev HRV_BASE (x : Nat) : Nat := 0xA00004 + 256 * x
@[simp] abbrev HRV_PRE (x : Nat) : Nat := 0xA00008 + 256 * x
@[simp] abbrev HRV_POST (x : Nat) : Nat := 0xA0000C + 256 * x
@[simp] abbrev HRV_CHAN (x : Nat) (y : Nat) : Nat := 0xA00010 + 256 * x + 4 * y
@[simp] abbrev HRV_COND_CTRL (x : Nat) (y : Nat) : Nat := 0xA00040 + 256 * x + 16 * y
@[simp] abbrev HRV_COND_LEVEL (x : Nat) (y : Nat) : Nat := 0xA00044 + 256 * x + 16 * y
@[simp] abbrev HRV_COND_HYST (x : Nat) (y : Nat) : Nat := 0xA00048 + 256 * x + 16 * y
@[simp] abbrev HRV_COND_SLOPE (x : Nat) (y : Nat) : Nat := 0xA0004C + 256 * x + 16 * y
@[simp] abbrev HRV_STATUS (x : Nat) : Nat := 0xA00080 + 256 * x
@[simp] abbrev HRV_COUNTS (x : Nat) : Nat := 0xA00084 + 256 * x
@[simp] abbrev HRV_LOST (x : Nat) : Nat := 0xA00088 + 256 * x
@[simp] abbrev PIPE_STATUS (x : Nat) : Nat := 0xC00000 + 256 * x
@[simp] abbrev PIPE_PREP_STATUS (x : Nat) : Nat := 0xC00004 + 256 * x
@[simp] abbrev PIPE_COUNT_REPLAY (x : Nat) : Nat := 0xC00008 + 256 * x
@[simp] abbrev PIPE_COUNT_PARK (x : Nat) : Nat := 0xC0000C + 256 * x
@[simp] abbrev PIPE_COUNT_ERR (x : Nat) : Nat := 0xC00010 + 256 * x
@[simp] abbrev PIPE_COUNT_DROP (x : Nat) : Nat := 0xC00014 + 256 * x
@[simp] abbrev PIPE_PARSE_COUNT (x : Nat) (y : Nat) : Nat := 0xC00020 + 256 * x + 4 * y
@[simp] abbrev PIPE_CTRL : Nat := 0xC00400
@[simp] abbrev PIPE_PORT_ACTIVE (x : Nat) : Nat := 0xC01000 + 4 * x
@[simp] abbrev PIPE_PORT_SHADOW (x : Nat) : Nat := 0xC01200 + 4 * x
@[simp] abbrev PIPE_TMPL_ACTIVE (x : Nat) (y : Nat) : Nat := 0xC02000 + 64 * x + 4 * y
@[simp] abbrev PIPE_TMPL_SHADOW (x : Nat) (y : Nat) : Nat := 0xC02400 + 64 * x + 4 * y
@[simp] abbrev PIPE_GRAPH_ACTIVE (x : Nat) (y : Nat) : Nat := 0xC10000 + 128 * x + 4 * y
@[simp] abbrev PIPE_GRAPH_SHADOW (x : Nat) (y : Nat) : Nat := 0xC14000 + 128 * x + 4 * y
@[simp] abbrev TBL_CTRL : Nat := 0xD00000
@[simp] abbrev TBL_AGE_CLOCK : Nat := 0xD00004
@[simp] abbrev TBL_OP_LAST : Nat := 0xD00008
@[simp] abbrev TBL_STATUS (x : Nat) : Nat := 0xD00100 + 64 * x
@[simp] abbrev TBL_SEED (x : Nat) : Nat := 0xD00104 + 64 * x
@[simp] abbrev TBL_SEED_NEW (x : Nat) : Nat := 0xD00108 + 64 * x
@[simp] abbrev TBL_COUNT (x : Nat) : Nat := 0xD0010C + 64 * x
@[simp] abbrev TBL_LEARN_STATS (x : Nat) : Nat := 0xD00110 + 64 * x
@[simp] abbrev TBL_AGE_STATS (x : Nat) : Nat := 0xD00114 + 64 * x
@[simp] abbrev TBL_LPM_CFG (x : Nat) : Nat := 0xD00118 + 64 * x
@[simp] abbrev TBL_STATIC (x : Nat) : Nat := 0xD00128 + 64 * x
@[simp] abbrev TBL_PORT_LEARN (x : Nat) : Nat := 0xD01000 + 4 * x
@[simp] abbrev TBL_PORT_COUNT (x : Nat) : Nat := 0xD01200 + 4 * x
@[simp] abbrev TBL_FLOOD (x : Nat) (y : Nat) : Nat := 0xD10000 + 16 * x + 4 * y
@[simp] abbrev SCH_CTRL : Nat := 0xE00000
@[simp] abbrev SCH_PREP_STATUS : Nat := 0xE00004
@[simp] abbrev SCH_BUF_STATUS : Nat := 0xE00008
@[simp] abbrev SCH_BUF_LOW : Nat := 0xE0000C
@[simp] abbrev SCH_IND_SEL : Nat := 0xE00020
@[simp] abbrev SCH_IND_DATA (x : Nat) : Nat := 0xE00040 + 4 * x
@[simp] abbrev SCH_MIRROR_CFG (x : Nat) : Nat := 0xE00100 + 16 * x
@[simp] abbrev SCH_MIRROR_SRC (x : Nat) (y : Nat) : Nat := 0xE00104 + 16 * x + 4 * y
@[simp] abbrev SCH_PORT_STATUS (x : Nat) : Nat := 0xE01000 + 4 * x
@[simp] abbrev SCH_PORT_DROPS (x : Nat) : Nat := 0xE01200 + 4 * x
@[simp] abbrev LANE_CTRL : Nat := 0xF00000
@[simp] abbrev LANE_PREP_STATUS : Nat := 0xF00004
@[simp] abbrev LANE_LASER_CFG : Nat := 0xF00008
@[simp] abbrev LANE_CFG (x : Nat) : Nat := 0xF01000 + 4 * x
@[simp] abbrev LANE_STATE (x : Nat) : Nat := 0xF01200 + 4 * x
@[simp] abbrev LANE_RM (x : Nat) : Nat := 0xF01400 + 4 * x
@[simp] abbrev LANE_PRBS (x : Nat) : Nat := 0xF01600 + 4 * x
@[simp] abbrev LANE_EQ_CTRL (x : Nat) : Nat := 0xF02000 + 8 * x
@[simp] abbrev LANE_EQ_DFE (x : Nat) : Nat := 0xF02004 + 8 * x
@[simp] abbrev LANE_PORT_ACTIVE (x : Nat) : Nat := 0xF03000 + 4 * x
@[simp] abbrev LANE_PORT_SHADOW (x : Nat) : Nat := 0xF03200 + 4 * x
@[simp] abbrev LANE_PORT_STATUS (x : Nat) : Nat := 0xF03400 + 4 * x
@[simp] abbrev LANE_FEC (x : Nat) : Nat := 0xF03600 + 4 * x
@[simp] abbrev LANE_TAP (x : Nat) : Nat := 0xF04000 + 4 * x
@[simp] abbrev LANE_LASER (x : Nat) : Nat := 0xF04100 + 4 * x

end R

namespace F

@[simp] abbrev GLB_ID_DEVICE : Fld := ⟨16, 16⟩
@[simp] abbrev GLB_ID_REVISION : Fld := ⟨8, 8⟩
@[simp] abbrev GLB_ID_VARIANT : Fld := ⟨0, 8⟩
@[simp] abbrev GLB_UNIQUE_ID_LO_VAL : Fld := ⟨0, 32⟩
@[simp] abbrev GLB_UNIQUE_ID_HI_VAL : Fld := ⟨0, 32⟩
@[simp] abbrev HIF_CTRL_EN : Fld := ⟨31, 1⟩
@[simp] abbrev HIF_CTRL_READY : Fld := ⟨30, 1⟩
@[simp] abbrev HIF_CTRL_SOFT_RESET : Fld := ⟨0, 1⟩
@[simp] abbrev HIF_DB_BASE_LO_ADDR : Fld := ⟨8, 24⟩
@[simp] abbrev HIF_DB_BASE_HI_ADDR : Fld := ⟨0, 32⟩
@[simp] abbrev HIF_DB_CTRL_POLL : Fld := ⟨0, 9⟩
@[simp] abbrev HIF_NUDGE_VAL : Fld := ⟨0, 32⟩
@[simp] abbrev HIF_BEACON_BASE_LO_ADDR : Fld := ⟨6, 26⟩
@[simp] abbrev HIF_BEACON_BASE_HI_ADDR : Fld := ⟨0, 32⟩
@[simp] abbrev HIF_BEACON_CTRL_EN : Fld := ⟨31, 1⟩
@[simp] abbrev HIF_BEACON_CTRL_PERIOD : Fld := ⟨0, 10⟩
@[simp] abbrev HIF_ATTN_ATTN_CLASS : Fld := ⟨28, 4⟩
@[simp] abbrev HIF_ATTN_ATTN_SEQ : Fld := ⟨16, 8⟩
@[simp] abbrev HIF_ATTN_PENDING : Fld := ⟨0, 16⟩
@[simp] abbrev HIF_ATTN_ACK_VAL : Fld := ⟨0, 32⟩
@[simp] abbrev HIF_ERR_SOURCE : Fld := ⟨28, 4⟩
@[simp] abbrev HIF_ERR_RING : Fld := ⟨16, 5⟩
@[simp] abbrev HIF_ERR_COUNT : Fld := ⟨0, 16⟩
@[simp] abbrev HIF_CQ_FULL_VAL : Fld := ⟨0, 32⟩
@[simp] abbrev HIF_SQ_BASE_LO_ADDR : Fld := ⟨0, 32⟩
@[simp] abbrev HIF_SQ_BASE_HI_ADDR : Fld := ⟨0, 32⟩
@[simp] abbrev HIF_SQ_CFG_EN : Fld := ⟨31, 1⟩
@[simp] abbrev HIF_SQ_CFG_CQ : Fld := ⟨16, 5⟩
@[simp] abbrev HIF_SQ_CFG_SIZE_LOG2 : Fld := ⟨0, 4⟩
@[simp] abbrev HIF_SQ_STATUS_ERR : Fld := ⟨31, 1⟩
@[simp] abbrev HIF_SQ_STATUS_BUSY : Fld := ⟨30, 1⟩
@[simp] abbrev HIF_SQ_STATUS_HEAD : Fld := ⟨0, 16⟩
@[simp] abbrev HIF_CQ_BASE_LO_ADDR : Fld := ⟨0, 32⟩
@[simp] abbrev HIF_CQ_BASE_HI_ADDR : Fld := ⟨0, 32⟩
@[simp] abbrev HIF_CQ_CFG_EN : Fld := ⟨31, 1⟩
@[simp] abbrev HIF_CQ_CFG_SIZE_LOG2 : Fld := ⟨0, 4⟩
@[simp] abbrev HIF_CQ_STATUS_ERR : Fld := ⟨31, 1⟩
@[simp] abbrev HIF_CQ_STATUS_FULL : Fld := ⟨30, 1⟩
@[simp] abbrev HIF_CQ_STATUS_PHASE : Fld := ⟨16, 1⟩
@[simp] abbrev HIF_CQ_STATUS_TAIL : Fld := ⟨0, 16⟩
@[simp] abbrev PWR_STATUS_PFAIL : Fld := ⟨31, 1⟩
@[simp] abbrev PWR_STATUS_ON_HOLDUP : Fld := ⟨30, 1⟩
@[simp] abbrev PWR_STATUS_VHOLD_LOW : Fld := ⟨29, 1⟩
@[simp] abbrev PWR_STATUS_PFAIL_COUNT : Fld := ⟨0, 16⟩
@[simp] abbrev PWR_WAKE_EVI0_EN : Fld := ⟨31, 1⟩
@[simp] abbrev PWR_WAKE_EDGE : Fld := ⟨30, 1⟩
@[simp] abbrev PWR_DOM_ON_VAL : Fld := ⟨0, 32⟩
@[simp] abbrev PWR_INPUT_POWER : Fld := ⟨16, 16⟩
@[simp] abbrev PWR_INPUT_VHOLD : Fld := ⟨0, 16⟩
@[simp] abbrev THM_CTRL_REPORT : Fld := ⟨30, 2⟩
@[simp] abbrev THM_STATUS_REPORTED : Fld := ⟨16, 16⟩
@[simp] abbrev THM_STATUS_FAST : Fld := ⟨15, 1⟩
@[simp] abbrev THM_STATUS_WARN : Fld := ⟨14, 1⟩
@[simp] abbrev THM_STATUS_THROTTLE : Fld := ⟨13, 1⟩
@[simp] abbrev THM_STATUS_SHUTDOWN : Fld := ⟨12, 1⟩
@[simp] abbrev THM_STATUS_SCALE_STALE : Fld := ⟨11, 1⟩
@[simp] abbrev THM_STATUS_NO_SENSOR : Fld := ⟨10, 1⟩
@[simp] abbrev THM_VALUES_SENSED : Fld := ⟨16, 16⟩
@[simp] abbrev THM_VALUES_MODEL : Fld := ⟨0, 16⟩
@[simp] abbrev THM_DERIVED_NOR : Fld := ⟨16, 16⟩
@[simp] abbrev THM_DERIVED_TCXO : Fld := ⟨0, 16⟩
@[simp] abbrev THM_SENSOR_VALUE : Fld := ⟨16, 16⟩
@[simp] abbrev THM_SENSOR_FORCED_HOT : Fld := ⟨15, 1⟩
@[simp] abbrev THM_SENSOR_EXCLUDED : Fld := ⟨14, 1⟩
@[simp] abbrev THM_SENSOR_RELEASED : Fld := ⟨13, 1⟩
@[simp] abbrev THM_SENSOR_NO_CHECK : Fld := ⟨12, 1⟩
@[simp] abbrev THM_SENSOR_DISAGREE : Fld := ⟨8, 4⟩
@[simp] abbrev THM_SENSOR_OVR_OP : Fld := ⟨0, 2⟩
@[simp] abbrev THM_NODE_TM : Fld := ⟨16, 16⟩
@[simp] abbrev THM_NODE_VALID : Fld := ⟨15, 1⟩
@[simp] abbrev THM_NODE_P : Fld := ⟨0, 15⟩
@[simp] abbrev THM_BASE_T_BASE : Fld := ⟨0, 16⟩
@[simp] abbrev THM_MODEL_ALPHA_VAL : Fld := ⟨0, 24⟩
@[simp] abbrev THM_MODEL_BETA_VAL : Fld := ⟨0, 24⟩
@[simp] abbrev THM_MODEL_GAMMA_VAL : Fld := ⟨0, 24⟩
@[simp] abbrev THM_MODEL_ACT_P_BLK : Fld := ⟨24, 8⟩
@[simp] abbrev THM_MODEL_ACT_P_TAP : Fld := ⟨16, 8⟩
@[simp] abbrev THM_MODEL_ACT_P_LANE : Fld := ⟨8, 8⟩
@[simp] abbrev THM_MODEL_ACT_E_BIT : Fld := ⟨0, 8⟩
@[simp] abbrev THM_MODEL_PSV_P_SV : Fld := ⟨0, 8⟩
@[simp] abbrev THM_MODEL_G_VAL : Fld := ⟨0, 24⟩
@[simp] abbrev FLT_CTRL_TEST_INJ_EN : Fld := ⟨31, 1⟩
@[simp] abbrev FLT_CTRL_LIGHT_TOL : Fld := ⟨16, 8⟩
@[simp] abbrev FLT_CTRL_INJ_CYCLE : Fld := ⟨0, 12⟩
@[simp] abbrev FLT_STATUS_LATCHED : Fld := ⟨31, 1⟩
@[simp] abbrev FLT_STATUS_SAFE : Fld := ⟨30, 1⟩
@[simp] abbrev FLT_STATUS_FAULT_N : Fld := ⟨29, 1⟩
@[simp] abbrev FLT_STATUS_VERIFY_FAIL : Fld := ⟨28, 1⟩
@[simp] abbrev FLT_STATUS_UNTRACKED : Fld := ⟨16, 8⟩
@[simp] abbrev FLT_STATUS_OPEN : Fld := ⟨0, 7⟩
@[simp] abbrev FLT_LK_ADDR_ADDR : Fld := ⟨0, 24⟩
@[simp] abbrev FLT_LK_DATA_VAL : Fld := ⟨0, 32⟩
@[simp] abbrev FLT_LK_CMD_CHECK : Fld := ⟨16, 16⟩
@[simp] abbrev FLT_LK_CMD_OP : Fld := ⟨0, 2⟩
@[simp] abbrev FLT_LK_STATUS_RESULT : Fld := ⟨28, 4⟩
@[simp] abbrev FLT_LK_STATUS_DIRECT : Fld := ⟨0, 16⟩
@[simp] abbrev FLT_CRC_REF_VAL : Fld := ⟨0, 32⟩
@[simp] abbrev FLT_INJ_GO : Fld := ⟨31, 1⟩
@[simp] abbrev FLT_INJ_SOURCE : Fld := ⟨21, 10⟩
@[simp] abbrev FLT_INJ_LOCATION : Fld := ⟨0, 14⟩
@[simp] abbrev FLT_INJ_STATUS_PASSED : Fld := ⟨16, 16⟩
@[simp] abbrev FLT_INJ_STATUS_FAILED : Fld := ⟨8, 8⟩
@[simp] abbrev FLT_INJ_STATUS_REFUSED : Fld := ⟨0, 1⟩
@[simp] abbrev FLT_TEST_INJ_GO : Fld := ⟨31, 1⟩
@[simp] abbrev FLT_TEST_INJ_SOURCE : Fld := ⟨21, 10⟩
@[simp] abbrev FLT_TEST_INJ_LOCATION : Fld := ⟨0, 14⟩
@[simp] abbrev FLT_OPEN_VAL : Fld := ⟨0, 32⟩
@[simp] abbrev FLT_SEV_DEFINED : Fld := ⟨31, 1⟩
@[simp] abbrev FLT_SEV_INJECTABLE : Fld := ⟨30, 1⟩
@[simp] abbrev FLT_SEV_FLOOR : Fld := ⟨8, 3⟩
@[simp] abbrev FLT_SEV_SEVERITY : Fld := ⟨0, 3⟩
@[simp] abbrev FLT_SRC_COUNT_VAL : Fld := ⟨0, 32⟩
@[simp] abbrev EVT_REFUSED_VALID : Fld := ⟨31, 1⟩
@[simp] abbrev EVT_REFUSED_OWNER : Fld := ⟨29, 2⟩
@[simp] abbrev EVT_REFUSED_KIND : Fld := ⟨28, 1⟩
@[simp] abbrev EVT_REFUSED_CHANNEL : Fld := ⟨16, 6⟩
@[simp] abbrev EVT_REFUSED_COUNT : Fld := ⟨0, 16⟩
@[simp] abbrev EVT_SW_PULSE_PULSE : Fld := ⟨0, 8⟩
@[simp] abbrev EVT_LOOP_STATUS_LOOP_CUT : Fld := ⟨31, 1⟩
@[simp] abbrev EVT_LOOP_STATUS_HOP_CUT : Fld := ⟨30, 1⟩
@[simp] abbrev EVT_LOOP_STATUS_LAST : Fld := ⟨16, 6⟩
@[simp] abbrev EVT_LOOP_STATUS_DISCARDS : Fld := ⟨0, 16⟩
@[simp] abbrev EVT_MODE_TASK_REFUSED : Fld := ⟨16, 16⟩
@[simp] abbrev EVT_MODE_TASK_MODE : Fld := ⟨0, 3⟩
@[simp] abbrev EVT_PIN_CFG_HOLDOFF : Fld := ⟨16, 16⟩
@[simp] abbrev EVT_PIN_CFG_EDGE : Fld := ⟨8, 2⟩
@[simp] abbrev EVT_PIN_CFG_FILTER : Fld := ⟨0, 8⟩
@[simp] abbrev EVT_PIN_STAT_LEVEL : Fld := ⟨31, 1⟩
@[simp] abbrev EVT_PIN_STAT_IGNORED : Fld := ⟨0, 16⟩
@[simp] abbrev EVT_EVO_CFG_MODE : Fld := ⟨31, 1⟩
@[simp] abbrev EVT_EVO_CFG_LEVEL : Fld := ⟨30, 1⟩
@[simp] abbrev EVT_EVO_CFG_WIDTH : Fld := ⟨0, 16⟩
@[simp] abbrev EVT_CH_OWN_CLAIMED : Fld := ⟨31, 1⟩
@[simp] abbrev EVT_CH_OWN_OWNER : Fld := ⟨29, 2⟩
@[simp] abbrev EVT_CH_OWN_SECURE : Fld := ⟨28, 1⟩
@[simp] abbrev EVT_CH_CFG_ENABLE : Fld := ⟨31, 1⟩
@[simp] abbrev EVT_CH_CFG_SOURCE : Fld := ⟨0, 8⟩
@[simp] abbrev EVT_CH_TASKS_VAL : Fld := ⟨0, 32⟩
@[simp] abbrev EVT_CH_COUNT_VAL : Fld := ⟨0, 32⟩
@[simp] abbrev EVT_TASK_STAT_ACTIVATIONS : Fld := ⟨16, 16⟩
@[simp] abbrev EVT_TASK_STAT_MERGED : Fld := ⟨0, 16⟩
@[simp] abbrev EVT_CNT_VAL : Fld := ⟨0, 32⟩
@[simp] abbrev TIM_CTRL_TC_MODE : Fld := ⟨2, 2⟩
@[simp] abbrev TIM_CTRL_TC_TB : Fld := ⟨0, 2⟩
@[simp] abbrev TIM_SNAP_CMD_MASK : Fld := ⟨0, 4⟩
@[simp] abbrev TIM_OSC_COMP_CTRL_EN : Fld := ⟨31, 1⟩
@[simp] abbrev TIM_OSC_COMP_CTRL_OSC_PPB : Fld := ⟨0, 24⟩
@[simp] abbrev TIM_OSC_COMP_C_VAL : Fld := ⟨0, 32⟩
@[simp] abbrev TIM_TC_STATS_SKIPPED : Fld := ⟨16, 16⟩
@[simp] abbrev TIM_TC_STATS_CORRECTED : Fld := ⟨0, 16⟩
@[simp] abbrev TIM_TB_CMD_OP : Fld := ⟨0, 2⟩
@[simp] abbrev TIM_TB_OPND_SEC_HI_VAL : Fld := ⟨0, 32⟩
@[simp] abbrev TIM_TB_OPND_SEC_LO_VAL : Fld := ⟨0, 32⟩
@[simp] abbrev TIM_TB_OPND_NS_NEG : Fld := ⟨31, 1⟩
@[simp] abbrev TIM_TB_OPND_NS_NS : Fld := ⟨0, 30⟩
@[simp] abbrev TIM_TB_OPND_SUB_SUB : Fld := ⟨0, 16⟩
@[simp] abbrev TIM_SNAP_VAL : Fld := ⟨0, 32⟩
@[simp] abbrev TIM_RATE_VAL : Fld := ⟨0, 32⟩
@[simp] abbrev TIM_SERVO_CFG_EN : Fld := ⟨31, 1⟩
@[simp] abbrev TIM_SERVO_CFG_SRC : Fld := ⟨30, 1⟩
@[simp] abbrev TIM_SERVO_CFG_STEP_EN : Fld := ⟨29, 1⟩
@[simp] abbrev TIM_SERVO_CFG_HOLD_MS : Fld := ⟨0, 8⟩
@[simp] abbrev TIM_SERVO_KP_VAL : Fld := ⟨0, 32⟩
@[simp] abbrev TIM_SERVO_KI_VAL : Fld := ⟨0, 32⟩
@[simp] abbrev TIM_SERVO_STEP_VAL : Fld := ⟨0, 32⟩
@[simp] abbrev TIM_SERVO_INT_VAL : Fld := ⟨0, 32⟩
@[simp] abbrev TIM_SERVO_STATUS_STATE : Fld := ⟨30, 2⟩
@[simp] abbrev TIM_SERVO_STATUS_IGNORED : Fld := ⟨8, 8⟩
@[simp] abbrev TIM_SERVO_STATUS_STEPS : Fld := ⟨0, 8⟩
@[simp] abbrev TIM_SERVO_LAST_VAL : Fld := ⟨0, 32⟩
@[simp] abbrev TIM_PPS_CFG_IN_EN : Fld := ⟨31, 1⟩
@[simp] abbrev TIM_PPS_CFG_EDGE : Fld := ⟨30, 1⟩
@[simp] abbrev TIM_PPS_CFG_OUT_EN : Fld := ⟨29, 1⟩
@[simp] abbrev TIM_PPS_CFG_GLITCHES : Fld := ⟨16, 8⟩
@[simp] abbrev TIM_PPS_CFG_WIDTH : Fld := ⟨0, 16⟩
@[simp] abbrev TIM_PPS_DELAY_VAL : Fld := ⟨0, 32⟩
@[simp] abbrev TIM_PPS_SEC_VAL : Fld := ⟨0, 32⟩
@[simp] abbrev TIM_PPS_NS_VAL : Fld := ⟨0, 30⟩
@[simp] abbrev TIM_CMP_CTRL_ENABLE : Fld := ⟨31, 1⟩
@[simp] abbrev TIM_CMP_CTRL_FIRED : Fld := ⟨30, 1⟩
@[simp] abbrev TIM_CMP_CTRL_LATE : Fld := ⟨29, 1⟩
@[simp] abbrev TIM_CMP_CTRL_MISSED : Fld := ⟨0, 16⟩
@[simp] abbrev TIM_CMP_TARGET_LO_VAL : Fld := ⟨0, 32⟩
@[simp] abbrev TIM_CMP_TARGET_HI_VAL : Fld := ⟨0, 32⟩
@[simp] abbrev TIM_CMP_PERIOD_VAL : Fld := ⟨0, 32⟩
@[simp] abbrev TIM_EVSTAMP_CTRL_NEW : Fld := ⟨31, 1⟩
@[simp] abbrev TIM_EVSTAMP_CTRL_OVERRUN : Fld := ⟨30, 1⟩
@[simp] abbrev TIM_EVSTAMP_CTRL_TB : Fld := ⟨28, 2⟩
@[simp] abbrev TIM_EVSTAMP_SEC_VAL : Fld := ⟨0, 32⟩
@[simp] abbrev TIM_EVSTAMP_NS_VAL : Fld := ⟨0, 32⟩
@[simp] abbrev TIM_EVSTAMP_SUB_VAL : Fld := ⟨0, 16⟩
@[simp] abbrev TIM_TSQ_VAL : Fld := ⟨0, 32⟩
@[simp] abbrev TIM_TSQ_STATUS_TSQ_LOST : Fld := ⟨16, 16⟩
@[simp] abbrev TIM_TSQ_STATUS_HELD : Fld := ⟨0, 11⟩
@[simp] abbrev TIM_PORT_TS_TB : Fld := ⟨3, 2⟩
@[simp] abbrev TIM_PORT_REC_IN : Fld := ⟨2, 1⟩
@[simp] abbrev TIM_PORT_REC_EG : Fld := ⟨1, 1⟩
@[simp] abbrev TIM_PORT_TC_EN : Fld := ⟨0, 1⟩
@[simp] abbrev TIM_PATH_DELAY_VAL : Fld := ⟨0, 32⟩
@[simp] abbrev PAIR_CFG_TB_FOLLOW : Fld := ⟨28, 4⟩
@[simp] abbrev PAIR_CFG_NEGOTIATE : Fld := ⟨16, 10⟩
@[simp] abbrev PAIR_CFG_GUARD : Fld := ⟨0, 10⟩
@[simp] abbrev PAIR_STATUS_ROLE : Fld := ⟨30, 2⟩
@[simp] abbrev PAIR_STATUS_LINK : Fld := ⟨29, 1⟩
@[simp] abbrev PAIR_STATUS_LANES : Fld := ⟨27, 2⟩
@[simp] abbrev PAIR_STATUS_SYNC : Fld := ⟨26, 1⟩
@[simp] abbrev PAIR_STATUS_HOLD_DRIVEN : Fld := ⟨25, 1⟩
@[simp] abbrev PAIR_STATUS_LINE_LOW : Fld := ⟨24, 1⟩
@[simp] abbrev PAIR_STATUS_PREF : Fld := ⟨23, 1⟩
@[simp] abbrev PAIR_STATUS_PAIR_EN : Fld := ⟨22, 1⟩
@[simp] abbrev PAIR_STATUS_CLASH : Fld := ⟨21, 1⟩
@[simp] abbrev PAIR_STATUS_INCOMPATIBLE : Fld := ⟨20, 1⟩
@[simp] abbrev PAIR_STATUS_DRILL_OVERDUE : Fld := ⟨19, 1⟩
@[simp] abbrev PAIR_STATUS_MIRROR_AGE : Fld := ⟨0, 16⟩
@[simp] abbrev PAIR_VERSION_PEER_VERSION : Fld := ⟨16, 16⟩
@[simp] abbrev PAIR_VERSION_OWN_VERSION : Fld := ⟨0, 16⟩
@[simp] abbrev PAIR_FEATURE_FLOOR : Fld := ⟨0, 16⟩
@[simp] abbrev PAIR_PEER_ID_LO_VAL : Fld := ⟨0, 32⟩
@[simp] abbrev PAIR_PEER_ID_HI_VAL : Fld := ⟨0, 32⟩
@[simp] abbrev PAIR_VINTAGE_FABRIC_VAL : Fld := ⟨0, 32⟩
@[simp] abbrev PAIR_VINTAGE_PACKET_VAL : Fld := ⟨0, 32⟩
@[simp] abbrev PAIR_COUNTS_TAKEOVERS : Fld := ⟨24, 8⟩
@[simp] abbrev PAIR_COUNTS_RESYNCS : Fld := ⟨16, 8⟩
@[simp] abbrev PAIR_COUNTS_HOST_IGNORED : Fld := ⟨0, 16⟩
@[simp] abbrev PAIR_DRILL_HOURS : Fld := ⟨16, 16⟩
@[simp] abbrev PAIR_DRILL_DRILL_H : Fld := ⟨0, 8⟩
@[simp] abbrev PAIR_GAP_GAP : Fld := ⟨0, 16⟩
@[simp] abbrev MGT_PROC_STATUS_STATE : Fld := ⟨30, 2⟩
@[simp] abbrev MGT_PROC_STATUS_RESTARTS : Fld := ⟨0, 16⟩
@[simp] abbrev MGT_REMAP_SWAP : Fld := ⟨0, 1⟩
@[simp] abbrev MGT_BUS_ERR_VALID : Fld := ⟨31, 1⟩
@[simp] abbrev MGT_BUS_ERR_MASTER : Fld := ⟨28, 3⟩
@[simp] abbrev MGT_BUS_ERR_KIND : Fld := ⟨27, 1⟩
@[simp] abbrev MGT_BUS_ERR_WRITE : Fld := ⟨26, 1⟩
@[simp] abbrev MGT_BUS_ERR_COUNT : Fld := ⟨0, 16⟩
@[simp] abbrev MGT_BUS_ERR_ADDR_VAL : Fld := ⟨0, 32⟩
@[simp] abbrev MGT_CELLAR_PAGE_PAGE : Fld := ⟨0, 4⟩
@[simp] abbrev MGT_BOOT_STATUS_RECOVERY : Fld := ⟨31, 1⟩
@[simp] abbrev MGT_BOOT_STATUS_FALLBACK : Fld := ⟨30, 1⟩
@[simp] abbrev MGT_BOOT_STATUS_SLOT : Fld := ⟨29, 1⟩
@[simp] abbrev MGT_BOOT_STATUS_PREFERRED : Fld := ⟨28, 1⟩
@[simp] abbrev MGT_BOOT_STATUS_DEFERRED : Fld := ⟨27, 1⟩
@[simp] abbrev MGT_BOOT_COUNT_VAL : Fld := ⟨0, 32⟩
@[simp] abbrev MGT_SLOT_STATE : Fld := ⟨28, 4⟩
@[simp] abbrev MGT_SLOT_TRIES : Fld := ⟨26, 2⟩
@[simp] abbrev MGT_SLOT_FLOOR : Fld := ⟨16, 8⟩
@[simp] abbrev MGT_SLOT_GRAFT_VERSION : Fld := ⟨0, 16⟩
@[simp] abbrev MGT_SLOT_SEQ_VAL : Fld := ⟨0, 32⟩
@[simp] abbrev MGT_NOR_STATUS_IN_WINDOW : Fld := ⟨31, 1⟩
@[simp] abbrev MGT_NOR_STATUS_PFAIL : Fld := ⟨30, 1⟩
@[simp] abbrev MGT_NOR_STATUS_OP : Fld := ⟨28, 2⟩
@[simp] abbrev MGT_NOR_STATUS_ERASE_LEFT : Fld := ⟨0, 16⟩
@[simp] abbrev MGT_OTP_FLOOR : Fld := ⟨16, 8⟩
@[simp] abbrev MGT_OTP_REVOKED : Fld := ⟨0, 4⟩
@[simp] abbrev MGT_LOG_OLDEST_VAL : Fld := ⟨0, 32⟩
@[simp] abbrev MGT_LOG_NEWEST_VAL : Fld := ⟨0, 32⟩
@[simp] abbrev MGT_LOG_STATUS_DROPPED : Fld := ⟨16, 16⟩
@[simp] abbrev MGT_LOG_STATUS_QUEUED : Fld := ⟨0, 9⟩
@[simp] abbrev FAB_SOLVE_CTRL_AUTO_RESOLVE : Fld := ⟨8, 1⟩
@[simp] abbrev FAB_SOLVE_CTRL_ABORT : Fld := ⟨0, 1⟩
@[simp] abbrev FAB_SOLVE_STATUS_STATE : Fld := ⟨30, 2⟩
@[simp] abbrev FAB_SOLVE_STATUS_QUEUED : Fld := ⟨27, 3⟩
@[simp] abbrev FAB_SOLVE_STATUS_EDIT_REFUSED : Fld := ⟨26, 1⟩
@[simp] abbrev FAB_SOLVE_STATUS_SOLVED : Fld := ⟨24, 1⟩
@[simp] abbrev FAB_SOLVE_STATUS_FIRST_BAD_PORT : Fld := ⟨16, 8⟩
@[simp] abbrev FAB_SOLVE_STATUS_LAST_RESULT : Fld := ⟨0, 16⟩
@[simp] abbrev FAB_SOLVE_BASE_VAL : Fld := ⟨0, 32⟩
@[simp] abbrev FAB_SOLVE_STATS_UNROUTED : Fld := ⟨22, 9⟩
@[simp] abbrev FAB_SOLVE_STATS_MOVED : Fld := ⟨13, 9⟩
@[simp] abbrev FAB_SOLVE_STATS_CHANGED : Fld := ⟨0, 13⟩
@[simp] abbrev FAB_CHECK_STATUS_FAIL_COUNT : Fld := ⟨16, 16⟩
@[simp] abbrev FAB_CHECK_STATUS_BAD_PORT : Fld := ⟨8, 8⟩
@[simp] abbrev FAB_CHECK_STATUS_CAUSE : Fld := ⟨0, 3⟩
@[simp] abbrev FAB_FAILED_EDIT_OP : Fld := ⟨30, 2⟩
@[simp] abbrev FAB_FAILED_EDIT_CELL : Fld := ⟨0, 13⟩
@[simp] abbrev FAB_UNROUTED_VAL : Fld := ⟨0, 32⟩
@[simp] abbrev FAB_RACK_CTRL_STAMP_TB : Fld := ⟨18, 2⟩
@[simp] abbrev FAB_RACK_CTRL_FAULT_TSET : Fld := ⟨16, 2⟩
@[simp] abbrev FAB_RACK_CTRL_DEADLINE : Fld := ⟨8, 8⟩
@[simp] abbrev FAB_RACK_CTRL_WITHDRAW : Fld := ⟨0, 1⟩
@[simp] abbrev FAB_RACK_EVT_TSET : Fld := ⟨2, 2⟩
@[simp] abbrev FAB_RACK_EVT_DOMAINS : Fld := ⟨0, 2⟩
@[simp] abbrev FAB_RACK_STATUS_PHASE : Fld := ⟨29, 3⟩
@[simp] abbrev FAB_RACK_STATUS_PENDING : Fld := ⟨28, 1⟩
@[simp] abbrev FAB_RACK_STATUS_SOURCE : Fld := ⟨26, 2⟩
@[simp] abbrev FAB_RACK_STATUS_DOMAINS : Fld := ⟨24, 2⟩
@[simp] abbrev FAB_RACK_STATUS_TSET : Fld := ⟨22, 2⟩
@[simp] abbrev FAB_RACK_STATUS_TRIES : Fld := ⟨16, 6⟩
@[simp] abbrev FAB_RACK_STATUS_LAST_RESULT : Fld := ⟨0, 16⟩
@[simp] abbrev FAB_RACK_UNPREPARED_VAL : Fld := ⟨0, 32⟩
@[simp] abbrev FAB_RACK_SKEWED_VAL : Fld := ⟨0, 32⟩
@[simp] abbrev FAB_VINTAGE_FABRIC_VAL : Fld := ⟨0, 32⟩
@[simp] abbrev FAB_VINTAGE_PACKET_VAL : Fld := ⟨0, 32⟩
@[simp] abbrev FAB_RACK_COUNTS_ABORTS : Fld := ⟨16, 16⟩
@[simp] abbrev FAB_RACK_COUNTS_REFUSALS : Fld := ⟨0, 16⟩
@[simp] abbrev FAB_RACK_COMMITS_VAL : Fld := ⟨0, 32⟩
@[simp] abbrev FAB_PKT_SHADOW_SEALED : Fld := ⟨0, 1⟩
@[simp] abbrev FAB_RACK_STAMP_LO_VAL : Fld := ⟨0, 32⟩
@[simp] abbrev FAB_RACK_STAMP_HI_VAL : Fld := ⟨0, 32⟩
@[simp] abbrev FAB_RACK_TS_PREBIAS_EN : Fld := ⟨31, 1⟩
@[simp] abbrev FAB_RACK_TS_VALID : Fld := ⟨30, 1⟩
@[simp] abbrev FAB_RACK_TS_OD_LEN : Fld := ⟨25, 5⟩
@[simp] abbrev FAB_RACK_TS_OD_PCT : Fld := ⟨19, 6⟩
@[simp] abbrev FAB_RACK_TS_GROUP_GAP : Fld := ⟨11, 8⟩
@[simp] abbrev FAB_RACK_TS_UNBLANK : Fld := ⟨6, 5⟩
@[simp] abbrev FAB_RACK_TS_F_SETTLE : Fld := ⟨3, 3⟩
@[simp] abbrev FAB_RACK_TS_BLANK : Fld := ⟨0, 3⟩
@[simp] abbrev FAB_SHADOW_MAP_VALID : Fld := ⟨31, 1⟩
@[simp] abbrev FAB_SHADOW_MAP_PLANE_REQ : Fld := ⟨29, 2⟩
@[simp] abbrev FAB_SHADOW_MAP_PROTECT : Fld := ⟨28, 1⟩
@[simp] abbrev FAB_SHADOW_MAP_OUT : Fld := ⟨16, 8⟩
@[simp] abbrev FAB_SHADOW_MAP_ATTEN : Fld := ⟨0, 8⟩
@[simp] abbrev FAB_ACTIVE_MAP_VALID : Fld := ⟨31, 1⟩
@[simp] abbrev FAB_ACTIVE_MAP_PLANE_REQ : Fld := ⟨29, 2⟩
@[simp] abbrev FAB_ACTIVE_MAP_PROTECT : Fld := ⟨28, 1⟩
@[simp] abbrev FAB_ACTIVE_MAP_OUT : Fld := ⟨16, 8⟩
@[simp] abbrev FAB_ACTIVE_MAP_ATTEN : Fld := ⟨0, 8⟩
@[simp] abbrev FAB_GEOMETRY_PORTS_M1 : Fld := ⟨16, 8⟩
@[simp] abbrev FAB_GEOMETRY_PLANES : Fld := ⟨12, 2⟩
@[simp] abbrev FAB_GEOMETRY_STAGES : Fld := ⟨8, 4⟩
@[simp] abbrev FAB_GEOMETRY_ROWS : Fld := ⟨0, 8⟩
@[simp] abbrev FAB_IN_STATE_VINTAGE_LO : Fld := ⟨16, 16⟩
@[simp] abbrev FAB_IN_STATE_UNROUTED : Fld := ⟨13, 1⟩
@[simp] abbrev FAB_IN_STATE_FORCED_DARK : Fld := ⟨12, 1⟩
@[simp] abbrev FAB_IN_STATE_PEER : Fld := ⟨4, 8⟩
@[simp] abbrev FAB_IN_STATE_PLANE : Fld := ⟨3, 1⟩
@[simp] abbrev FAB_IN_STATE_STATE : Fld := ⟨0, 2⟩
@[simp] abbrev FAB_OUT_STATE_VINTAGE_LO : Fld := ⟨16, 16⟩
@[simp] abbrev FAB_OUT_STATE_UNROUTED : Fld := ⟨13, 1⟩
@[simp] abbrev FAB_OUT_STATE_FORCED_DARK : Fld := ⟨12, 1⟩
@[simp] abbrev FAB_OUT_STATE_PEER : Fld := ⟨4, 8⟩
@[simp] abbrev FAB_OUT_STATE_PLANE : Fld := ⟨3, 1⟩
@[simp] abbrev FAB_OUT_STATE_STATE : Fld := ⟨0, 2⟩
@[simp] abbrev FAB_IN_POWER_BOUND : Fld := ⟨19, 1⟩
@[simp] abbrev FAB_IN_POWER_VALID : Fld := ⟨18, 1⟩
@[simp] abbrev FAB_IN_POWER_OVER : Fld := ⟨17, 1⟩
@[simp] abbrev FAB_IN_POWER_UNDER : Fld := ⟨16, 1⟩
@[simp] abbrev FAB_IN_POWER_LEVEL : Fld := ⟨0, 16⟩
@[simp] abbrev FAB_OUT_POWER_BOUND : Fld := ⟨19, 1⟩
@[simp] abbrev FAB_OUT_POWER_VALID : Fld := ⟨18, 1⟩
@[simp] abbrev FAB_OUT_POWER_OVER : Fld := ⟨17, 1⟩
@[simp] abbrev FAB_OUT_POWER_UNDER : Fld := ⟨16, 1⟩
@[simp] abbrev FAB_OUT_POWER_LEVEL : Fld := ⟨0, 16⟩
@[simp] abbrev FAB_FAILED_VAL : Fld := ⟨0, 32⟩
@[simp] abbrev FAB_ACTIVE_CELLS_VAL : Fld := ⟨0, 32⟩
@[simp] abbrev FAB_ACTIVE_LIVE_VAL : Fld := ⟨0, 32⟩
@[simp] abbrev FAB_SHADOW_CELLS_VAL : Fld := ⟨0, 32⟩
@[simp] abbrev FAB_SHADOW_LIVE_VAL : Fld := ⟨0, 32⟩
@[simp] abbrev DRV_BLK_CTRL_HOST_DRIVE : Fld := ⟨0, 1⟩
@[simp] abbrev DRV_BLK_STATUS_POWERED : Fld := ⟨31, 1⟩
@[simp] abbrev DRV_BLK_STATUS_ISOLATED : Fld := ⟨30, 1⟩
@[simp] abbrev DRV_BLK_STATUS_LIMIT_CH : Fld := ⟨10, 10⟩
@[simp] abbrev DRV_BLK_STATUS_OPEN_CH : Fld := ⟨0, 10⟩
@[simp] abbrev DRV_BANK_STATUS_SWAPS : Fld := ⟨16, 16⟩
@[simp] abbrev DRV_BANK_STATUS_NEXT_POS : Fld := ⟨8, 5⟩
@[simp] abbrev DRV_BANK_STATUS_NO_SPARE : Fld := ⟨7, 1⟩
@[simp] abbrev DRV_BANK_STATUS_SWAP_DUE : Fld := ⟨6, 1⟩
@[simp] abbrev DRV_BANK_STATUS_INJ_BUSY : Fld := ⟨5, 1⟩
@[simp] abbrev DRV_BANK_STATUS_OUT_SLICE : Fld := ⟨0, 5⟩
@[simp] abbrev DRV_HK_CFG_TRIG : Fld := ⟨30, 2⟩
@[simp] abbrev DRV_HK_CFG_PHASE : Fld := ⟨27, 3⟩
@[simp] abbrev DRV_HK_CFG_DIVIDE : Fld := ⟨16, 8⟩
@[simp] abbrev DRV_HK_CFG_DELAY : Fld := ⟨0, 12⟩
@[simp] abbrev DRV_HK_SEQ_LEN : Fld := ⟨16, 2⟩
@[simp] abbrev DRV_HK_SEQ_CH3 : Fld := ⟨12, 4⟩
@[simp] abbrev DRV_HK_SEQ_CH2 : Fld := ⟨8, 4⟩
@[simp] abbrev DRV_HK_SEQ_CH1 : Fld := ⟨4, 4⟩
@[simp] abbrev DRV_HK_SEQ_CH0 : Fld := ⟨0, 4⟩
@[simp] abbrev DRV_HK_PERIOD_PERIOD : Fld := ⟨0, 16⟩
@[simp] abbrev DRV_HK_STATUS_MISSED_0 : Fld := ⟨0, 4⟩
@[simp] abbrev DRV_HK_STATUS_MISSED_1 : Fld := ⟨4, 4⟩
@[simp] abbrev DRV_HK_STATUS_MISSED_2 : Fld := ⟨8, 4⟩
@[simp] abbrev DRV_HK_STATUS_MISSED_3 : Fld := ⟨12, 4⟩
@[simp] abbrev DRV_HK_STATUS_MISSED_4 : Fld := ⟨16, 4⟩
@[simp] abbrev DRV_HK_STATUS_MISSED_5 : Fld := ⟨20, 4⟩
@[simp] abbrev DRV_HK_STATUS_MISSED_6 : Fld := ⟨24, 4⟩
@[simp] abbrev DRV_HK_STATUS_MISSED_7 : Fld := ⟨28, 4⟩
@[simp] abbrev DRV_HK_RESULT_NEW : Fld := ⟨31, 1⟩
@[simp] abbrev DRV_HK_RESULT_SLICE : Fld := ⟨28, 3⟩
@[simp] abbrev DRV_HK_RESULT_CAUSE : Fld := ⟨26, 2⟩
@[simp] abbrev DRV_HK_RESULT_COUNT : Fld := ⟨16, 10⟩
@[simp] abbrev DRV_HK_RESULT_RESULT : Fld := ⟨0, 12⟩
@[simp] abbrev DRV_INJ_CFG_KIND : Fld := ⟨31, 1⟩
@[simp] abbrev DRV_INJ_CFG_HK_SLICE : Fld := ⟨24, 3⟩
@[simp] abbrev DRV_INJ_CFG_TARGET : Fld := ⟨0, 14⟩
@[simp] abbrev DRV_INJ_RESULT_NEW : Fld := ⟨31, 1⟩
@[simp] abbrev DRV_INJ_RESULT_REFUSED : Fld := ⟨30, 1⟩
@[simp] abbrev DRV_INJ_RESULT_OVERRUNS : Fld := ⟨24, 6⟩
@[simp] abbrev DRV_INJ_RESULT_RESULT : Fld := ⟨0, 12⟩
@[simp] abbrev DRV_CH_CFG_RANGE : Fld := ⟨0, 2⟩
@[simp] abbrev DRV_CH_CODE_PARKED : Fld := ⟨31, 1⟩
@[simp] abbrev DRV_CH_CODE_SOURCE : Fld := ⟨28, 3⟩
@[simp] abbrev DRV_CH_CODE_CODE : Fld := ⟨0, 14⟩
@[simp] abbrev DRV_CH_FLAG_DISCARDS : Fld := ⟨16, 16⟩
@[simp] abbrev DRV_CH_FLAG_LIMIT_NOW : Fld := ⟨4, 1⟩
@[simp] abbrev DRV_CH_FLAG_RANGE_REFUSED : Fld := ⟨3, 1⟩
@[simp] abbrev DRV_CH_FLAG_HOST_REFUSED : Fld := ⟨2, 1⟩
@[simp] abbrev DRV_CH_FLAG_OPEN : Fld := ⟨1, 1⟩
@[simp] abbrev DRV_CH_FLAG_LIMIT : Fld := ⟨0, 1⟩
@[simp] abbrev DRV_MON_INVALID : Fld := ⟨27, 1⟩
@[simp] abbrev DRV_MON_FRAME : Fld := ⟨16, 8⟩
@[simp] abbrev DRV_MON_SAMPLE : Fld := ⟨0, 12⟩
@[simp] abbrev LOOP_ENGINE_CTRL_ACQ_SLOTS : Fld := ⟨24, 8⟩
@[simp] abbrev LOOP_ENGINE_CTRL_ACQ_TIMEOUT : Fld := ⟨16, 8⟩
@[simp] abbrev LOOP_ENGINE_CTRL_LIGHT_MIN : Fld := ⟨0, 12⟩
@[simp] abbrev LOOP_CMD_OP : Fld := ⟨30, 2⟩
@[simp] abbrev LOOP_CMD_ELEMENT : Fld := ⟨0, 14⟩
@[simp] abbrev LOOP_CMD_STATUS_CMD_REFUSED : Fld := ⟨31, 1⟩
@[simp] abbrev LOOP_CMD_STATUS_LAST_ELEMENT : Fld := ⟨0, 14⟩
@[simp] abbrev LOOP_FF_STATUS_HELD_FRAMES : Fld := ⟨16, 16⟩
@[simp] abbrev LOOP_FF_STATUS_VALID : Fld := ⟨0, 16⟩
@[simp] abbrev LOOP_FF_DT_VAL : Fld := ⟨0, 32⟩
@[simp] abbrev LOOP_FF_TREF_VAL : Fld := ⟨0, 32⟩
@[simp] abbrev LOOP_BLK_STATUS_LANES : Fld := ⟨28, 4⟩
@[simp] abbrev LOOP_BLK_STATUS_EST_SHADOW : Fld := ⟨12, 12⟩
@[simp] abbrev LOOP_BLK_STATUS_EST_ACTIVE : Fld := ⟨0, 12⟩
@[simp] abbrev LOOP_BLK_COUNTS_OVERRUNS : Fld := ⟨16, 16⟩
@[simp] abbrev LOOP_BLK_COUNTS_SKIPPED : Fld := ⟨0, 16⟩
@[simp] abbrev LOOP_BLK_STATES_OFF : Fld := ⟨20, 10⟩
@[simp] abbrev LOOP_BLK_STATES_ACQUIRE : Fld := ⟨10, 10⟩
@[simp] abbrev LOOP_BLK_STATES_SEQUENCED : Fld := ⟨0, 10⟩
@[simp] abbrev LOOP_ST_STATE : Fld := ⟨30, 2⟩
@[simp] abbrev LOOP_ST_STALE : Fld := ⟨29, 1⟩
@[simp] abbrev LOOP_ST_NO_LIGHT : Fld := ⟨28, 1⟩
@[simp] abbrev LOOP_ST_FROZEN : Fld := ⟨27, 1⟩
@[simp] abbrev LOOP_ST_HELD_ONCE : Fld := ⟨26, 1⟩
@[simp] abbrev LOOP_ST_OVERRUN_RUN : Fld := ⟨24, 2⟩
@[simp] abbrev LOOP_ST_HO_HOLDS : Fld := ⟨21, 3⟩
@[simp] abbrev LOOP_ST_ACQ_PHASE : Fld := ⟨19, 2⟩
@[simp] abbrev LOOP_ST_SAT : Fld := ⟨18, 1⟩
@[simp] abbrev LOOP_ST_PL_RUN : Fld := ⟨10, 8⟩
@[simp] abbrev LOOP_RESID_VAL : Fld := ⟨0, 32⟩
@[simp] abbrev LOOP_XHAT_VAL : Fld := ⟨0, 32⟩
@[simp] abbrev LOOP_ACTIVE_CFG_VAL : Fld := ⟨0, 32⟩
@[simp] abbrev LOOP_SHADOW_CFG_VAL : Fld := ⟨0, 32⟩
@[simp] abbrev SEQ_CMD_OP : Fld := ⟨30, 2⟩
@[simp] abbrev SEQ_CMD_FIRST : Fld := ⟨0, 12⟩
@[simp] abbrev SEQ_CTRL_EVT_FIRST : Fld := ⟨20, 12⟩
@[simp] abbrev SEQ_CTRL_STARVE_LIMIT : Fld := ⟨0, 8⟩
@[simp] abbrev SEQ_TONE_MASK_VAL : Fld := ⟨0, 32⟩
@[simp] abbrev SEQ_STATUS_STATE : Fld := ⟨30, 2⟩
@[simp] abbrev SEQ_STATUS_JUMP_PENDING : Fld := ⟨29, 1⟩
@[simp] abbrev SEQ_STATUS_TSET : Fld := ⟨27, 2⟩
@[simp] abbrev SEQ_STATUS_TONE_SEL : Fld := ⟨25, 2⟩
@[simp] abbrev SEQ_STATUS_WRITE_REFUSED : Fld := ⟨24, 1⟩
@[simp] abbrev SEQ_STATUS_SEGMENT : Fld := ⟨12, 12⟩
@[simp] abbrev SEQ_STATUS_PASS : Fld := ⟨0, 12⟩
@[simp] abbrev SEQ_RESULT_LAST_REFUSAL : Fld := ⟨24, 8⟩
@[simp] abbrev SEQ_RESULT_LAST_SEGMENT : Fld := ⟨12, 12⟩
@[simp] abbrev SEQ_RESULT_LAST_END : Fld := ⟨0, 8⟩
@[simp] abbrev SEQ_SLIP_VAL : Fld := ⟨0, 32⟩
@[simp] abbrev SEQ_COUNTS_JUMPS_DROPPED : Fld := ⟨24, 8⟩
@[simp] abbrev SEQ_COUNTS_JUMPS_MERGED : Fld := ⟨16, 8⟩
@[simp] abbrev SEQ_COUNTS_STARVES : Fld := ⟨0, 16⟩
@[simp] abbrev SEQ_STREAM_BASE_BASE : Fld := ⟨0, 23⟩
@[simp] abbrev SEQ_MEM_ADDR_ADDR : Fld := ⟨0, 15⟩
@[simp] abbrev SEQ_MEM_DATA_DATA : Fld := ⟨0, 16⟩
@[simp] abbrev SEQ_TARGET_VALID : Fld := ⟨31, 1⟩
@[simp] abbrev SEQ_TARGET_ELEMENT : Fld := ⟨0, 14⟩
@[simp] abbrev SEQ_SKEW_MEASURED : Fld := ⟨8, 8⟩
@[simp] abbrev SEQ_SKEW_CORR : Fld := ⟨0, 6⟩
@[simp] abbrev SEQ_TS_PERIOD_M1 : Fld := ⟨0, 16⟩
@[simp] abbrev SEQ_RACK_KIND_VALID : Fld := ⟨31, 1⟩
@[simp] abbrev SEQ_RACK_KIND_RESIDENT : Fld := ⟨30, 1⟩
@[simp] abbrev SEQ_RACK_KIND_FIRST : Fld := ⟨0, 12⟩
@[simp] abbrev SEQ_GEN_FREQ_FREQ : Fld := ⟨0, 32⟩
@[simp] abbrev SEQ_GEN_PHAMP_PHASE : Fld := ⟨16, 16⟩
@[simp] abbrev SEQ_GEN_PHAMP_AMP : Fld := ⟨0, 12⟩
@[simp] abbrev SEQ_SLOT_EN : Fld := ⟨31, 1⟩
@[simp] abbrev SEQ_SLOT_SHIFT : Fld := ⟨8, 3⟩
@[simp] abbrev SEQ_SLOT_SLOT : Fld := ⟨0, 5⟩
@[simp] abbrev SEQ_SEG_VAL : Fld := ⟨0, 32⟩
@[simp] abbrev SEQ_RACK_SEG_VAL : Fld := ⟨0, 32⟩
@[simp] abbrev SEQ_RACK_SAMPLE_VAL : Fld := ⟨0, 32⟩
@[simp] abbrev CAL_CTRL_RETRIES : Fld := ⟨28, 4⟩
@[simp] abbrev CAL_CTRL_TASTE_LIGHT_MIN : Fld := ⟨16, 12⟩
@[simp] abbrev CAL_CTRL_SLICE_INTERVAL : Fld := ⟨8, 8⟩
@[simp] abbrev CAL_CTRL_BG_EN : Fld := ⟨0, 1⟩
@[simp] abbrev CAL_STATUS_KIND : Fld := ⟨28, 4⟩
@[simp] abbrev CAL_STATUS_SWEEP : Fld := ⟨27, 1⟩
@[simp] abbrev CAL_STATUS_BLOCK : Fld := ⟨16, 4⟩
@[simp] abbrev CAL_STATUS_LAST_RESULT : Fld := ⟨0, 16⟩
@[simp] abbrev CAL_SWEEP_DONE_FAILED : Fld := ⟨16, 16⟩
@[simp] abbrev CAL_SWEEP_DONE_ACCEPTED : Fld := ⟨0, 16⟩
@[simp] abbrev CAL_SWEEP_SKIPS_LIVE : Fld := ⟨16, 16⟩
@[simp] abbrev CAL_SWEEP_SKIPS_NO_LIGHT : Fld := ⟨0, 16⟩
@[simp] abbrev CAL_NOMINAL_VAL : Fld := ⟨0, 32⟩
@[simp] abbrev CAL_TOL_ACCEPT : Fld := ⟨16, 16⟩
@[simp] abbrev CAL_TOL_AGREE : Fld := ⟨0, 16⟩
@[simp] abbrev CAL_OSC_NOMINAL : Fld := ⟨31, 1⟩
@[simp] abbrev CAL_OSC_STAGED : Fld := ⟨30, 1⟩
@[simp] abbrev CAL_OSC_PPB : Fld := ⟨0, 24⟩
@[simp] abbrev CAL_TAP_NOMINAL : Fld := ⟨31, 1⟩
@[simp] abbrev CAL_TAP_STAGED : Fld := ⟨30, 1⟩
@[simp] abbrev CAL_TAP_QUALITY : Fld := ⟨16, 8⟩
@[simp] abbrev CAL_TAP_RX_BIAS : Fld := ⟨8, 8⟩
@[simp] abbrev CAL_TAP_TX_BIAS : Fld := ⟨0, 8⟩
@[simp] abbrev CAL_CH_SKEW_NOMINAL : Fld := ⟨31, 1⟩
@[simp] abbrev CAL_CH_SKEW_STAGED : Fld := ⟨30, 1⟩
@[simp] abbrev CAL_CH_SKEW_QUALITY : Fld := ⟨8, 8⟩
@[simp] abbrev CAL_CH_SKEW_CORR : Fld := ⟨0, 6⟩
@[simp] abbrev CAL_SLICE_NOMINAL : Fld := ⟨31, 1⟩
@[simp] abbrev CAL_SLICE_RETIRED : Fld := ⟨30, 1⟩
@[simp] abbrev CAL_SLICE_STAGED : Fld := ⟨29, 1⟩
@[simp] abbrev CAL_SLICE_QUALITY : Fld := ⟨16, 8⟩
@[simp] abbrev CAL_SLICE_GAIN_CORR : Fld := ⟨8, 8⟩
@[simp] abbrev CAL_SLICE_OFFSET_CORR : Fld := ⟨0, 8⟩
@[simp] abbrev CAL_HK_NOMINAL : Fld := ⟨31, 1⟩
@[simp] abbrev CAL_HK_STAGED : Fld := ⟨29, 1⟩
@[simp] abbrev CAL_HK_QUALITY : Fld := ⟨16, 8⟩
@[simp] abbrev CAL_HK_GAIN_CORR : Fld := ⟨8, 8⟩
@[simp] abbrev CAL_HK_OFFSET_CORR : Fld := ⟨0, 8⟩
@[simp] abbrev CAL_DAC_NOMINAL : Fld := ⟨31, 1⟩
@[simp] abbrev CAL_DAC_STAGED : Fld := ⟨30, 1⟩
@[simp] abbrev CAL_DAC_QUALITY : Fld := ⟨20, 10⟩
@[simp] abbrev CAL_DAC_GAIN_CORR : Fld := ⟨8, 12⟩
@[simp] abbrev CAL_DAC_OFFSET_CORR : Fld := ⟨0, 8⟩
@[simp] abbrev CAL_CURVE_VAL : Fld := ⟨0, 32⟩
@[simp] abbrev CAL_STAGE_VAL : Fld := ⟨0, 32⟩
@[simp] abbrev HRV_CTRL_CONTINUOUS : Fld := ⟨31, 1⟩
@[simp] abbrev HRV_CTRL_RATE : Fld := ⟨29, 2⟩
@[simp] abbrev HRV_CTRL_K : Fld := ⟨24, 5⟩
@[simp] abbrev HRV_CTRL_RECORDS : Fld := ⟨20, 4⟩
@[simp] abbrev HRV_CTRL_TB : Fld := ⟨18, 2⟩
@[simp] abbrev HRV_BASE_BASE : Fld := ⟨0, 23⟩
@[simp] abbrev HRV_PRE_LEN : Fld := ⟨0, 23⟩
@[simp] abbrev HRV_POST_LEN : Fld := ⟨0, 23⟩
@[simp] abbrev HRV_CHAN_KIND : Fld := ⟨28, 4⟩
@[simp] abbrev HRV_CHAN_SUB : Fld := ⟨24, 2⟩
@[simp] abbrev HRV_CHAN_INDEX : Fld := ⟨0, 14⟩
@[simp] abbrev HRV_COND_CTRL_EN : Fld := ⟨31, 1⟩
@[simp] abbrev HRV_COND_CTRL_TYPE : Fld := ⟨29, 2⟩
@[simp] abbrev HRV_COND_CTRL_DIR : Fld := ⟨27, 2⟩
@[simp] abbrev HRV_COND_CTRL_CHAN : Fld := ⟨0, 3⟩
@[simp] abbrev HRV_COND_LEVEL_VAL : Fld := ⟨0, 32⟩
@[simp] abbrev HRV_COND_HYST_VAL : Fld := ⟨0, 32⟩
@[simp] abbrev HRV_COND_SLOPE_VAL : Fld := ⟨0, 32⟩
@[simp] abbrev HRV_STATUS_STATE : Fld := ⟨29, 3⟩
@[simp] abbrev HRV_STATUS_WRITE_REFUSED : Fld := ⟨28, 1⟩
@[simp] abbrev HRV_STATUS_BASE_REFUSED : Fld := ⟨27, 1⟩
@[simp] abbrev HRV_STATUS_LAST_CAUSE : Fld := ⟨22, 5⟩
@[simp] abbrev HRV_STATUS_REC_SEQ : Fld := ⟨0, 22⟩
@[simp] abbrev HRV_COUNTS_EARLY : Fld := ⟨16, 16⟩
@[simp] abbrev HRV_COUNTS_REARM_MISS : Fld := ⟨0, 16⟩
@[simp] abbrev HRV_LOST_VAL : Fld := ⟨0, 32⟩
@[simp] abbrev PIPE_STATUS_VINTAGE_LO : Fld := ⟨16, 16⟩
@[simp] abbrev PIPE_STATUS_SHADOW_EVAL : Fld := ⟨15, 1⟩
@[simp] abbrev PIPE_STATUS_PARKED : Fld := ⟨0, 10⟩
@[simp] abbrev PIPE_PREP_STATUS_CAUSE : Fld := ⟨24, 8⟩
@[simp] abbrev PIPE_PREP_STATUS_INDEX : Fld := ⟨0, 13⟩
@[simp] abbrev PIPE_COUNT_REPLAY_REPLAY_CHANGED : Fld := ⟨16, 16⟩
@[simp] abbrev PIPE_COUNT_REPLAY_REPLAYED : Fld := ⟨0, 16⟩
@[simp] abbrev PIPE_COUNT_PARK_GUARD_HELD : Fld := ⟨16, 16⟩
@[simp] abbrev PIPE_COUNT_PARK_MISSES : Fld := ⟨0, 16⟩
@[simp] abbrev PIPE_COUNT_ERR_STOMPED : Fld := ⟨16, 16⟩
@[simp] abbrev PIPE_COUNT_ERR_READ_LATE : Fld := ⟨8, 8⟩
@[simp] abbrev PIPE_COUNT_ERR_CACHE_REFUSED : Fld := ⟨0, 8⟩
@[simp] abbrev PIPE_COUNT_DROP_FIFO_DROP : Fld := ⟨16, 16⟩
@[simp] abbrev PIPE_COUNT_DROP_NO_EGRESS : Fld := ⟨0, 16⟩
@[simp] abbrev PIPE_PARSE_COUNT_VAL : Fld := ⟨0, 32⟩
@[simp] abbrev PIPE_CTRL_READ_LIMIT : Fld := ⟨0, 8⟩
@[simp] abbrev PIPE_PORT_ACTIVE_ENABLE : Fld := ⟨31, 1⟩
@[simp] abbrev PIPE_PORT_ACTIVE_CUT_THROUGH : Fld := ⟨30, 1⟩
@[simp] abbrev PIPE_PORT_ACTIVE_TEMPLATE : Fld := ⟨27, 3⟩
@[simp] abbrev PIPE_PORT_ACTIVE_LPM_MODE : Fld := ⟨25, 2⟩
@[simp] abbrev PIPE_PORT_ACTIVE_LPM_FIELD : Fld := ⟨20, 5⟩
@[simp] abbrev PIPE_PORT_ACTIVE_DEF_CLASS : Fld := ⟨17, 3⟩
@[simp] abbrev PIPE_PORT_ACTIVE_TAG_FIELD : Fld := ⟨12, 5⟩
@[simp] abbrev PIPE_PORT_ACTIVE_PVID : Fld := ⟨0, 12⟩
@[simp] abbrev PIPE_PORT_SHADOW_ENABLE : Fld := ⟨31, 1⟩
@[simp] abbrev PIPE_PORT_SHADOW_CUT_THROUGH : Fld := ⟨30, 1⟩
@[simp] abbrev PIPE_PORT_SHADOW_TEMPLATE : Fld := ⟨27, 3⟩
@[simp] abbrev PIPE_PORT_SHADOW_LPM_MODE : Fld := ⟨25, 2⟩
@[simp] abbrev PIPE_PORT_SHADOW_LPM_FIELD : Fld := ⟨20, 5⟩
@[simp] abbrev PIPE_PORT_SHADOW_DEF_CLASS : Fld := ⟨17, 3⟩
@[simp] abbrev PIPE_PORT_SHADOW_TAG_FIELD : Fld := ⟨12, 5⟩
@[simp] abbrev PIPE_PORT_SHADOW_PVID : Fld := ⟨0, 12⟩
@[simp] abbrev PIPE_TMPL_ACTIVE_VALID : Fld := ⟨31, 1⟩
@[simp] abbrev PIPE_TMPL_ACTIVE_KEY_FIELD : Fld := ⟨24, 5⟩
@[simp] abbrev PIPE_TMPL_ACTIVE_BYTE : Fld := ⟨0, 4⟩
@[simp] abbrev PIPE_TMPL_SHADOW_VALID : Fld := ⟨31, 1⟩
@[simp] abbrev PIPE_TMPL_SHADOW_KEY_FIELD : Fld := ⟨24, 5⟩
@[simp] abbrev PIPE_TMPL_SHADOW_BYTE : Fld := ⟨0, 4⟩
@[simp] abbrev PIPE_GRAPH_ACTIVE_VAL : Fld := ⟨0, 32⟩
@[simp] abbrev PIPE_GRAPH_SHADOW_VAL : Fld := ⟨0, 32⟩
@[simp] abbrev TBL_CTRL_AGE_TIME : Fld := ⟨0, 20⟩
@[simp] abbrev TBL_AGE_CLOCK_VAL : Fld := ⟨0, 32⟩
@[simp] abbrev TBL_OP_LAST_VAL : Fld := ⟨0, 32⟩
@[simp] abbrev TBL_STATUS_REASON : Fld := ⟨28, 4⟩
@[simp] abbrev TBL_STATUS_ACTIVITY : Fld := ⟨26, 2⟩
@[simp] abbrev TBL_STATUS_REGION : Fld := ⟨25, 1⟩
@[simp] abbrev TBL_STATUS_STASH : Fld := ⟨16, 7⟩
@[simp] abbrev TBL_STATUS_REHASH_LOST : Fld := ⟨0, 16⟩
@[simp] abbrev TBL_SEED_VAL : Fld := ⟨0, 32⟩
@[simp] abbrev TBL_SEED_NEW_VAL : Fld := ⟨0, 32⟩
@[simp] abbrev TBL_COUNT_ENTRIES : Fld := ⟨0, 21⟩
@[simp] abbrev TBL_LEARN_STATS_STASH_REFUSED : Fld := ⟨24, 8⟩
@[simp] abbrev TBL_LEARN_STATS_STATIC_BLOCKED : Fld := ⟨16, 8⟩
@[simp] abbrev TBL_LEARN_STATS_LEARN_LOST : Fld := ⟨0, 16⟩
@[simp] abbrev TBL_AGE_STATS_AGED : Fld := ⟨0, 32⟩
@[simp] abbrev TBL_LPM_CFG_V6_QUARTERS : Fld := ⟨29, 3⟩
@[simp] abbrev TBL_LPM_CFG_FREE_ROWS : Fld := ⟨0, 17⟩
@[simp] abbrev TBL_STATIC_STATIC : Fld := ⟨0, 17⟩
@[simp] abbrev TBL_PORT_LEARN_ACTION : Fld := ⟨16, 1⟩
@[simp] abbrev TBL_PORT_LEARN_LIMIT : Fld := ⟨0, 16⟩
@[simp] abbrev TBL_PORT_COUNT_LEARNED : Fld := ⟨16, 16⟩
@[simp] abbrev TBL_PORT_COUNT_LIMIT_HITS : Fld := ⟨0, 16⟩
@[simp] abbrev TBL_FLOOD_VAL : Fld := ⟨0, 32⟩
@[simp] abbrev SCH_CTRL_FLUSH_MS : Fld := ⟨16, 8⟩
@[simp] abbrev SCH_PREP_STATUS_CAUSE : Fld := ⟨24, 8⟩
@[simp] abbrev SCH_PREP_STATUS_INDEX : Fld := ⟨0, 18⟩
@[simp] abbrev SCH_BUF_STATUS_FREE_CELLS : Fld := ⟨0, 19⟩
@[simp] abbrev SCH_BUF_LOW_LOW : Fld := ⟨0, 19⟩
@[simp] abbrev SCH_IND_SEL_SHADOW : Fld := ⟨31, 1⟩
@[simp] abbrev SCH_IND_SEL_TABLE : Fld := ⟨27, 4⟩
@[simp] abbrev SCH_IND_SEL_BAD : Fld := ⟨26, 1⟩
@[simp] abbrev SCH_IND_SEL_INDEX : Fld := ⟨0, 18⟩
@[simp] abbrev SCH_IND_DATA_VAL : Fld := ⟨0, 32⟩
@[simp] abbrev SCH_MIRROR_CFG_ENABLE : Fld := ⟨31, 1⟩
@[simp] abbrev SCH_MIRROR_CFG_POINT : Fld := ⟨29, 2⟩
@[simp] abbrev SCH_MIRROR_CFG_DEST_PORT : Fld := ⟨21, 7⟩
@[simp] abbrev SCH_MIRROR_CFG_CLASS : Fld := ⟨18, 3⟩
@[simp] abbrev SCH_MIRROR_CFG_SUB_OFFSET : Fld := ⟨0, 14⟩
@[simp] abbrev SCH_MIRROR_SRC_VAL : Fld := ⟨0, 32⟩
@[simp] abbrev SCH_PORT_STATUS_GATE_ACTIVE : Fld := ⟨31, 1⟩
@[simp] abbrev SCH_PORT_STATUS_GATES : Fld := ⟨23, 8⟩
@[simp] abbrev SCH_PORT_STATUS_OCC_CELLS : Fld := ⟨0, 19⟩
@[simp] abbrev SCH_PORT_DROPS_ADMIT : Fld := ⟨16, 16⟩
@[simp] abbrev SCH_PORT_DROPS_OVERSIZE_FOR_GATE : Fld := ⟨8, 8⟩
@[simp] abbrev SCH_PORT_DROPS_RACK_FLUSH : Fld := ⟨0, 8⟩
@[simp] abbrev LANE_CTRL_FOM_MIN : Fld := ⟨24, 8⟩
@[simp] abbrev LANE_CTRL_FOM_DROP : Fld := ⟨16, 8⟩
@[simp] abbrev LANE_CTRL_ADAPT_LIMIT : Fld := ⟨8, 8⟩
@[simp] abbrev LANE_PREP_STATUS_CAUSE : Fld := ⟨24, 8⟩
@[simp] abbrev LANE_PREP_STATUS_PORT : Fld := ⟨0, 7⟩
@[simp] abbrev LANE_LASER_CFG_LOW_THRESH : Fld := ⟨0, 16⟩
@[simp] abbrev LANE_CFG_TX_POL : Fld := ⟨31, 1⟩
@[simp] abbrev LANE_CFG_RX_POL : Fld := ⟨29, 2⟩
@[simp] abbrev LANE_CFG_LOOPBACK : Fld := ⟨27, 2⟩
@[simp] abbrev LANE_CFG_TX_SQUELCH : Fld := ⟨26, 1⟩
@[simp] abbrev LANE_CFG_WARM_KEEP : Fld := ⟨25, 1⟩
@[simp] abbrev LANE_CFG_TX_PRE : Fld := ⟨16, 5⟩
@[simp] abbrev LANE_CFG_TX_MAIN : Fld := ⟨8, 7⟩
@[simp] abbrev LANE_CFG_TX_POST : Fld := ⟨0, 6⟩
@[simp] abbrev LANE_STATE_STEP : Fld := ⟨28, 4⟩
@[simp] abbrev LANE_STATE_TX_LPI : Fld := ⟨27, 1⟩
@[simp] abbrev LANE_STATE_RX_LPI : Fld := ⟨26, 1⟩
@[simp] abbrev LANE_STATE_RX_INVERTED : Fld := ⟨25, 1⟩
@[simp] abbrev LANE_STATE_TX_SQUELCHED : Fld := ⟨24, 1⟩
@[simp] abbrev LANE_STATE_FOM : Fld := ⟨16, 8⟩
@[simp] abbrev LANE_STATE_RETRIES : Fld := ⟨0, 8⟩
@[simp] abbrev LANE_RM_IDLE_DEL : Fld := ⟨16, 16⟩
@[simp] abbrev LANE_RM_IDLE_INS : Fld := ⟨8, 8⟩
@[simp] abbrev LANE_RM_RM_ERR : Fld := ⟨0, 8⟩
@[simp] abbrev LANE_PRBS_GEN : Fld := ⟨31, 1⟩
@[simp] abbrev LANE_PRBS_CHK : Fld := ⟨30, 1⟩
@[simp] abbrev LANE_PRBS_RATE : Fld := ⟨28, 2⟩
@[simp] abbrev LANE_PRBS_REFUSED : Fld := ⟨27, 1⟩
@[simp] abbrev LANE_PRBS_LOCK : Fld := ⟨26, 1⟩
@[simp] abbrev LANE_PRBS_ERRORS : Fld := ⟨0, 16⟩
@[simp] abbrev LANE_EQ_CTRL_NOMINAL : Fld := ⟨31, 1⟩
@[simp] abbrev LANE_EQ_CTRL_STAGED : Fld := ⟨30, 1⟩
@[simp] abbrev LANE_EQ_CTRL_EYE_W : Fld := ⟨24, 6⟩
@[simp] abbrev LANE_EQ_CTRL_CTLE : Fld := ⟨0, 8⟩
@[simp] abbrev LANE_EQ_DFE_VAL : Fld := ⟨0, 32⟩
@[simp] abbrev LANE_PORT_ACTIVE_MODE : Fld := ⟨29, 3⟩
@[simp] abbrev LANE_PORT_ACTIVE_FEC : Fld := ⟨28, 1⟩
@[simp] abbrev LANE_PORT_ACTIVE_LPI_EN : Fld := ⟨27, 1⟩
@[simp] abbrev LANE_PORT_ACTIVE_LPI_IDLE : Fld := ⟨0, 16⟩
@[simp] abbrev LANE_PORT_SHADOW_MODE : Fld := ⟨29, 3⟩
@[simp] abbrev LANE_PORT_SHADOW_FEC : Fld := ⟨28, 1⟩
@[simp] abbrev LANE_PORT_SHADOW_LPI_EN : Fld := ⟨27, 1⟩
@[simp] abbrev LANE_PORT_SHADOW_LPI_IDLE : Fld := ⟨0, 16⟩
@[simp] abbrev LANE_PORT_STATUS_LINK : Fld := ⟨31, 1⟩
@[simp] abbrev LANE_PORT_STATUS_LOS : Fld := ⟨30, 1⟩
@[simp] abbrev LANE_PORT_STATUS_LOS_CAUSE : Fld := ⟨28, 2⟩
@[simp] abbrev LANE_PORT_STATUS_REMOTE_FAULT : Fld := ⟨27, 1⟩
@[simp] abbrev LANE_PORT_STATUS_SKEW_NS : Fld := ⟨16, 8⟩
@[simp] abbrev LANE_PORT_STATUS_LANE_MAP : Fld := ⟨8, 8⟩
@[simp] abbrev LANE_PORT_STATUS_LINK_DOWNS : Fld := ⟨0, 8⟩
@[simp] abbrev LANE_FEC_UNCORRECTED : Fld := ⟨16, 16⟩
@[simp] abbrev LANE_FEC_CORRECTED : Fld := ⟨0, 16⟩
@[simp] abbrev LANE_TAP_TX_ON : Fld := ⟨31, 1⟩
@[simp] abbrev LANE_TAP_RX_SIG : Fld := ⟨30, 1⟩
@[simp] abbrev LANE_TAP_TX_FAULT : Fld := ⟨29, 1⟩
@[simp] abbrev LANE_TAP_TX_POWER : Fld := ⟨0, 16⟩
@[simp] abbrev LANE_LASER_LOW : Fld := ⟨31, 1⟩
@[simp] abbrev LANE_LASER_POWER : Fld := ⟨0, 16⟩

end F

/-- Registers of the GLB block. -/
def regsGLB : List RegDesc := [
  ⟨0x0, [], 0x0, 0x0, 0x0, 0x0, 0x0, .own .glbId⟩, -- GLB_ID
  ⟨0x8, [], 0x0, 0x0, 0x0, 0x0, 0x0, .own .uidLo⟩, -- GLB_UNIQUE_ID_LO
  ⟨0xC, [], 0x0, 0x0, 0x0, 0x0, 0x0, .own .uidHi⟩] -- GLB_UNIQUE_ID_HI

/-- Registers of the HIF block. -/
def regsHIF : List RegDesc := [
  ⟨0x10000, [], 0x80000000, 0x0, 0x0, 0x0, 0x1, .k 0x0⟩, -- HIF_CTRL
  ⟨0x10004, [], 0xFFFFFF00, 0x0, 0x0, 0x0, 0x0, .k 0x0⟩, -- HIF_DB_BASE_LO
  ⟨0x10008, [], 0xFFFFFFFF, 0x0, 0x0, 0x0, 0x0, .k 0x0⟩, -- HIF_DB_BASE_HI
  ⟨0x1000C, [], 0x1FF, 0x0, 0x0, 0x0, 0x0, .k 0x4⟩, -- HIF_DB_CTRL
  ⟨0x10010, [], 0x0, 0x0, 0x0, 0x0, 0xFFFFFFFF, .k 0x0⟩, -- HIF_NUDGE
  ⟨0x10014, [], 0xFFFFFFC0, 0x0, 0x0, 0x0, 0x0, .k 0x0⟩, -- HIF_BEACON_BASE_LO
  ⟨0x10018, [], 0xFFFFFFFF, 0x0, 0x0, 0x0, 0x0, .k 0x0⟩, -- HIF_BEACON_BASE_HI
  ⟨0x1001C, [], 0x800003FF, 0x0, 0x0, 0x0, 0x0, .k 0x64⟩, -- HIF_BEACON_CTRL
  ⟨0x10020, [], 0x0, 0x0, 0x0, 0x0, 0x0, .k 0x0⟩, -- HIF_ATTN
  ⟨0x10024, [], 0x0, 0x0, 0x0, 0x0, 0xFFFFFFFF, .k 0x0⟩, -- HIF_ATTN_ACK
  ⟨0x10028, [], 0x0, 0x0, 0xFFFF, 0x0, 0x0, .k 0x0⟩, -- HIF_ERR
  ⟨0x1002C, [], 0x0, 0x0, 0x0, 0x0, 0x0, .k 0x0⟩, -- HIF_CQ_FULL
  ⟨0x10100, [(16, 32)], 0xFFFFFFFF, 0x0, 0x0, 0x0, 0x0, .k 0x0⟩, -- HIF_SQ_BASE_LO
  ⟨0x10104, [(16, 32)], 0xFFFFFFFF, 0x0, 0x0, 0x0, 0x0, .k 0x0⟩, -- HIF_SQ_BASE_HI
  ⟨0x10108, [(16, 32)], 0x801F000F, 0x0, 0x0, 0x0, 0x0, .k 0x4⟩, -- HIF_SQ_CFG
  ⟨0x1010C, [(16, 32)], 0x0, 0x0, 0x0, 0x0, 0x0, .k 0x0⟩, -- HIF_SQ_STATUS
  ⟨0x10300, [(16, 32)], 0xFFFFFFFF, 0x0, 0x0, 0x0, 0x0, .k 0x0⟩, -- HIF_CQ_BASE_LO
  ⟨0x10304, [(16, 32)], 0xFFFFFFFF, 0x0, 0x0, 0x0, 0x0, .k 0x0⟩, -- HIF_CQ_BASE_HI
  ⟨0x10308, [(16, 32)], 0x8000000F, 0x0, 0x0, 0x0, 0x0, .k 0x4⟩, -- HIF_CQ_CFG
  ⟨0x1030C, [(16, 32)], 0x0, 0x0, 0x0, 0x0, 0x0, .k 0x10000⟩] -- HIF_CQ_STATUS

/-- Registers of the PWR block. -/
def regsPWR : List RegDesc := [
  ⟨0x20000, [], 0x0, 0x0, 0xFFFF, 0x0, 0x0, .k 0xA0000000⟩, -- PWR_STATUS
  ⟨0x20004, [], 0xC0000000, 0x0, 0x0, 0x0, 0x0, .k 0x0⟩, -- PWR_WAKE
  ⟨0x20010, [(4, 5)], 0x0, 0x0, 0x0, 0x0, 0x0, .k 0x0⟩, -- PWR_DOM_ON
  ⟨0x20030, [], 0x0, 0x0, 0x0, 0x0, 0x0, .k 0x0⟩] -- PWR_INPUT

/-- Registers of the THM block. -/
def regsTHM : List RegDesc := [
  ⟨0x30000, [], 0xC0000000, 0x0, 0x0, 0x0, 0x0, .k 0x80000000⟩, -- THM_CTRL
  ⟨0x30004, [], 0x0, 0x0, 0x0, 0x0, 0x0, .k 0x0⟩, -- THM_STATUS
  ⟨0x30008, [], 0x0, 0x0, 0x0, 0x0, 0x0, .k 0x0⟩, -- THM_VALUES
  ⟨0x3000C, [], 0x0, 0x0, 0x0, 0x0, 0x0, .k 0x0⟩, -- THM_DERIVED
  ⟨0x30100, [(4, 80)], 0x0, 0x0, 0x0, 0x0, 0x0, .k 0x0⟩, -- THM_SENSOR
  ⟨0x30240, [(4, 80)], 0x0, 0x0, 0x0, 0x3, 0x0, .k 0x0⟩, -- THM_SENSOR_OVR
  ⟨0x30400, [(4, 16)], 0x0, 0x0, 0x0, 0x0, 0x0, .k 0x0⟩, -- THM_NODE
  ⟨0x30440, [], 0x0, 0x0, 0x0, 0x0, 0x0, .k 0x0⟩, -- THM_BASE
  ⟨0x30500, [(4, 16)], 0xFFFFFF, 0x0, 0x0, 0x0, 0x0, .k 0xFEFA6⟩, -- THM_MODEL_ALPHA
  ⟨0x30540, [(4, 16)], 0xFFFFFF, 0x0, 0x0, 0x0, 0x0, .k 0x1887⟩, -- THM_MODEL_BETA
  ⟨0x30580, [], 0xFFFFFF, 0x0, 0x0, 0x0, 0x0, .k 0x419⟩, -- THM_MODEL_GAMMA
  ⟨0x30584, [], 0xFFFFFFFF, 0x0, 0x0, 0x0, 0x0, .k 0x51141E0C⟩, -- THM_MODEL_ACT
  ⟨0x30588, [], 0xFF, 0x0, 0x0, 0x0, 0x0, .k 0x3C⟩, -- THM_MODEL_PSV
  ⟨0x30800, [(64, 16), (4, 13)], 0xFFFFFF, 0x0, 0x0, 0x0, 0x0, .own .thmG⟩] -- THM_MODEL_G

/-- Registers of the FLT block. -/
def regsFLT : List RegDesc := [
  ⟨0x40000, [], 0x0, 0x0, 0x0, 0x80FF0FFF, 0x0, .k 0x1E003C⟩, -- FLT_CTRL
  ⟨0x40004, [], 0x0, 0x0, 0xFF0000, 0x0, 0x0, .k 0x20000000⟩, -- FLT_STATUS
  ⟨0x40010, [], 0xFFFFFF, 0x0, 0x0, 0x0, 0x0, .k 0x0⟩, -- FLT_LK_ADDR
  ⟨0x40014, [], 0xFFFFFFFF, 0x0, 0x0, 0x0, 0x0, .k 0x0⟩, -- FLT_LK_DATA
  ⟨0x40018, [], 0x0, 0x0, 0x0, 0x0, 0xFFFF0003, .k 0x0⟩, -- FLT_LK_CMD
  ⟨0x4001C, [], 0x0, 0x0, 0xFFFF, 0x0, 0x0, .k 0x0⟩, -- FLT_LK_STATUS
  ⟨0x40020, [], 0x0, 0x0, 0x0, 0x0, 0x0, .k 0x0⟩, -- FLT_CRC_REF
  ⟨0x40030, [], 0x0, 0x0, 0x0, 0xFFE03FFF, 0x0, .k 0x0⟩, -- FLT_INJ
  ⟨0x40034, [], 0x0, 0x1, 0xFFFFFF00, 0x0, 0x0, .k 0x0⟩, -- FLT_INJ_STATUS
  ⟨0x40038, [], 0xFFE03FFF, 0x0, 0x0, 0x0, 0x0, .k 0x0⟩, -- FLT_TEST_INJ
  ⟨0x40100, [(4, 64)], 0x0, 0x0, 0x0, 0x0, 0x0, .k 0xFFFFFFFF⟩, -- FLT_OPEN
  ⟨0x41000, [(4, 1024)], 0x0, 0x0, 0x0, 0x7, 0x0, .own .sev⟩, -- FLT_SEV
  ⟨0x42000, [(4, 1024)], 0x0, 0x0, 0xFFFFFFFF, 0x0, 0x0, .k 0x0⟩] -- FLT_SRC_COUNT

/-- Registers of the EVT block. -/
def regsEVT : List RegDesc := [
  ⟨0x50000, [], 0x0, 0x80000000, 0xFFFF, 0x0, 0x0, .k 0x0⟩, -- EVT_REFUSED
  ⟨0x50004, [], 0x0, 0x0, 0x0, 0x0, 0xFF, .k 0x0⟩, -- EVT_SW_PULSE
  ⟨0x50008, [], 0x0, 0xC0000000, 0xFFFF, 0x0, 0x0, .k 0x0⟩, -- EVT_LOOP_STATUS
  ⟨0x5000C, [], 0x0, 0x0, 0xFFFF0000, 0x7, 0x0, .k 0x0⟩, -- EVT_MODE_TASK
  ⟨0x50100, [(4, 16)], 0xFFFF03FF, 0x0, 0x0, 0x0, 0x0, .k 0x2⟩, -- EVT_PIN_CFG
  ⟨0x50140, [(4, 16)], 0x0, 0x0, 0xFFFF, 0x0, 0x0, .k 0x0⟩, -- EVT_PIN_STAT
  ⟨0x50180, [(4, 8)], 0x8000FFFF, 0x0, 0x0, 0x0, 0x0, .k 0x19⟩, -- EVT_EVO_CFG
  ⟨0x51000, [(16, 64)], 0xE0000000, 0x0, 0x0, 0x10000000, 0x0, .own .chOwn⟩, -- EVT_CH_OWN
  ⟨0x51004, [(16, 64)], 0x800000FF, 0x0, 0x0, 0x0, 0x0, .k 0xFF⟩, -- EVT_CH_CFG
  ⟨0x51008, [(16, 64)], 0xFFFFFFFF, 0x0, 0x0, 0x0, 0x0, .k 0x0⟩, -- EVT_CH_TASKS
  ⟨0x5100C, [(16, 64)], 0x0, 0x0, 0xFFFFFFFF, 0x0, 0x0, .k 0x0⟩, -- EVT_CH_COUNT
  ⟨0x52000, [(4, 128)], 0x0, 0x0, 0xFFFFFFFF, 0x0, 0x0, .k 0x0⟩, -- EVT_TASK_STAT
  ⟨0x52200, [(4, 16)], 0x0, 0x0, 0xFFFFFFFF, 0x0, 0x0, .k 0x0⟩] -- EVT_CNT

/-- Registers of the TIM block. -/
def regsTIM : List RegDesc := [
  ⟨0x60000, [], 0xF, 0x0, 0x0, 0x0, 0x0, .k 0x0⟩, -- TIM_CTRL
  ⟨0x60004, [], 0x0, 0x0, 0x0, 0x0, 0xF, .k 0x0⟩, -- TIM_SNAP_CMD
  ⟨0x60008, [], 0x80000000, 0x0, 0x0, 0x0, 0x0, .k 0x0⟩, -- TIM_OSC_COMP_CTRL
  ⟨0x60010, [(4, 4)], 0xFFFFFFFF, 0x0, 0x0, 0x0, 0x0, .k 0x0⟩, -- TIM_OSC_COMP_C
  ⟨0x60020, [(4, 4)], 0x0, 0x0, 0xFFFFFFFF, 0x0, 0x0, .k 0x0⟩, -- TIM_TC_STATS
  ⟨0x60100, [(128, 4)], 0x0, 0x0, 0x0, 0x0, 0x3, .k 0x0⟩, -- TIM_TB_CMD
  ⟨0x60104, [(128, 4)], 0xFFFFFFFF, 0x0, 0x0, 0x0, 0x0, .k 0x0⟩, -- TIM_TB_OPND_SEC_HI
  ⟨0x60108, [(128, 4)], 0xFFFFFFFF, 0x0, 0x0, 0x0, 0x0, .k 0x0⟩, -- TIM_TB_OPND_SEC_LO
  ⟨0x6010C, [(128, 4)], 0xBFFFFFFF, 0x0, 0x0, 0x0, 0x0, .k 0x0⟩, -- TIM_TB_OPND_NS
  ⟨0x60110, [(128, 4)], 0xFFFF, 0x0, 0x0, 0x0, 0x0, .k 0x0⟩, -- TIM_TB_OPND_SUB
  ⟨0x60114, [(128, 4), (4, 4)], 0x0, 0x0, 0x0, 0x0, 0x0, .k 0x0⟩, -- TIM_SNAP
  ⟨0x60124, [(128, 4)], 0xFFFFFFFF, 0x0, 0x0, 0x0, 0x0, .k 0x0⟩, -- TIM_RATE
  ⟨0x60128, [(128, 4)], 0xE00000FF, 0x0, 0x0, 0x0, 0x0, .k 0x2000001E⟩, -- TIM_SERVO_CFG
  ⟨0x6012C, [(128, 4)], 0xFFFFFFFF, 0x0, 0x0, 0x0, 0x0, .k 0xB33333⟩, -- TIM_SERVO_KP
  ⟨0x60130, [(128, 4)], 0xFFFFFFFF, 0x0, 0x0, 0x0, 0x0, .k 0x4CCCCD⟩, -- TIM_SERVO_KI
  ⟨0x60134, [(128, 4)], 0xFFFFFFFF, 0x0, 0x0, 0x0, 0x0, .k 0x3E8⟩, -- TIM_SERVO_STEP
  ⟨0x60138, [(128, 4)], 0x0, 0x0, 0x0, 0x0, 0x0, .k 0x0⟩, -- TIM_SERVO_INT
  ⟨0x6013C, [(128, 4)], 0x0, 0x0, 0xFFFF, 0x0, 0x0, .k 0x0⟩, -- TIM_SERVO_STATUS
  ⟨0x60140, [(128, 4)], 0x0, 0x0, 0x0, 0x0, 0x0, .k 0x0⟩, -- TIM_SERVO_LAST
  ⟨0x60144, [(128, 4)], 0xE000FFFF, 0x0, 0xFF0000, 0x0, 0x0, .k 0x3E8⟩, -- TIM_PPS_CFG
  ⟨0x60148, [(128, 4)], 0xFFFFFFFF, 0x0, 0x0, 0x0, 0x0, .k 0x0⟩, -- TIM_PPS_DELAY
  ⟨0x6014C, [(128, 4)], 0x0, 0x0, 0x0, 0x0, 0x0, .k 0x0⟩, -- TIM_PPS_SEC
  ⟨0x60150, [(128, 4)], 0x0, 0x0, 0x0, 0x0, 0x0, .k 0x0⟩, -- TIM_PPS_NS
  ⟨0x61000, [(512, 4), (16, 32)], 0x80000000, 0x60000000, 0xFFFF, 0x0, 0x0, .k 0x0⟩, -- TIM_CMP_CTRL
  ⟨0x61004, [(512, 4), (16, 32)], 0xFFFFFFFF, 0x0, 0x0, 0x0, 0x0, .k 0x0⟩, -- TIM_CMP_TARGET_LO
  ⟨0x61008, [(512, 4), (16, 32)], 0xFFFFFFFF, 0x0, 0x0, 0x0, 0x0, .k 0x0⟩, -- TIM_CMP_TARGET_HI
  ⟨0x6100C, [(512, 4), (16, 32)], 0xFFFFFFFF, 0x0, 0x0, 0x0, 0x0, .k 0x0⟩, -- TIM_CMP_PERIOD
  ⟨0x62000, [(16, 16)], 0x30000000, 0x0, 0xC0000000, 0x0, 0x0, .k 0x0⟩, -- TIM_EVSTAMP_CTRL
  ⟨0x62004, [(16, 16)], 0x0, 0x0, 0x0, 0x0, 0x0, .k 0x0⟩, -- TIM_EVSTAMP_SEC
  ⟨0x62008, [(16, 16)], 0x0, 0x0, 0x0, 0x0, 0x0, .k 0x0⟩, -- TIM_EVSTAMP_NS
  ⟨0x6200C, [(16, 16)], 0x0, 0x0, 0x0, 0x0, 0x0, .k 0x0⟩, -- TIM_EVSTAMP_SUB
  ⟨0x63000, [(32, 4), (4, 4)], 0x0, 0x0, 0x0, 0x0, 0x0, .k 0x0⟩, -- TIM_TSQ
  ⟨0x63010, [(32, 4)], 0x0, 0x0, 0xFFFF0000, 0x0, 0x0, .k 0x0⟩, -- TIM_TSQ_STATUS
  ⟨0x64000, [(4, 96)], 0x1F, 0x0, 0x0, 0x0, 0x0, .k 0x0⟩, -- TIM_PORT
  ⟨0x64200, [(4, 96)], 0xFFFFFFFF, 0x0, 0x0, 0x0, 0x0, .k 0x0⟩] -- TIM_PATH_DELAY

/-- Registers of the PAIR block. -/
def regsPAIR : List RegDesc := [
  ⟨0x70000, [], 0xF3FF03FF, 0x0, 0x0, 0x0, 0x0, .k 0xF03203C0⟩, -- PAIR_CFG
  ⟨0x70004, [], 0x0, 0x0, 0x0, 0x0, 0x0, .k 0xC0000000⟩, -- PAIR_STATUS
  ⟨0x70008, [], 0x0, 0x0, 0x0, 0x0, 0x0, .k 0x0⟩, -- PAIR_VERSION
  ⟨0x7000C, [], 0x0, 0x0, 0x0, 0x0, 0x0, .k 0x0⟩, -- PAIR_FEATURE
  ⟨0x70010, [], 0x0, 0x0, 0x0, 0x0, 0x0, .k 0x0⟩, -- PAIR_PEER_ID_LO
  ⟨0x70014, [], 0x0, 0x0, 0x0, 0x0, 0x0, .k 0x0⟩, -- PAIR_PEER_ID_HI
  ⟨0x70018, [], 0x0, 0x0, 0x0, 0x0, 0x0, .k 0x0⟩, -- PAIR_VINTAGE_FABRIC
  ⟨0x7001C, [], 0x0, 0x0, 0x0, 0x0, 0x0, .k 0x0⟩, -- PAIR_VINTAGE_PACKET
  ⟨0x70020, [], 0x0, 0x0, 0xFFFFFFFF, 0x0, 0x0, .k 0x0⟩, -- PAIR_COUNTS
  ⟨0x70024, [], 0xFF, 0x0, 0x0, 0x0, 0x0, .k 0x18⟩, -- PAIR_DRILL
  ⟨0x70028, [], 0x0, 0x0, 0x0, 0x0, 0x0, .k 0x0⟩] -- PAIR_GAP

/-- Registers of the MGT block. -/
def regsMGT : List RegDesc := [
  ⟨0x80000, [(4, 4)], 0x0, 0x0, 0xFFFF, 0x0, 0x0, .k 0x0⟩, -- MGT_PROC_STATUS
  ⟨0x80010, [], 0x1, 0x0, 0x0, 0x0, 0x0, .k 0x0⟩, -- MGT_REMAP
  ⟨0x80014, [], 0x0, 0x80000000, 0xFFFF, 0x0, 0x0, .k 0x0⟩, -- MGT_BUS_ERR
  ⟨0x80018, [], 0x0, 0x0, 0x0, 0x0, 0x0, .k 0x0⟩, -- MGT_BUS_ERR_ADDR
  ⟨0x8001C, [], 0xF, 0x0, 0x0, 0x0, 0x0, .k 0x0⟩, -- MGT_CELLAR_PAGE
  ⟨0x80020, [], 0x0, 0x0, 0x0, 0x0, 0x0, .k 0x0⟩, -- MGT_BOOT_STATUS
  ⟨0x80024, [], 0x0, 0x0, 0x0, 0x0, 0x0, .k 0x0⟩, -- MGT_BOOT_COUNT
  ⟨0x80030, [(4, 2)], 0x0, 0x0, 0x0, 0x0, 0x0, .k 0x0⟩, -- MGT_SLOT
  ⟨0x80038, [(4, 2)], 0x0, 0x0, 0x0, 0x0, 0x0, .k 0x0⟩, -- MGT_SLOT_SEQ
  ⟨0x80040, [], 0x0, 0x0, 0x0, 0x0, 0x0, .k 0x0⟩, -- MGT_NOR_STATUS
  ⟨0x80044, [], 0x0, 0x0, 0x0, 0x0, 0x0, .k 0x0⟩, -- MGT_OTP
  ⟨0x80050, [], 0x0, 0x0, 0x0, 0x0, 0x0, .k 0x0⟩, -- MGT_LOG_OLDEST
  ⟨0x80054, [], 0x0, 0x0, 0x0, 0x0, 0x0, .k 0x0⟩, -- MGT_LOG_NEWEST
  ⟨0x80058, [], 0x0, 0x0, 0xFFFF0000, 0x0, 0x0, .k 0x0⟩] -- MGT_LOG_STATUS

/-- Registers of the FAB block. -/
def regsFAB : List RegDesc := [
  ⟨0x100000, [], 0x0, 0x0, 0x0, 0x100, 0x1, .k 0x100⟩, -- FAB_SOLVE_CTRL
  ⟨0x100004, [], 0x0, 0x4000000, 0x0, 0x0, 0x0, .k 0x0⟩, -- FAB_SOLVE_STATUS
  ⟨0x100008, [], 0x0, 0x0, 0x0, 0x0, 0x0, .k 0x0⟩, -- FAB_SOLVE_BASE
  ⟨0x10000C, [], 0x0, 0x0, 0x0, 0x0, 0x0, .k 0x0⟩, -- FAB_SOLVE_STATS
  ⟨0x100010, [], 0x0, 0x0, 0xFFFF0000, 0x0, 0x0, .k 0x0⟩, -- FAB_CHECK_STATUS
  ⟨0x100014, [], 0x0, 0x0, 0x0, 0x0, 0xC0001FFF, .k 0x0⟩, -- FAB_FAILED_EDIT
  ⟨0x100040, [(4, 8)], 0x0, 0x0, 0x0, 0x0, 0x0, .k 0x0⟩, -- FAB_UNROUTED
  ⟨0x100100, [], 0xFFF00, 0x0, 0x0, 0x0, 0x1, .k 0x3200⟩, -- FAB_RACK_CTRL
  ⟨0x100104, [], 0xF, 0x0, 0x0, 0x0, 0x0, .k 0x0⟩, -- FAB_RACK_EVT
  ⟨0x100108, [], 0x0, 0x0, 0x0, 0x0, 0x0, .k 0x0⟩, -- FAB_RACK_STATUS
  ⟨0x10010C, [], 0x0, 0x0, 0x0, 0x0, 0x0, .k 0x0⟩, -- FAB_RACK_UNPREPARED
  ⟨0x100110, [], 0x0, 0x0, 0x0, 0x0, 0x0, .k 0x0⟩, -- FAB_RACK_SKEWED
  ⟨0x100114, [], 0x0, 0x0, 0x0, 0x0, 0x0, .k 0x0⟩, -- FAB_VINTAGE_FABRIC
  ⟨0x100118, [], 0x0, 0x0, 0x0, 0x0, 0x0, .k 0x0⟩, -- FAB_VINTAGE_PACKET
  ⟨0x10011C, [], 0x0, 0x0, 0xFFFFFFFF, 0x0, 0x0, .k 0x0⟩, -- FAB_RACK_COUNTS
  ⟨0x100120, [], 0x0, 0x0, 0x0, 0x0, 0x0, .k 0x0⟩, -- FAB_RACK_COMMITS
  ⟨0x100124, [], 0x0, 0x0, 0x0, 0x0, 0x0, .k 0x0⟩, -- FAB_PKT_SHADOW
  ⟨0x100128, [], 0x0, 0x0, 0x0, 0x0, 0x0, .k 0x0⟩, -- FAB_RACK_STAMP_LO
  ⟨0x10012C, [], 0x0, 0x0, 0x0, 0x0, 0x0, .k 0x0⟩, -- FAB_RACK_STAMP_HI
  ⟨0x100140, [(4, 4)], 0xBFFFFFFF, 0x0, 0x0, 0x0, 0x0, .k 0xD192019D⟩, -- FAB_RACK_TS
  ⟨0x100400, [(4, 256)], 0x0, 0x0, 0x0, 0x0, 0x0, .k 0x0⟩, -- FAB_SHADOW_MAP
  ⟨0x100800, [(4, 256)], 0x0, 0x0, 0x0, 0x0, 0x0, .k 0x0⟩, -- FAB_ACTIVE_MAP
  ⟨0x100F00, [], 0x0, 0x0, 0x0, 0x0, 0x0, .k 0xFF2F80⟩, -- FAB_GEOMETRY
  ⟨0x101000, [(4, 256)], 0x0, 0x0, 0x0, 0x0, 0x0, .k 0x0⟩, -- FAB_IN_STATE
  ⟨0x101400, [(4, 256)], 0x0, 0x0, 0x0, 0x0, 0x0, .k 0x0⟩, -- FAB_OUT_STATE
  ⟨0x101800, [(4, 256)], 0x0, 0x0, 0x0, 0x0, 0x0, .k 0x10000⟩, -- FAB_IN_POWER
  ⟨0x101C00, [(4, 256)], 0x0, 0x0, 0x0, 0x0, 0x0, .k 0x10000⟩, -- FAB_OUT_POWER
  ⟨0x102000, [(4, 136)], 0x0, 0x0, 0x0, 0x0, 0x0, .k 0x0⟩, -- FAB_FAILED
  ⟨0x103000, [(4, 136)], 0x0, 0x0, 0x0, 0x0, 0x0, .k 0x0⟩, -- FAB_ACTIVE_CELLS
  ⟨0x103400, [(4, 136)], 0x0, 0x0, 0x0, 0x0, 0x0, .k 0x0⟩, -- FAB_ACTIVE_LIVE
  ⟨0x103800, [(4, 136)], 0x0, 0x0, 0x0, 0x0, 0x0, .k 0x0⟩, -- FAB_SHADOW_CELLS
  ⟨0x103C00, [(4, 136)], 0x0, 0x0, 0x0, 0x0, 0x0, .k 0x0⟩] -- FAB_SHADOW_LIVE

/-- Registers of the DRV block. -/
def regsDRV : List RegDesc := [
  ⟨0x200100, [(4, 16)], 0x1, 0x0, 0x0, 0x0, 0x0, .k 0x0⟩, -- DRV_BLK_CTRL
  ⟨0x200140, [(4, 16)], 0x0, 0x0, 0x0, 0x0, 0x0, .k 0x0⟩, -- DRV_BLK_STATUS
  ⟨0x200200, [(4, 48)], 0x0, 0x0, 0x0, 0x0, 0x0, .k 0x18⟩, -- DRV_BANK_STATUS
  ⟨0x200400, [(4, 8)], 0xF8FF0FFF, 0x0, 0x0, 0x0, 0x0, .k 0x40000000⟩, -- DRV_HK_CFG
  ⟨0x200420, [(4, 8)], 0x3FFFF, 0x0, 0x0, 0x0, 0x0, .own .hkSeq⟩, -- DRV_HK_SEQ
  ⟨0x200440, [(4, 8)], 0xFFFF, 0x0, 0x0, 0x0, 0x0, .k 0x64⟩, -- DRV_HK_PERIOD
  ⟨0x200460, [], 0x0, 0x0, 0xFFFFFFFF, 0x0, 0x0, .k 0x0⟩, -- DRV_HK_STATUS
  ⟨0x200480, [(4, 16)], 0x0, 0x0, 0x80000000, 0x0, 0x0, .k 0x0⟩, -- DRV_HK_RESULT
  ⟨0x200500, [(4, 16)], 0x87003FFF, 0x0, 0x0, 0x0, 0x0, .k 0x0⟩, -- DRV_INJ_CFG
  ⟨0x200540, [(4, 16)], 0x0, 0x0, 0xFF000000, 0x0, 0x0, .k 0x0⟩, -- DRV_INJ_RESULT
  ⟨0x210000, [(4, 9216)], 0x3, 0x0, 0x0, 0x0, 0x0, .own .chCfg⟩, -- DRV_CH_CFG
  ⟨0x220000, [(4, 9216)], 0x3FFF, 0x0, 0x0, 0x0, 0x0, .k 0x80000000⟩, -- DRV_CH_CODE
  ⟨0x230000, [(4, 9216)], 0x0, 0xF, 0xFFFF0000, 0x0, 0x0, .k 0x0⟩, -- DRV_CH_FLAG
  ⟨0x240000, [(4, 9216)], 0x0, 0x0, 0x0, 0x0, 0x0, .k 0x0⟩] -- DRV_MON

/-- Registers of the LOOP block. -/
def regsLOOP : List RegDesc := [
  ⟨0x400000, [], 0xFFFF0FFF, 0x0, 0x0, 0x0, 0x0, .k 0x4032022C⟩, -- LOOP_ENGINE_CTRL
  ⟨0x400004, [], 0x0, 0x0, 0x0, 0x0, 0xC0003FFF, .k 0x0⟩, -- LOOP_CMD
  ⟨0x400008, [], 0x0, 0x80000000, 0x0, 0x0, 0x0, .k 0x0⟩, -- LOOP_CMD_STATUS
  ⟨0x40000C, [], 0x0, 0x0, 0xFFFF0000, 0x0, 0x0, .k 0x0⟩, -- LOOP_FF_STATUS
  ⟨0x400040, [(4, 16)], 0x0, 0x0, 0x0, 0x0, 0x0, .k 0x0⟩, -- LOOP_FF_DT
  ⟨0x400080, [(4, 16)], 0xFFFFFFFF, 0x0, 0x0, 0x0, 0x0, .k 0x3C000000⟩, -- LOOP_FF_TREF
  ⟨0x400100, [(4, 16)], 0x0, 0x0, 0x0, 0x0, 0x0, .k 0x80000000⟩, -- LOOP_BLK_STATUS
  ⟨0x400140, [(4, 16)], 0x0, 0x0, 0xFFFFFFFF, 0x0, 0x0, .k 0x0⟩, -- LOOP_BLK_COUNTS
  ⟨0x400180, [(4, 16)], 0x0, 0x0, 0x0, 0x0, 0x0, .k 0x24000000⟩, -- LOOP_BLK_STATES
  ⟨0x410000, [(4, 9216)], 0x0, 0x40000, 0x0, 0x0, 0x0, .k 0x0⟩, -- LOOP_ST
  ⟨0x420000, [(4, 9216)], 0x0, 0x0, 0x0, 0x0, 0x0, .k 0x0⟩, -- LOOP_RESID
  ⟨0x430000, [(16, 9216), (4, 4)], 0x0, 0x0, 0x0, 0x0, 0x0, .k 0x0⟩, -- LOOP_XHAT
  ⟨0x480000, [(192, 9216), (4, 48)], 0x0, 0x0, 0x0, 0x0, 0x0, .k 0x0⟩, -- LOOP_ACTIVE_CFG
  ⟨0x640000, [(192, 9216), (4, 48)], 0x0, 0x0, 0x0, 0x0, 0x0, .k 0x0⟩] -- LOOP_SHADOW_CFG

/-- Registers of the SEQ block. -/
def regsSEQ : List RegDesc := [
  ⟨0x800000, [(64, 16)], 0x0, 0x0, 0x0, 0x0, 0xC0000FFF, .k 0x0⟩, -- SEQ_CMD
  ⟨0x800004, [(64, 16)], 0xFFF000FF, 0x0, 0x0, 0x0, 0x0, .k 0x64⟩, -- SEQ_CTRL
  ⟨0x800008, [(64, 16)], 0xFFFFFFFF, 0x0, 0x0, 0x0, 0x0, .k 0x0⟩, -- SEQ_TONE_MASK
  ⟨0x80000C, [(64, 16)], 0x0, 0x1000000, 0x0, 0x0, 0x0, .k 0x0⟩, -- SEQ_STATUS
  ⟨0x800010, [(64, 16)], 0x0, 0x0, 0x0, 0x0, 0x0, .k 0x0⟩, -- SEQ_RESULT
  ⟨0x800014, [(64, 16)], 0x0, 0x0, 0xFFFFFFFF, 0x0, 0x0, .k 0x0⟩, -- SEQ_SLIP
  ⟨0x800018, [(64, 16)], 0x0, 0x0, 0xFFFFFFFF, 0x0, 0x0, .k 0x0⟩, -- SEQ_COUNTS
  ⟨0x80001C, [(64, 16)], 0x7FFFFF, 0x0, 0x0, 0x0, 0x0, .k 0x0⟩, -- SEQ_STREAM_BASE
  ⟨0x800020, [(64, 16)], 0x7FFF, 0x0, 0x0, 0x0, 0x0, .k 0x0⟩, -- SEQ_MEM_ADDR
  ⟨0x800024, [(64, 16)], 0xFFFF, 0x0, 0x0, 0x0, 0x0, .k 0x0⟩, -- SEQ_MEM_DATA
  ⟨0x800400, [(32, 16), (4, 8)], 0x80003FFF, 0x0, 0x0, 0x0, 0x0, .k 0x0⟩, -- SEQ_TARGET
  ⟨0x800600, [(4, 17)], 0x3F, 0x0, 0x0, 0x0, 0x0, .k 0x0⟩, -- SEQ_SKEW
  ⟨0x800680, [(4, 4)], 0xFFFF, 0x0, 0x0, 0x0, 0x0, .k 0x7C⟩, -- SEQ_TS
  ⟨0x8006A0, [(4, 6)], 0x0, 0x0, 0x0, 0x0, 0x0, .k 0x0⟩, -- SEQ_RACK_KIND
  ⟨0x804000, [(2048, 16), (64, 32), (16, 4)], 0xFFFFFFFF, 0x0, 0x0, 0x0, 0x0, .own .genFreq⟩, -- SEQ_GEN_FREQ
  ⟨0x804004, [(2048, 16), (64, 32), (16, 4)], 0xFFFF0FFF, 0x0, 0x0, 0x0, 0x0, .own .genPhAmp⟩, -- SEQ_GEN_PHAMP
  ⟨0x810000, [(4, 9216)], 0x8000071F, 0x0, 0x0, 0x0, 0x0, .k 0x0⟩, -- SEQ_SLOT
  ⟨0x820000, [(32768, 16), (8, 4096), (4, 2)], 0xFFFFFFFF, 0x0, 0x0, 0x0, 0x0, .k 0x0⟩, -- SEQ_SEG
  ⟨0x8A0000, [(8, 4096), (4, 2)], 0x0, 0x0, 0x0, 0x0, 0x0, .k 0x0⟩, -- SEQ_RACK_SEG
  ⟨0x8B0000, [(4, 4096)], 0x0, 0x0, 0x0, 0x0, 0x0, .k 0x0⟩] -- SEQ_RACK_SAMPLE

/-- Registers of the CAL block. -/
def regsCAL : List RegDesc := [
  ⟨0x900000, [], 0xFFFFFF01, 0x0, 0x0, 0x0, 0x0, .k 0x24580A01⟩, -- CAL_CTRL
  ⟨0x900004, [], 0x0, 0x0, 0x0, 0x0, 0x0, .k 0xF0000000⟩, -- CAL_STATUS
  ⟨0x900008, [], 0x0, 0x0, 0x0, 0x0, 0x0, .k 0x0⟩, -- CAL_SWEEP_DONE
  ⟨0x90000C, [], 0x0, 0x0, 0x0, 0x0, 0x0, .k 0x0⟩, -- CAL_SWEEP_SKIPS
  ⟨0x900010, [], 0x0, 0x0, 0x0, 0x0, 0x0, .k 0x1FF⟩, -- CAL_NOMINAL
  ⟨0x900040, [(4, 9)], 0xFFFFFFFF, 0x0, 0x0, 0x0, 0x0, .own .calTol⟩, -- CAL_TOL
  ⟨0x900080, [], 0x0, 0x0, 0x0, 0x0, 0x0, .k 0x80000000⟩, -- CAL_OSC
  ⟨0x900100, [(4, 32)], 0x0, 0x0, 0x0, 0x0, 0x0, .k 0x80FF0000⟩, -- CAL_TAP
  ⟨0x908000, [(4, 9216)], 0x0, 0x0, 0x0, 0x0, 0x0, .k 0x8000FF00⟩, -- CAL_CH_SKEW
  ⟨0x912000, [(128, 48), (4, 25)], 0x0, 0x0, 0x0, 0x0, 0x0, .k 0x80FF0000⟩, -- CAL_SLICE
  ⟨0x913800, [(4, 8)], 0x0, 0x0, 0x0, 0x0, 0x0, .k 0x80FF0000⟩, -- CAL_HK
  ⟨0x920000, [(16, 9216), (4, 3)], 0x0, 0x0, 0x0, 0x0, 0x0, .k 0xBFF00000⟩, -- CAL_DAC
  ⟨0x950000, [(32, 9216), (4, 8)], 0x0, 0x0, 0x0, 0x0, 0x0, .own .calCurve⟩, -- CAL_CURVE
  ⟨0x9A0000, [(32, 9216), (4, 8)], 0x0, 0x0, 0x0, 0x0, 0x0, .k 0x0⟩] -- CAL_STAGE

/-- Registers of the HRV block. -/
def regsHRV : List RegDesc := [
  ⟨0xA00000, [(256, 16)], 0xFFFC0000, 0x0, 0x0, 0x0, 0x0, .k 0x20000000⟩, -- HRV_CTRL
  ⟨0xA00004, [(256, 16)], 0x7FFFFF, 0x0, 0x0, 0x0, 0x0, .k 0x0⟩, -- HRV_BASE
  ⟨0xA00008, [(256, 16)], 0x7FFFFF, 0x0, 0x0, 0x0, 0x0, .k 0x400⟩, -- HRV_PRE
  ⟨0xA0000C, [(256, 16)], 0x7FFFFF, 0x0, 0x0, 0x0, 0x0, .k 0x400⟩, -- HRV_POST
  ⟨0xA00010, [(256, 16), (4, 8)], 0xF3003FFF, 0x0, 0x0, 0x0, 0x0, .k 0x0⟩, -- HRV_CHAN
  ⟨0xA00040, [(256, 16), (16, 4)], 0xF8000007, 0x0, 0x0, 0x0, 0x0, .k 0x0⟩, -- HRV_COND_CTRL
  ⟨0xA00044, [(256, 16), (16, 4)], 0xFFFFFFFF, 0x0, 0x0, 0x0, 0x0, .k 0x0⟩, -- HRV_COND_LEVEL
  ⟨0xA00048, [(256, 16), (16, 4)], 0xFFFFFFFF, 0x0, 0x0, 0x0, 0x0, .k 0x0⟩, -- HRV_COND_HYST
  ⟨0xA0004C, [(256, 16), (16, 4)], 0xFFFFFFFF, 0x0, 0x0, 0x0, 0x0, .k 0x0⟩, -- HRV_COND_SLOPE
  ⟨0xA00080, [(256, 16)], 0x0, 0x18000000, 0x0, 0x0, 0x0, .k 0x0⟩, -- HRV_STATUS
  ⟨0xA00084, [(256, 16)], 0x0, 0x0, 0xFFFFFFFF, 0x0, 0x0, .k 0x0⟩, -- HRV_COUNTS
  ⟨0xA00088, [(256, 16)], 0x0, 0x0, 0xFFFFFFFF, 0x0, 0x0, .k 0x0⟩] -- HRV_LOST

/-- Registers of the PIPE block. -/
def regsPIPE : List RegDesc := [
  ⟨0xC00000, [(256, 4)], 0x0, 0x0, 0x0, 0x0, 0x0, .k 0x0⟩, -- PIPE_STATUS
  ⟨0xC00004, [(256, 4)], 0x0, 0x0, 0x0, 0x0, 0x0, .k 0x0⟩, -- PIPE_PREP_STATUS
  ⟨0xC00008, [(256, 4)], 0x0, 0x0, 0xFFFFFFFF, 0x0, 0x0, .k 0x0⟩, -- PIPE_COUNT_REPLAY
  ⟨0xC0000C, [(256, 4)], 0x0, 0x0, 0xFFFFFFFF, 0x0, 0x0, .k 0x0⟩, -- PIPE_COUNT_PARK
  ⟨0xC00010, [(256, 4)], 0x0, 0x0, 0xFFFFFFFF, 0x0, 0x0, .k 0x0⟩, -- PIPE_COUNT_ERR
  ⟨0xC00014, [(256, 4)], 0x0, 0x0, 0xFFFFFFFF, 0x0, 0x0, .k 0x0⟩, -- PIPE_COUNT_DROP
  ⟨0xC00020, [(256, 4), (4, 5)], 0x0, 0x0, 0xFFFFFFFF, 0x0, 0x0, .k 0x0⟩, -- PIPE_PARSE_COUNT
  ⟨0xC00400, [], 0xFF, 0x0, 0x0, 0x0, 0x0, .k 0x14⟩, -- PIPE_CTRL
  ⟨0xC01000, [(4, 96)], 0x0, 0x0, 0x0, 0x0, 0x0, .k 0x2001⟩, -- PIPE_PORT_ACTIVE
  ⟨0xC01200, [(4, 96)], 0x0, 0x0, 0x0, 0x0, 0x0, .k 0x2001⟩, -- PIPE_PORT_SHADOW
  ⟨0xC02000, [(64, 8), (4, 16)], 0x0, 0x0, 0x0, 0x0, 0x0, .k 0x0⟩, -- PIPE_TMPL_ACTIVE
  ⟨0xC02400, [(64, 8), (4, 16)], 0x0, 0x0, 0x0, 0x0, 0x0, .k 0x0⟩, -- PIPE_TMPL_SHADOW
  ⟨0xC10000, [(128, 128), (4, 20)], 0x0, 0x0, 0x0, 0x0, 0x0, .k 0x0⟩, -- PIPE_GRAPH_ACTIVE
  ⟨0xC14000, [(128, 128), (4, 20)], 0x0, 0x0, 0x0, 0x0, 0x0, .k 0x0⟩] -- PIPE_GRAPH_SHADOW

/-- Registers of the TBL block. -/
def regsTBL : List RegDesc := [
  ⟨0xD00000, [], 0xFFFFF, 0x0, 0x0, 0x0, 0x0, .k 0x12C⟩, -- TBL_CTRL
  ⟨0xD00004, [], 0x0, 0x0, 0x0, 0x0, 0x0, .k 0x0⟩, -- TBL_AGE_CLOCK
  ⟨0xD00008, [], 0x0, 0x0, 0x0, 0x0, 0x0, .k 0x0⟩, -- TBL_OP_LAST
  ⟨0xD00100, [(64, 4)], 0x0, 0x0, 0x0, 0x0, 0x0, .k 0x0⟩, -- TBL_STATUS
  ⟨0xD00104, [(64, 4)], 0x0, 0x0, 0x0, 0x0, 0x0, .k 0x1⟩, -- TBL_SEED
  ⟨0xD00108, [(64, 4)], 0x0, 0x0, 0x0, 0x0, 0x0, .k 0x0⟩, -- TBL_SEED_NEW
  ⟨0xD0010C, [(64, 4)], 0x0, 0x0, 0x0, 0x0, 0x0, .k 0x0⟩, -- TBL_COUNT
  ⟨0xD00110, [(64, 4)], 0x0, 0x0, 0xFFFFFFFF, 0x0, 0x0, .k 0x0⟩, -- TBL_LEARN_STATS
  ⟨0xD00114, [(64, 4)], 0x0, 0x0, 0xFFFFFFFF, 0x0, 0x0, .k 0x0⟩, -- TBL_AGE_STATS
  ⟨0xD00118, [(64, 4)], 0xE0000000, 0x0, 0x0, 0x0, 0x0, .k 0x10000⟩, -- TBL_LPM_CFG
  ⟨0xD00128, [(64, 4)], 0x0, 0x0, 0x0, 0x0, 0x0, .k 0x0⟩, -- TBL_STATIC
  ⟨0xD01000, [(4, 96)], 0x1FFFF, 0x0, 0x0, 0x0, 0x0, .k 0xFFFF⟩, -- TBL_PORT_LEARN
  ⟨0xD01200, [(4, 96)], 0x0, 0x0, 0xFFFF, 0x0, 0x0, .k 0x0⟩, -- TBL_PORT_COUNT
  ⟨0xD10000, [(16, 4096), (4, 3)], 0xFFFFFFFF, 0x0, 0x0, 0x0, 0x0, .k 0xFFFFFFFF⟩] -- TBL_FLOOD

/-- Registers of the SCH block. -/
def regsSCH : List RegDesc := [
  ⟨0xE00000, [], 0xFF0000, 0x0, 0x0, 0x0, 0x0, .k 0x640000⟩, -- SCH_CTRL
  ⟨0xE00004, [], 0x0, 0x0, 0x0, 0x0, 0x0, .k 0x0⟩, -- SCH_PREP_STATUS
  ⟨0xE00008, [], 0x0, 0x0, 0x0, 0x0, 0x0, .k 0x40000⟩, -- SCH_BUF_STATUS
  ⟨0xE0000C, [], 0x0, 0x0, 0x7FFFF, 0x0, 0x0, .k 0x40000⟩, -- SCH_BUF_LOW
  ⟨0xE00020, [], 0xF803FFFF, 0x0, 0x0, 0x0, 0x0, .k 0x0⟩, -- SCH_IND_SEL
  ⟨0xE00040, [(4, 16)], 0x0, 0x0, 0x0, 0x0, 0x0, .k 0x0⟩, -- SCH_IND_DATA
  ⟨0xE00100, [(16, 8)], 0xEFFC3FFF, 0x0, 0x0, 0x0, 0x0, .k 0x0⟩, -- SCH_MIRROR_CFG
  ⟨0xE00104, [(16, 8), (4, 3)], 0xFFFFFFFF, 0x0, 0x0, 0x0, 0x0, .k 0x0⟩, -- SCH_MIRROR_SRC
  ⟨0xE01000, [(4, 96)], 0x0, 0x0, 0x0, 0x0, 0x0, .k 0x7F800000⟩, -- SCH_PORT_STATUS
  ⟨0xE01200, [(4, 96)], 0x0, 0x0, 0xFFFFFFFF, 0x0, 0x0, .k 0x0⟩] -- SCH_PORT_DROPS

/-- Registers of the LANE block. -/
def regsLANE : List RegDesc := [
  ⟨0xF00000, [], 0xFFFFFF00, 0x0, 0x0, 0x0, 0x0, .k 0x60306400⟩, -- LANE_CTRL
  ⟨0xF00004, [], 0x0, 0x0, 0x0, 0x0, 0x0, .k 0x0⟩, -- LANE_PREP_STATUS
  ⟨0xF00008, [], 0xFFFF, 0x0, 0x0, 0x0, 0x0, .k 0x578⟩, -- LANE_LASER_CFG
  ⟨0xF01000, [(4, 66)], 0xFE1F7F3F, 0x0, 0x0, 0x0, 0x0, .k 0x46E0C⟩, -- LANE_CFG
  ⟨0xF01200, [(4, 66)], 0x0, 0x0, 0xFF, 0x0, 0x0, .k 0x1000000⟩, -- LANE_STATE
  ⟨0xF01400, [(4, 64)], 0x0, 0x0, 0xFFFFFFFF, 0x0, 0x0, .k 0x0⟩, -- LANE_RM
  ⟨0xF01600, [(4, 66)], 0xF0000000, 0x8000000, 0xFFFF, 0x0, 0x0, .k 0x0⟩, -- LANE_PRBS
  ⟨0xF02000, [(8, 66)], 0x0, 0x0, 0x0, 0x0, 0x0, .k 0x80000000⟩, -- LANE_EQ_CTRL
  ⟨0xF02004, [(8, 66)], 0x0, 0x0, 0x0, 0x0, 0x0, .k 0x0⟩, -- LANE_EQ_DFE
  ⟨0xF03000, [(4, 96)], 0x0, 0x0, 0x0, 0x0, 0x0, .k 0xA⟩, -- LANE_PORT_ACTIVE
  ⟨0xF03200, [(4, 96)], 0x0, 0x0, 0x0, 0x0, 0x0, .k 0xA⟩, -- LANE_PORT_SHADOW
  ⟨0xF03400, [(4, 96)], 0x0, 0x0, 0xFF, 0x0, 0x0, .k 0x4000E400⟩, -- LANE_PORT_STATUS
  ⟨0xF03600, [(4, 96)], 0x0, 0x0, 0xFFFFFFFF, 0x0, 0x0, .k 0x0⟩, -- LANE_FEC
  ⟨0xF04000, [(4, 32)], 0x0, 0x20000000, 0x0, 0x0, 0x0, .k 0x0⟩, -- LANE_TAP
  ⟨0xF04100, [(4, 4)], 0x0, 0x0, 0x0, 0x0, 0x0, .k 0x0⟩] -- LANE_LASER

/-- The block an offset lies in, by the regions of R474; empty outside every region. -/
def regsOfRegion (off : Nat) : List RegDesc :=
  if off < 0x10000 then regsGLB
  else if off < 0x20000 then regsHIF
  else if off < 0x30000 then regsPWR
  else if off < 0x40000 then regsTHM
  else if off < 0x50000 then regsFLT
  else if off < 0x60000 then regsEVT
  else if off < 0x70000 then regsTIM
  else if off < 0x80000 then regsPAIR
  else if off < 0x90000 then regsMGT
  else if off < 0x100000 then []
  else if off < 0x200000 then regsFAB
  else if off < 0x400000 then regsDRV
  else if off < 0x800000 then regsLOOP
  else if off < 0x900000 then regsSEQ
  else if off < 0xA00000 then regsCAL
  else if off < 0xC00000 then regsHRV
  else if off < 0xD00000 then regsPIPE
  else if off < 0xE00000 then regsTBL
  else if off < 0xF00000 then regsSCH
  else if off < 0x1000000 then regsLANE
  else []

end Sys2Proof.Machine
end

