-- ==== Sys2Proof/Machine/Regs.lean ====
section
/-! DEFINITION. Which register an offset names, what it holds at reset, and what a read or a write of each access code does
(00_scope.md R4, R5; 22_register_index.md R474 to R476). -/

namespace Sys2Proof.Machine

/-- The four owners of R14. -/
inductive Owner where
  | host | mgmt | fabric | safety
  deriving DecidableEq, Repr

/-- The owner's code in EVT_CH_OWN (R362). -/
def Owner.code : Owner → Nat
  | .host => 0
  | .mgmt => 1
  | .fabric => 2
  | .safety => 3

/-- Severity codes of R378. -/
abbrev sevLOG : Nat := 0
abbrev sevNOTIFY : Nat := 1
abbrev sevCONTAIN : Nat := 2
abbrev sevSAFE : Nat := 3
abbrev sevLATCH : Nat := 4

/-- Fault sources of R381 with their floors and defaults (R382, R52, R72, R96, R104, R137, R160, R163 and the tables of the
home chapters): first number, how many, floor, default. -/
def sevRows : List (Nat × Nat × Nat × Nat) := [
  (0, 16, 1, 2), (16, 16, 2, 2), (32, 16, 0, 1),
  (48, 16, 1, 2), (64, 16, 1, 2), (80, 16, 1, 1), (96, 16, 0, 1), (112, 16, 0, 1), (128, 16, 0, 1), (144, 16, 2, 2),
  (160, 16, 0, 1), (176, 16, 0, 1), (192, 17, 1, 2),
  (209, 16, 1, 3), (225, 1, 1, 1), (226, 1, 3, 3), (227, 1, 0, 1),
  (256, 4, 2, 2), (260, 4, 0, 0), (264, 4, 0, 1), (268, 4, 0, 0), (272, 4, 2, 2),
  (276, 1, 0, 1), (277, 1, 0, 1), (278, 1, 1, 1), (279, 1, 0, 1),
  (280, 96, 0, 0), (376, 25, 1, 2), (401, 4, 0, 1), (405, 32, 1, 2),
  (437, 4, 0, 1), (441, 4, 0, 1), (445, 4, 0, 0),
  (449, 1, 1, 1), (450, 1, 0, 1), (451, 16, 0, 0), (467, 1, 0, 1), (468, 1, 1, 1),
  (469, 3, 1, 1), (472, 3, 3, 3), (475, 1, 3, 3), (476, 1, 3, 3), (477, 1, 0, 1), (478, 1, 0, 1), (479, 1, 0, 1), (480, 1, 0, 0),
  (481, 9, 0, 0), (490, 8, 2, 2), (498, 1, 3, 3), (499, 1, 0, 0), (500, 1, 0, 1),
  (501, 1, 3, 3), (502, 3, 0, 1), (505, 1, 3, 3), (506, 11, 3, 3), (517, 1, 3, 3), (518, 10, 3, 4),
  (528, 1, 0, 1), (529, 1, 1, 1), (530, 1, 3, 3), (531, 80, 0, 1), (611, 1, 3, 3), (612, 1, 1, 3), (613, 1, 4, 4)]

/-- Sources whose checker can be injected (R395): first number, how many. DEDUCED: the memory ECC checkers include the
stage-group, link-memory and counter sources (log entry 8). -/
def injRows : List (Nat × Nat) := [
  (0, 16), (48, 16), (128, 16), (192, 17), (225, 1), (256, 4), (264, 16), (476, 1), (481, 20), (501, 27), (611, 1)]

/-- Floor and default severity of a source; none for a reserved number (R381). -/
def sevOf (s : Nat) : Option (Nat × Nat) :=
  (sevRows.find? fun r => r.1 ≤ s && s < r.1 + r.2.1).map fun r => (r.2.2.1, r.2.2.2)

/-- The source's checker can be injected (R395). -/
def injectable (s : Nat) : Bool := injRows.any fun r => r.1 ≤ s && s < r.1 + r.2

/-- Kind of an element: trim heater, fast shifter, or attenuator (02_fabric.md R25, R29). -/
inductive ElemKind where
  | heater | shifter | attenuator
  deriving DecidableEq, Repr

/-- Kind of element ELx (R29). -/
def elemKind (x : Nat) : ElemKind :=
  if 544 ≤ x % 576 then .attenuator else if x % 2 = 0 then .heater else .shifter

/-- The nominal curve record of R178, word w of element ELx. What R178 does not state is log entry 7. -/
def nominalCurve (x w : Nat) : Nat :=
  let key : Nat := match elemKind x with | .heater => 6554 | .shifter => 10486 | .attenuator => 9830
  let phase (c : Nat) : Nat := match elemKind x with
    | .heater => (28076 * c * c + 134201344) / 268402689
    | .shifter => (12868 * c + 5243) / 10486
    | .attenuator => (12868 * c + 4915) / 9830
  let bp (i : Nat) : Nat := phase (if i = 7 then 16383 else 2048 * (i + 1))
  if w = 0 then 0xBFFF0000
  else if w = 1 then key
  else if w = 2 then 0
  else if w < 7 then bp (2 * (w - 3)) + 65536 * bp (2 * (w - 3) + 1)
  else match elemKind x with | .heater => 12000 | .shifter => 2200 | .attenuator => 0

/-- AGREE and ACCEPT of KIND k (R164). AGREE of kinds 2 to 4 counts half LSB (log entry 9). -/
def tolReset (k : Nat) : Nat :=
  let (g, a) : Nat × Nat :=
    if k ≤ 1 then (20, 30) else if k = 2 then (1, 400) else if k ≤ 4 then (1, 64)
    else if k = 5 then (2, 31) else if k = 6 then (3, 35) else if k = 7 then (4, 16) else (5, 2000)
  g + 65536 * a

/-- Reset values that depend on the register's place (R106, R90, R155, R178, R362, R381, R412, R164, R325). -/
def RstKind.val (k : RstKind) (i : List Nat) : Nat :=
  let a := nth 0 i 0
  let b := nth 0 i 1
  match k with
  | .chCfg => if elemKind a = .heater then 2 else 1
  | .hkSeq => 0x10000 + 16 * (2 * a + 1) + 2 * a
  | .genFreq => 4 * (b / 2 + 1) * 0x200000
  | .genPhAmp => if b % 2 = 0 then 0x40 else 0x40000040
  | .thmG => if b = 12 then 0x10000 else if b % 4 = a / 4 then 0x40000 else 0
  | .chOwn => if 56 ≤ a then 0xF0000000 else if 48 ≤ a then 0xA0000000 else 0
  | .calTol => tolReset a
  | .calCurve => nominalCurve a b
  | .sev => match sevOf a with
    | none => 0
    | some (f, d) => 0x80000000 + (if injectable a then 0x40000000 else 0) + 256 * f + d
  | .glbId => 0x5120B100 + (if Config.extendedRange then 2 else 1)
  | .uidLo => Config.uniqueId.toNat % 2 ^ 32
  | .uidHi => Config.uniqueId.toNat / 2 ^ 32

/-- The indices of an offset counted from a register's base; none where no instance lies there. -/
def dimsIdx : List (Nat × Nat) → Nat → Option (List Nat)
  | [], r => if r = 0 then some [] else none
  | (st, n) :: ds, r =>
    if r / st < n then (dimsIdx ds (r % st)).map (fun l => (r / st) :: l) else none

/-- The register at an offset, with its indices. -/
def findIn : List RegDesc → Nat → Option (RegDesc × List Nat)
  | [], _ => none
  | d :: ds, off =>
    if off < d.base then findIn ds off
    else match dimsIdx d.dims (off - d.base) with
      | some i => some (d, i)
      | none => findIn ds off

/-- The register of BAR0 at an offset (R474); none where no register lies. -/
def findReg (off : Nat) : Option (RegDesc × List Nat) := findIn (regsOfRegion off) off

/-- The value an offset holds at reset; 0 where no register lies (R5). -/
def resetOf (off : Nat) : Word :=
  match findReg off with
  | none => 0
  | some (d, i) => match d.rst with
    | .k n => BitVec.ofNat 32 n
    | .own k => BitVec.ofNat 32 (k.val i)

/-- A write of v over old by an owner, by the access codes of R4: RW bits take v, W1C bits written 1 are cleared, LK bits take
v from SAFETY only; RO, RC and WO bits keep. -/
def RegDesc.written (d : RegDesc) (o : Owner) (old v : Word) : Word :=
  let take : Word := BitVec.ofNat 32 (d.rw ||| (if o = .safety then d.lk else 0))
  let clr : Word := BitVec.ofNat 32 d.w1c &&& v
  ((old &&& ~~~ take) ||| (v &&& take)) &&& ~~~ clr

/-- A write reaches an LK field from an owner other than SAFETY (R4, R398). -/
def RegDesc.lkIgnored (d : RegDesc) (o : Owner) : Bool := d.lk != 0 && o != .safety

/-- What a read returns: WO bits read 0 (R4). -/
def RegDesc.readable (d : RegDesc) (v : Word) : Word := v &&& ~~~ (BitVec.ofNat 32 d.wo)

/-- What a read leaves: RC bits cleared (R4). -/
def RegDesc.afterRead (d : RegDesc) (v : Word) : Word := v &&& ~~~ (BitVec.ofNat 32 d.rc)

end Sys2Proof.Machine
end

