-- ==== Sys2Proof/Machine/Types.lean ====
section
/-! DEFINITION. The plain data that commands carry and State holds, apart from the register file: descriptors, completions,
frames, reports, events and the records of each unit. -/

namespace Sys2Proof.Machine

/-- A 64-byte descriptor (14_host_interface.md R310); byte i is bits [8i + 7 : 8i]. -/
abbrev Desc := BitVec 512

/-- Byte i of a descriptor. -/
def Desc.byte (d : Desc) (i : Nat) : Nat := (d.toNat >>> (8 * i)) % 256

/-- n bytes from byte i, little-endian (R304). -/
def Desc.le (d : Desc) (i n : Nat) : Nat := (d.toNat >>> (8 * i)) % 2 ^ (8 * n)

/-- n bytes from byte i, as a list in ascending order. -/
def Desc.bytes (d : Desc) (i n : Nat) : List Byte := (upFrom i n).map fun j => BitVec.ofNat 8 (d.byte j)

def Desc.opcode (d : Desc) : Nat := d.byte 0
def Desc.tag (d : Desc) : Nat := d.le 2 2
def Desc.bufAddr (d : Desc) : Nat := d.le 8 8
def Desc.bufLen (d : Desc) : Nat := d.le 16 4

/-- What the host memory behind a descriptor's buffer answers: whether its accesses end well (R309), and the bytes read. -/
structure Buf where
  ok : Bool
  data : List Byte
  deriving DecidableEq, Repr

/-- A request in execution: the job number its ring holds while it runs (R312). -/
structure Req where
  sq : Nat
  job : Nat
  deriving DecidableEq, Repr

/-- A completion held for its ring (R308, R311); vint: words 2 and 3 are the vintages read when it is written (R315). -/
structure Completion where
  sq : Nat
  tag : Nat
  sqHead : Nat
  result : Nat
  dataLen : Nat
  words : List Word
  vint : Bool
  deriving DecidableEq, Repr

/-- A memory write the device has posted to the host (R301), oldest first in Hif.posted. -/
structure Posted where
  addr : Nat
  data : List Byte
  deriving DecidableEq, Repr

/-- A submission ring beyond its registers (R307, R312): descriptors fetched and not started, the one in execution with its
job number, and the tail last read from the doorbell array. -/
structure SqRing where
  fetched : List Desc
  exec : Option (Nat × Desc)
  tail : Nat
  deriving DecidableEq, Repr

/-- A completion ring beyond its registers (R308): completions due and not written, and the head last read. -/
structure CqRing where
  held : List Completion
  head : Nat
  deriving DecidableEq, Repr

def SqRing.zero : SqRing := ⟨[], none, 0⟩
def CqRing.zero : CqRing := ⟨[], 0⟩

/-- What ended in error (R309, HIF_ERR.SOURCE). -/
inductive HostErr where
  | array
  | desc (sq : Fin 32)
  | buffer (sq : Fin 32)
  | completion (cq : Fin 32)
  | beacon
  | rangeSq (sq : Fin 32)
  | rangeCq (cq : Fin 32)
  deriving DecidableEq, Repr

/-- The host interface beyond its registers. subsys: subsystem identifier and subsystem vendor identifier (R300). -/
structure Hif where
  sq : Tab SqRing
  cq : Tab CqRing
  job : Nat
  readDue : Bool
  lastRead : Nat
  snapHost : Tab (Option Word)
  snapMgmt : Tab (Option Word)
  rdata : BitVec 64
  bme : Bool
  linkUp : Bool
  d3hot : Bool
  perstLow : Bool
  beaconSeq : Nat
  beaconLast : Nat
  beaconDue : Bool
  beaconStopped : Bool
  posted : List Posted
  subsys : Word
  deriving DecidableEq, Repr

def Hif.zero : Hif :=
  { sq := [], cq := [], job := 0, readDue := false, lastRead := 0, snapHost := [], snapMgmt := [], rdata := 0, bme := false,
    linkUp := false, d3hot := false, perstLow := false, beaconSeq := 0, beaconLast := 0, beaconDue := false,
    beaconStopped := false, posted := [], subsys := 0x00001F5A }

/-- The modes of R15. -/
inductive Mode where
  | dormant | start | serve | shadow | limp | safe | latched
  deriving DecidableEq, Repr

/-- The MODE encoding of R15. -/
def Mode.code : Mode → Nat
  | .dormant => 0
  | .start => 1
  | .serve => 2
  | .shadow => 3
  | .limp => 4
  | .safe => 8
  | .latched => 9

/-- An error raised by a cell (R13, R383): source, location within the source, detail words; place: what the unit holds in error, such as
a bucket or a queue (R234, R259). -/
structure Report where
  src : Nat
  loc : Nat
  d0 : Nat
  d1 : Nat
  d2 : Nat
  injected : Bool
  path : List Nat
  place : Nat
  deriving DecidableEq, Repr

/-! ### Connection maps and the solver (03_routing.md) -/

/-- A SOLVE request waiting or running (R55, R57). -/
structure SolveReq where
  req : Req
  checkOnly : Bool
  partialOk : Bool
  rackAfter : Bool
  joint : Bool
  deriving DecidableEq, Repr

/-- A fault re-solve (R48): the records whose cells it displaces. -/
structure Resolve where
  seqs : List Nat
  deriving DecidableEq, Repr

/-- The photonic fabric beyond its registers. Maps lie in the register file; images, live masks and the failed set are typed.
activeDark: inputs carried dark since an isolation (R49), startDark until the
end of a warm start (R432); recCells: cells marked by fault records, with their LOG_SEQ (R47);
repairBase: the fabric vintage a repair image was made from; served: the records whose fault rack is to come (R384). -/
structure Fab where
  active : CellSet
  activeLive : CellSet
  shadow : CellSet
  shadowLive : CellSet
  repair : CellSet
  repairLive : CellSet
  failed : CellSet
  recCells : List (Nat × Nat)
  activeOmit : BitVec 256
  activeDark : BitVec 256
  startDark : BitVec 256
  shadowOmit : BitVec 256
  repairOmit : BitVec 256
  isoCells : CellSet
  isoIn : BitVec 256
  isoOut : BitVec 256
  isoBlocks : BitVec 16
  solving : Option SolveReq
  solveQ : List SolveReq
  resolve : Option Resolve
  resolveDue : List Nat
  repairBase : Nat
  served : List Nat
  deriving DecidableEq, Repr

def Fab.zero : Fab :=
  { active := 0, activeLive := 0, shadow := 0, shadowLive := 0, repair := 0, repairLive := 0, failed := 0, recCells := [],
    activeOmit := 0, activeDark := 0, startDark := 0, shadowOmit := 0, repairOmit := 0, isoCells := 0, isoIn := 0, isoOut := 0, isoBlocks := 0,
    solving := none, solveQ := [], resolve := none, resolveDue := [], repairBase := 0,
    served := [] }

/-! ### Racking (04_racking.md) -/

/-- The five sources of a rack (R62), in the order in which triggers of one tick are taken (R65). -/
inductive RackSrc where
  | fault | mirror | event | rackAfter | rack
  deriving DecidableEq, Repr

/-- A rack trigger (R62, R63): its source, the request that waits for its outcome, DOMAINS, TSET, EXPECT, for a mirror rack
the vintages the mirror carries, and when it reached the fabric controller. -/
structure Trig where
  src : RackSrc
  req : Option Req
  domains : Nat
  tset : Nat
  expect : Option (Nat × Nat)
  vint : Option (Nat × Nat)
  path : List Nat
  at_ : Nat
  deriving DecidableEq, Repr

/-- What a rack does to one element (R75): the transition kind of R156, and the final code, or for kind 3 the change of the
square of the code that makes the balance step (R73). -/
structure RackMove where
  x : Nat
  kind : Nat
  val : Int
  deriving DecidableEq, Repr

/-- A rack in progress (R65, R67): its timing set as it was at admission (R151), t0 its trigger tick, window true from its commit point, ready and units in the mask of R68;
go: the last ready collection found every report; plan: its moves, with the values active at the trigger tick (R174). -/
structure RackRun where
  trig : Trig
  ts : Word
  t0 : Nat
  units : Nat
  ready : Nat
  go : Bool
  window : Bool
  prebiased : Bool
  missed : Bool
  plan : List RackMove
  deriving DecidableEq, Repr

/-- A SHADOW_WRITE or SOLVE that waits behind a rack in progress (R66). -/
inductive Waiting where
  | shadow (req : Req) (d : Desc) (buf : Buf)
  | solve (r : SolveReq)
  deriving DecidableEq, Repr

/-- The rack controller beyond its registers. lastCommit: the last commit tick; endedAt: when the last rack ended; confirmed: a
committed rack and the units that have not confirmed it (R72); seqIso: the rack sequencer is isolated (R160). -/
structure RackSt where
  run : Option RackRun
  pendingTrig : Option Trig
  deferred : Option (Trig × Nat)
  arrived : List Trig
  lastCommit : Option Nat
  endedAt : Nat
  confirmed : Option (Trig × Nat)
  waiting : List Waiting
  seqIso : Bool
  deriving DecidableEq, Repr

def RackSt.zero : RackSt :=
  { run := none, pendingTrig := none, deferred := none, arrived := [], lastCommit := none, endedAt := 0,
    confirmed := none, waiting := [], seqIso := false }

/-! ### Management, NOR and the Lees log (15_management.md) -/

/-- A Lees log record (R349). -/
structure LogRec where
  seq : Nat
  injected : Bool
  typ : Nat
  sev : Nat
  src : Nat
  sec : Nat
  ns : Nat
  boot : Nat
  mode : Nat
  region : Nat
  block : Nat
  cell : Nat
  secCount : Nat
  cause : Nat
  d : List Word
  deriving DecidableEq, Repr

/-- A boot record (R341). -/
structure BootRec where
  seq : Nat
  preferred : Nat
  state : List Nat
  tries : List Nat
  bootCount : Nat
  deriving DecidableEq, Repr

/-- What an image operation does next (R345, R346): pages still to program from offset off, with the bytes already programmed; the
same, waiting for the erase of its slot; or the commit flag of a verified image. -/
inductive ImageJob where
  | pages (off : Nat) (left : List Byte) (done : Nat)
  | waits (off : Nat) (data : List Byte)
  | flag
  deriving DecidableEq, Repr

/-- The image operation in progress. -/
structure ImageOp where
  req : Req
  slot : Nat
  job : ImageJob
  deriving DecidableEq, Repr

/-- The management subsystem beyond its registers. slotA, slotB: NOR bytes of the slots, 0xFF where nothing is listed; flagA, flagB:
their commit flags; the boot sectors, newest record last; sectorsClean: sector k of slot s erased, at 512 s + k; logQ, log: records in
retention SRAM and in the NOR, oldest first, logCount those ever written to the NOR; running: the slot booted, 2 for none; keyHashes: the key hashes fused, by index. -/
structure Mgmt where
  expiries : List (Nat × Nat)
  slotA : Tab Byte
  slotB : Tab Byte
  flagA : Bool
  flagB : Bool
  bootSec0 : List BootRec
  bootSec1 : List BootRec
  bootWaits : Option BootRec
  imageOp : Option ImageOp
  sectorsClean : Tab Bool
  logQ : List LogRec
  log : List LogRec
  logCount : Nat
  logSeq : Nat
  logDropRun : Bool
  swapFixed : Bool
  running : Nat
  learnHeld : Bool
  keyHashes : List Nat
  deriving DecidableEq, Repr

def Mgmt.zero : Mgmt :=
  { expiries := [], slotA := [], slotB := [], flagA := false, flagB := false, bootSec0 := [], bootSec1 := [], bootWaits := none,
    imageOp := none, sectorsClean := [], logQ := [], log := [], logCount := 0, logSeq := 0,
    logDropRun := false, swapFixed := false, running := 2, learnHeld := false,
    keyHashes := (List.range 4).map Config.keyHash }

/-! ### Faults (17_faults_and_safety.md) -/

/-- A fault record the device keeps track of (R383 to R386): iso: its isolation stands; opened: open; until_: the end of its handling
(none while a fault re-solve it caused runs, R384); merged: errors merged into it, as source and location; names: inputs of the
connections it displaced (R48). -/
structure FRec where
  seq : Nat
  sev : Nat
  src : Nat
  loc : Nat
  iso : Bool
  opened : Bool
  until_ : Option Nat
  merged : List (Nat × Nat)
  names : List Nat
  deriving DecidableEq, Repr

/-- A checker injection whose report is awaited (R395, R396): host: asked for by FLT_TEST_INJ; due: the end of D plus 10 µs. -/
structure Inject where
  src : Nat
  loc : Nat
  host : Bool
  due : Nat
  deriving DecidableEq, Repr

/-- Fault handling beyond its registers. raised: errors of cells that no collector has latched; latched: reports in the collectors, with
the severity judged, that the safety monitor has not classified (the region summaries name their blocks); copies: the collectors'
copies of FLT_SEV_s.SEVERITY (R379), kept only where they differ from the register; refs: the safety monitor's reference of each
protected register (R397), kept likewise; recs: tracked records at their places 0 to 63, others above; lastRaise: when each source was
last raised at a place; safeAt: a readback is due for the safe state forced then; supply, clock: the last sample of a monitor was beyond
its limits; commitRefLoss, lossDue: the reference loss of each output and when it is to be measured (R393). -/
structure Flt where
  raised : List Report
  latched : List (Report × Nat)
  copies : Tab (Option Nat)
  refs : Tab (Option Word)
  recs : Tab (Option FRec)
  lastRaise : List ((Nat × Nat) × Nat)
  latchFlag : Bool
  proposal : Option (Nat × Word × Nat)
  inject : List Inject
  safeAt : Option Nat
  monitorUp : Bool
  supply : Tab Nat
  clock : Tab Nat
  commitRefLoss : Tab (Option Int)
  lossDue : Tab (Option Nat)
  deriving DecidableEq, Repr

def Flt.zero : Flt :=
  { raised := [], latched := [], copies := [], refs := [], recs := [], lastRaise := [], latchFlag := false,
    proposal := none, inject := [], safeAt := none, monitorUp := false, supply := [], clock := [], commitRefLoss := [],
    lossDue := [] }

/-! ### Start and mode changes (19_start_and_modes.md) -/

/-- The end of a step of the cold start, with what the outside world gives it: the straps; start-up tests of watchdogs (bit k, processor k)
and of the safe state that fail, and injections with whether the checker reported; the memory that training finds, in 4 GiB shifted left,
or the channel and cause of its failure. -/
inductive ColdStep where
  | alwaysOn (pairEn pref : Bool)
  | clocks
  | domains
  | rootstock
  | tests (wdog : BitVec 4) (verify : Bool) (checkers : List (BitVec 10 × Bool))
  | hostUp
  | memory (size : Option (Fin 4)) (channel : Fin 2) (cause : Nat)
  | loopBlocks
  | acquisition
  | regionsCleared
  | pipelines
  | cellarCleared
  deriving DecidableEq, Repr

/-- Steps of a warm start that end. -/
inductive WarmStep where
  | stopped
  | poweredDown
  | rootstock
  | firmware
  | hostUp
  | pipelines
  deriving DecidableEq, Repr

/-- What a mode change leads to (R434). -/
inductive Target where
  | limp | serve | shadow | dormant | warm | cold
  deriving DecidableEq, Repr

/-- Why a mode change was asked for. -/
inductive ModeSrc where
  | host | event | throttle | cooled | pairCmd | takeOver | contain
  deriving DecidableEq, Repr

/-- A mode change request (R435): target, source, the ring request that waits for its outcome, and when it reached the fabric processor. -/
structure ModeReq where
  target : Target
  src : ModeSrc
  req : Option Req
  path : List Nat
  at_ : Nat
  deriving DecidableEq, Repr

/-- A mode change in progress (R434): t0 its trigger tick, window true from its commit point, units and ready as in R68; go: the last
ready collection found every report. -/
structure ModeRun where
  r : ModeReq
  t0 : Nat
  units : Nat
  ready : Nat
  go : Bool
  window : Bool
  deriving DecidableEq, Repr

/-- Start and mode changes beyond the mode itself. cold, warm: a cold or warm start is not committed; t0: its start; ended: bit n is set
when step n of the cold start (R425), or of the warm start (R431), has ended; allowed: the cold start steps that may still end (R438);
warmTo, warmSafe: the destination of the warm start, and whether it was requested from Safe; safeCold: the Safe was entered during a
cold start; change, queue: the mode change in progress and those pending; acqImage: 0 before the first acquisition image, i + 1 while Ai
is applied, 9 after the last; acqAt: when it was applied; readyAt: when the last step before step 13 ended; throttleOnly: Limp caused by
thermal throttle alone; safeDue: the safe state, with LATCH or not, waits for a mode change past its commit point (R17); noPower: the
input converter has stopped. -/
structure StartSt where
  cold : Bool
  warm : Bool
  t0 : Nat
  ended : Nat
  warmTo : Target
  warmSafe : Bool
  safeCold : Bool
  change : Option ModeRun
  queue : List ModeReq
  acqImage : Nat
  acqAt : Nat
  readyAt : Option Nat
  throttleOnly : Bool
  safeDue : Option Bool
  allowed : Nat
  noPower : Bool
  deriving DecidableEq, Repr

/-- t0 of a cold start from no power: no step has ended. -/
def StartSt.zero : StartSt :=
  { cold := true, warm := false, t0 := 0, ended := 0, warmTo := .serve, warmSafe := false, safeCold := false, change := none,
    queue := [], acqImage := 0, acqAt := 0, readyAt := none, throttleOnly := false, safeDue := none, allowed := 0x1FFF, noPower := false }

/-! ### Element drive, monitor conversion and loops (05_drive_and_sense.md, 06_loops.md) -/

/-- A bank of 25 slices (R98, R103): map gives the physical slice of each logical slice, retired the slices out of service,
inj the slot whose injected conversion its spare makes, first the slots that run before a due swap (R102). -/
structure Bank where
  map : List Nat
  retired : List Nat
  inj : Option Nat
  first : List Nat
  lastSwap : Nat
  tasted : Bool
  deriving DecidableEq, Repr

/-- A bank at reset: logical slice i on physical slice i, slice 24 the spare. -/
def Bank.zero : Bank := { map := upFrom 0 24, retired := [], inj := none, first := [], lastSwap := 0, tasted := false }

/-- A housekeeping slice (R106, R107): position in its sequence while one runs, the pending trigger, the injected conversion in
progress and the cause of the sequence. -/
structure HkSlice where
  pos : Option Nat
  pendingTrig : Bool
  inj : Option Nat
  cause : Nat
  deriving DecidableEq, Repr

def HkSlice.zero : HkSlice := { pos := none, pendingTrig := false, inj := none, cause := 0 }

/-- Drive channels and converters beyond their registers. initPark: the initial park of R93 applies; hold: reasons of the park
hold, 1 a dark port, 2 the safe state, 4 isolation; breaks: end of a range change and the range being connected (R94). -/
structure Drive where
  initPark : Tab Bool
  hold : Tab Nat
  breaks : Tab (Option (Nat × Nat))
  banks : Tab Bank
  hk : Tab HkSlice
  injWait : Tab Bool
  injPath : Tab (List Nat)
  blkFrames : Tab Nat
  deriving DecidableEq, Repr

def Drive.zero : Drive := { initPark := [], hold := [], breaks := [], banks := [], hk := [], injWait := [], injPath := [], blkFrames := [] }

/-- A loop beyond its registers (R118, R126 to R134). dem: samples of the demodulation window, newest first, as (p·ref, p);
ho: hand-over in progress, some 0 before the first loop sample, some i before correction sample h_i; prior: the loop state when a
sequencer took the element; owner: the sequencer that holds it, 3 block, 4 rack; base, step, gLast, confirm, slot, searched: the
search of R130 and R131; taken: a rack took it from a block sequence (R146); loopCode: the code its loop last computed (R74); since: when its
hand-over became due; isoOff: an isolation made it Off (R125). -/
structure LoopX where
  dem : List (Int × Int)
  ho : Option Nat
  prior : Nat
  owner : Nat
  base : Nat
  step : Nat
  gLast : Int
  confirm : Nat
  slot : Bool
  taken : Bool
  searched : Nat
  fromSeed : Bool
  since : Nat
  loopCode : Nat
  isoOff : Bool
  deriving DecidableEq, Repr

def LoopX.zero : LoopX :=
  { dem := [], ho := none, prior := 0, owner := 0, base := 0, step := 0, gLast := 0, confirm := 0, slot := false, taken := false, searched := 0,
    fromSeed := true, since := 0, loopCode := 0, isoOff := false }

/-- The loop engine beyond its registers: per element the record above; per node dT of the frame before and the differences
of both frames (R122, R123), the frames held so far; elements and lanes lost in the window in
progress (R115); the tick at which each block last ended a window; the tick that started the frame. -/
structure Loop where
  x : Tab LoopX
  dtOld : Tab Int
  diff : Tab Int
  diffOld : Tab Int
  held : Tab Nat
  lost : List Nat
  lostLanes : Tab Nat
  win : Tab Nat
  frame : Nat
  started : Bool
  deriving DecidableEq, Repr

def Loop.zero : Loop := { x := [], dtOld := [], diff := [], diffOld := [], held := [], lost := [], lostLanes := [], win := [], frame := 0, started := false }

/-! ### Events and capture (16_events_and_capture.md) -/

/-- A source event waiting for its channel pass (R354, R355, R361): its source, its path, its instant, and for an EVI source the
instant of the first transition of the accepted edge (R358). -/
structure Fire where
  src : Nat
  path : List Nat
  at_ : Nat
  edge : Option Nat
  deriving DecidableEq, Repr

/-- The event fabric beyond its registers: events that wait for their channel pass, the last accepted edge of each EVI pin, and
the end of each EVO pulse. -/
structure Evt where
  fired : List Fire
  lastEdge : Tab (Option Nat)
  evoEnd : Tab (Option Nat)
  deriving DecidableEq, Repr

def Evt.zero : Evt := { fired := [], lastEdge := [], evoEnd := [] }

/-- What a capture unit waits for before it takes its next sample (R368 to R370): its pre-trigger memory is full; a trigger is met at a
sample, with its position in 1/256 sample, its instant, the values and the path; its record is complete. -/
inductive HrvDue where
  | preFull
  | trigger (cause pos256 at_ : Nat) (vals : List Int) (path : List Nat)
  | complete
  deriving DecidableEq, Repr

/-- A record of a capture unit (R373): the address of its slot, its header, and the place of its oldest pre-trigger row. -/
structure HrvRec where
  seq : Nat
  addr : Nat
  cause : Nat
  pos256 : Nat
  gap : Bool
  stopped : Bool
  full : Bool
  rows : Nat
  sec : Nat
  ns : Nat
  preLen : Nat
  postLen : Nat
  lost : Nat
  nch : Nat
  k : Nat
  rate : Nat
  first : Nat
  deriving DecidableEq, Repr

/-- A capture unit beyond its registers: what it waits for; rows stored since it entered FILLING, and of the record after its trigger; the
interval being built, as minimum and maximum of each channel; the last sample; which conditions are ready, by direction; an event or
forced condition; the last sample instant; the slot; the record in progress and those kept; samples it is about to lose, and those the
record in progress lost; the path of its trigger. -/
structure Hrv where
  due : List HrvDue
  rows : Nat
  posted : Nat
  acc : List (Int × Int)
  accN : Nat
  last : List Int
  ready : List Bool
  evtAt : Option Nat
  force : Bool
  lastAt : Nat
  slot : Nat
  nextSeq : Nat
  cur : Option HrvRec
  recs : List HrvRec
  lose : Nat
  lost : Nat
  path : List Nat
  deriving DecidableEq, Repr

def Hrv.zero : Hrv :=
  { due := [], rows := 0, posted := 0, acc := [], accN := 0, last := [], ready := [], evtAt := none, force := false, lastAt := 0,
    slot := 0, nextSeq := 0, cur := none, recs := [], lose := 0, lost := 0, path := [] }

/-! ### Sequencers and tones (07_sequencers.md) -/

/-- A block sequencer beyond its registers (R142 to R149): the first segment of an armed start; the targets, latched at the
start tick; the next sample of the pass; words in the stream buffer, and segment, pass and word of the next one to fetch (R148);
when it starved; the end code a stop at the end of the
sample will record; a rack has made a target live (R146); the path of the start (R355). -/
structure SeqSt where
  armed : Option Nat
  targets : List Nat
  sample : Nat
  stream : List Nat
  fetch : Nat × Nat × Nat
  starvedAt : Nat
  stopAs : Option Nat
  mute : Bool
  path : List Nat
  deriving DecidableEq, Repr

def SeqSt.zero : SeqSt :=
  { armed := none, targets := [], sample := 0, stream := [], fetch := (0, 0, 0), starvedAt := 0, stopAs := none, mute := false, path := [] }

/-- Sequencers beyond their registers. mem: sample word a of block q at 32768 q + a; rackShadow: the shadow rack words as R318
numbers them; acc, tone, ref, refPrev, refPrev2: phase accumulator, and sine (2^30 for 1) of generator 32 q + g now, before the last
tone update and before the one before it; noTone: channels whose sample in force forbids their tone (R142); synced: blocks whose accumulators were set to
0 after power-up (R152). -/
structure Seq where
  q : Tab SeqSt
  mem : Tab (BitVec 16)
  rackShadow : Tab Word
  acc : Tab Word
  ref : Tab Int
  refPrev : Tab Int
  refPrev2 : Tab Int
  noTone : Tab Bool
  synced : BitVec 16
  deriving DecidableEq, Repr

def Seq.zero : Seq :=
  { q := [], mem := [], rackShadow := [], acc := [], ref := [], refPrev := [], refPrev2 := [], noTone := [], synced := 0 }

/-! ### Time bases (12_network_time.md) -/

/-- A time base: its value in 2^-48 ns at cycle cyc of its clock, the increment of each cycle, and the sum of the steps taken, which
residence times leave out (R261, R277). -/
structure TimeBase where
  val : Nat
  cyc : Nat
  inc : Nat
  steps : Int
  deriving DecidableEq, Repr

/-- At reset: 0 s, with an increment of exactly 2 ns (R261, R262). -/
def TimeBase.zero : TimeBase := { val := 0, cyc := 0, inc := 2 ^ 49, steps := 0 }

/-- A servo beyond its registers (R266 to R268): its integral in 2^-40 ppb, whether it waits for its first sample after EN, and
when its last sample came. -/
structure ServoX where
  i : Int
  first : Bool
  last : Nat
  deriving DecidableEq, Repr

def ServoX.zero : ServoX := { i := 0, first := false, last := 0 }

/-- A pulse input and output beyond its registers (R269, R270): when IN_EN was set or the last edge was accepted, whether an edge has
been accepted, whether the loss has been raised; when the output falls, while it is high. -/
structure PpsX where
  since : Nat
  edge : Bool
  lost : Bool
  falls : Option Nat
  deriving DecidableEq, Repr

def PpsX.zero : PpsX := { since := 0, edge := false, lost := false, falls := none }

/-- The time unit beyond its registers. snapM: MGMT's snapshot copy (R265); target: TARGET in force of unit 32 n + c (R273); tsq:
the timestamp queues (R275). -/
structure Tim where
  bases : Tab TimeBase
  snapM : Tab Word
  servo : Tab ServoX
  pps : Tab PpsX
  target : Tab Nat
  tsq : Tab (List (List Word))
  deriving DecidableEq, Repr

def Tim.zero : Tim := { bases := [], snapM := [], servo := [], pps := [], target := [], tsq := [] }

/-! ### Temperature and the thermal model (18_thermal_power_clocks.md) -/

/-- Thermal state beyond the registers: node differences ΔT in Q8.24 (R412); sweeps below 90.0 °C in a row (R405); whether the NOR and
the TCXO have a temperature (R411); the scale factors k_H and k_F in 2^-20 (R413), and when HC07, HC08 and HC09 last gave a
result; bits received by each pipeline in the frame; whether a sweep has run. -/
structure Thm where
  dT : Tab Int
  slow : Nat
  norOk : Bool
  tcxoOk : Bool
  kH : Nat
  kF : Nat
  hcAt : Tab Nat
  rxBits : Tab Nat
  swept : Bool
  deriving DecidableEq, Repr

def Thm.zero : Thm :=
  { dT := [], slow := 0, norOk := false, tcxoOk := false, kH := 2 ^ 20, kF := 2 ^ 20, hcAt := [], rxBits := [], swept := false }

/-! ### Lanes and tap transceivers (13_serial_lanes.md) -/

/-- Lanes beyond their registers: the bring-up step of each packet port (0 off, 9 up, R285); quads and tap transmitters isolated by
fault records (R298). -/
structure Lanes where
  step : Tab Nat
  isoQuad : BitVec 25
  isoTap : BitVec 32
  deriving DecidableEq, Repr

def Lanes.zero : Lanes := { step := [], isoQuad := 0, isoTap := 0 }

/-- What a completed bring-up step found: polarity inverted lanes (step 4), the lane map (step 6), skew in ns (step 7), FOM (step 8). -/
structure StepFound where
  inv : BitVec 4
  map : BitVec 8
  skew : BitVec 8
  fom : BitVec 8
  deriving DecidableEq, Repr

/-! ### Calibration (08_calibration.md) -/

/-- A CAL_RUN in progress (R175, R176): its request; KIND, 15 for a sweep; the items still to taste, as (KIND, index); the stage of a
sweep, a block or 16 for the sequencers; whether an item in its scope was not eligible; the outside has the 10 MHz reference. -/
structure CalRun where
  req : Req
  kind : Nat
  items : List (Nat × Nat)
  block : Nat
  left : Bool
  ref10m : Bool
  deriving DecidableEq, Repr

/-- Calibration beyond its registers: staged values that wait (R173), by item; the run; attempts made at a tasting (R163), by
(KIND, index); a CAL_RESTORE being applied. Staged curves lie in CAL_STAGE_x_w. -/
structure CalSt where
  dac : Tab (Option Word)
  chSkew : Tab (Option Word)
  slice : Tab (Option Word)
  hk : Tab (Option Word)
  seqSkew : Tab (Option Word)
  tap : Tab (Option Word)
  lane : Tab (Option (Word × Word))
  osc : Option Word
  run : Option CalRun
  tries : List ((Nat × Nat) × Nat)
  deriving DecidableEq, Repr

def CalSt.zero : CalSt :=
  { dac := [], chSkew := [], slice := [], hk := [], seqSkew := [], tap := [], lane := [], osc := none, run := none, tries := [] }

/-- An item whose staged value comes into force by itself (R173); those of ports come in at their bring-up. -/
inductive CalItem where
  | elem (x : Fin 9216)
  | slice (n : Fin 48) (p : Fin 25)
  | hk (m : Fin 8)
  | seqSkew (q : Fin 17)
  | osc
  deriving DecidableEq, Repr

/-! ### The packet plane (09_frame_pipeline.md, 10_tables.md, 11_scheduling.md) -/

/-- A forwarding result (R191, R212): unknown, or the port and DISCARD of the entry. -/
inductive Fwd where
  | unknown
  | to (port : Nat) (discard : Bool)
  deriving DecidableEq, Repr

/-- Where a frame stands in its pipeline (R193, R198, R200): waiting in the ingress FIFO, parked, decided and not committed, cut
through, or dropped; the last two wait for the end of the frame only. -/
inductive FStage where
  | fifo | parked | decided | cut | dropped
  deriving DecidableEq, Repr

/-- An outcome of decision and policing (R191, R250): the egress set, class, mirror mask, counter pairs, and the debit made, as the
policer, and the bytes taken from its peak and committed buckets. -/
structure Outc where
  drop : Bool
  ports : List Nat
  cls : Nat
  mirror : Nat
  pairs : List Nat
  debit : Option (Nat × Nat × Nat)
  deriving DecidableEq, Repr

def Outc.none : Outc := ⟨true, [], 0, 0, [], .none⟩

/-- A frame in a pipeline. data runs from the destination address to the byte before the FCS; t0 and lat are the instants at which
that address enters, and would leave under cut-through; tbIn holds the four time bases at t0 less their steps (R277); ptp is
PTP_OFF of a PTP frame (R275); srcOk answers the limit check of R221, where one is made; line: the key of the cache
line that fwd was read from; fcs: how the frame ended, while it waits; learned: its learn notice has been judged. -/
structure Fr where
  id : Nat
  port : Nat
  data : List Byte
  t0 : Nat
  lat : Nat
  tbIn : List Int
  stage : FStage
  vid : Nat
  pcp : Option Nat
  dst : Nat
  src : Nat
  ckey : Nat
  lpmKey : Option (Bool × Nat)
  ptp : Option Nat
  flow : Nat
  fwd : Option Fwd
  line : Option (Nat × Nat)
  srcHit : Bool
  srcOk : Option Bool
  fcs : Option Bool
  learned : Bool
  out : Outc
  deriving DecidableEq, Repr

/-- How a frame ends at its ingress port (R193, R290). -/
inductive FrameEnd where
  | pass | fcs | rate
  deriving DecidableEq, Repr

/-- A table-store read in progress (R198): the frame it serves, its pipeline, the keys it reads, and when it was issued. -/
structure TblRead where
  id : Nat
  pipe : Nat
  keys : List (Nat × Nat)
  at_ : Nat
  late : Bool
  deriving DecidableEq, Repr

/-- A line of a forwarding cache (R211). -/
structure Line where
  vid : Nat
  mac : Nat
  neg : Bool
  port : Nat
  disc : Bool
  hit : Bool
  deriving DecidableEq, Repr

/-- A forwarding entry (R209). -/
structure FEntry where
  stat : Bool
  disc : Bool
  vid : Nat
  mac : Nat
  port : Nat
  seen : Nat
  moves : Nat
  deriving DecidableEq, Repr

/-- A rehash in progress (R218): its request, none where a standby rehashes on its own (R450); the stash of the new region, and whether a STATIC entry found no place. -/
structure RehashRun where
  req : Option Req
  stash : List FEntry
  failed : Bool
  deriving DecidableEq, Repr

/-- A learn notice (R219): VID, address and ingress port. -/
structure Notice where
  vid : Nat
  mac : Nat
  port : Nat
  deriving DecidableEq, Repr

/-- A prefix (R229), or the hole one left (R230). -/
structure LpmSlot where
  len : Nat
  ent : Option (Nat × Nat)
  deriving DecidableEq, Repr

/-- A frame, or the copy of a frame for one egress port, in a queue (R237, R247): fid names the stored frame whose cells it shares;
mirror is the session of a mirror copy. -/
structure Copy where
  fid : Nat
  inPort : Nat
  data : List Byte
  tbIn : List Int
  ptp : Option Nat
  mask : Nat
  mirror : Option Nat
  deriving DecidableEq, Repr

/-- A token bucket (R242, R250): its level in 10^-9 byte at an instant. -/
structure Bucket where
  lvl : Int
  at_ : Nat
  deriving DecidableEq, Repr

def Bucket.zero : Bucket := ⟨0, 0⟩

/-- A child of the queue tree (R241): start and finish times, and whether it is in contention. -/
structure Child where
  st : Nat
  fin : Nat
  inC : Bool
  deriving DecidableEq, Repr

def Child.zero : Child := ⟨0, 0, false⟩

/-- A line of the counter accumulator (R256). -/
structure AccLine where
  pair : Nat
  pkts : Nat
  bytes : Nat
  at_ : Nat
  deriving DecidableEq, Repr

/-- A frame handed to an egress MAC: the port, its bytes, its FCS, and when its first bit leaves. -/
structure Sent where
  fid : Nat
  port : Nat
  data : List Byte
  fcs : Nat
  at_ : Nat
  deriving DecidableEq, Repr

/-- The packet plane beyond its registers. Class memory word w of entry e of PPn lies at 303104 n + 37 e + w; the SCH tables lie one
after another, as schBase places them. Nodes of the queue tree are numbered ports 0, services 96, subscribers 1120, queues 17504
upward. -/
structure Pk where
  memGiB : Nat
  ageT0 : Nat
  frames : List Fr
  nextId : Nat
  reads : List TblRead
  fcsErr : Tab Nat
  cache : Tab (List Line)
  stash : Tab (List FEntry)
  rehash : Tab (Option RehashRun)
  notices : Tab (List Notice)
  recent : Tab (List (Notice × Nat))
  lpm : Tab (List LpmSlot)
  cls : Tab Word
  clsShadow : Tab Word
  sch : Tab Word
  schShadow : Tab Word
  queues : Tab (List Copy)
  stored : List (Nat × Nat × Nat)
  node : Tab Bucket
  pol : Tab Bucket
  vt : Tab Nat
  child : Tab Child
  txEnd : Tab Nat
  acc : List AccLine
  sent : List Sent
  deriving DecidableEq, Repr

def Pk.zero : Pk :=
  { memGiB := 4, ageT0 := 0, frames := [], nextId := 0, reads := [], fcsErr := [], cache := [], stash := [], rehash := [],
    notices := [], recent := [], lpm := [], cls := [], clsShadow := [], sch := [], schShadow := [], queues := [], stored := [],
    node := [], pol := [], vt := [], child := [], txEnd := [], acc := [], sent := [] }

/-! ### The redundant pair (20_redundant_pair.md) -/

/-- A mirror record on Graft (R445): an entry of a forwarding table, its removal, a prefix or its removal, a register, or a
committed set with both vintages; or an EXCHANGE that the standby relays (R454). -/
inductive MirrorRec where
  | fdb (pipe : Nat) (e : FEntry)
  | fdbGone (pipe vid mac : Nat)
  | lpm (pipe : Nat) (v6 : Bool) (pre len act : Nat)
  | lpmGone (pipe : Nat) (v6 : Bool) (pre len : Nat)
  | reg (off : Nat) (v : Word)
  | set (regs rackSeq cls sch : Tab Word) (vFabric vPacket : Nat)
  | exchange (force : Bool)
  deriving DecidableEq, Repr

/-- The pair beyond its registers. out: mirror records sent; exch: the request of an exchange in progress and the mode before it;
resync: a resync in progress, with the request that asked for it; relSince: when the released line was first seen; guard: the
release is confirmed and the guard runs; peer, peerPref: the role the peer last reported, and its PAIR_PREF strap; roleSince: the last change
of role; downSince: when the last Graft lane went down; lost: PAIR_LINK_LOST raised for it; gaveUp: the member gave up ACTIVE by an exchange
and has not seen the line low since. -/
structure PairSt where
  out : List MirrorRec
  exch : Option (Option Req × Nat)
  resync : Bool
  resyncReq : Option (Req × Nat)
  relSince : Option Nat
  guard : Bool
  peer : Nat
  peerPref : Bool
  roleSince : Nat
  downSince : Nat
  lost : Bool
  gaveUp : Bool
  deriving DecidableEq, Repr

def PairSt.zero : PairSt :=
  { out := [], exch := none, resync := false, resyncReq := none, relSince := none, guard := false, peer := 3, peerPref := false, roleSince := 0,
    downSince := 0, lost := false, gaveUp := false }

end Sys2Proof.Machine
end

