-- ==== Sys2Proof/Syntax.lean ====
section
/-! DEFINITION. The commands of the module: one constructor for each row of spec/opcode_table.json, in the table's order, with
the operands that the rules give the row and, for an event of the outside world, what the outside presents. -/

namespace Sys2Proof

open Sys2Proof.Machine

/-- One command: a register access, a descriptor started from a ring, an event on a pin, a link or a sensor, or an instant at
which one of the module's own engines completes a step. -/
inductive Instr where
  /-- REGISTER_WRITE (R5): A host or processor write to a register that has no row of its own, judged by the access code and owner rules. -/
  | registerWrite (o : Owner) (off : BitVec 24) (n : Fin 9) (v : BitVec 64)
  /-- READ_CLEAR (R4): A read of an RC field returns its value and clears it, keeping any count made by the device in the same cycle. -/
  | readClear (o : Owner) (off : BitVec 24) (n : Fin 9)
  /-- SNAPSHOT_READ_LO (R323): A read of a _LO register returns bits [31:0] and snapshots all 64 bits of the pair for that requester. -/
  | snapshotReadLo (o : Owner) (off : BitVec 24) (n : Fin 9)
  /-- NOP (R313): A NOP descriptor returns bytes 32 to 47 of the descriptor in RESULT_WORDS. -/
  | nop (sq : Fin 32) (d : Desc)
  /-- SHADOW_WRITE_FAB_MAP (R54): A SHADOW_WRITE writes fabric map entries, clears SOLVED and ends a running solve or check with STALE. -/
  | shadowWriteFabMap (sq : Fin 32) (d : Desc) (buf : Buf)
  /-- SHADOW_WRITE_FAB_CELLS (R54): A SHADOW_WRITE writes state words of the shadow image, clears SOLVED and ends a running solve or check with STALE. -/
  | shadowWriteFabCells (sq : Fin 32) (d : Desc) (buf : Buf)
  /-- SHADOW_WRITE_LOOP_CFG (R138): A SHADOW_WRITE writes shadow loop configuration record words, with words 1 and 2 of F and attenuator records replaced. -/
  | shadowWriteLoopCfg (sq : Fin 32) (d : Desc) (buf : Buf)
  /-- SHADOW_WRITE_RACK_SEQ (R158): A SHADOW_WRITE writes the shadow rack segment table, rack samples and kind definitions. -/
  | shadowWriteRackSeq (sq : Fin 32) (d : Desc) (buf : Buf)
  /-- SHADOW_WRITE_PIPE_GRAPH (R184): A SHADOW_WRITE writes shadow parser graph nodes and clears SEALED. -/
  | shadowWritePipeGraph (sq : Fin 32) (d : Desc) (buf : Buf)
  /-- SHADOW_WRITE_PIPE_TMPL (R189): A SHADOW_WRITE writes shadow key template slots and clears SEALED. -/
  | shadowWritePipeTmpl (sq : Fin 32) (d : Desc) (buf : Buf)
  /-- SHADOW_WRITE_PIPE_PORT (R206): A SHADOW_WRITE writes shadow forwarding records of packet ports and clears SEALED. -/
  | shadowWritePipePort (sq : Fin 32) (d : Desc) (buf : Buf)
  /-- SHADOW_WRITE_PIPE_CLASS (R226): A SHADOW_WRITE writes shadow classification entries in the pipelines of its mask and clears SEALED. -/
  | shadowWritePipeClass (sq : Fin 32) (d : Desc) (buf : Buf)
  /-- SHADOW_WRITE_SCH (R260): A SHADOW_WRITE writes records of one shadow scheduler table and clears SEALED. -/
  | shadowWriteSch (sq : Fin 32) (d : Desc) (buf : Buf)
  /-- SHADOW_WRITE_LANE_PORT (R283): A SHADOW_WRITE writes shadow port records of lanes and taps and clears SEALED. -/
  | shadowWriteLanePort (sq : Fin 32) (d : Desc) (buf : Buf)
  /-- PKT_SEAL (R59): A SHADOW_WRITE to PKT_SEAL sets SEALED and makes the packet shadow rackable. -/
  | pktSeal (sq : Fin 32) (d : Desc)
  /-- TIM_OFFSET (R267): A SHADOW_WRITE to TIM_OFFSET delivers a host offset sample to the servo of the named time base. -/
  | timOffset (sq : Fin 32) (d : Desc)
  /-- SOLVE (R55): A SOLVE request in mode 0 is queued and solves the shadow map against the active image and failed set. -/
  | solve (sq : Fin 32) (d : Desc)
  /-- CHECK_ONLY (R55): A SOLVE request in mode 1 checks the shadow image as written, under R38, R42 and R51. -/
  | checkOnly (sq : Fin 32) (d : Desc)
  /-- SOLVE_RACK_AFTER_ACCEPT (R64): The solver accepts a queued SOLVE with RACK_AFTER = 1 at the instant 512 ns before a boundary tick. -/
  | solveRackAfterAccept
  /-- SOLVE_RESULT_HELD (R53): A solve or check ends with its checked result held, sets SOLVED or a failure result, and may trigger a rack. -/
  | solveResultHeld (forced : Option (Fin 256 × Fin 5))
  /-- SOLVE_ABORT (R58): A write of FAB_SOLVE_CTRL.ABORT ends the running host solve or check with ABORTED. -/
  | solveAbort
  /-- FAILED_CELL_MARK (R47): A FAB_FAILED_EDIT with OP 1 marks a fabric cell failed, taking effect at the next solve. -/
  | failedCellMark (cell : BitVec 13)
  /-- FAILED_CELL_CLEAR (R47): A FAB_FAILED_EDIT with OP 2 clears a failed cell, or is ignored and sets EDIT_REFUSED while its fault record is open. -/
  | failedCellClear (cell : BitVec 13)
  /-- FAULT_RESOLVE_START (R48): The fabric processor starts a fault re-solve after a record isolates a live plane cell, or restarts it on a further isolation. -/
  | faultResolveStart
  /-- FAULT_RESOLVE_RESULT (R48): A fault re-solve ends with a checked repair image that triggers a fault rack, or leaves the displaced connections dark. -/
  | faultResolveResult (forced : Option (Fin 256 × Fin 5))
  /-- RACK (R63): A RACK request with OP 0 delivers a rack trigger for the named domains and timing set. -/
  | rack (sq : Fin 32) (d : Desc)
  /-- RACK_WITHDRAW (R83): A RACK request with OP 1 withdraws the rack in progress before its commit point, the pending trigger and a deferred trigger. -/
  | rackWithdraw (sq : Fin 32) (d : Desc)
  /-- WITHDRAW_WRITE (R83): A write of 1 to FAB_RACK_CTRL.WITHDRAW withdraws racks and triggers as a withdraw request does. -/
  | withdrawWrite
  /-- RACK_TRIGGER_TICK (R62): At the first boundary tick after a rack trigger reaches the fabric controller, the trigger is taken, made pending or refused. -/
  | rackTriggerTick
  /-- UNIT_PREPARE_REPORT (R69): A participating unit ends its prepare with a ready report or a refusal that aborts the rack. -/
  | unitPrepareReport (u : Fin 23)
  /-- READY_COLLECTION (R69): Before each boundary tick the fabric controller checks for every ready report, or increments TRIES and rolls back pre-bias. -/
  | readyCollection
  /-- COMMIT_BROADCAST (R70): At the commit point the rack becomes irrevocable and the rack sequencer drives the blank, switch and unblank phases. -/
  | commitBroadcast
  /-- COMMIT_TICK (R71): At the commit tick every participating unit applies its staged part, the sets swap and the vintages change. -/
  | commitTick (late : BitVec 23)
  /-- COMMIT_SKEW (R72): A unit that has not confirmed its apply by the commit tick plus 128 ns raises COMMIT_SKEW. -/
  | commitSkew
  /-- PREPARE_TIMEOUT (R69): A rack that has passed no commit point within DEADLINE of its trigger tick aborts with PREPARE_TIMEOUT. -/
  | prepareTimeout
  /-- PENDING_TRIGGER_JUDGED (R65): At the first boundary tick after a rack commits or aborts, the pending trigger is judged. -/
  | pendingTriggerJudged
  /-- LIMP_DEFERRAL_END (R85): A trigger deferred in Limp is taken at the first boundary tick 100 µs after the previous commit tick. -/
  | limpDeferralEnd
  /-- FDB_INSERT (R232): TABLE_OP FDB_INSERT writes a STATIC forwarding entry in each pipeline of the mask. -/
  | fdbInsert (sq : Fin 32) (d : Desc)
  /-- FDB_REMOVE (R232): TABLE_OP FDB_REMOVE removes an entry from buckets or stash. -/
  | fdbRemove (sq : Fin 32) (d : Desc)
  /-- FDB_READ (R232): TABLE_OP FDB_READ returns the entry of a key from the lowest pipeline in the mask. -/
  | fdbRead (sq : Fin 32) (d : Desc) (buf : Buf)
  /-- FDB_FLUSH (R232): TABLE_OP FDB_FLUSH removes the entries that match a port and VID. -/
  | fdbFlush (sq : Fin 32) (d : Desc)
  /-- REHASH (R218): TABLE_OP REHASH starts copying a pipeline's table into its other region under a new seed. -/
  | rehash (sq : Fin 32) (d : Desc)
  /-- FDB_DUMP (R232): TABLE_OP FDB_DUMP writes every entry of one pipeline to a host buffer. -/
  | fdbDump (sq : Fin 32) (d : Desc) (buf : Buf)
  /-- LPM_INSERT (R230): TABLE_OP LPM_INSERT places a prefix in the longest-prefix memory. -/
  | lpmInsert (sq : Fin 32) (d : Desc)
  /-- LPM_REMOVE (R232): TABLE_OP LPM_REMOVE removes a prefix entry. -/
  | lpmRemove (sq : Fin 32) (d : Desc)
  /-- STREAM_WRITE (R232): TABLE_OP STREAM_WRITE copies host data to Cellar at 0x1500_0000 or above. -/
  | streamWrite (sq : Fin 32) (d : Desc) (buf : Buf)
  /-- REHASH_SWAP (R218): A rehash copy completes and the new seed and region become current, or the rehash fails. -/
  | rehashSwap (n : Fin 4)
  /-- COUNTER_DUMP (R257): COUNTER_DUMP folds, reads and optionally clears counter pairs into a host buffer. -/
  | counterDump (sq : Fin 32) (d : Desc) (buf : Buf)
  /-- CAL_RUN (R175): CAL_RUN with OP 0 starts tastings of a kind, or a full-fabric sweep. -/
  | calRun (sq : Fin 32) (d : Desc) (ref10m : Bool)
  /-- CAL_RUN_ABORT (R175): CAL_RUN with OP 1 ends the run in progress with ABORTED. -/
  | calRunAbort (sq : Fin 32) (d : Desc)
  /-- CAL_SAVE (R179): CAL_SAVE writes the active calibration values of the kinds requested as an image to a host buffer. -/
  | calSave (sq : Fin 32) (d : Desc) (buf : Buf)
  /-- CAL_RESTORE (R180): CAL_RESTORE checks a calibration image and stages its records. -/
  | calRestore (sq : Fin 32) (d : Desc) (buf : Buf)
  /-- HARVEST_ARM (R372): HARVEST_ARM with OP 0 checks a capture unit's set-up and enters FILLING. -/
  | harvestArm (sq : Fin 32) (d : Desc)
  /-- HARVEST_STOP (R372): HARVEST_ARM with OP 1 puts a capture unit in IDLE, keeping a record in POST as STOPPED. -/
  | harvestStop (sq : Fin 32) (d : Desc)
  /-- HARVEST_FORCE (R372): HARVEST_ARM with OP 2 meets trigger condition 4 at the next sample. -/
  | harvestForce (sq : Fin 32) (d : Desc)
  /-- HARVEST_READ (R373): HARVEST_READ writes a capture record's header and rows to a host buffer. -/
  | harvestRead (sq : Fin 32) (d : Desc) (buf : Buf) (bad : Bool)
  /-- LOG_READ (R351): LOG_READ writes Lees log records at or above a severity, from a LOG_SEQ onward, to a host buffer. -/
  | logRead (sq : Fin 32) (d : Desc) (buf : Buf)
  /-- IMAGE_WRITE (R345): IMAGE_WRITE programs part of an image into a slot, beginning a new image at offset 0. -/
  | imageWrite (sq : Fin 32) (d : Desc) (buf : Buf)
  /-- IMAGE_COMMIT (R346): IMAGE_COMMIT with OP 0 verifies a written slot, writes its commit flag and makes it the preferred trial slot. -/
  | imageCommit (sq : Fin 32) (d : Desc)
  /-- IMAGE_CONFIRM (R346): IMAGE_COMMIT with OP 1 confirms the running trial slot and fuses its floor. -/
  | imageConfirm (sq : Fin 32) (d : Desc)
  /-- IMAGE_SELECT (R346): IMAGE_COMMIT with OP 2 makes a confirmed slot PREFERRED. -/
  | imageSelect (sq : Fin 32) (d : Desc)
  /-- MODE_SET_LIMP (R439): MODE_SET with TARGET 1 requests a two-phase change to Limp. -/
  | modeSetLimp (sq : Fin 32) (d : Desc)
  /-- MODE_SET_SERVE (R439): MODE_SET with TARGET 2 requests a two-phase change to Serve, refused while throttled or unacknowledged. -/
  | modeSetServe (sq : Fin 32) (d : Desc)
  /-- MODE_SET_DORMANT (R439): MODE_SET with TARGET 3 requests a two-phase change to Dormant. -/
  | modeSetDormant (sq : Fin 32) (d : Desc)
  /-- MODE_SET_WARM_START (R439): MODE_SET with TARGET 4 requests a warm start. -/
  | modeSetWarmStart (sq : Fin 32) (d : Desc)
  /-- MODE_SET_COLD_START (R439): MODE_SET with TARGET 5 requests a cold start. -/
  | modeSetColdStart (sq : Fin 32) (d : Desc)
  /-- PAIR_EXCHANGE (R454): PAIR_CMD EXCHANGE carries out, or relays to the active, a role exchange from Serve or Limp to Shadow. -/
  | pairExchange (sq : Fin 32) (d : Desc) (standby : Bool)
  /-- PAIR_RESYNC (R449): PAIR_CMD RESYNC starts a resync of the whole mirrored content. -/
  | pairResync (sq : Fin 32) (d : Desc)
  /-- FAULT_ACK (R386): FAULT_ACK with OP 0 acknowledges one open fault record. -/
  | faultAck (sq : Fin 32) (d : Desc)
  /-- FAULT_RELEASE (R386): FAULT_ACK with OP 1 acknowledges a CONTAIN record and lifts its isolation once its checks pass. -/
  | faultRelease (sq : Fin 32) (d : Desc) (checkOk : Bool)
  /-- FAULT_ACK_UP_TO (R386): FAULT_ACK with OP 2 acknowledges every open record up to a LOG_SEQ. -/
  | faultAckUpTo (sq : Fin 32) (d : Desc)
  /-- DOORBELL_POLL (R306): Every POLL period the device reads the doorbell array and learns new tails and heads. -/
  | doorbellPoll (arr : BitVec 2048)
  /-- HIF_NUDGE (R306): A write to HIF_NUDGE starts a doorbell array read within 100 ns. -/
  | hifNudge
  /-- DESCRIPTOR_FETCH (R307): Descriptor data fetched from a submission ring arrives and becomes ready to start. -/
  | descriptorFetch (n : Fin 32) (d : Desc)
  /-- COMPLETION_WRITE (R308): The device writes a completion once its result is known and its completion ring has space. -/
  | completionWrite (c : Fin 32)
  /-- BEACON_WRITE (R322): The device writes the 64-byte status beacon every PERIOD and within 2 µs of a change of ATTN_SEQ or mode. -/
  | beaconWrite
  /-- HOST_MEMORY_ERROR (R309): A host memory access ends in error or a tail or head is out of range, and the ring or beacon is stopped. -/
  | hostMemoryError (e : HostErr)
  /-- ATTN_ACK (R320): A write of HIF_ATTN_ACK clears the acknowledged attention classes. -/
  | attnAck (v : Word)
  /-- HIF_ENABLE (R306): A write of HIF_CTRL.EN from 0 to 1 starts the ring engine and the first doorbell read. -/
  | hifEnable
  /-- SQ_ENABLE (R325): A write of HIF_SQ_CFG_n.EN from 0 to 1 enables a submission ring with HEAD 0 and ERR clear. -/
  | sqEnable (n : Fin 32) (v : Word)
  /-- CQ_ENABLE (R325): A write of HIF_CQ_CFG_n.EN from 0 to 1 enables a completion ring with TAIL 0 and PHASE 1. -/
  | cqEnable (n : Fin 32) (v : Word)
  /-- BUS_MASTER_DISABLE (R302): Bus Master Enable goes to 0 and the device stops all host memory accesses. -/
  | busMasterDisable
  /-- SOFT_RESET (R324): A write of HIF_CTRL.SOFT_RESET resets the ring engine. -/
  | softReset
  /-- FUNCTION_LEVEL_RESET (R324): A function level reset resets the ring engine and configuration space. -/
  | functionLevelReset
  /-- HOT_RESET (R324): A PCI Express hot reset resets the ring engine and configuration space. -/
  | hotReset
  /-- PCIE_LINK_LOSS (R324): Loss of the PCI Express link resets the ring engine. -/
  | pcieLinkLoss
  /-- PERST_N_ASSERT (R462): PERST_N resets the PCI Express controller and acts as loss of the link. -/
  | perstNAssert
  /-- D3HOT_ENTRY (R302): A move to D3hot acts as a function level reset of the host interface. -/
  | d3hotEntry
  /-- HOST_DIRECT_DRIVE (R91): A host write of DRV_CH_CODE_x.CODE drives an idle element's channel directly, or is refused. -/
  | hostDirectDrive (x : Fin 9216) (code : BitVec 14)
  /-- RANGE_CHANGE (R94): A write of DRV_CH_CFG_x.RANGE with the loop Off parks the channel and starts a 2 µs break. -/
  | rangeChange (x : Fin 9216) (range : BitVec 2)
  /-- RANGE_BREAK_END (R94): After the 2 µs break the new range is connected at code 0. -/
  | rangeBreakEnd (x : Fin 9216)
  /-- DRV_LIMIT_DETECT (R95): A channel's limiter engaged for 64 ns sets LIMIT and, in ranges 1 and 2, raises DRV_OUTPUT. -/
  | drvLimitDetect (x : Fin 9216) (engaged : Bool)
  /-- DRV_OPEN_DETECT (R95): A channel held at compliance for 1 µs sets OPEN and raises DRV_OUTPUT. -/
  | drvOpenDetect (x : Fin 9216)
  /-- MONITOR_CONVERSION_DONE (R100): At a boundary tick a slice's conversion ends and its result reaches the loop engine and DRV_MON_x. -/
  | monitorConversionDone (n : Fin 48) (a : Fin 24) (k : Fin 8) (code : BitVec 12)
  /-- SPARE_SWAP (R103): At a boundary tick a due swap brings the spare into logical slice NEXT_POS and retires the old slice to spare. -/
  | spareSwap (n : Fin 48)
  /-- HK_TIMER_TRIGGER (R106): A housekeeping slice's PERIOD timer triggers its channel sequence. -/
  | hkTimerTrigger (m : Fin 8)
  /-- HK_CONVERTER_EDGE (R106): The (DIVIDE + 1)-th turn-on edge of the input converter phase triggers a housekeeping sequence. -/
  | hkConverterEdge (m : Fin 8)
  /-- HK_CONVERSION_DONE (R107): A housekeeping conversion completes, its result is held, and the sequence or pending work continues. -/
  | hkConversionDone (m : Fin 8) (code : BitVec 12)
  /-- INJECTED_CONVERSION_DONE (R108): An injected conversion completes and its result is held in DRV_INJ_RESULT_i. -/
  | injectedConversionDone (j : Fin 16) (code : BitVec 12)
  /-- LOOP_FRAME_START (R112): At every eighth boundary tick a loop frame starts and the thermal model publishes node temperatures. -/
  | loopFrameStart
  /-- FF_STALE (R123): A node held for 125 consecutive frames raises FF_STALE once. -/
  | ffStale (b : Fin 16)
  /-- LOOP_GROUP_WINDOW (R112): A loop block computes one element group in its window and writes their outputs at the group's output tick. -/
  | loopGroupWindow (b : Fin 16) (k : Fin 8) (stall : Nat)
  /-- ACQ_TIMEOUT (R131): An element that has searched for ACQ_TIMEOUT without locking raises ACQ_TIMEOUT and begins again. -/
  | acqTimeout (x : Fin 9216)
  /-- LOOP_LANE_LOST (R115): A lane that fails its residue check is removed at the end of the window, possibly raising LOOP_LANES_LOW. -/
  | loopLaneLost (b : Fin 16) (xs : List (Fin 576))
  /-- LOOP_CMD_REACQUIRE (R125): LOOP_CMD REACQUIRE moves an idle element's loop from Hold to Acquire, or is refused. -/
  | loopCmdReacquire (element : BitVec 14)
  /-- SEQ_CMD_START (R143): SEQ_CMD_q with OP 1 requests a block sequence from segment FIRST, or is refused. -/
  | seqCmdStart (q : Fin 16) (first : BitVec 12)
  /-- SEQ_CMD_STOP (R145): SEQ_CMD_q with OP 2 ends a running sequence at the end of its sample, or cancels an armed start. -/
  | seqCmdStop (q : Fin 16)
  /-- SEQ_CMD_JUMP (R144): SEQ_CMD_q with OP 3 sets a pending jump request, or merges or drops it. -/
  | seqCmdJump (q : Fin 16)
  /-- SEQ_START_TICK (R143): At the boundary tick after a start request, the targets enter Sequenced and the first segment runs. -/
  | seqStartTick (q : Fin 16)
  /-- SEQ_PASS_END (R144): A segment pass ends, and the sequencer repeats, continues, jumps or ends by JMP_MODE. -/
  | seqPassEnd (q : Fin 16)
  /-- SEQ_STREAM_DATA_ARRIVAL (R149): Streamed words reach the buffer, and a starved sequencer resumes with the sample that was due. -/
  | seqStreamDataArrival (q : Fin 16) (n : Nat) (bad : Bool) (ns : Fin 1000)
  /-- SEQ_STARVE_ABORT (R150): A starvation longer than STARVE_LIMIT ends the sequence and raises SEQ_STARVE. -/
  | seqStarveAbort (q : Fin 16)
  /-- SEQ_SYNC_LOST (R159): A sequencer that misses a synchronising pulse raises SEQ_SYNC_LOST within 1 µs. -/
  | seqSyncLost (q : Fin 17)
  /-- SEQ_MEM_DATA_ACCESS (R161): An access of SEQ_MEM_DATA_q reads or writes the sample word at SEQ_MEM_ADDR_q and increments the address. -/
  | seqMemDataAccess (q : Fin 16) (v : Option (BitVec 16))
  /-- TASTING_MEASUREMENT_DONE (R163): A tasting measurement completes, and the tasting repeats, is accepted and staged, or fails. -/
  | tastingMeasurementDone (kind : Fin 9) (index : Fin 9233) (slice : Fin 25) (m1 : List Int) (m2 : List Int) (quality : Nat)
  /-- STAGED_VALUE_IN_FORCE (R173): A staged calibration value comes into force at the first instant its item allows. -/
  | stagedValueInForce (item : CalItem)
  /-- HK_SELF_TASTING (R171): Once per second a housekeeping slice makes its self-tasting while no work is pending. -/
  | hkSelfTasting (m : Fin 8) (m1 : List Int) (m2 : List Int) (quality : Nat)
  /-- FRAME_INGRESS (R184): A frame's first 64 bytes are gathered and it is parsed, keyed, looked up, decided and policed. -/
  | frameIngress (p : Fin 96) (data : List Byte) (ns : Fin 1000) (lat : Nat)
  /-- FRAME_END (R193): A frame's FCS is judged, and a stored frame is enqueued or discarded and its source learned. -/
  | frameEnd (p : Fin 96) (how : FrameEnd) (ns : Fin 1000)
  /-- CELLAR_READ_ANSWER (R198): A table-store read answers, fills the cache and returns the parked frame to decision. -/
  | cellarReadAnswer (id : Nat) (ns : Fin 1000)
  /-- READ_LIMIT_EXPIRY (R198): A table-store read not answered within READ_LIMIT is taken as unknown and raises PIPE_READ_LATE. -/
  | readLimitExpiry (id : Nat) (ns : Fin 1000)
  /-- INGRESS_FAIL_AFTER_COMMIT (R201): A cut-through frame whose ingress fails after commit is stomped at egress. -/
  | ingressFailAfterCommit (p : Fin 96) (sent : Nat) (ns : Fin 1000)
  /-- LEARN_NOTICE_APPLY (R220): The table keeper applies a learn notice by insertion, refresh or move. -/
  | learnNoticeApply (n : Fin 4)
  /-- STASH_PLACEMENT (R216): Every 10 ms, and when a slot frees, the table keeper tries to place stash entries. -/
  | stashPlacement (n : Fin 4)
  /-- AGE_SWEEP (R225): A periodic sweep removes dynamic entries older than AGE_TIME. -/
  | ageSweep (n : Fin 4)
  /-- HIT_WRITEBACK (R225): Once per second the table keeper writes set HIT marks back to LAST_SEEN. -/
  | hitWriteback
  /-- EGRESS_SELECT (R240): When a port's MAC can take a frame, Cooper selects one down the tree under the gates and shapers. -/
  | egressSelect (p : Fin 96) (ns : Fin 1000)
  /-- GATE_ENTRY_START (R243): A gate list entry begins and the open classes of the port change. -/
  | gateEntryStart (p : Fin 96) (ns : Fin 1000)
  /-- COUNTER_FOLD (R256): The table keeper folds an accumulator line into Cellar on eviction, threshold or age. -/
  | counterFold (pair : BitVec 20)
  /-- SCH_IND_SEL_WRITE (R260): A write of SCH_IND_SEL loads the selected record into SCH_IND_DATA_w. -/
  | schIndSelWrite (v : Word)
  /-- TIM_SET (R264): TIM_TB_CMD SET loads a time base from its operand as a step. -/
  | timSet (n : Fin 4) (ns : Fin 1000)
  /-- TIM_ADD (R264): TIM_TB_CMD ADD adds a signed operand to a time base as a host step. -/
  | timAdd (n : Fin 4) (ns : Fin 1000)
  /-- TIM_CLEAR_INT (R264): TIM_TB_CMD CLEAR_INT sets a servo's integral to 0. -/
  | timClearInt (n : Fin 4)
  /-- TIM_SNAP_CMD (R265): A write of TIM_SNAP_CMD latches the named time bases into the requester's snapshot. -/
  | timSnapCmd (o : Owner) (mask : BitVec 4) (ns : Fin 1000)
  /-- PPS_INPUT_EDGE (R269): An accepted PPSIn edge latches its time and delivers a pulse offset sample. -/
  | ppsInputEdge (n : Fin 4) (rising : Bool) (ns : Fin 1000)
  /-- PPS_LOST (R269): No accepted edge on an enabled PPSIn for 1.5 s raises TIM_PPS_LOST. -/
  | ppsLost (n : Fin 4)
  /-- SERVO_HOLDOVER (R268): No offset sample for HOLD_MS puts the servo in holdover. -/
  | servoHoldover (n : Fin 4)
  /-- COMPARE_FIRE (R272): A compare unit fires when its time base reaches TARGET and activates its event source. -/
  | compareFire (n : Fin 4) (c : Fin 32) (ns : Fin 1000)
  /-- PPSO_FALL (R270): PPSOn falls WIDTH µs after rising. -/
  | ppsoFall (n : Fin 4) (ns : Fin 1000)
  /-- COMPARE_TARGET_HI_WRITE (R273): A write of TARGET_HI brings the new compare target into effect, firing late when already passed. -/
  | compareTargetHiWrite (n : Fin 4) (c : Fin 32) (v : Word)
  /-- TSQ_HEAD_LATCH (R275): A read of timestamp queue word 0 latches the head record. -/
  | tsqHeadLatch (n : Fin 4)
  /-- TSQ_RECORD_REMOVE (R275): A read of timestamp queue word 3 removes the head record. -/
  | tsqRecordRemove (n : Fin 4)
  /-- OSC_COMP_UPDATE (R279): Once per millisecond OSC_PPB is recomputed from the TCXO temperature. -/
  | oscCompUpdate
  /-- BRINGUP_STEP_DONE (R285): A bring-up step of a port completes and the next begins, ending in link up. -/
  | bringupStepDone (p : Fin 96) (f : StepFound)
  /-- BRINGUP_STEP_LIMIT (R285): A bring-up step passes its limit and the port returns to step 2. -/
  | bringupStepLimit (p : Fin 96)
  /-- LINK_DOWN (R286): A port that is up loses signal, lock or FOM and restarts at step 2. -/
  | linkDown (p : Fin 96) (los : Bool)
  /-- LANE_CFG_WRITE (R284): A write of LANE_CFG_x applies electrical settings and restarts bring-up on an RX_POL or LOOPBACK change. -/
  | laneCfgWrite (x : Fin 66) (v : Word)
  /-- LANE_PRBS_WRITE (R299): A write of LANE_PRBS_x starts a PRBS test on a MODE 0 port, or is refused. -/
  | lanePrbsWrite (x : Fin 66) (v : Word)
  /-- LPI_TX_ENTER (R291): A transmit direction with nothing to send for LPI_IDLE µs enters low-power idle. -/
  | lpiTxEnter (p : Fin 64)
  /-- LPI_TX_WAKE (R291): A sleeping transmit direction wakes when Cooper has a frame for the port. -/
  | lpiTxWake (p : Fin 64)
  /-- LPI_RX_SLEEP (R291): A receive direction sleeps when the far end signals low-power idle. -/
  | lpiRxSleep (p : Fin 64)
  /-- LPI_RX_WAKE (R291): A sleeping receive direction wakes at the far end's wake. -/
  | lpiRxWake (p : Fin 64)
  /-- TAP_LOS (R294): A tap receiver's power below the LOS level for 10 µs reports loss of signal. -/
  | tapLos (k : Fin 32)
  /-- TAP_LASER_LOW (R295): A laser input below LOW_THRESH for 10 µs turns off its eight tap transmitters. -/
  | tapLaserLow (n : Fin 4) (power : BitVec 16)
  /-- TAP_LASER_RESTORE (R295): A laser input above LOW_THRESH plus 0.5 dB for 1 ms turns its tap transmitters back on. -/
  | tapLaserRestore (n : Fin 4) (power : BitVec 16)
  /-- TAP_TX_FAULT (R298): A tap modulator bias outside its range for 10 µs raises TAP_TX_FAULT. -/
  | tapTxFault (k : Fin 32)
  /-- LANE_PLL_UNLOCK (R298): A quad's transmit synthesiser loses lock and raises LANE_PLL_UNLOCK. -/
  | lanePllUnlock (k : Fin 25)
  /-- EVI_EDGE (R358): An edge on an EVI pin passes the filter and hold-off and fires its source, or is ignored. -/
  | eviEdge (n : Fin 16) (rising : Bool) (stable : Bool) (ns : Fin 1000)
  /-- EVT_SW_PULSE (R355): A write of EVT_SW_PULSE fires the software pulse sources. -/
  | evtSwPulse (v : BitVec 8)
  /-- EVENT_ACTIVATION (R354): A source event passes through every enabled channel that takes it to up to four tasks each. -/
  | eventActivation
  /-- EVO_PULSE_END (R359): An EVO pin in pulse mode falls WIDTH event cycles after its last activation. -/
  | evoPulseEnd (k : Fin 8)
  /-- EVT_CH_OWN_WRITE (R362): A write of EVT_CH_OWN_c claims, releases or changes a channel's ownership under the owner rules. -/
  | evtChOwnWrite (o : Owner) (c : Fin 64) (v : Word)
  /-- EVT_CH_CFG_WRITE (R362): A write of a channel's configuration or tasks is accepted or refused by owner and secure state. -/
  | evtChCfgWrite (o : Owner) (c : Fin 64) (tasks : Bool) (v : Word)
  /-- HRV_PRETRIGGER_FULL (R368): A capture unit in FILLING has stored PRE_LEN rows and becomes ARMED. -/
  | hrvPretriggerFull (u : Fin 16)
  /-- HRV_TRIGGER (R370): A trigger condition is met at a sample and is accepted in ARMED or counted as ignored. -/
  | hrvTrigger (u : Fin 16)
  /-- HRV_RECORD_COMPLETE (R368): A capture unit has stored POST_LEN rows, completes its record and raises CAPTURE. -/
  | hrvRecordComplete (u : Fin 16)
  /-- HRV_REARM_END (R368): A continuous capture unit leaves REARM and enters FILLING. -/
  | hrvRearmEnd (u : Fin 16)
  /-- HRV_GAP (R367): A capture unit whose on-die buffer is full loses samples and raises HRV_GAP. -/
  | hrvGap (u : Fin 16) (n : Nat)
  /-- HRV_CONFIG_WRITE (R367): A write of a capture unit's base or length is applied or refused by state and overlap. -/
  | hrvConfigWrite (u : Fin 16) (w : Fin 64) (v : Word)
  /-- FAULT_REPORT (R13): A cell reports an error to its block collector, which latches it, isolates at CONTAIN and sets the region summary. -/
  | faultReport (r : Report)
  /-- FAULT_CLASSIFICATION (R383): The safety monitor classifies an error and forms or merges its fault record. -/
  | faultClassification
  /-- SAFE_READBACK (R387): 3 µs after classification the safety hardware reads back every attenuator, transmitter and ingress MAC. -/
  | safeReadback (open_ : List (Fin 512)) (others : Bool)
  /-- CHECKER_INJECTION (R395): The safety monitor injects an error into one checker per INJ_CYCLE. -/
  | checkerInjection (src : BitVec 10) (loc : BitVec 14)
  /-- CHECKER_DEAD (R395): An injected error unreported within D plus 10 µs raises CHECKER_DEAD. -/
  | checkerDead
  /-- FLT_TEST_INJ_WRITE (R396): A host write of FLT_TEST_INJ makes a test injection handled as a real fault, or is refused. -/
  | fltTestInjWrite (v : Word)
  /-- CONFIG_SCRUB (R397): Every 10 ms the safety monitor computes the CRC of the protected set and raises CFG_CRC on a mismatch. -/
  | configScrub (upset : Option (BitVec 24 × Word)) (copy : Option (Fin 1024 × Fin 8))
  /-- LK_PROPOSE (R398): FLT_LK_CMD PROPOSE stages an LK write of FLT_LK_DATA to FLT_LK_ADDR. -/
  | lkPropose
  /-- LK_CONFIRM (R398): FLT_LK_CMD CONFIRM has the safety monitor write the LK fields as SAFETY, or refuses the write. -/
  | lkConfirm (check : BitVec 16)
  /-- LIGHT_PATH_CHECK (R393): Every 1 ms each connection's output power is compared with its expected value, raising LIGHT_PATH. -/
  | lightPathCheck
  /-- REFERENCE_LOSS_MEASURE (R393): 10 ms after a connection settles or its ATTEN changes its reference loss is measured. -/
  | referenceLossMeasure (m : Fin 256)
  /-- PORT_POWER_UPDATE (R36): Once every 1 ms the port power registers are updated from the port monitors. -/
  | portPowerUpdate
  /-- SUPPLY_MONITOR_SAMPLE (R394): Every 5 µs the supply comparators are sampled, raising SUP_UV or SUP_OV on two samples beyond threshold. -/
  | supplyMonitorSample (mv : List Nat)
  /-- CLOCK_MONITOR_WINDOW (R394): At the end of each 10 µs window the clock counts are judged, raising a clock monitor source on two failures. -/
  | clockMonitorWindow (ppm : List Int)
  /-- LATCH_FLAG_CLEAR (R391): VIN below 3 V for 100 ms without a break clears the latch flag. -/
  | latchFlagClear
  /-- WATCHDOG_EXPIRY (R327): A processor watchdog expires, restarting that processor or forcing the safe state for the safety monitor. -/
  | watchdogExpiry (k : Fin 4) (lockstep : Bool)
  /-- PROCESSOR_RESTART_DONE (R327): A restarted processor passes or fails its code region check and runs its firmware again. -/
  | processorRestartDone (k : Fin 4) (ok : Bool)
  /-- BUS_DEFAULT_ACCESS (R334): A request reaches the default target, which answers with an error and raises MGT_BUS_DEFAULT. -/
  | busDefaultAccess (master : Fin 6) (rights : Bool) (write : Bool) (addr : Word)
  /-- MGT_REMAP_WRITE (R333): Rootstock's write of MGT_REMAP.SWAP exchanges ROM and working SRAM and fixes SWAP until the next start. -/
  | mgtRemapWrite (v : Bool)
  /-- NOR_PAGE_PROGRAM_DONE (R335): A NOR page program completes and the next page or commit flag is written. -/
  | norPageProgramDone (ok : Bool)
  /-- NOR_ERASE_DONE (R335): A NOR sector erase completes. -/
  | norEraseDone (ok : Bool)
  /-- LOG_RECORD_WRITE (R350): A queued Lees log record is written to the NOR with its commit flag. -/
  | logRecordWrite (ok : Bool)
  /-- SLOT_ERASE_DONE (R348): The background erase of an uncommitted slot ends and the slot is EMPTY. -/
  | slotEraseDone
  /-- SENSOR_SWEEP (R405): A sweep converts all 80 sensors and updates the reported value and thresholds. -/
  | sensorSweep (readings : Vector (Option (BitVec 16)) 80)
  /-- NOR_TEMP_CONVERSION (R411): During start the sensors of the NOR are converted every 1 ms for the NOR temperature. -/
  | norTempConversion (t45 : Option (BitVec 16)) (t46 : Option (BitVec 16)) (t47 : Option (BitVec 16))
  /-- POWER_ON (R424): VIN rises above the start threshold and a cold start begins. -/
  | powerOn
  /-- COLD_RESET_INPUT (R424): COLD_RST_N held low for 21 always-on samples starts a cold start at its release. -/
  | coldResetInput (samples : Nat)
  /-- EVI0_WAKE (R418): A stable edge on EVI0 in Dormant with wake enabled starts a cold start. -/
  | evi0Wake (falling : Bool)
  /-- TEST_PORT_RESET (R424): TRST_N resets the IEEE 1149.1 logic only. -/
  | testPortReset
  /-- PFAIL_ASSERT (R419): VIN below 8.7 V over 1 µs or VHOLD below 44 V asserts PFAIL_N and moves the converter to hold-up. -/
  | pfailAssert (vin : Nat) (vhold : Nat)
  /-- PFAIL_RELEASE (R419): VIN at or above 9.0 V for 1 ms with VHOLD at 44 V releases PFAIL_N and returns to VIN. -/
  | pfailRelease (vin : Nat) (vhold : Nat)
  /-- HOLDUP_EXHAUSTED (R419): VHOLD falls to 9 V and the input converter stops. -/
  | holdupExhausted
  /-- COLD_START (R425): A cold start runs its steps from the always-on domain up to DDR4 training and loop acquisition. -/
  | coldStart (k : ColdStep)
  /-- ACQ_IMAGE_ADVANCE (R428): An acquisition image is held until its elements are in Hold or 400 ms pass, then the next is applied. -/
  | acqImageAdvance
  /-- WARM_START (R431): A warm start stops ingress, resets processors and restores firmware state while the fabric keeps its light. -/
  | warmStart (k : WarmStep)
  /-- START_COMMIT (R425): At the first commit tick after the start steps end and the role settles, Start commits to Serve, Limp or Shadow. -/
  | startCommit (late : BitVec 23) (line : Bool)
  /-- NEGOTIATE_TIMEOUT (R441): A member's wait for the Graft link ends and, with the line released, it becomes ACTIVE. -/
  | negotiateTimeout (line : Bool)
  /-- MODE_CHANGE_TRIGGER_TICK (R434): At the first boundary tick after a mode request, a two-phase mode change is admitted and prepared. -/
  | modeChangeTriggerTick
  /-- MODE_CHANGE_COMMIT_TICK (R434): At its commit tick a mode change is applied in every participating unit. -/
  | modeChangeCommitTick (late : BitVec 23)
  /-- DORMANT_POWER_DOWN (R437): After the log write, every domain except domain 0 is powered down. -/
  | dormantPowerDown
  /-- HOLD_RELEASE_SEEN (R452): A standby in Shadow reads PAIR_HOLD_N released for 8 cycles and starts its guard. -/
  | holdReleaseSeen (low : Bool) (ns : Fin 1000)
  /-- TAKEOVER_GUARD_END (R452): The take-over guard ends and the standby starts its change from Shadow to Serve or Limp. -/
  | takeoverGuardEnd (low : Bool)
  /-- PAIR_HOLD_MISMATCH (R451): A member driving the line low reads it high for 8 cycles, or both members are ACTIVE. -/
  | pairHoldMismatch (high : Bool)
  /-- PAIR_LINK_LOST (R443): Both Graft lanes down for 100 µs raise PAIR_LINK_LOST. -/
  | pairLinkLost
  /-- GRAFT_LINK_UP (R444): The Graft link comes up, versions are exchanged and a resync starts. -/
  | graftLinkUp (lane : Fin 2) (ver : BitVec 16) (id : BitVec 64) (role : Fin 4) (pref : Bool)
  /-- MIRROR_RECORD (R445): The standby receives a mirror record and applies it to its own state. -/
  | mirrorRecord (rec_ : MirrorRec) (missed : Bool) (age : BitVec 16)
  /-- RESYNC_COMPLETE (R449): The last record of a resync is applied and SYNC is set. -/
  | resyncComplete
  /-- GRAFT_TIME_SAMPLE (R447): Every 1 ms the standby's servo takes an offset sample from the Graft link. -/
  | graftTimeSample (n : Fin 4) (theta : BitVec 48) (ns : Fin 1000)
  /-- DRILL_HOUR (R454): Each hour since the last role change increments HOURS and may set DRILL_OVERDUE. -/
  | drillHour
  /-- BUS_MASTER_ENABLE (R302): Bus Master Enable returns to 1 and the device resumes rings, the beacon and held completions. -/
  | busMasterEnable
  /-- PERST_N_RELEASE (R462): Release of PERST_N lets PCI Express link training begin, at the later of this release and step 3 of a cold start. -/
  | perstNRelease
  /-- PCIE_LINK_UP (R324): PCI Express link training completes and the link is up again after a loss or a reset. -/
  | pcieLinkUp
  /-- REMOTE_FAULT (R286): A port begins or stops receiving the remote-fault sequence, which stops or resumes its taking of frames from Cooper. -/
  | remoteFault (p : Fin 96) (on : Bool)
  /-- GRAFT_LANE_DOWN (R443): A Graft lane goes down; when both lanes are down the link is lost, PAIR_STATUS changes and the PAIR attention and source 252 follow. -/
  | graftLaneDown (lane : Fin 2) (ns : Fin 1000)
  /-- EXCHANGE_RELAYED (R454): The active member receives over Graft an EXCHANGE relayed by the standby and carries out its role exchange. -/
  | exchangeRelayed
  /-- TONE_UPDATE (R152): 504 ns after every boundary tick each tone generator advances its accumulator, and the new tone and reference apply. -/
  | toneUpdate
  /-- SEQUENCE_SAMPLE (R142): Each PERIOD_M1 + 1 sequencer cycles a running block sequence starts its next sample and writes its target codes, or starves. -/
  | sequenceSample (q : Fin 16) (ns : Fin 1000)
  deriving DecidableEq, Repr

end Sys2Proof
end

