-- ==== Sys2Proof/Decode.lean ====
section
/-! DEFINITION. The command that a word spells by the bits of spec/opcode_table.json. No row of this table gives bits (a command of this
module is a register access, a descriptor, a pin, a link or an instant of one of its engines), so no word spells one. -/

namespace Sys2Proof

/-- The command of the row whose nbits bits are w: none, since no row gives bits. -/
def decodeTableWord (_nbits _w : Nat) : Option Instr := none

end Sys2Proof
end

