-- ==== Sys2Proof/Machine/State.lean ====
section
/-! DEFINITION. The state of the module: the clock, the register file, the mode, and for each unit the state its registers do
not hold; the queue of waiting commands; the outcomes a step can have besides a next state. -/

namespace Sys2Proof.Machine

/-- Why a command stops the machine. No meaning of this model does: every command of the table completes. -/
inductive Fault where
  /-- Raised by no meaning. Kept so that the type has a name for an access the spec would forbid outright; safe. -/
  | forbidden
  deriving DecidableEq, Repr

/-- Why a command has no meaning here. -/
inductive Refusal where
  /-- Raised by an arm of exec whose command has no meaning; every command has one, so by none. Safe. -/
  | notModelled (mnemonic : String)
  deriving DecidableEq, Repr

/-- The machine's state. now: nanoseconds since power-on, advanced by the step on an empty queue to the next boundary tick and
by commands that name an instant; regs: the register file, keyed by BAR0 offset; freeCtr: how many open values have been
drawn (the model's own field). -/
structure State where
  now : Nat
  regs : Tab Word
  mode : Mode
  freeCtr : Nat
  hif : Hif
  fab : Fab
  rack : RackSt
  mgmt : Mgmt
  flt : Flt
  start : StartSt
  drive : Drive
  loop : Loop
  seq : Seq
  evt : Evt
  hrv : Tab Hrv
  tim : Tim
  thm : Thm
  lane : Lanes
  cal : CalSt
  pk : Pk
  pair : PairSt
  cellar : Tab Byte
  pending : List Instr
  deriving DecidableEq, Repr

/-- The machine right after power-on: t0 of a cold start (19_start_and_modes.md R425), every register at its reset value,
memory with nothing listed, no command waiting. -/
def State.reset : State where
  now := 0
  regs := []
  mode := .start
  freeCtr := 0
  hif := Hif.zero
  fab := Fab.zero
  rack := RackSt.zero
  mgmt := Mgmt.zero
  flt := Flt.zero
  start := StartSt.zero
  drive := Drive.zero
  loop := Loop.zero
  seq := Seq.zero
  evt := Evt.zero
  hrv := []
  tim := Tim.zero
  thm := Thm.zero
  lane := Lanes.zero
  cal := CalSt.zero
  pk := Pk.zero
  pair := PairSt.zero
  cellar := []
  pending := []

end Sys2Proof.Machine
end

