-- ==== Sys2Proof/Machine/Ops.lean ====
section
/-! DEFINITION. The named operations every meaning is built from: the clock, the register file, free values, raising a fault
source, firing an event, attention conditions, and completions of ring requests. -/

namespace Sys2Proof.Machine

/-- What a step of this machine answers. -/
abbrev Out := Host.Outcome State Fault Refusal

/-! ### The clock -/

/-- One boundary tick in nanoseconds (00_scope.md, time scales). -/
abbrev tickNs : Nat := 1000

/-- The last boundary tick at or before now. -/
def State.tick (s : State) : Nat := s.now / tickNs * tickNs

/-- The count of the boundary-tick counter. -/
def State.tickCount (s : State) : Nat := s.now / tickNs

/-- The instant ns nanoseconds after the last boundary tick; time never runs backwards. -/
def State.at_ (s : State) (ns : Nat) : State :=
  { s with now := if s.now < s.tick + ns then s.tick + ns else s.now }

/-! ### The register file -/

/-- The word at an offset. -/
def State.rd (s : State) (off : Nat) : Word := Tab.get resetOf s.regs off

/-- The device sets the word at an offset. -/
def State.wr (s : State) (off : Nat) (v : Word) : State := { s with regs := Tab.set resetOf s.regs off v }

/-- A field of the word at an offset. -/
def State.fld (s : State) (off : Nat) (f : Fld) : Nat := f.get (s.rd off)

/-- A field of the word at an offset is not 0. -/
def State.flag (s : State) (off : Nat) (f : Fld) : Bool := s.fld off f != 0

/-- The device sets a field. -/
def State.setF (s : State) (off : Nat) (f : Fld) (n : Nat) : State := s.wr off (f.set (s.rd off) n)

/-- The device counts into a field that saturates. -/
def State.count (s : State) (off : Nat) (f : Fld) (k : Nat) : State := s.setF off f (satAdd f.w (s.fld off f) k)

/-- The device counts into a field that wraps. -/
def State.countWrap (s : State) (off : Nat) (f : Fld) (k : Nat) : State := s.setF off f (s.fld off f + k)

/-- Return every register of [lo, lo + n) to its reset value. -/
def State.resetRange (s : State) (lo n : Nat) : State := { s with regs := Tab.clear lo n s.regs }

/-- Copy a window of registers to another. -/
def State.copyRange (s : State) (src dst n : Nat) : State := { s with regs := Tab.copy resetOf src dst n s.regs }

/-- Exchange two windows of registers. -/
def State.swapRange (s : State) (a b n : Nat) : State := { s with regs := Tab.swap resetOf a b n s.regs }

/-! ### Free values -/

/-- The next open value, cut to w bits. -/
def State.freeVal (s : State) (w : Nat) : Nat := (Config.freeWord s.freeCtr).toNat % 2 ^ w

/-- An open value has been drawn. -/
def State.drawn (s : State) : State := { s with freeCtr := s.freeCtr + 1 }

/-! ### Faults and events -/

/-- The event fabric runs from the end of step 3 of a cold start until Dormant (R364). -/
def State.eventsOn (s : State) : Bool := s.mode != .dormant && (!s.start.cold || bitOf s.start.ended 3)

/-- A source event, with the path it carries (R354, R355). -/
def State.fireP (s : State) (src : Nat) (path : List Nat) : State :=
  if s.eventsOn then { s with evt := { s.evt with fired := s.evt.fired ++ [⟨src, path, s.now, none⟩] } } else s

/-- A source event with an empty path. -/
def State.fire (s : State) (src : Nat) : State := s.fireP src []

/-- A cell raises a fault source at a location, with detail words (R13, R383). A source of R137 raised in a loop block also fires
the block's event source (R355). -/
def State.raiseD (s : State) (src loc d0 d1 d2 : Nat) (path : List Nat) : State :=
  let s := { s with flt := { s.flt with raised := s.flt.raised ++ [⟨src, loc, d0, d1, d2, false, path, 0⟩] } }
  if 48 ≤ src ∧ src < 160 then s.fire (144 + (src - 48) % 16) else s

/-- A cell raises a fault source at a location. -/
def State.raise (s : State) (src loc : Nat) : State := s.raiseD src loc 0 0 0 []

/-! ### Attention (R320, R321) -/

/-- The lowest-numbered pending class; 0 with none. -/
def lowestClass (p : Nat) : Nat := ((List.range 16).find? fun c => bitOf p c).getD 0

/-- Set the pending classes, and ATTN_CLASS with them. -/
def State.setPending (s : State) (p : Nat) : State :=
  (s.setF R.HIF_ATTN F.HIF_ATTN_PENDING p).setF R.HIF_ATTN F.HIF_ATTN_ATTN_CLASS (lowestClass (p % 65536))

/-- An event raises attention class c: the class is pending, ATTN_SEQ increments modulo 256, and a beacon is due (R321, R322). -/
def State.attn (s : State) (c : Nat) : State :=
  let s := s.setPending (s.fld R.HIF_ATTN F.HIF_ATTN_PENDING ||| 2 ^ c)
  let s := s.countWrap R.HIF_ATTN F.HIF_ATTN_ATTN_SEQ 1
  { s with hif := { s.hif with beaconDue := true } }

/-- Attention class c is cleared. -/
def State.attnClear (s : State) (c : Nat) : State :=
  let p := s.fld R.HIF_ATTN F.HIF_ATTN_PENDING
  s.setPending (if bitOf p c then p - 2 ^ c else p)

/-- The status word of a completion or of the beacon (R321). -/
def State.statusWord (s : State) (result : Nat) : Word :=
  BitVec.ofNat 32 ((s.fld R.HIF_ATTN F.HIF_ATTN_ATTN_CLASS) * 2 ^ 28 + s.mode.code * 2 ^ 24
    + (s.fld R.HIF_ATTN F.HIF_ATTN_ATTN_SEQ) * 2 ^ 16 + result % 65536)

/-- The mode changes: a beacon is due (R322) and source 240 fires (R355). -/
def State.setMode (s : State) (m : Mode) (path : List Nat) : State :=
  if s.mode = m then s
  else
    let s := { s with mode := m, hif := { s.hif with beaconDue := true } }
    let s := if m = .safe || m = .latched then s.fire 241 else s
    s.fireP 240 path

/-- Processor k is being restarted after a watchdog expiry (R327). -/
def State.restarting (s : State) (k : Nat) : Bool := s.fld (R.MGT_PROC_STATUS k) F.MGT_PROC_STATUS_STATE == 2

/-! ### Rings (R307 to R312) -/

def State.sqRing (s : State) (n : Nat) : SqRing := Tab.get (fun _ => SqRing.zero) s.hif.sq n
def State.cqRing (s : State) (n : Nat) : CqRing := Tab.get (fun _ => CqRing.zero) s.hif.cq n
def State.setSq (s : State) (n : Nat) (r : SqRing) : State :=
  { s with hif := { s.hif with sq := Tab.set (fun _ => SqRing.zero) s.hif.sq n r } }
def State.setCq (s : State) (n : Nat) (r : CqRing) : State :=
  { s with hif := { s.hif with cq := Tab.set (fun _ => CqRing.zero) s.hif.cq n r } }

/-- Ring size of a SIZE_LOG2 field: below 4 acts as 4, above 12 as 12 (R325). -/
def ringSize (k : Nat) : Nat := 2 ^ clampNat 4 12 k

def State.sqSize (s : State) (n : Nat) : Nat := ringSize (s.fld (R.HIF_SQ_CFG n) F.HIF_SQ_CFG_SIZE_LOG2)
def State.cqSize (s : State) (n : Nat) : Nat := ringSize (s.fld (R.HIF_CQ_CFG n) F.HIF_CQ_CFG_SIZE_LOG2)

/-- The completion ring a submission ring is bound to. -/
def State.boundCq (s : State) (n : Nat) : Nat := s.fld (R.HIF_SQ_CFG n) F.HIF_SQ_CFG_CQ

/-- A completion ring has space (R308). -/
def State.cqSpace (s : State) (c : Nat) : Bool :=
  (s.fld (R.HIF_CQ_STATUS c) F.HIF_CQ_STATUS_TAIL + 1) % s.cqSize c != (s.cqRing c).head % s.cqSize c

/-- A completion ring that keeps completions: enabled and not stopped (R309, R325). -/
def State.cqUp (s : State) (c : Nat) : Bool :=
  s.flag (R.HIF_CQ_CFG c) F.HIF_CQ_CFG_EN && !s.flag (R.HIF_CQ_STATUS c) F.HIF_CQ_STATUS_ERR

/-- FULL of a completion ring and its bit of HIF_CQ_FULL follow whether it holds completions for want of space (R308). -/
def State.cqFullBits (s : State) (c : Nat) : State :=
  let full := !(s.cqRing c).held.isEmpty && !s.cqSpace c
  let s := s.setF (R.HIF_CQ_STATUS c) F.HIF_CQ_STATUS_FULL (bnat full)
  s.setF R.HIF_CQ_FULL ⟨c, 1⟩ (bnat full)

/-- The descriptor in execution on a ring ends with a result: its completion is held for the bound ring, or discarded when that
ring is off or stopped (R309, R325). Words are completed to four; a request whose job the ring no longer holds is discarded
(R324, R328). -/
def State.finish (s : State) (r : Req) (result : Nat) (words : List Word) (dataLen : Nat) (vint : Bool) : State :=
  let ring := s.sqRing r.sq
  match ring.exec with
  | some (job, d) =>
    if job = r.job then
      let s := (s.setSq r.sq { ring with exec := none }).setF (R.HIF_SQ_STATUS r.sq) F.HIF_SQ_STATUS_BUSY 0
      let c := s.boundCq r.sq
      if s.cqUp c then
        let comp : Completion :=
          { sq := r.sq, tag := d.tag, sqHead := s.fld (R.HIF_SQ_STATUS r.sq) F.HIF_SQ_STATUS_HEAD, result := result,
            dataLen := dataLen, words := (words ++ [0, 0, 0, 0]).take 4, vint := vint }
        let q := s.cqRing c
        (s.setCq c { q with held := q.held ++ [comp] }).cqFullBits c
      else s
    else s
  | none => s

/-- The same for a request that may have no ring behind it. -/
def State.finishOpt (s : State) (r : Option Req) (result : Nat) (words : List Word) (vint : Bool) : State :=
  match r with
  | some r => s.finish r result words 0 vint
  | none => s

/-- Bus Master Enable lets the device reach host memory (R302). -/
def State.busMaster (s : State) : Bool := s.hif.bme && s.hif.linkUp && !s.hif.d3hot && !s.hif.perstLow

/-- A write to host memory leaves the device (R301). -/
def State.post (s : State) (addr : Nat) (data : List Byte) : State :=
  { s with hif := { s.hif with posted := s.hif.posted ++ [⟨addr, data⟩] } }

/-! ### Mode changes (R434, R435, R439) -/

/-- Words of a MODE_SET completion (R439): a unit mask, MODE before the request, MODE now. -/
def State.modeWords (s : State) (mask : Nat) (before : Mode) : List Word :=
  [BitVec.ofNat 32 mask, BitVec.ofNat 32 before.code, BitVec.ofNat 32 s.mode.code]

/-- A mode change reaches the fabric processor (R434, R435): it joins the order of arrival; a fifth pending one that a host request
or an event made is turned away with BUSY. -/
def State.askMode (s : State) (r : ModeReq) : State :=
  if 4 ≤ s.start.queue.length ∧ (r.src = .host ∨ r.src = .event) then
    let s := s.finishOpt r.req 0x0A09 (s.modeWords 0 s.mode) false
    if r.src = .event then s.count R.EVT_MODE_TASK F.EVT_MODE_TASK_REFUSED 1 else s
  else { s with start := { s.start with queue := s.start.queue ++ [{ r with at_ := s.now }] } }

/-! ### The mirror (R445) -/

/-- A record goes out on Graft. -/
def State.graft (s : State) (m : MirrorRec) : State := { s with pair := { s.pair with out := s.pair.out ++ [m] } }

/-- The active sends a mirror record while the link is up, the versions are compatible and no warm start suspends the mirror (R449); a
committed set gives the last vintages sent. -/
def State.mirrorOut (s : State) (m : MirrorRec) : State :=
  if s.fld R.PAIR_STATUS F.PAIR_STATUS_ROLE == 1 && s.flag R.PAIR_STATUS F.PAIR_STATUS_LINK &&
      !s.flag R.PAIR_STATUS F.PAIR_STATUS_INCOMPATIBLE && s.mode != .start then
    match m with
    | .set _ _ _ _ f p => ((s.graft m).wr R.PAIR_VINTAGE_FABRIC (BitVec.ofNat 32 f)).wr R.PAIR_VINTAGE_PACKET (BitVec.ofNat 32 p)
    | _ => s.graft m
  else s

/-! ### Elements and blocks (R29, R98) -/

/-- Loop block of an element. -/
def blockOf (x : Nat) : Nat := x / 576

/-- What an element belongs to: a fabric cell by its index (R40), or VIn, or VOn. -/
inductive ElemOf where
  | cell (i : Nat)
  | vi (n : Nat)
  | vo (n : Nat)
  deriving DecidableEq, Repr

/-- The cell or attenuator of element ELx (R29, R40). -/
def elemOf (x : Nat) : ElemOf :=
  let b := x / 576
  let j := x % 576
  if j < 480 then .cell (1920 * (b / 8) + 128 * (j / 32) + 16 * (b % 8) + (j % 32) / 2)
  else if j < 512 then .cell (3840 + 16 * b + (j - 480) / 2)
  else if j < 544 then .cell (4096 + 16 * b + (j - 512) / 2)
  else if j < 560 then .vi (16 * b + (j - 544))
  else .vo (16 * b + (j - 560))

/-- The H element of a fabric cell; its F element is the next (R29). -/
def cellH (i : Nat) : Nat :=
  if i < 3840 then
    let p := i / 1920
    let st := i % 1920 / 128
    let r := i % 128
    576 * (8 * p + r / 16) + 32 * st + 2 * (r % 16)
  else if i < 4096 then 576 * ((i - 3840) / 16) + 480 + 2 * ((i - 3840) % 16)
  else 576 * ((i - 4096) / 16) + 512 + 2 * ((i - 4096) % 16)

def cellF (i : Nat) : Nat := cellH i + 1

/-- The elements VIn and VOn (R29). -/
def elemVI (n : Nat) : Nat := 576 * (n / 16) + 544 + n % 16
def elemVO (n : Nat) : Nat := 576 * (n / 16) + 560 + n % 16

/-- A fabric cell is live in the active vintage (R30). -/
def State.liveCell (s : State) (i : Nat) : Bool := s.fab.activeLive.getLsbD i

/-- The element's loop block is powered. -/
def State.blkUp (s : State) (b : Nat) : Bool := s.flag (R.DRV_BLK_STATUS b) F.DRV_BLK_STATUS_POWERED

/-- The element, its cell or attenuator, or its block is isolated by a fault record (R380). -/
def State.elemIso (s : State) (x : Nat) : Bool :=
  s.fab.isoBlocks.getLsbD (blockOf x) ||
  match elemOf x with
  | .cell i => s.fab.isoCells.getLsbD i
  | .vi n => s.fab.isoIn.getLsbD n
  | .vo n => s.fab.isoOut.getLsbD n

end Sys2Proof.Machine
end

