-- ==== Sys2Proof/Machine/Lane.lean ====
section
/-! DEFINITION. Serial lanes, tap transceivers and the bring-up of packet ports (13_serial_lanes.md R282 to R299; R9). -/

namespace Sys2Proof.Machine

/-- Pipeline of a packet port (R9). -/
def pipeOf (p : Nat) : Nat := if p < 64 then p / 16 else (p - 64) / 8

/-- The safe state holds: transmitters squelched, ingress stopped, attenuators parked (R387, R438). -/
def State.safeHeld (s : State) : Bool := s.mode == .safe || s.mode == .latched || s.start.warmSafe

/-- MODE of a port record, with the records that a four-lane port makes ignored read as off (R282). -/
def portMode (rec_ : Nat → Word) (p : Nat) : Nat :=
  let m (p : Nat) : Nat := F.LANE_PORT_ACTIVE_MODE.get (rec_ p)
  if p < 64 ∧ p % 4 ≠ 0 ∧ m (p - p % 4) = 3 then 0 else m p

/-- Active mode of port p. -/
def State.mode_ (s : State) (p : Nat) : Nat := portMode (fun p => s.rd (R.LANE_PORT_ACTIVE p)) p

/-- FEC of the active record. -/
def State.fec (s : State) (p : Nat) : Bool := s.flag (R.LANE_PORT_ACTIVE p) F.LANE_PORT_ACTIVE_FEC

/-- E-lanes of a port: none for a tap port, four under MODE 3 (R282). -/
def State.lanesOf (s : State) (p : Nat) : List Nat :=
  if 64 ≤ p then [] else if s.mode_ p = 3 then [p, p + 1, p + 2, p + 3] else [p]

/-- The port that uses lane x of E00 to E63. -/
def State.portOfLane (s : State) (x : Nat) : Nat := if s.mode_ (x - x % 4) = 3 then x - x % 4 else x

def State.portStep (s : State) (p : Nat) : Nat := Tab.get (fun _ => 0) s.lane.step p

/-- A port is up (R285, R286). -/
def State.portUp (s : State) (p : Nat) : Bool := s.portStep p == 9

/-- The port is at step n of bring-up, and its lanes show it. -/
def State.setStep (s : State) (p n : Nat) : State :=
  let s := { s with lane := { s.lane with step := Tab.set (fun _ => 0) s.lane.step p n } }
  let s := s.setF (R.LANE_PORT_STATUS p) F.LANE_PORT_STATUS_LINK (bnat (n == 9))
  (s.lanesOf p).foldl (fun s x => s.setF (R.LANE_STATE x) F.LANE_STATE_STEP n) s

/-- TX_SQUELCHED of a lane: the setting, the safe state, isolation of its quad, or no power (R284). -/
def State.showSquelch (s : State) (x : Nat) : State :=
  let off := s.portStep (s.portOfLane x) == 0
  s.setF (R.LANE_STATE x) F.LANE_STATE_TX_SQUELCHED
    (bnat (s.flag (R.LANE_CFG x) F.LANE_CFG_TX_SQUELCH || s.safeHeld || s.lane.isoQuad.getLsbD (x / 4) || off))

/-- Step 9 of a cold start powers every tap transmitter (R429). -/
def State.acquiring (s : State) : Bool := s.start.cold && bitOf s.start.ended 8 && !bitOf s.start.ended 9

/-- TX_ON of tap k: MODE 4 or loop acquisition, its laser input present, not isolated, no safe state (R293, R295, R298, R429). -/
def State.showTapTx (s : State) (k : Nat) : State :=
  s.setF (R.LANE_TAP k) F.LANE_TAP_TX_ON
    (bnat ((s.mode_ (64 + k) == 4 || s.acquiring) && !s.flag (R.LANE_LASER (k / 8)) F.LANE_LASER_LOW && !s.lane.isoTap.getLsbD k &&
      !s.lane.isoQuad.getLsbD (16 + k / 4) && !s.safeHeld))

/-- Every transmitter follows its causes. -/
def State.showTx (s : State) : State := forUp (fun k s => s.showTapTx k) 32 0 (forUp (fun x s => s.showSquelch x) 64 0 s)

/-- A packet port of PPn goes up or down: source 228 + n (R355). -/
def State.portEvent (s : State) (p : Nat) : State := s.fire (228 + pipeOf p)

/-- The staged TAP calibration of Tk comes into force (R173). -/
def State.tapCalIn (s : State) (k : Nat) : State :=
  match Tab.get (fun _ => none) s.cal.tap k with
  | some w => { s.wr (R.CAL_TAP k) w with cal := { s.cal with tap := Tab.set (fun _ => none) s.cal.tap k none } }
  | none => s

/-- The staged LANE calibration of lane x comes into force (R173). -/
def State.eqCalIn (s : State) (x : Nat) : State :=
  match Tab.get (fun _ => none) s.cal.lane x with
  | some w =>
    { (s.wr (R.LANE_EQ_CTRL x) w.1).wr (R.LANE_EQ_DFE x) w.2 with
      cal := { s.cal with lane := Tab.set (fun _ => none) s.cal.lane x none } }
  | none => s

/-- Staged calibration of a port comes into force at its next bring-up (R173). -/
def State.laneCalIn (s : State) (p : Nat) : State :=
  if 64 ≤ p then s.tapCalIn (p - 64) else (s.lanesOf p).foldl (fun s x => s.eqCalIn x) s

/-- Output FP224 + k is dark in the active fabric vintage (R294). -/
def State.tapDarkNow (s : State) (k : Nat) : Bool := s.fld (R.FAB_OUT_STATE (224 + k)) F.FAB_OUT_STATE_STATE == 0

/-- Loss of signal with a cause (R294, R295). -/
def State.setLos (s : State) (p cause : Nat) : State :=
  (s.setF (R.LANE_PORT_STATUS p) F.LANE_PORT_STATUS_LOS 1).setF (R.LANE_PORT_STATUS p) F.LANE_PORT_STATUS_LOS_CAUSE cause

/-- A port starts bring-up at step n (R283, R285). -/
def State.bringStart (s : State) (p n : Nat) : State :=
  let s := (s.laneCalIn p).setStep p n
  let s := if 64 ≤ p then (if s.tapDarkNow (p - 64) then s.setLos p 1 else s).showTapTx (p - 64) else s
  (s.lanesOf p).foldl (fun s x => s.showSquelch x) s

/-- A port goes off: transmitters squelched, domains off, status fields at their reset values (R283, R416). -/
def State.portOff (s : State) (p : Nat) (lanes : List Nat) : State :=
  let s := if s.portUp p then s.portEvent p else s
  let s := { s with lane := { s.lane with step := Tab.set (fun _ => 0) s.lane.step p 0 } }
  let s := s.resetRange (R.LANE_PORT_STATUS p) 4
  let s := lanes.foldl (fun s x => s.resetRange (R.LANE_STATE x) 4) s
  if 64 ≤ p then s.showTapTx (p - 64) else s

/-- A port that was up goes down and restarts at step 2 (R286). -/
def State.linkDown (s : State) (p : Nat) : State :=
  if s.portUp p then
    let s := s.bringStart p 2
    let s := s.count (R.LANE_PORT_STATUS p) F.LANE_PORT_STATUS_LINK_DOWNS 1
    (s.portEvent p).raise (280 + p) p
  else if s.portStep p = 0 then s else s.bringStart p 2

/-- R285: the step after step n of port p. -/
def State.nextStep (s : State) (p n : Nat) : Nat :=
  let tapP := 64 ≤ p
  let four := s.mode_ p = 3
  let pol := s.fld (R.LANE_CFG p) F.LANE_CFG_RX_POL
  match n with
  | 3 => if tapP ∨ pol = 1 ∨ pol = 2 then 5 else 4
  | 5 => if four then 6 else 8
  | n => n + 1

/-- What a step needs to complete: skew within 200 ns (R288), FOM at or above FOM_MIN (R285). -/
def State.stepOk (s : State) (n : Nat) (f : StepFound) : Bool :=
  if n = 7 then decide (f.skew.toNat ≤ 200)
  else if n = 8 then decide (s.fld R.LANE_CTRL F.LANE_CTRL_FOM_MIN ≤ f.fom.toNat) else true

/-- What a completed step records. -/
def State.stepRecord (s : State) (p n : Nat) (f : StepFound) : State :=
  match n with
  | 2 =>
    let s := s.setF (R.LANE_PORT_STATUS p) F.LANE_PORT_STATUS_LOS 0
    let s := s.setF (R.LANE_PORT_STATUS p) F.LANE_PORT_STATUS_LOS_CAUSE 0
    if 64 ≤ p then s.setF (R.LANE_TAP (p - 64)) F.LANE_TAP_RX_SIG 1 else s
  | 3 =>
    let pol := s.fld (R.LANE_CFG p) F.LANE_CFG_RX_POL
    if pol = 1 ∨ pol = 2 then
      (s.lanesOf p).foldl (fun s x => s.setF (R.LANE_STATE x) F.LANE_STATE_RX_INVERTED (pol - 1)) s
    else s
  | 4 => forUp (fun i s => s.setF (R.LANE_STATE (p + i)) F.LANE_STATE_RX_INVERTED (bnat (f.inv.getLsbD i))) (s.lanesOf p).length 0 s
  | 6 => s.setF (R.LANE_PORT_STATUS p) F.LANE_PORT_STATUS_LANE_MAP f.map.toNat
  | 7 => s.setF (R.LANE_PORT_STATUS p) F.LANE_PORT_STATUS_SKEW_NS f.skew.toNat
  | 8 => (s.lanesOf p).foldl (fun s x => s.setF (R.LANE_STATE x) F.LANE_STATE_FOM f.fom.toNat) s
  | _ => s

/-- The quad of a port is isolated by a fault record (R298, R380): its bring-up goes no further. -/
def State.portIso (s : State) (p : Nat) : Bool :=
  s.lane.isoQuad.getLsbD (if 64 ≤ p then 16 + (p - 64) / 4 else p / 4)

/-- BRINGUP_STEP_DONE (R285): the step in progress on port p completes and the next begins; after step 8 the port is up. A tap port
whose output is dark detects no signal (R294). -/
def execBringupStepDone (p : Fin 96) (f : StepFound) (s : State) : Out :=
  let n := s.portStep p
  .next (if 1 ≤ n && decide (n ≤ 8) && !s.portIso p && s.stepOk n f && !(n == 2 && decide (64 ≤ p.val) && s.tapDarkNow (p - 64)) then
    let n' := s.nextStep p n
    let s := (s.stepRecord p n f).setStep p n'
    if n' = 9 then s.portEvent p else s
  else s)

/-- BRINGUP_STEP_LIMIT (R285): a step with a limit passes it, and the port returns to step 2. -/
def execBringupStepLimit (p : Fin 96) (s : State) : Out :=
  let n := s.portStep p
  .next (if n = 1 ∨ (3 ≤ n ∧ n ≤ 8) then
    let s := (s.lanesOf p).foldl (fun s x => s.count (R.LANE_STATE x) F.LANE_STATE_RETRIES 1) s
    s.bringStart p 2
  else s)

/-- LINK_DOWN (R286): a port that is up goes down; los: signal was lost. -/
def execLinkDown (p : Fin 96) (los : Bool) (s : State) : Out :=
  .next (if s.portUp p then (if los then s.setLos p 0 else s).linkDown p else s)

/-- REMOTE_FAULT (R286): a port begins or stops receiving remote fault. -/
def execRemoteFault (p : Fin 96) (on : Bool) (s : State) : Out :=
  .next (if 0 < s.portStep p then s.setF (R.LANE_PORT_STATUS p) F.LANE_PORT_STATUS_REMOTE_FAULT (bnat on) else s)

/-- LANE_CFG_WRITE (R284): a write of LANE_CFG_x; a change of RX_POL or LOOPBACK restarts bring-up at step 2. -/
def execLaneCfgWrite (x : Fin 66) (v : Word) (s : State) : Out :=
  let o := R.LANE_CFG x
  let old := s.rd o
  let new := BitVec.ofNat 32 0xFE1F7F3F &&& v
  let s := s.wr o new
  let s := if x.val < 64 then s.showSquelch x else s
  .next (if x.val < 64 && (F.LANE_CFG_RX_POL.get old != F.LANE_CFG_RX_POL.get new ||
      F.LANE_CFG_LOOPBACK.get old != F.LANE_CFG_LOOPBACK.get new) then
    let p := s.portOfLane x
    if 2 < s.portStep p then s.linkDown p else s
  else s)

/-- The port of a lane is not at MODE 0; the Graft lanes while the pair is configured (R299, R415). -/
def State.laneInUse (s : State) (x : Nat) : Bool :=
  if x < 64 then s.mode_ (s.portOfLane x) != 0 else s.flag R.PAIR_STATUS F.PAIR_STATUS_PAIR_EN

/-- LANE_PRBS_WRITE (R299): a write of LANE_PRBS_x; GEN or CHK on a lane in use is refused, and the write ignored. -/
def execLanePrbsWrite (x : Fin 66) (v : Word) (s : State) : Out :=
  let o := R.LANE_PRBS x
  .next (if (F.LANE_PRBS_GEN.get v != 0 || F.LANE_PRBS_CHK.get v != 0) && s.laneInUse x then s.setF o F.LANE_PRBS_REFUSED 1
  else
    let s := s.setF o F.LANE_PRBS_GEN (F.LANE_PRBS_GEN.get v)
    let s := (s.setF o F.LANE_PRBS_CHK (F.LANE_PRBS_CHK.get v)).setF o F.LANE_PRBS_RATE (F.LANE_PRBS_RATE.get v)
    if F.LANE_PRBS_REFUSED.get v != 0 then s.setF o F.LANE_PRBS_REFUSED 0 else s)

/-! ### Low-power idle (R291) -/

/-- Low-power idle is on for an E-lane port that is up. -/
def State.lpiOn (s : State) (p : Nat) : Bool :=
  decide (p < 64) && s.flag (R.LANE_PORT_ACTIVE p) F.LANE_PORT_ACTIVE_LPI_EN && s.portUp p

/-- Each lane of a port shows a direction asleep or awake. -/
def State.showLpi (s : State) (p : Nat) (f : Fld) (on : Bool) : State :=
  (s.lanesOf p).foldl (fun s x => s.setF (R.LANE_STATE x) f (bnat on)) s

/-- LPI_RX_SLEEP (R291). -/
def execLpiRxSleep (p : Fin 64) (s : State) : Out :=
  .next (if s.lpiOn p then s.showLpi p F.LANE_STATE_RX_LPI true else s)

/-- LPI_RX_WAKE (R291). -/
def execLpiRxWake (p : Fin 64) (s : State) : Out := .next (s.showLpi p F.LANE_STATE_RX_LPI false)

/-! ### Tap transceivers -/

/-- TAP_LOS (R294): the receiver power of Tk has been below the LOS level for 10 µs. -/
def execTapLos (k : Fin 32) (s : State) : Out :=
  let p := 64 + k.val
  .next (if s.mode_ p = 4 then
    let s := (s.setF (R.LANE_TAP k) F.LANE_TAP_RX_SIG 0).setLos p (if s.tapDarkNow k then 1 else 0)
    if s.portUp p then s.linkDown p else s
  else s)

/-- FP224 + k goes dark, or is lit again, at a commit tick (R294). -/
def State.tapFabric (s : State) (k : Nat) (dark : Bool) : State :=
  let p := 64 + k
  if s.mode_ p ≠ 4 then s
  else if dark then
    let s := (s.setF (R.LANE_TAP k) F.LANE_TAP_RX_SIG 0).setLos p 1
    if s.portUp p then s.linkDown p else s
  else
    let s := (s.setF (R.LANE_PORT_STATUS p) F.LANE_PORT_STATUS_LOS 0).setF (R.LANE_PORT_STATUS p) F.LANE_PORT_STATUS_LOS_CAUSE 0
    if s.portStep p = 0 then s else s.bringStart p 2

/-- LOW_THRESH in 0.01 dBm (R295). -/
def State.laserThresh (s : State) : Int := signedOf 16 (s.fld R.LANE_LASER_CFG F.LANE_LASER_CFG_LOW_THRESH)

/-- TAP_LASER_LOW (R295): the monitor of Ln has read below LOW_THRESH for 10 µs. -/
def execTapLaserLow (n : Fin 4) (power : BitVec 16) (s : State) : Out :=
  .next (if decide (power.toInt < s.laserThresh) && !s.flag (R.LANE_LASER n) F.LANE_LASER_LOW then
    let s := (s.setF (R.LANE_LASER n) F.LANE_LASER_POWER power.toNat).setF (R.LANE_LASER n) F.LANE_LASER_LOW 1
    let s := forUp (fun k s => (s.showTapTx k).setF (R.LANE_PORT_STATUS (64 + k)) F.LANE_PORT_STATUS_LOS_CAUSE 2) 8 (8 * n) s
    (s.fire 254).raise (401 + n) n
  else s)

/-- TAP_LASER_RESTORE (R295): Ln has stayed above LOW_THRESH + 0.5 dB for 1 ms. -/
def execTapLaserRestore (n : Fin 4) (power : BitVec 16) (s : State) : Out :=
  .next (if decide (s.laserThresh + 50 < power.toInt) && s.flag (R.LANE_LASER n) F.LANE_LASER_LOW then
    let s := (s.setF (R.LANE_LASER n) F.LANE_LASER_POWER power.toNat).setF (R.LANE_LASER n) F.LANE_LASER_LOW 0
    forUp (fun k s =>
      let p := 64 + k
      let dark := s.mode_ p == 4 && s.flag (R.LANE_PORT_STATUS p) F.LANE_PORT_STATUS_LOS && s.tapDarkNow k
      (s.showTapTx k).setF (R.LANE_PORT_STATUS p) F.LANE_PORT_STATUS_LOS_CAUSE (bnat dark)) 8 (8 * n) s
  else s)

/-- TAP_TX_FAULT (R298): the modulator bias of Tk has been outside its range for 10 µs. -/
def execTapTxFault (k : Fin 32) (s : State) : Out :=
  .next ((s.setF (R.LANE_TAP k) F.LANE_TAP_TX_FAULT 1).raise (405 + k) k)

/-- LANE_PLL_UNLOCK (R298): the synthesiser of quad i loses lock. -/
def execLanePllUnlock (k : Fin 25) (s : State) : Out := .next (s.raise (376 + k) k)

/-! ### Port records at a rack (R283) -/

/-- R283: the cause for which a shadow record refuses the rack; 0 for none. -/
def portRecordCause (rec_ : Nat → Word) (p : Nat) : Nat :=
  let w := rec_ p
  let m := F.LANE_PORT_ACTIVE_MODE.get w
  if p < 64 ∧ p % 4 ≠ 0 ∧ F.LANE_PORT_ACTIVE_MODE.get (rec_ (p - p % 4)) = 3 then 0
  else if m = 3 ∧ p % 4 ≠ 0 ∧ p < 64 then 1
  else if (1 ≤ m ∧ m ≤ 3 ∧ 64 ≤ p) ∨ (m = 4 ∧ p < 64) then 2
  else if F.LANE_PORT_ACTIVE_FEC.get w = 1 ∧ m = 1 then 3
  else if 5 ≤ m then 4
  else 0

/-- The port controller's prepare (R283): the lowest cause, at the lowest port concerned. -/
def State.portPrepare (s : State) : Option (Nat × Nat) :=
  let rec_ (p : Nat) : Word := s.rd (R.LANE_PORT_SHADOW p)
  [1, 2, 3, 4].findSome? fun c => ((List.range 96).find? fun p => portRecordCause rec_ p == c).map fun p => (c, p)

/-- After the swap, each port whose record changed is treated as R283 says; old gives the former records. -/
def State.applyPortRecords (s : State) (old : Nat → Word) : State :=
  let was (p : Nat) : Nat := portMode old p
  let oldLanes (p : Nat) : List Nat := if 64 ≤ p then [] else if was p = 3 then [p, p + 1, p + 2, p + 3] else [p]
  let s := forUp (fun p s =>
    if was p != 0 && (s.mode_ p != was p) then s.portOff p (oldLanes p) else s) 96 0 s
  forUp (fun p s =>
    let m := s.mode_ p
    if m ≠ 0 ∧ (m ≠ was p ∨ s.fec p ≠ (F.LANE_PORT_ACTIVE_FEC.get (old p) != 0)) then
      (if s.portUp p then s.portEvent p else s).bringStart p 1
    else s) 96 0 s

end Sys2Proof.Machine
end

