-- ==== Sys2Proof/Machine/Drive.lean ====
section
/-! DEFINITION. Drive channels, range changes, output protection, monitor and housekeeping conversion, the spare slice and
injected conversions (05_drive_and_sense.md R87 to R110). -/

namespace Sys2Proof.Machine

/-! ### Records of the drive and the loops -/

def State.lx (s : State) (x : Nat) : LoopX := Tab.get (fun _ => LoopX.zero) s.loop.x x
def State.setLx (s : State) (x : Nat) (r : LoopX) : State :=
  { s with loop := { s.loop with x := Tab.set (fun _ => LoopX.zero) s.loop.x x r } }

/-- State of loop x (R124): 0 Off, 1 Acquire, 2 Hold, 3 Sequenced. -/
def State.loopState (s : State) (x : Nat) : Nat := s.fld (R.LOOP_ST x) F.LOOP_ST_STATE

/-- Park holds at power-up: every attenuator is dark, since every port is (R32, R93). -/
def holdDflt (x : Nat) : Nat := if elemKind x = .attenuator then 1 else 0

def State.hold (s : State) (x : Nat) : Nat := Tab.get holdDflt s.drive.hold x
def State.initPark (s : State) (x : Nat) : Bool := Tab.get (fun _ => true) s.drive.initPark x

/-- PARKED shows the initial park and the park hold together (R93), FROZEN the park hold (R127). -/
def State.showPark (s : State) (x : Nat) : State :=
  let s := s.setF (R.DRV_CH_CODE x) F.DRV_CH_CODE_PARKED (bnat (s.initPark x || s.hold x != 0))
  s.setF (R.LOOP_ST x) F.LOOP_ST_FROZEN (bnat (s.hold x != 0))

def State.setInitPark (s : State) (x : Nat) (b : Bool) : State :=
  { s with drive := { s.drive with initPark := Tab.set (fun _ => true) s.drive.initPark x b } }
def State.setHold (s : State) (x n : Nat) : State :=
  { s with drive := { s.drive with hold := Tab.set holdDflt s.drive.hold x n } }

/-- A cause of park hold begins (R93): 1 dark port, 2 safe state, 4 isolation. The output stays parked after its end until
the owner's next write. -/
def State.parkHold (s : State) (x bit : Nat) : State :=
  ((s.setHold x (s.hold x ||| bit)).setInitPark x true).showPark x

/-- A cause of park hold ends. -/
def State.unhold (s : State) (x bit : Nat) : State :=
  (s.setHold x (if bitOf (s.hold x) (Nat.log2 bit) then s.hold x - bit else s.hold x)).showPark x

/-- A channel enters initial park (R93, R125). -/
def State.park (s : State) (x : Nat) : State := (s.setInitPark x true).showPark x

/-- Writers of a channel, as DRV_CH_CODE_x.SOURCE codes them (R110). -/
abbrev byHost : Nat := 1
abbrev byLoop : Nat := 2
abbrev byBlockSeq : Nat := 3
abbrev byRackSeq : Nat := 4

/-- The owner of a channel's base code (R89): 0 for none. -/
def State.chanOwner (s : State) (x : Nat) : Nat :=
  match s.loopState x with
  | 0 => 0
  | 1 => byLoop
  | 2 => byLoop
  | _ => (s.lx x).owner

/-- A code write is applied: the output takes it and the initial park ends (R93). -/
def State.applyCode (s : State) (x w code : Nat) : State :=
  let s := s.setF (R.DRV_CH_CODE x) F.DRV_CH_CODE_CODE code
  let s := s.setF (R.DRV_CH_CODE x) F.DRV_CH_CODE_SOURCE w
  (s.setInitPark x false).showPark x

/-- A code write is discarded and counted (R90, R94). -/
def State.discard (s : State) (x : Nat) : State := s.count (R.DRV_CH_FLAG x) F.DRV_CH_FLAG_DISCARDS 1

def State.rangeBreak (s : State) (x : Nat) : Option (Nat × Nat) := Tab.get (fun _ => none) s.drive.breaks x

/-- A write of a channel by w (R89, R90, R93, R94): applied when w owns the channel, no park hold applies and no range change is
breaking the output; discarded and counted otherwise. -/
def State.writeCode (s : State) (x w code : Nat) : State :=
  if s.chanOwner x = w ∧ s.hold x = 0 ∧ s.rangeBreak x = none then s.applyCode x w code else s.discard x

/-- The code a channel applies: base code, plus the tone where one is added (R90). -/
def State.baseCode (s : State) (x : Nat) : Nat := s.fld (R.DRV_CH_CODE x) F.DRV_CH_CODE_CODE

/-! ### Host direct drive and range changes -/

/-- An element of a fabric cell that is live. -/
def State.liveElem (s : State) (x : Nat) : Bool :=
  match elemOf x with
  | .cell i => s.liveCell i
  | _ => false

/-- R91: conditions of host direct drive. -/
def State.hostDriveOk (s : State) (x : Nat) : Bool :=
  s.flag (R.DRV_BLK_CTRL (blockOf x)) F.DRV_BLK_CTRL_HOST_DRIVE && s.loopState x == 0 && elemKind x != .attenuator &&
  !s.liveElem x && s.hold x == 0

/-- HOST_DIRECT_DRIVE (R91): a host write of DRV_CH_CODE_x.CODE. A write during a range break is discarded (R94). -/
def execHostDirectDrive (x : Fin 9216) (code : BitVec 14) (s : State) : Out :=
  .next (if s.hostDriveOk x then
    (if (s.rangeBreak x).isSome then s.discard x else s.applyCode x byHost code.toNat)
  else s.setF (R.DRV_CH_FLAG x) F.DRV_CH_FLAG_HOST_REFUSED 1)

/-- RANGE_CHANGE (R94): a write of DRV_CH_CFG_x.RANGE. A write of 3 is ignored; a write that changes the range needs the loop
Off, parks the output and starts 2 µs of break, restarted by a second change. -/
def execRangeChange (x : Fin 9216) (range : BitVec 2) (s : State) : Out :=
  let cur := match s.rangeBreak x with
    | some (_, r) => r
    | none => s.fld (R.DRV_CH_CFG x) F.DRV_CH_CFG_RANGE
  .next (if range.toNat = 3 ∨ range.toNat = cur then s
  else if s.loopState x = 0 then
    ({ s with drive := { s.drive with breaks := Tab.set (fun _ => none) s.drive.breaks x (some (s.now + 2000, range.toNat)) } }).park x
  else s.setF (R.DRV_CH_FLAG x) F.DRV_CH_FLAG_RANGE_REFUSED 1)

/-- RANGE_BREAK_END (R94): the new range is connected at code 0, 2 µs after the channel took the write. -/
def execRangeBreakEnd (x : Fin 9216) (s : State) : Out :=
  .next (match s.rangeBreak x with
  | some (t, r) =>
    if t ≤ s.now then
      let s := { s with drive := { s.drive with breaks := Tab.set (fun _ => none) s.drive.breaks x none } }
      let s := s.setF (R.DRV_CH_CFG x) F.DRV_CH_CFG_RANGE r
      let s := s.setF (R.DRV_CH_CODE x) F.DRV_CH_CODE_CODE 0
      s.setF (R.DRV_CH_CODE x) F.DRV_CH_CODE_SOURCE 0
    else s
  | none => s)

/-! ### Output protection -/

/-- A sticky flag of a channel is set, with its block's count of such channels. -/
def State.setSticky (s : State) (x : Nat) (flag cnt : Fld) : State :=
  if s.flag (R.DRV_CH_FLAG x) flag then s
  else (s.setF (R.DRV_CH_FLAG x) flag 1).countWrap (R.DRV_BLK_STATUS (blockOf x)) cnt 1

/-- DRV_OUTPUT is raised in ranges 1 and 2 (R96). -/
def State.raiseOutput (s : State) (x : Nat) : State :=
  if s.fld (R.DRV_CH_CFG x) F.DRV_CH_CFG_RANGE = 0 then s else s.raise (blockOf x) x

/-- DRV_LIMIT_DETECT (R95, R96): the limiter of a channel has been engaged for 64 ns, or has let go. -/
def execDrvLimitDetect (x : Fin 9216) (engaged : Bool) (s : State) : Out :=
  let s := s.setF (R.DRV_CH_FLAG x) F.DRV_CH_FLAG_LIMIT_NOW (bnat engaged)
  .next (if engaged then
    (s.setSticky x F.DRV_CH_FLAG_LIMIT F.DRV_BLK_STATUS_LIMIT_CH).raiseOutput x
  else s)

/-- DRV_OPEN_DETECT (R95, R96): the output has been held at its compliance voltage for 1 µs; in ranges 1 and 2, with a code of 64
or more, OPEN is set and DRV_OUTPUT raised. -/
def execDrvOpenDetect (x : Fin 9216) (s : State) : Out :=
  .next (if s.fld (R.DRV_CH_CFG x) F.DRV_CH_CFG_RANGE ≠ 0 ∧ 64 ≤ s.baseCode x then
    (s.setSticky x F.DRV_CH_FLAG_OPEN F.DRV_BLK_STATUS_OPEN_CH).raiseOutput x
  else s)

/-! ### Monitor conversion -/

/-- The element at input k of logical slice a of global bank n (R98, R99). -/
def bankElem (n a k : Nat) : Nat := 576 * (n / 3) + 192 * (n % 3) + 8 * a + k

/-- The global bank of an element (R98, R99). -/
def elemBank (x : Nat) : Nat := 3 * (x / 576) + (x % 576) / 192

def State.bank (s : State) (n : Nat) : Bank := Tab.get (fun _ => Bank.zero) s.drive.banks n
def State.setBank (s : State) (n : Nat) (b : Bank) : State :=
  { s with drive := { s.drive with banks := Tab.set (fun _ => Bank.zero) s.drive.banks n b } }

def State.seqSt (s : State) (q : Nat) : SeqSt := Tab.get (fun _ => SeqSt.zero) s.seq.q q
def State.setSeqSt (s : State) (q : Nat) (r : SeqSt) : State :=
  { s with seq := { s.seq with q := Tab.set (fun _ => SeqSt.zero) s.seq.q q r } }

/-- A monitor sample of a target whose sequence is starved is invalid (R149). -/
def State.sampleInvalid (s : State) (x : Nat) : Bool :=
  s.fld (R.SEQ_STATUS (blockOf x)) F.SEQ_STATUS_STATE == 3 && (s.seqSt (blockOf x)).targets.contains x

/-- Number of the loop frame in which the conversion that ends now was sampled, counted from power-up of the block (R110): the
frame in force, or the one before it where a frame has started at this tick. -/
def State.sampleFrame (s : State) (b : Nat) : Nat :=
  (Tab.get (fun _ => 0) s.drive.blkFrames b + 256 - (if s.tickCount ≤ s.loop.frame then 2 else 1)) % 256

/-- MONITOR_CONVERSION_DONE (R100): at a boundary tick the conversion of input k of logical slice a of bank n ends; its result
and the frame of its sample reach the loop engine and DRV_MON_x. A slice out of service or an unpowered block converts nothing. -/
def execMonitorConversionDone (n : Fin 48) (a : Fin 24) (k : Fin 8) (code : BitVec 12) (s : State) : Out :=
  let x := bankElem n a k
  let b := blockOf x
  .next (if s.blkUp b && !((s.bank n).retired.contains (nth 0 (s.bank n).map a)) then
    let s := s.setF (R.DRV_MON x) F.DRV_MON_SAMPLE code.toNat
    let s := s.setF (R.DRV_MON x) F.DRV_MON_FRAME (s.sampleFrame b)
    s.setF (R.DRV_MON x) F.DRV_MON_INVALID (bnat (s.sampleInvalid x))
  else s)

/-! ### Injected conversions -/

def State.injWaiting (s : State) (i : Nat) : Bool := Tab.get (fun _ => false) s.drive.injWait i
def State.setInjWait (s : State) (i : Nat) (b : Bool) : State :=
  { s with drive := { s.drive with injWait := Tab.set (fun _ => false) s.drive.injWait i b } }

/-- Where an injection slot converts (R108): the spare of a bank, a housekeeping slice, or nowhere. -/
inductive InjAt where
  | bank (n : Nat)
  | hk (m : Nat)
  | bad
  deriving DecidableEq, Repr

def State.injAt (s : State) (i : Nat) : InjAt :=
  let t := s.fld (R.DRV_INJ_CFG i) F.DRV_INJ_CFG_TARGET
  if s.flag (R.DRV_INJ_CFG i) F.DRV_INJ_CFG_KIND then
    (if t < 16 then .hk (s.fld (R.DRV_INJ_CFG i) F.DRV_INJ_CFG_HK_SLICE) else .bad)
  else if t < 9216 then .bank (elemBank t) else .bad

def State.hkSlice (s : State) (m : Nat) : HkSlice := Tab.get (fun _ => HkSlice.zero) s.drive.hk m
def State.setHk (s : State) (m : Nat) (h : HkSlice) : State :=
  { s with drive := { s.drive with hk := Tab.set (fun _ => HkSlice.zero) s.drive.hk m h } }

/-- A housekeeping slice is off (TRIG 0; 3 acts as 0). -/
def State.hkOff (s : State) (m : Nat) : Bool :=
  let t := s.fld (R.DRV_HK_CFG m) F.DRV_HK_CFG_TRIG
  t == 0 || t == 3

/-- R109: an activation of slot i is refused. -/
def State.injRefused (s : State) (i : Nat) : Bool :=
  match s.injAt i with
  | .bad => true
  | .hk m => s.hkOff m
  | .bank n => s.flag (R.DRV_BANK_STATUS n) F.DRV_BANK_STATUS_NO_SPARE || !s.blkUp (n / 3) || s.fab.isoBlocks.getLsbD (n / 3)

/-- The lowest-numbered slot waiting for a converter (R109). -/
def State.nextInj (s : State) (w : InjAt) : Option Nat :=
  (List.range 16).find? fun i => s.injWaiting i && s.injAt i == w

/-- The spare of bank n takes its next injected conversion, unless a due swap comes first (R102, R103). -/
def State.startBankInj (s : State) (n : Nat) : State :=
  let b := s.bank n
  if b.inj.isSome then s
  else
    let due := s.flag (R.DRV_BANK_STATUS n) F.DRV_BANK_STATUS_SWAP_DUE
    let pick := if due then b.first.head? else s.nextInj (.bank n)
    match pick with
    | some i =>
      let s := (s.setBank n { b with inj := some i, first := b.first.erase i }).setInjWait i false
      s.setF (R.DRV_BANK_STATUS n) F.DRV_BANK_STATUS_INJ_BUSY 1
    | none => s

/-- An idle housekeeping slice, or one between two conversions of its sequence, takes a waiting injected conversion (R107). -/
def State.startHkInj (s : State) (m : Nat) : State :=
  let h := s.hkSlice m
  if h.inj.isSome then s
  else match s.nextInj (.hk m) with
    | some i => (s.setHk m { h with inj := some i }).setInjWait i false
    | none => s

/-- An activation of injection slot i (R108, R109). -/
def State.injActivate (s : State) (i : Nat) (path : List Nat) : State :=
  if s.injRefused i then s.setF (R.DRV_INJ_RESULT i) F.DRV_INJ_RESULT_REFUSED 1
  else if s.injWaiting i then s.count (R.DRV_INJ_RESULT i) F.DRV_INJ_RESULT_OVERRUNS 1
  else
    let s := s.setInjWait i true
    let s := { s with drive := { s.drive with injPath := Tab.set (fun _ => []) s.drive.injPath i path } }
    match s.injAt i with
    | .bank n => s.startBankInj n
    | .hk m => if (s.hkSlice m).pos.isNone then s.startHkInj m else s
    | .bad => s

/-- A housekeeping result arrives (R105, R110): cause 0 timer, 1 converter edge, 2 injected. -/
def State.hkResult (s : State) (m c code cause : Nat) : State :=
  let o := R.DRV_HK_RESULT c
  let s := s.setF o F.DRV_HK_RESULT_NEW 1
  let s := s.setF o F.DRV_HK_RESULT_SLICE m
  let s := s.setF o F.DRV_HK_RESULT_CAUSE cause
  let s := s.countWrap o F.DRV_HK_RESULT_COUNT 1
  s.setF o F.DRV_HK_RESULT_RESULT code

/-- The result of slot i is held, and source 212 + i fires with the path of its activation (R108, R355). -/
def State.injHeld (s : State) (i code : Nat) : State :=
  let s := s.setF (R.DRV_INJ_RESULT i) F.DRV_INJ_RESULT_NEW 1
  let s := s.setF (R.DRV_INJ_RESULT i) F.DRV_INJ_RESULT_RESULT code
  s.fireP (212 + i) (Tab.get (fun _ => []) s.drive.injPath i)

/-- The conversion in progress for slot i completes, and the next waiting slot of the
same converter starts. -/
def State.injDone (s : State) (i : Fin 16) (code : BitVec 12) : State :=
  match s.injAt i with
  | .bank n =>
    let b := s.bank n
    if b.inj = some i.val then
      let s := (s.setBank n { b with inj := none }).injHeld i code.toNat
      let s := s.setF (R.DRV_BANK_STATUS n) F.DRV_BANK_STATUS_INJ_BUSY 0
      s.startBankInj n
    else s
  | .hk m =>
    let h := s.hkSlice m
    if h.inj = some i.val then
      let s := (s.setHk m { h with inj := none }).injHeld i code.toNat
      let s := s.hkResult m (s.fld (R.DRV_INJ_CFG i) F.DRV_INJ_CFG_TARGET) code.toNat 2
      if h.pos.isNone then s.startHkInj m else s
    else s
  | .bad => s

/-! ### The spare slice -/

/-- A swap of bank n falls due (R102, R103): the conversion in progress and the lowest waiting one come before it. -/
def State.swapFallsDue (s : State) (n : Nat) : State :=
  if s.flag (R.DRV_BANK_STATUS n) F.DRV_BANK_STATUS_SWAP_DUE then s
  else
    let first := match s.nextInj (.bank n) with
      | some i => if (s.bank n).inj.isSome then [i] else []
      | none => []
    (s.setBank n { s.bank n with first := first }).setF (R.DRV_BANK_STATUS n) F.DRV_BANK_STATUS_SWAP_DUE 1

/-- A swap falls due once the spare has been accepted since the last swap and SLICE_INTERVAL ms have passed (R170). -/
def State.swapByTime (s : State) (n : Nat) : State :=
  let b := s.bank n
  let ms := max 1 (s.fld R.CAL_CTRL F.CAL_CTRL_SLICE_INTERVAL)
  if s.flag R.CAL_CTRL F.CAL_CTRL_BG_EN && b.tasted && decide (b.lastSwap + ms * 1000000 ≤ s.now) &&
      !s.flag (R.DRV_BANK_STATUS n) F.DRV_BANK_STATUS_NO_SPARE then s.swapFallsDue n
  else s

/-- SPARE_SWAP (R103): at a boundary tick a due swap, with no conversion of item 1 of R102 left, brings the spare into logical
slice NEXT_POS; the slice that served it becomes the spare, and NEXT_POS advances from 0 to 23 and back to 0. -/
def execSpareSwap (n : Fin 48) (s : State) : Out :=
  let s := s.swapByTime n
  let b := s.bank n
  let o := R.DRV_BANK_STATUS n
  .next (if s.flag o F.DRV_BANK_STATUS_SWAP_DUE && b.inj.isNone && b.first.isEmpty && !s.flag o F.DRV_BANK_STATUS_NO_SPARE then
    let pos := s.fld o F.DRV_BANK_STATUS_NEXT_POS
    let old := nth 0 b.map pos
    let s := s.setBank n { b with map := setNth b.map pos (s.fld o F.DRV_BANK_STATUS_OUT_SLICE), lastSwap := s.now, tasted := false }
    let s := s.setF o F.DRV_BANK_STATUS_OUT_SLICE old
    let s := s.setF o F.DRV_BANK_STATUS_NEXT_POS ((pos + 1) % 24)
    let s := s.countWrap o F.DRV_BANK_STATUS_SWAPS 1
    let s := s.setF o F.DRV_BANK_STATUS_SWAP_DUE 0
    s.startBankInj n
  else s)

/-! ### Housekeeping sequences -/

/-- A regular trigger of slice m (R106, R107): it starts the sequence, becomes pending, or is counted in MISSED_m. -/
def State.hkTrigger (s : State) (m cause : Nat) : State :=
  let h := s.hkSlice m
  if h.pos.isNone then s.setHk m { h with pos := some 0, cause := cause }
  else if h.pendingTrig then s.count R.DRV_HK_STATUS ⟨4 * m, 4⟩ 1
  else s.setHk m { h with pendingTrig := true }

/-- HK_TIMER_TRIGGER (R106): the PERIOD timer of slice m triggers its sequence, when TRIG selects the timer. -/
def execHkTimerTrigger (m : Fin 8) (s : State) : Out :=
  .next (if s.fld (R.DRV_HK_CFG m) F.DRV_HK_CFG_TRIG = 1 then s.hkTrigger m 0 else s)

/-- HK_CONVERTER_EDGE (R106): the (DIVIDE + 1)-th turn-on edge of the slice's converter phase, when TRIG selects it. -/
def execHkConverterEdge (m : Fin 8) (s : State) : Out :=
  .next (if s.fld (R.DRV_HK_CFG m) F.DRV_HK_CFG_TRIG = 2 then s.hkTrigger m 1 else s)

/-- Channel at place p of the sequence of slice m (R106). -/
def State.hkChan (s : State) (m p : Nat) : Nat := s.fld (R.DRV_HK_SEQ m) ⟨4 * p, 4⟩

/-- R107: the sequence's conversion in progress completes and its result is held; a waiting injected
conversion runs before the next conversion; at the end of the sequence a pending trigger starts it again. -/
def State.hkDone (s : State) (m : Fin 8) (code : BitVec 12) : State :=
  let h := s.hkSlice m
  match h.pos with
  | some p =>
    if h.inj.isSome then s
    else
      let s := s.hkResult m (s.hkChan m p) code.toNat h.cause
      let last := s.fld (R.DRV_HK_SEQ m) F.DRV_HK_SEQ_LEN ≤ p
      let h' : HkSlice :=
        if last then (if h.pendingTrig then { h with pos := some 0, pendingTrig := false } else { h with pos := none })
        else { h with pos := some (p + 1) }
      (s.setHk m h').startHkInj m
  | none => s

end Sys2Proof.Machine
end

