-- ==== Sys2Proof/Machine/Seq.lean ====
section
/-! DEFINITION. Block sequencers, streamed segments and tone generators (07_sequencers.md R140 to R161). -/

namespace Sys2Proof.Machine

/-! ### Loop states, as sequencers and racks change them -/

/-- The loop of ELx is now in state n; the block's counts of states follow (R124, LOOP_BLK_STATES_b). -/
def State.setLoopState (s : State) (x n : Nat) : State :=
  let o := R.LOOP_BLK_STATES (blockOf x)
  let cnt (s : State) (st : Nat) (up : Bool) : State :=
    let f : Option Fld := match st with
      | 0 => some F.LOOP_BLK_STATES_OFF
      | 1 => some F.LOOP_BLK_STATES_ACQUIRE
      | 3 => some F.LOOP_BLK_STATES_SEQUENCED
      | _ => none
    match f with
    | some f => s.setF o f (if up then s.fld o f + 1 else s.fld o f - 1)
    | none => s
  let old := s.loopState x
  if old = n then s else (cnt (cnt s old false) n true).setF (R.LOOP_ST x) F.LOOP_ST_STATE n

/-- A sequencer takes ELx (R89, R125): its loop is Sequenced, the state it had is kept for the hand-over (R134), a search ends. -/
def State.takeElem (s : State) (x owner : Nat) : State :=
  let r := s.lx x
  let st := s.loopState x
  let s := s.setLx x { r with prior := if st = 3 then r.prior else st, owner := owner, ho := none, dem := [], slot := false }
  s.setLoopState x 3

/-- The sequence that holds ELx ends: its loop takes it back at the first loop sample after this instant (R132); an element whose
loop is Off stays Sequenced (R128, R134). -/
def State.beginHandover (s : State) (x : Nat) : State :=
  let r := s.lx x
  if s.loopState x = 3 ∧ r.prior ≠ 0 then s.setLx x { r with ho := some 0, dem := [], since := s.now } else s

/-! ### Segments (R141) -/

/-- Word w of segment i of sequencer q. -/
def State.segWord (s : State) (q i w : Nat) : Word := s.rd (R.SEQ_SEG q i w)

def segSource (w0 : Word) : Nat := bits w0.toNat 30 2
def segTset (w0 : Word) : Nat := bits w0.toNat 28 2
def segTone (w0 : Word) : Nat := bits w0.toNat 26 2
def segJmp (w0 : Word) : Nat := bits w0.toNat 24 2
def segTarget (w0 : Word) : Nat := bits w0.toNat 12 12
def segRepeat (w0 : Word) : Nat := bits w0.toNat 0 12
def segLen (w1 : Word) : Nat := bits w1.toNat 16 16 + 1
def segStart (w1 : Word) : Nat := bits w1.toNat 0 16

/-- Bounds of the stream area of R207, as SEQ_STREAM_BASE gives them (R161). -/
abbrev streamLo : Nat := 0x15000000
abbrev streamHi : Nat := 0x18000000

/-- Byte address of the first word of a streamed segment (R147). -/
def State.streamAddr (s : State) (q : Nat) (w1 : Word) : Nat :=
  (s.fld (R.SEQ_STREAM_BASE q) F.SEQ_STREAM_BASE_BASE + segStart w1) * 4096

/-- A segment that may not be entered with nt targets (R145 BAD_SEGMENT). -/
def State.badSegment (s : State) (q i nt : Nat) : Bool :=
  let w0 := s.segWord q i 0
  let w1 := s.segWord q i 1
  match segSource w0 with
  | 0 => 32768 < segStart w1 + segLen w1 * nt
  | 1 => s.fld (R.SEQ_STREAM_BASE q) F.SEQ_STREAM_BASE_BASE == 0 || s.streamAddr q w1 < streamLo ||
         streamHi < s.streamAddr q w1 + 2 * segLen w1 * nt
  | 2 => false
  | _ => true

/-! ### Starting and ending -/

def State.seqState (s : State) (q : Nat) : Nat := s.fld (R.SEQ_STATUS q) F.SEQ_STATUS_STATE

/-- The valid targets of block q in ascending t (R142). -/
def State.seqTargets (s : State) (q : Nat) : List Nat :=
  (List.range 8).filterMap fun t =>
    if s.flag (R.SEQ_TARGET q t) F.SEQ_TARGET_VALID then some (s.fld (R.SEQ_TARGET q t) F.SEQ_TARGET_ELEMENT) else none

/-- A target that a block sequence may not drive (R143): not an H or F element of block q, live, or isolated. -/
def State.badTarget (s : State) (q x : Nat) : Bool :=
  9216 ≤ x || blockOf x != q || elemKind x == .attenuator || s.liveElem x || s.elemIso x

/-- An element of the block, not a target, shares a slot of SEQ_TONE_MASK_q (R143 SLOT_SHARED). -/
def State.slotShared (s : State) (q : Nat) (ts : List Nat) : Bool :=
  (upFrom (576 * q) 576).any fun x =>
    !ts.contains x && s.flag (R.SEQ_SLOT x) F.SEQ_SLOT_EN && (s.loopState x == 1 || s.loopState x == 2) &&
    bitOf (s.rd (R.SEQ_TONE_MASK q)).toNat (s.fld (R.SEQ_SLOT x) F.SEQ_SLOT_SLOT)

/-- Why a start of block q is refused, first of R143's table; none when it is taken. -/
def State.startRefusal (s : State) (q : Nat) : Option Nat :=
  let ts := s.seqTargets q
  if s.seqState q ≠ 0 then some 0x10
  else if ts.any (s.badTarget q) then some 0x11
  else if ts.isEmpty then some 0x12
  else if s.slotShared q ts then some 0x13
  else if !s.blkUp q || s.fab.isoBlocks.getLsbD q then some 0x14
  else none

/-- A start request from segment first (R143): armed, or refused and recorded. -/
def State.seqRequest (s : State) (q first : Nat) (path : List Nat) : State :=
  match s.startRefusal q with
  | some c => s.setF (R.SEQ_RESULT q) F.SEQ_RESULT_LAST_REFUSAL c
  | none =>
    (s.setSeqSt q { s.seqSt q with armed := some first, path := path, stopAs := none, mute := false }).setF
      (R.SEQ_STATUS q) F.SEQ_STATUS_STATE 1

/-- A pending or late jump request is dropped at the end (R144). -/
def State.dropJump (s : State) (q : Nat) : State :=
  if s.flag (R.SEQ_STATUS q) F.SEQ_STATUS_JUMP_PENDING then
    (s.setF (R.SEQ_STATUS q) F.SEQ_STATUS_JUMP_PENDING 0).count (R.SEQ_COUNTS q) F.SEQ_COUNTS_JUMPS_DROPPED 1
  else s

/-- A block sequence ends with a code of R145: outcome and segment recorded, targets handed over but those a rack keeps,
source 160 + q fires. -/
def State.endSeq (s : State) (q code : Nat) (keep : List Nat) : State :=
  let r := s.seqSt q
  let s := s.setF (R.SEQ_RESULT q) F.SEQ_RESULT_LAST_SEGMENT (s.fld (R.SEQ_STATUS q) F.SEQ_STATUS_SEGMENT)
  let s := s.setF (R.SEQ_RESULT q) F.SEQ_RESULT_LAST_END code
  let s := (s.setF (R.SEQ_STATUS q) F.SEQ_STATUS_STATE 0).dropJump q
  let s := s.setSeqSt q { r with armed := none, targets := [], sample := 0, stream := [], stopAs := none, mute := false, path := [] }
  let s := r.targets.foldl (fun s x =>
    let s := { s with seq := { s.seq with noTone := Tab.set (fun _ => false) s.seq.noTone x false } }
    if keep.contains x then s else s.beginHandover x) s
  let s := if code = 6 then s.raise (176 + q) 0 else s
  s.fireP (160 + q) r.path

/-- A segment is entered (R141, R151, R153): it ends the sequence with BAD_SEGMENT where it is not allowed (R145). -/
def State.enterSeg (s : State) (q i : Nat) (jumped : Bool) : State :=
  let o := R.SEQ_STATUS q
  let w0 := s.segWord q i 0
  let s := (s.setF o F.SEQ_STATUS_SEGMENT i).setF o F.SEQ_STATUS_PASS 0
  let s := (s.setF o F.SEQ_STATUS_TSET (segTset w0)).setF o F.SEQ_STATUS_TONE_SEL (segTone w0)
  let r := s.seqSt q
  if s.badSegment q i r.targets.length then s.endSeq q 6 []
  else s.setSeqSt q { r with sample := 0, stream := if jumped then [] else r.stream, fetch := if jumped then (i, 0, 0) else r.fetch }

/-- SEQ_CMD_START (R143): SEQ_CMD_q with OP 1. -/
def execSeqCmdStart (q : Fin 16) (first : BitVec 12) (s : State) : Out := .next (s.seqRequest q first.toNat [])

/-- SEQ_CMD_STOP (R145): SEQ_CMD_q with OP 2. While armed it cancels the start; while running the sequence ends at the end of its
sample, while starved at once. -/
def execSeqCmdStop (q : Fin 16) (s : State) : Out :=
  .next (match s.seqState q with
  | 1 => (s.setSeqSt q { s.seqSt q with armed := none }).endSeq q 2 []
  | 2 => s.setSeqSt q { s.seqSt q with stopAs := some 2 }
  | 3 => s.endSeq q 2 []
  | _ => s)

/-- A jump request (R144): pending, merged, or dropped where no sequence runs. -/
def State.jumpRequest (s : State) (q : Nat) : State :=
  if s.seqState q < 2 then s.count (R.SEQ_COUNTS q) F.SEQ_COUNTS_JUMPS_DROPPED 1
  else if s.flag (R.SEQ_STATUS q) F.SEQ_STATUS_JUMP_PENDING then s.count (R.SEQ_COUNTS q) F.SEQ_COUNTS_JUMPS_MERGED 1
  else s.setF (R.SEQ_STATUS q) F.SEQ_STATUS_JUMP_PENDING 1

/-- SEQ_CMD_JUMP (R144): SEQ_CMD_q with OP 3. -/
def execSeqCmdJump (q : Fin 16) (s : State) : Out := .next (s.jumpRequest q)

/-- SEQ_START_TICK (R143): at the boundary tick after an armed start, every target enters Sequenced with the block sequencer as
owner, and the first segment begins. -/
def execSeqStartTick (q : Fin 16) (s : State) : Out :=
  .next (match s.seqState q, (s.seqSt q).armed with
  | 1, some first =>
    let ts := s.seqTargets q
    let s := ts.foldl (fun s x => s.takeElem x 3) s
    let s := s.setSeqSt q { s.seqSt q with armed := none, targets := ts, sample := 0, stream := [], fetch := (first, 0, 0) }
    (s.setF (R.SEQ_STATUS q) F.SEQ_STATUS_STATE 2).enterSeg q first true
  | _, _ => s)

/-! ### Samples, passes and streamed words -/

/-- One sample word reaches one target (R142). -/
def State.sampleWord (s : State) (q x w : Nat) : State :=
  let mode := bits w 14 2
  if (s.seqSt q).mute then s
  else if mode ≤ 1 then
    let s := { s with seq := { s.seq with noTone := Tab.set (fun _ => false) s.seq.noTone x (mode = 1) } }
    s.writeCode x byBlockSeq (bits w 0 14)
  else s

/-- The words of a sample reach the targets in ascending t. -/
def State.sampleWords (s : State) (q : Nat) : List Nat → List Nat → State
  | x :: xs, w :: ws => State.sampleWords (s.sampleWord q x w) q xs ws
  | _, _ => s

/-- Words a sample takes from the sample memory (R142). -/
def State.residentWords (s : State) (q a n : Nat) : List Nat :=
  (Tab.getList (fun _ => (0 : BitVec 16)) s.seq.mem (32768 * q + a) n).map BitVec.toNat

/-- The sample due is started with its words (R142), or the sequencer starves where they are not in the buffer (R149). -/
def State.startSample (s : State) (q : Nat) : State :=
  let r := s.seqSt q
  let i := s.fld (R.SEQ_STATUS q) F.SEQ_STATUS_SEGMENT
  let w0 := s.segWord q i 0
  let w1 := s.segWord q i 1
  let nt := r.targets.length
  if segLen w1 ≤ r.sample then s
  else match segSource w0 with
  | 0 =>
    let s := s.sampleWords q r.targets (s.residentWords q (segStart w1 + r.sample * nt) nt)
    s.setSeqSt q { s.seqSt q with sample := r.sample + 1 }
  | 1 =>
    if nt ≤ r.stream.length then
      let s := (s.setF (R.SEQ_STATUS q) F.SEQ_STATUS_STATE 2).sampleWords q r.targets (r.stream.take nt)
      s.setSeqSt q { s.seqSt q with sample := r.sample + 1, stream := r.stream.drop nt }
    else if s.seqState q = 3 then s
    else
      let s := (s.setF (R.SEQ_STATUS q) F.SEQ_STATUS_STATE 3).count (R.SEQ_COUNTS q) F.SEQ_COUNTS_STARVES 1
      s.setSeqSt q { s.seqSt q with starvedAt := s.now }
  | _ => s.setSeqSt q { r with sample := r.sample + 1 }

/-- SEQUENCE_SAMPLE (R142, R149): the cycle edge, ns after the last tick, that starts the next sample of a running sequence. A stop
asked for during the sample before ends the sequence here (R145). -/
def execSequenceSample (q : Fin 16) (ns : Fin 1000) (s : State) : Out :=
  let s := s.at_ ns
  .next (if s.seqState q = 2 then
    match (s.seqSt q).stopAs with
    | some c => s.endSeq q c []
    | none => s.startSample q
  else s)

/-- SEQ_PASS_END (R144, R145): the edge that ends the last sample of a pass. A pending request jumps under JMP_MODE 2; otherwise the
segment repeats, and after its last pass continues, jumps or ends by JMP_MODE. -/
def execSeqPassEnd (q : Fin 16) (s : State) : Out :=
  let r := s.seqSt q
  let o := R.SEQ_STATUS q
  let i := s.fld o F.SEQ_STATUS_SEGMENT
  let w0 := s.segWord q i 0
  .next (if s.seqState q = 2 ∧ r.sample = segLen (s.segWord q i 1) then
    match r.stopAs with
    | some c => s.endSeq q c []
    | none =>
      if segJmp w0 = 2 ∧ s.flag o F.SEQ_STATUS_JUMP_PENDING then
        (s.setF o F.SEQ_STATUS_JUMP_PENDING 0).enterSeg q (segTarget w0) true
      else if s.fld o F.SEQ_STATUS_PASS < segRepeat w0 then
        (s.countWrap o F.SEQ_STATUS_PASS 1).setSeqSt q { r with sample := 0 }
      else match segJmp w0 with
        | 1 => s.enterSeg q (segTarget w0) false
        | 3 => s.endSeq q 1 []
        | _ => s.enterSeg q ((i + 1) % 4096) false
  else s)

/-- Where the fetch goes on after the pass at (i, p) when no jump request is pending (R148). -/
def State.nextFetch (s : State) (q i p : Nat) : Nat × Nat :=
  let w0 := s.segWord q i 0
  if p < segRepeat w0 then (i, p + 1)
  else if segJmp w0 = 1 then (segTarget w0, 0)
  else ((i + 1) % 4096, 0)

/-- The next streamed word on the path from (i, p, j), skipping segments that stream nothing: its address, and where the fetch goes
on; none where the path ends. -/
def State.fetchWord (s : State) (q nt : Nat) : Nat → Nat × Nat × Nat → Option (Nat × (Nat × Nat × Nat))
  | 0, _ => none
  | n + 1, (i, p, j) =>
    let w0 := s.segWord q i 0
    let w1 := s.segWord q i 1
    if segSource w0 = 1 ∧ j < segLen w1 * nt then some (s.streamAddr q w1 + 2 * j, (i, p, j + 1))
    else if segJmp w0 = 3 ∧ segRepeat w0 ≤ p then none
    else
      let (i', p') := s.nextFetch q i p
      State.fetchWord s q nt n (i', p', 0)

/-- One word of Cellar enters the stream buffer of block q, up to its 8,192 words (R140, R147). -/
def State.fetchOne (s : State) (q : Nat) : State :=
  let r := s.seqSt q
  if 8192 ≤ r.stream.length then s
  else match s.fetchWord q r.targets.length 8192 r.fetch with
  | some (a, f) =>
    let b (k : Nat) : Nat := (Tab.get (fun _ => (0 : Byte)) s.cellar (a + k)).toNat
    s.setSeqSt q { r with stream := r.stream ++ [b 0 + 256 * b 1], fetch := f }
  | none => s

/-- SEQ_STREAM_DATA_ARRIVAL (R147 to R149): n words read from Cellar reach the buffer, the last of them uncorrectable where bad is
set (taken as code 2, R382); a starved sequencer resumes with the sample that was due, and the time held goes to SEQ_SLIP_q. -/
def execSeqStreamDataArrival (q : Fin 16) (n : Nat) (bad : Bool) (ns : Fin 1000) (s : State) : Out :=
  let s := s.at_ ns
  .next (if s.seqState q < 2 then s
  else
    let s := forUp (fun _ s => s.fetchOne q) n 0 s
    let s := if bad then
        let r := s.seqSt q
        (s.setSeqSt q { r with stream := setNth r.stream (r.stream.length - 1) 0x8000 }).raise 500 0
      else s
    let r := s.seqSt q
    if s.seqState q = 3 ∧ r.targets.length ≤ r.stream.length then
      (s.count (R.SEQ_SLIP q) F.SEQ_SLIP_VAL (cdiv (s.now - r.starvedAt) 8)).startSample q
    else s)

/-- SEQ_STARVE_ABORT (R150): a starvation longer than STARVE_LIMIT × 100 µs ends the sequence and raises SEQ_STARVE. -/
def execSeqStarveAbort (q : Fin 16) (s : State) : Out :=
  let lim := s.fld (R.SEQ_CTRL q) F.SEQ_CTRL_STARVE_LIMIT
  .next (if s.seqState q = 3 ∧ lim ≠ 0 ∧ (s.seqSt q).starvedAt + lim * 100000 < s.now then
    (s.endSeq q 5 []).raise (160 + q) 0
  else s)

/-- SEQ_SYNC_LOST (R159): sequencer q misses a synchronising pulse. -/
def execSeqSyncLost (q : Fin 17) (s : State) : Out := .next (s.raise (192 + q) 0)

/-- SEQ_MEM_DATA_ACCESS (R161): an access of SEQ_MEM_DATA_q, some v a write, none a read. Writes while armed or running are ignored
and set WRITE_REFUSED. The address increments after each access. -/
def execSeqMemDataAccess (q : Fin 16) (v : Option (BitVec 16)) (s : State) : Out :=
  let a := s.fld (R.SEQ_MEM_ADDR q) F.SEQ_MEM_ADDR_ADDR
  let s' := match v with
    | some v =>
      if s.seqState q = 0 then
        { s with seq := { s.seq with mem := Tab.set (fun _ => (0 : BitVec 16)) s.seq.mem (32768 * q + a) v } }
      else s.setF (R.SEQ_STATUS q) F.SEQ_STATUS_WRITE_REFUSED 1
    | none =>
      { s with hif := { s.hif with
          rdata := BitVec.ofNat 64 (Tab.get (fun _ => (0 : BitVec 16)) s.seq.mem (32768 * q + a)).toNat } }
  .next (s'.setF (R.SEQ_MEM_ADDR q) F.SEQ_MEM_ADDR_ADDR (a + 1))

/-! ### Tones (R152 to R154) -/

/-- Sine of 2π θ / 65,536 in units of 2^-30, from the Taylor series in 40 fractional bits (log entry 12). -/
def sinQ (θ : Nat) : Int :=
  let q := θ % 65536 / 16384
  let r := θ % 16384
  let a : Int := if q % 2 = 1 then 16384 - r else r
  let x : Int := a * 3454217652358 / 32768
  let m (u v : Int) : Int := u * v / 1099511627776
  let x2 := m x x
  let t := (1099511627776 : Int)
  let p13 := t - x2 / (14 * 15)
  let p11 := t - m x2 p13 / (12 * 13)
  let p9 := t - m x2 p11 / (10 * 11)
  let p7 := t - m x2 p9 / (8 * 9)
  let p5 := t - m x2 p7 / (6 * 7)
  let p3 := t - m x2 p5 / (4 * 5)
  let p1 := t - m x2 p3 / (2 * 3)
  let y := (m x p1 + 512) / 1024
  if q < 2 then y else - y

/-- The list entry in use by generator g of block q (R153). -/
def State.toneEntry (s : State) (q g : Nat) : Nat :=
  if 2 ≤ s.seqState q ∧ bitOf (s.rd (R.SEQ_TONE_MASK q)).toNat g then s.fld (R.SEQ_STATUS q) F.SEQ_STATUS_TONE_SEL else 0

/-- Phase of generator g of block q (R152). -/
def State.toneTheta (s : State) (q g : Nat) (acc : Word) : Nat :=
  (bits acc.toNat 16 16 + s.fld (R.SEQ_GEN_PHAMP q g (s.toneEntry q g)) F.SEQ_GEN_PHAMP_PHASE) % 65536

/-- The next accumulator of a generator: it advances by FREQ of the entry in use while its block is powered. -/
def State.toneNext (s : State) (k : Nat) : Word :=
  let acc := Tab.get (fun _ => (0 : Word)) s.seq.acc k
  if s.blkUp (k / 32) then acc + s.rd (R.SEQ_GEN_FREQ (k / 32) (k % 32) (s.toneEntry (k / 32) (k % 32))) else acc

/-- A table of n entries from a function, in canonical form. -/
def Tab.ofFn [DecidableEq α] (d : Nat → α) (f : Nat → α) (n : Nat) : Tab α :=
  (List.range n).filterMap fun k => if f k = d k then none else some (k, f k)

/-- TONE_UPDATE (R152): 504 ns after a boundary tick every accumulator advances, and the new tone and reference apply; the
references of the two updates before are kept for the loops (R118). -/
def execToneUpdate (s : State) : Out :=
  let s := s.at_ 504
  let acc := Tab.ofFn (fun _ => (0 : Word)) s.toneNext 512
  let ref := Tab.ofFn (fun _ => (0 : Int)) (fun k => sinQ (s.toneTheta (k / 32) (k % 32) (Tab.get (fun _ => 0) acc k))) 512
  .next { s with seq := { s.seq with acc := acc, ref := ref, refPrev := s.seq.ref, refPrev2 := s.seq.refPrev } }

/-- The tone added to channel x (R90, R152, R154): none while parked, while the host or the rack sequencer drives it, or while its
sample forbids it. -/
def State.tone (s : State) (x : Nat) : Int :=
  let slot := s.fld (R.SEQ_SLOT x) F.SEQ_SLOT_SLOT
  let q := blockOf x
  if !s.flag (R.SEQ_SLOT x) F.SEQ_SLOT_EN || s.flag (R.DRV_CH_CODE x) F.DRV_CH_CODE_PARKED || s.loopState x == 0 ||
     (s.loopState x == 3 && (s.lx x).owner == 4) || Tab.get (fun _ => false) s.seq.noTone x then 0
  else
    roundAway (Tab.get (fun _ => 0) s.seq.ref (32 * q + slot) *
      (s.fld (R.SEQ_GEN_PHAMP q slot (s.toneEntry q slot)) F.SEQ_GEN_PHAMP_AMP : Nat))
      (30 + s.fld (R.SEQ_SLOT x) F.SEQ_SLOT_SHIFT)

/-- The code the channel applies, tone included, clamped to 0 and 16,383 (R90). -/
def State.appliedCode (s : State) (x : Nat) : Nat := (clampInt 0 16383 ((s.baseCode x : Int) + s.tone x)).toNat

end Sys2Proof.Machine
end

