-- ==== Sys2Proof/Machine/Thermal.lean ====
section
/-! DEFINITION. Sensor sweeps, thresholds, the thermal model, housekeeping results that it uses, and PFAIL
(18_thermal_power_clocks.md R404 to R420; 05_drive_and_sense.md R105 to R109). -/

namespace Sys2Proof.Machine

/-! ### What runs (R415, R425, R431) -/

/-- Sensor sweeps and the thermal model run: from step 8 of a cold start, through a warm start, until Dormant. -/
def State.thermalOn (s : State) : Bool := s.mode != .dormant && (!s.start.cold || bitOf s.start.ended 8)

/-- The pipelines and buffer banks are powered: from step 11 of a cold start until Dormant, but for steps 2 to 6 of a warm start. -/
def State.pipesUp (s : State) : Bool :=
  s.mode != .dormant && (!s.start.cold || bitOf s.start.ended 11) &&
  (!s.start.warm || !bitOf s.start.ended 2 || bitOf s.start.ended 6)

/-- The domain of E-lane x is on (R415): its port has a MODE, its PRBS is in use, or WARM_KEEP holds it through a warm start. -/
def State.laneOn (s : State) (x : Nat) : Bool :=
  s.portStep (s.portOfLane x) != 0 || s.flag (R.LANE_PRBS x) F.LANE_PRBS_GEN || s.flag (R.LANE_PRBS x) F.LANE_PRBS_CHK

/-! ### Sensors (R404 to R408) -/

def State.sensorFlag (s : State) (n : Nat) (f : Fld) : Bool := s.flag (R.THM_SENSOR n) f

/-- The latest reading of sensor n, 0.1 °C. -/
def State.sensorVal (s : State) (n : Nat) : Int := signedOf 16 (s.fld (R.THM_SENSOR n) F.THM_SENSOR_VALUE)

/-- Neither forced hot, excluded nor released. -/
def State.sensorUsable (s : State) (n : Nat) : Bool :=
  !s.sensorFlag n F.THM_SENSOR_FORCED_HOT && !s.sensorFlag n F.THM_SENSOR_EXCLUDED && !s.sensorFlag n F.THM_SENSOR_RELEASED

/-- Group of a sensor (R404). -/
def sensorGroup (n : Nat) : Nat := if n < 48 then n / 3 else (n - 48) / 2

/-- Neighbours in the 4 × 4 grid (R404). -/
def gridNeighbours (g : Nat) : List Nat :=
  (if 4 ≤ g then [g - 4] else []) ++ (if g % 4 ≠ 0 then [g - 1] else []) ++ (if g % 4 ≠ 3 then [g + 1] else []) ++
  (if g < 12 then [g + 4] else [])

/-- Sensors of a group on one die. -/
def groupSensors (control : Bool) (g : Nat) : List Nat :=
  if control then [3 * g, 3 * g + 1, 3 * g + 2] else [48 + 2 * g, 49 + 2 * g]

/-- A sensor's new reading: forced hot from the first failed self-check, once raised (R406). -/
def State.takeReading (s : State) (n : Nat) (v : Option (BitVec 16)) : State :=
  if s.sensorFlag n F.THM_SENSOR_FORCED_HOT then s
  else match v with
  | some v => s.setF (R.THM_SENSOR n) F.THM_SENSOR_VALUE v.toNat
  | none =>
    ((s.setF (R.THM_SENSOR n) F.THM_SENSOR_FORCED_HOT 1).setF (R.THM_SENSOR n) F.THM_SENSOR_VALUE 1500).raiseD
      (531 + n) n 1500 0 0 []

/-- Insert into an ascending list. -/
def insertInt (a : Int) : List Int → List Int
  | [] => [a]
  | b :: l => if a ≤ b then a :: b :: l else b :: insertInt a l

/-- Twice the median: the middle value counted twice, or the sum of the two middle values. -/
def medianTwice (l : List Int) : Int :=
  let l := l.foldr insertInt []
  nth 0 l ((l.length - 1) / 2) + nth 0 l (l.length / 2)

/-- The reference set of a sensor (R407): same die, own and neighbouring groups, in use, itself left out. -/
def State.referenceSet (s : State) (n : Nat) : List Nat :=
  let g := sensorGroup n
  ((g :: gridNeighbours g).flatMap (groupSensors (n < 48))).filter fun m => m != n && s.sensorUsable m

/-- R407 for sensor n, judged on the readings and states of s0. -/
def State.crossCheck (s0 : State) (n : Nat) (s : State) : State :=
  let o := R.THM_SENSOR n
  if !s0.sensorUsable n then s
  else
    let ref := s0.referenceSet n
    if ref.length < 3 then (s.setF o F.THM_SENSOR_NO_CHECK 1).setF o F.THM_SENSOR_DISAGREE 0
    else
      let s := s.setF o F.THM_SENSOR_NO_CHECK 0
      let d := 2 * s0.sensorVal n - medianTwice (ref.map s0.sensorVal)
      if 240 < d ∨ d < -240 then
        let k := s.fld o F.THM_SENSOR_DISAGREE + 1
        let s := s.setF o F.THM_SENSOR_DISAGREE k
        if 8 ≤ k then
          (s.setF o F.THM_SENSOR_EXCLUDED 1).raiseD (531 + n) n (s.fld o F.THM_SENSOR_VALUE) 120 0 []
        else s
      else s.setF o F.THM_SENSOR_DISAGREE 0

/-- THM_SENSOR_OVR_n is written as SAFETY (R408). -/
def State.sensorOverride (s : State) (n op : Nat) : State :=
  let o := R.THM_SENSOR n
  if op = 1 ∧ s.sensorFlag n F.THM_SENSOR_FORCED_HOT ∧ !s.sensorFlag n F.THM_SENSOR_RELEASED then
    (s.setF o F.THM_SENSOR_RELEASED 1).setF (R.THM_SENSOR_OVR n) F.THM_SENSOR_OVR_OP 1
  else if op = 2 ∧ s.sensorFlag n F.THM_SENSOR_EXCLUDED then
    ((s.setF o F.THM_SENSOR_EXCLUDED 0).setF o F.THM_SENSOR_DISAGREE 0).setF (R.THM_SENSOR_OVR n) F.THM_SENSOR_OVR_OP 2
  else s

/-! ### Reported temperature and thresholds (R409, R410) -/

/-- 16 bits of a temperature. -/
def temp16 (t : Int) : Nat := unsignedOf 16 (clampInt (-32768) 32767 t)

def maxInt (d : Int) (l : List Int) : Int := l.foldl (fun a b => if a < b then b else a) d

/-- Sensors that enter the sensed value. -/
def State.sensedSet (s : State) : List Nat :=
  (List.range 80).filter fun n => !s.sensorFlag n F.THM_SENSOR_EXCLUDED && !s.sensorFlag n F.THM_SENSOR_RELEASED

def State.sensed (s : State) : Int :=
  match s.sensedSet with
  | [] => 1500
  | n :: l => maxInt (s.sensorVal n) (l.map s.sensorVal)

/-- Highest TM_b among valid nodes, else the sensed value. -/
def State.modelValue (s : State) : Int :=
  match (List.range 16).filter fun b => s.flag (R.THM_NODE b) F.THM_NODE_VALID with
  | [] => s.sensed
  | b :: l =>
    let t (b : Nat) : Int := signedOf 16 (s.fld (R.THM_NODE b) F.THM_NODE_TM)
    maxInt (t b) (l.map t)

/-- A threshold of R410: reached at or above its level, cleared below it less 5 °C. -/
def State.threshold (s : State) (f : Fld) (v level : Int) (reach clear : State → State) : State :=
  if s.flag R.THM_STATUS f then (if v < level - 50 then clear (s.setF R.THM_STATUS f 0) else s)
  else if level ≤ v then reach (s.setF R.THM_STATUS f 1) else s

/-- R410, with the transitions of R16: Serve to Limp at the throttle, and back where the throttle alone caused Limp. -/
def State.thresholds (s : State) (reported combined : Int) : State :=
  let s := s.threshold F.THM_STATUS_WARN reported 950
    (fun s => ((s.raiseD 528 0 (temp16 reported) 950 0 []).attn 6).fire 236) (fun s => (s.attnClear 6).fire 239)
  let s := s.threshold F.THM_STATUS_THROTTLE reported 1050
    (fun s =>
      let s := (s.raiseD 529 0 (temp16 reported) 1050 0 []).fire 237
      if s.mode = .serve then s.askMode ⟨.limp, .throttle, none, [], 0⟩ else s)
    (fun s => if s.mode = .limp ∧ s.start.throttleOnly then s.askMode ⟨.serve, .cooled, none, [], 0⟩ else s)
  s.threshold F.THM_STATUS_SHUTDOWN combined 1150
    (fun s => (s.raiseD 530 0 (temp16 combined) 1150 0 []).fire 238) id

/-! ### Derived temperatures (R411) -/

/-- Sensors of a list that remain in use. -/
def State.inUse (s : State) (l : List Nat) : List Int := (l.filter s.sensorUsable).map s.sensorVal

/-- The NOR temperature; none where the NOR counts as outside its window. -/
def State.norTemp (s : State) : Option Int :=
  if s.sensorFlag 47 F.THM_SENSOR_EXCLUDED || s.sensorFlag 47 F.THM_SENSOR_RELEASED then
    (match s.inUse [45, 46] with
     | [] => none
     | a :: l => some (maxInt a l + 50))
  else some (s.sensorVal 47)

/-- The TCXO temperature; none where no sensor of it remains. -/
def State.tcxoTemp (s : State) : Option Int :=
  if s.sensorUsable 0 then some (s.sensorVal 0)
  else match s.inUse [1, 2] with
    | [] => none
    | [a] => some a
    | a :: b :: _ => some (roundAway (a + b) 1)

/-- THM_DERIVED follows the sensors; a temperature that does not exist leaves its field. -/
def State.derive_ (s : State) : State :=
  let s := match s.norTemp with
    | some t => { s.setF R.THM_DERIVED F.THM_DERIVED_NOR (temp16 t) with thm := { s.thm with norOk := true } }
    | none => { s with thm := { s.thm with norOk := false } }
  match s.tcxoTemp with
  | some t => { s.setF R.THM_DERIVED F.THM_DERIVED_TCXO (temp16 t) with thm := { s.thm with tcxoOk := true } }
  | none => { s with thm := { s.thm with tcxoOk := false } }

/-- Photonic sensors that enter T_BASE (R412). -/
def State.baseSensors (s : State) : List Int := s.inUse (upFrom 48 32)

def sumInt (l : List Int) : Int := l.foldl (· + ·) 0

/-- a / b to the nearest, ties away from zero. -/
def divRound (a : Int) (b : Nat) : Int :=
  if 0 ≤ a then (2 * a + b) / (2 * b : Nat) else - ((2 * (- a) + b) / (2 * b : Nat))

/-- T_BASE in 0.1 °C. -/
def State.showBase (s : State) : State :=
  let l := s.baseSensors
  if l.isEmpty then s else s.setF R.THM_BASE F.THM_BASE_T_BASE (temp16 (divRound (sumInt l) l.length))

/-- FAST (R405): from 90.0 °C, until 10 sweeps in a row lie below it. -/
def State.sweepRate (s : State) (combined : Int) : State :=
  if 900 ≤ combined then
    let s := s.setF R.THM_STATUS F.THM_STATUS_FAST 1
    { s with thm := { s.thm with slow := 0 } }
  else
    let k := s.thm.slow + 1
    let s := if 10 ≤ k then s.setF R.THM_STATUS F.THM_STATUS_FAST 0 else s
    { s with thm := { s.thm with slow := min k 10 } }

/-- The reported value among the sensed, model and combined values (R409). -/
def State.reported (s : State) (sensed model combined : Int) : Int :=
  match s.fld R.THM_CTRL F.THM_CTRL_REPORT with
  | 0 => sensed
  | 1 => model
  | _ => combined

/-- The three values of R409 from the readings held, and what follows from them. -/
def State.judgeSweep (s : State) : State :=
  let sensed := s.sensed
  let model := s.modelValue
  let combined := if sensed < model then model else sensed
  let reported := s.reported sensed model combined
  let s := (s.setF R.THM_VALUES F.THM_VALUES_SENSED (temp16 sensed)).setF R.THM_VALUES F.THM_VALUES_MODEL (temp16 model)
  let s := s.setF R.THM_STATUS F.THM_STATUS_NO_SENSOR (bnat s.sensedSet.isEmpty)
  let s := s.setF R.THM_STATUS F.THM_STATUS_REPORTED (temp16 reported)
  (s.derive_.showBase.sweepRate combined).thresholds reported combined

/-- Every sensor takes its reading, then the cross-check is judged on what they left. -/
def State.readSensors (s : State) (l : List (Option (BitVec 16))) : State :=
  let s := forUp (fun n s => s.takeReading n (nth none l n)) 80 0 s
  let s := forUp (State.crossCheck s) 80 0 s
  { s with thm := { s.thm with swept := true } }

/-- A sensor sweep (R405 to R411): the readings of all 80 sensors in 0.1 °C, none where the self-check of a diode fails. -/
def State.sensorSweep (readings : Vector (Option (BitVec 16)) 80) (s : State) : State :=
  if s.thermalOn then (s.readSensors readings.toList).judgeSweep else s

/-- A conversion for the NOR temperature (R411): from step 3 of a cold start until the regular sweeps, sensors 45 to 47 alone. -/
def State.norConversion (t45 t46 t47 : Option (BitVec 16)) (s : State) : State :=
  if s.start.cold && s.mode != .dormant && bitOf s.start.ended 3 && !s.thermalOn then
    let s := ((s.takeReading 45 t45).takeReading 46 t46).takeReading 47 t47
    match s.norTemp with
    | some t => { s.setF R.THM_DERIVED F.THM_DERIVED_NOR (temp16 t) with thm := { s.thm with norOk := true } }
    | none => { s with thm := { s.thm with norOk := false } }
  else s

/-! ### Powers of the thermal model (R413) -/

/-- Current of channel x in 5 mA / 16,384 (R87, R90): none while parked. -/
def State.current (s : State) (x : Nat) : Nat :=
  if s.flag (R.DRV_CH_CODE x) F.DRV_CH_CODE_PARKED || !s.blkUp (blockOf x) then 0
  else match s.fld (R.DRV_CH_CFG x) F.DRV_CH_CFG_RANGE with
    | 2 => 4 * s.appliedCode x
    | 1 => s.appliedCode x
    | _ => Config.voltageRangeCurrent x (s.appliedCode x)

/-- Resistance of heater x, 0.01 Ω: CAL_CURVE word 7, 120 Ω while nominal. -/
def State.heaterOhm (s : State) (x : Nat) : Nat := bits (s.rd (R.CAL_CURVE x 7)).toNat 0 16

/-- Elements of block b that are heaters, or that are not. -/
def blockElems (b : Nat) (heaters : Bool) : List Nat :=
  (upFrom (576 * b) 576).filter fun x => (elemKind x == .heater) == heaters

def sumNat (l : List Nat) : Nat := l.foldl (· + ·) 0

/-- Σ I² R over the heaters of block b. -/
def State.heaterSum (s : State) (b : Nat) : Nat :=
  sumNat ((blockElems b true).map fun x => s.current x ^ 2 * s.heaterOhm x)

/-- Σ I over the shifters and attenuators of block b. -/
def State.shifterSum (s : State) (b : Nat) : Nat := sumNat ((blockElems b false).map s.current)

/-- Heater power of block b in 2^-24 W: Σ I² R, scaled by k_H. -/
def State.heaterPower (s : State) (b : Nat) : Int := divRound (s.heaterSum b * s.thm.kH : Nat) (64000000 * 2 ^ 20)

/-- Result of housekeeping channel c. -/
def State.hcCode (s : State) (c : Nat) : Nat := s.fld (R.DRV_HK_RESULT c) F.DRV_HK_RESULT_RESULT

/-- Shifter power of block b in 2^-24 W: Σ I × VDD_DRV, scaled by k_F. -/
def State.shifterPower (s : State) (b : Nat) : Int :=
  divRound (s.shifterSum b * s.hcCode 7 * 16 * s.thm.kF : Nat) (3125 * 2 ^ 20)

/-- A_j in 2^-24 W. -/
def State.activity (s : State) (j : Nat) : Int :=
  let act := R.THM_MODEL_ACT
  let n := j % 4
  if j < 4 then divRound ((s.fld act F.THM_MODEL_ACT_E_BIT) * Tab.get (fun _ => 0) s.thm.rxBits n * 2 ^ 24 : Nat) 8000000
  else if j < 8 then
    divRound ((s.fld act F.THM_MODEL_ACT_P_LANE) * ((upFrom (16 * n) 16).filter s.laneOn).length * 2 ^ 24 : Nat) 100
  else if j < 12 then
    divRound ((s.fld act F.THM_MODEL_ACT_P_TAP) *
      ((upFrom (8 * n) 8).filter fun k => s.flag (R.LANE_TAP k) F.LANE_TAP_TX_ON).length * 2 ^ 24 : Nat) 20
  else divRound ((s.fld R.THM_MODEL_PSV F.THM_MODEL_PSV_P_SV) * 2 ^ 24 : Nat) 10

/-- A coefficient of the model, Q4.20. -/
def State.q20 (s : State) (off : Nat) : Int := signedOf 24 (s.rd off).toNat

/-- Saturate to Q8.24. -/
def sat32 (z : Int) : Int := clampInt (- 2 ^ 31) (2 ^ 31 - 1) z

/-- P_b in 2^-24 W. -/
def State.nodePower (s : State) (b : Nat) : Int :=
  let blk := if s.blkUp b then divRound ((s.fld R.THM_MODEL_ACT F.THM_MODEL_ACT_P_BLK) * 2 ^ 24 : Nat) 100 else 0
  let act := sumInt ((List.range 13).map fun j => s.q20 (R.THM_MODEL_G b j) * s.activity j)
  s.heaterPower b + s.shifterPower b + blk + roundAway act 20

/-- Node b is valid (R414). -/
def State.nodeValid (s : State) (b : Nat) : Bool :=
  s.thm.swept && !s.baseSensors.isEmpty && (s.pipesUp || (List.range 12).all fun j => s.q20 (R.THM_MODEL_G b j) == 0)

def State.nodeDT (s : State) (b : Nat) : Int := Tab.get (fun _ => 0) s.thm.dT b

/-- ΔT of node b for the frame that starts (R412). -/
def State.nodeNext (s : State) (p : Nat → Int) (b : Nat) : Int :=
  let d := s.nodeDT b
  let near := sumInt ((gridNeighbours b).map fun n => s.nodeDT n - d)
  sat32 (roundAway (s.q20 (R.THM_MODEL_ALPHA b) * d + s.q20 (R.THM_MODEL_BETA b) * p b + s.q20 R.THM_MODEL_GAMMA * near) 20)

/-- T_BASE in Q8.24 °C. -/
def State.baseQ (s : State) : Int :=
  let l := s.baseSensors
  if l.isEmpty then 0 else divRound (sumInt l * 2 ^ 24) (10 * l.length)

/-- TM_b in Q8.24 °C. -/
def State.nodeTM (s : State) (b : Nat) : Int := sat32 (s.baseQ + s.nodeDT b)

/-- The 16 nodes are evaluated for the frame that starts, and THM_NODE_b shows them; the bit counts of the frame start again. -/
def State.evalModel (s : State) : State :=
  let ps := (List.range 16).map s.nodePower
  let p (b : Nat) : Int := nth 0 ps b
  let dT := Tab.ofFn (fun _ => (0 : Int)) (s.nodeNext p) 16
  let s := { s with thm := { s.thm with dT := dT, rxBits := [] } }
  forUp (fun b s =>
    let o := R.THM_NODE b
    let s := s.setF o F.THM_NODE_TM (temp16 (roundAway (s.nodeTM b * 10) 24))
    let s := s.setF o F.THM_NODE_VALID (bnat (s.nodeValid b))
    s.setF o F.THM_NODE_P (clampInt 0 32767 (roundAway (p b * 100) 24)).toNat) 16 0 s

/-- SCALE_STALE (R413): HC07, HC08 or HC09 has given no result for 1 ms. -/
def State.scaleStale (s : State) : Bool :=
  [7, 8, 9].any fun c => decide (Tab.get (fun _ => 0) s.thm.hcAt c + 1000000 ≤ s.now)

/-! ### Housekeeping results that the model and the power registers use (R413, R422) -/

/-- A scale factor from a measured and a computed current; with none computed its value is open (R413). -/
def State.scaleOf (s : State) (measured computed : Nat) : Nat :=
  clampNat 838861 1310720 (if computed = 0 then s.freeVal 32 else (2 * measured * 2 ^ 20 + computed) / (2 * computed))

/-- A result of channel c: k_H at HC08, k_F at HC09, both kept in 0.8 to 1.25; input power and VHOLD at HC00, HC01 and HC15. -/
def State.hcResult (s : State) (c : Nat) : State :=
  let s := if 7 ≤ c ∧ c ≤ 9 then { s with thm := { s.thm with hcAt := Tab.set (fun _ => 0) s.thm.hcAt c s.now } } else s
  if c = 8 then
    let i := sumNat ((List.range 16).map fun b => sumNat ((blockElems b true).map s.current))
    let k := s.scaleOf (s.hcCode 8 * 32768) i
    { (if i = 0 then s.drawn else s) with thm := { s.thm with kH := k } }
  else if c = 9 then
    let i := sumNat ((List.range 16).map s.shifterSum)
    let k := s.scaleOf (s.hcCode 9 * 16384) i
    { (if i = 0 then s.drawn else s) with thm := { s.thm with kF := k } }
  else if c ≤ 1 then
    s.setF R.PWR_INPUT F.PWR_INPUT_POWER (satAdd 16 0 ((s.hcCode 0 * s.hcCode 1 * 9 + 320) / 640))
  else if c = 15 then s.setF R.PWR_INPUT F.PWR_INPUT_VHOLD (satAdd 16 0 ((s.hcCode 15 * 15 + 4) / 8))
  else s

/-- HK_CONVERSION_DONE (R107): the conversion in progress of slice m completes with a code. -/
def execHkConversionDone (m : Fin 8) (code : BitVec 12) (s : State) : Out :=
  let h := s.hkSlice m
  .next (match h.pos with
  | some p => if h.inj.isSome then s else (s.hkDone m code).hcResult (s.hkChan m p)
  | none => s)

/-- INJECTED_CONVERSION_DONE (R108, R109): the injected conversion in progress for slot i completes with a code. -/
def execInjectedConversionDone (i : Fin 16) (code : BitVec 12) (s : State) : Out :=
  .next (match s.injAt i with
  | .hk m =>
    if (s.hkSlice m).inj = some i.val then (s.injDone i code).hcResult (s.fld (R.DRV_INJ_CFG i) F.DRV_INJ_CFG_TARGET)
    else s.injDone i code
  | _ => s.injDone i code)

/-! ### PFAIL (R419) -/

/-- PFAIL_N is asserted (R419): VIN has been below 8.7 V for 1 µs, or VHOLD is below 44 V; both in mV. Each assertion fires source 243. -/
def State.pfailAssert (vin vhold : Nat) (s : State) : State :=
  let o := R.PWR_STATUS
  let s := s.setF o F.PWR_STATUS_VHOLD_LOW (bnat (decide (vhold < 44000)))
  let s := if vin < 8700 ∧ 9000 < vhold then s.setF o F.PWR_STATUS_ON_HOLDUP 1 else s
  if (vin < 8700 ∨ vhold < 44000) ∧ !s.flag o F.PWR_STATUS_PFAIL then
    ((s.setF o F.PWR_STATUS_PFAIL 1).count o F.PWR_STATUS_PFAIL_COUNT 1).fire 243
  else s

/-- PFAIL_N is released (R419): VIN, in mV, has been at its level for 1 ms: at or above 9.0 V the converter is back on VIN, and with VHOLD at
or above 44 V the pin is released. -/
def State.pfailRelease (vin vhold : Nat) (s : State) : State :=
  let o := R.PWR_STATUS
  let s := s.setF o F.PWR_STATUS_VHOLD_LOW (bnat (decide (vhold < 44000)))
  if 9000 ≤ vin then
    let s := s.setF o F.PWR_STATUS_ON_HOLDUP 0
    if 44000 ≤ vhold then s.setF o F.PWR_STATUS_PFAIL 0 else s
  else s

end Sys2Proof.Machine
end

