-- ==== Sys2Proof/Machine/Loop.lean ====
section
/-! DEFINITION. The loop engine: frames, feed-forward, the loop law, Acquire, hand-over, plausibility and overrun
(06_loops.md R111 to R139). -/

namespace Sys2Proof.Machine

/-! ### The configuration record (R138) -/

/-- Word w of the active record of ELx. -/
def State.cfgW (s : State) (x w : Nat) : Nat := (s.rd (R.LOOP_ACTIVE_CFG x w)).toNat

def cfgEnable (w0 : Nat) : Bool := bitOf w0 31
/-- Observer order: 3 acts as 2. -/
def cfgOrder (w0 : Nat) : Nat := match bits w0 29 2 with | 1 => 3 | 2 => 4 | _ => 2
/-- MEAS: 0 POWER, 1 RATIO, 2 DITHER; 3 acts as 0. -/
def cfgMeas (w0 : Nat) : Nat := bits w0 27 2 % 3
/-- Values of ORDER or more act as ORDER − 1. -/
def cfgInt (w0 : Nat) : Nat := min (bits w0 25 2) (cfgOrder w0 - 1)
def cfgFf (w0 : Nat) : Bool := bitOf w0 24
def cfgPlLimit (w0 : Nat) : Nat := max 1 (bits w0 16 8)
def cfgMeasRef (w0 : Nat) : Nat := min 575 (bits w0 0 10)
/-- U_MIN and U_MAX: when U_MIN exceeds U_MAX, both act as U_MAX. -/
def cfgLimits (w1 : Nat) : Nat × Nat := (min (bits w1 16 14) (bits w1 0 14), bits w1 0 14)
/-- GOAL: +1 seeks a minimum, −1 a maximum (R130). -/
def cfgGoal (w3 : Nat) : Int := if bitOf w3 31 then -1 else 1
/-- Demodulation period in Acquire and window in Hold, in samples (R118). -/
def cfgAcqM (w3 : Nat) : Nat := 8 * 2 ^ min 5 (bits w3 28 3)
def cfgHoldM (w3 : Nat) : Nat := 2 ^ min 8 (bits w3 24 4)
def cfgScale (w3 : Nat) : Int := signedOf 24 w3
def cfgStep (w47 : Nat) : Nat := max 1 (bits w47 16 14)
def cfgSeed (w47 : Nat) : Nat := bits w47 0 14

/-- A coefficient word as Q4.20. -/
def State.coef (s : State) (x w : Nat) : Int := signedOf 24 (s.cfgW x w)

/-- SETPOINT, Q8.24. -/
def State.setPoint (s : State) (x : Nat) : Int := signedOf 32 (s.cfgW x 2)

/-- Cost of an element in Hold, in multiply-accumulates (R113). -/
def holdCost (w0 : Nat) : Nat :=
  let n := cfgOrder w0
  n * n + 4 * n + (if cfgMeas w0 = 2 then 16 else 8)

/-- Estimate of a set of loop records for block b (R114): the largest of its eight group loads. -/
def loadEstimate (w0 : Nat → Nat) (b : Nat) : Nat :=
  let cost (x : Nat) : Nat := if cfgEnable (w0 x) then max 32 (holdCost (w0 x)) else 0
  let load (k : Nat) : Nat := sumNat ((List.range 72).map fun i => cost (576 * b + 8 * i + k))
  (List.range 8).foldl (fun m k => max m (load k)) 0

/-- Working lanes of block b. -/
def State.lanes (s : State) (b : Nat) : Nat := s.fld (R.LOOP_BLK_STATUS b) F.LOOP_BLK_STATUS_LANES

/-- An estimate as LOOP_BLK_STATUS_b shows it: ⌈1,024 × estimate / (800 × LANES)⌉, saturating. -/
def State.shownEstimate (s : State) (b est : Nat) : Nat :=
  if s.lanes b = 0 then (if est = 0 then 0 else 4095) else min 4095 (cdiv (1024 * est) (800 * s.lanes b))

def State.estActive (s : State) (b : Nat) : Nat := loadEstimate (fun x => s.cfgW x 0) b
def State.estShadow (s : State) (b : Nat) : Nat := loadEstimate (fun x => (s.rd (R.LOOP_SHADOW_CFG x 0)).toNat) b

/-- The shadow loop configuration overfills block b: LOOP_BUDGET (R114). -/
def State.overBudget (s : State) (b : Nat) : Bool := decide (680 * s.lanes b < s.estShadow b)

/-! ### Entering and leaving Off (R124, R125, R128) -/

/-- The loop of ELx becomes Off. -/
def State.loopOff (s : State) (x : Nat) : State :=
  let o := R.LOOP_ST x
  let s := s.setLx x { LoopX.zero with isoOff := (s.lx x).isoOff }
  let s := (s.setF o F.LOOP_ST_HELD_ONCE 0).setF o F.LOOP_ST_ACQ_PHASE 0
  s.setLoopState x 0

/-- The loop of ELx leaves Off where R125 lets it: ENABLE, not isolated, its block powered, RANGE not 0. An element that the rack
sequencer took from Off passes through hand-over into Acquire (R128). -/
def State.leaveOff (s : State) (x : Nat) : State :=
  let may := cfgEnable (s.cfgW x 0) && !s.elemIso x && s.blkUp (blockOf x) && s.fld (R.DRV_CH_CFG x) F.DRV_CH_CFG_RANGE != 0
  let r := s.lx x
  if !may then s
  else if s.loopState x = 0 then (s.setLx x { LoopX.zero with fromSeed := true }).setLoopState x 1
  else if s.loopState x = 3 ∧ r.prior = 0 then s.setLx x { r with prior := 1, ho := some 0, since := s.now, isoOff := false }
  else s

/-- The change of a record re-initialises the loop (R120): ORDER, MEAS, INT_IDX or MEAS_REF. -/
def reinits (old new : Nat) : Bool :=
  cfgOrder old != cfgOrder new || cfgMeas old != cfgMeas new || cfgInt old != cfgInt new || cfgMeasRef old != cfgMeasRef new

/-- What a commit tick of the fabric domain does to the loop of ELx, whose record had word 0 old (R120, R125, R134). -/
def State.loopAtCommit (s : State) (x old : Nat) : State :=
  let w0 := s.cfgW x 0
  let st := s.loopState x
  if st = 0 ∨ (st = 3 ∧ (s.lx x).prior = 0) then s.leaveOff x
  else if !cfgEnable w0 ∧ (st = 1 ∨ st = 2) then (s.loopOff x).park x
  else if reinits old w0 ∧ st = 2 then s.setLx x { s.lx x with ho := some 0, dem := [], since := s.now }
  else if reinits old w0 then s.setLx x { s.lx x with dem := [] }
  else s

/-! ### Frames and feed-forward (R112, R122, R123, R152) -/

def State.ffDt (s : State) (b : Nat) : Int := signedOf 32 (s.rd (R.LOOP_FF_DT b)).toNat
def State.ffDiff (s : State) (b : Nat) : Int := Tab.get (fun _ => 0) s.loop.diff b

/-- dT of node b for the frame that starts: published, or held with a difference of 0 (R122, R123). -/
def State.publishNode (b : Nat) (s : State) : State :=
  let old := s.ffDt b
  if s.flag (R.THM_NODE b) F.THM_NODE_VALID then
    let t := sat32 (s.nodeTM b - signedOf 32 (s.rd (R.LOOP_FF_TREF b)).toNat)
    let s := s.setF R.LOOP_FF_STATUS ⟨b, 1⟩ 1
    let s := s.wr (R.LOOP_FF_DT b) (BitVec.ofNat 32 (unsignedOf 32 t))
    { s with loop := { s.loop with
        diff := Tab.set (fun _ => 0) s.loop.diff b (t - old), held := Tab.set (fun _ => 0) s.loop.held b 0 } }
  else
    let s := s.setF R.LOOP_FF_STATUS ⟨b, 1⟩ 0
    let k := Tab.get (fun _ => 0) s.loop.held b
    { s with loop := { s.loop with
        diff := Tab.set (fun _ => 0) s.loop.diff b 0, held := Tab.set (fun _ => 0) s.loop.held b (if k < 125 then k + 1 else k) } }

/-- Feed-forward of the frame that starts; the values of the frame before are kept for its last group. -/
def State.publish (s : State) : State :=
  let dts := Tab.ofFn (fun _ => (0 : Int)) s.ffDt 16
  let s := { s with loop := { s.loop with dtOld := dts, diffOld := s.loop.diff } }
  let s := forUp State.publishNode 16 0 s
  if (List.range 16).any fun b => !s.flag (R.THM_NODE b) F.THM_NODE_VALID then
    s.count R.LOOP_FF_STATUS F.LOOP_FF_STATUS_HELD_FRAMES 1
  else s

/-- A powered block starts its frame: its frame count advances, and its tone accumulators are set to 0 at the first frame after
power-up whose chip frame count is a multiple of 256 (R152). -/
def State.blockFrame (b : Nat) (s : State) : State :=
  if s.blkUp b then
    let k := Tab.get (fun _ => 0) s.drive.blkFrames b + 1
    let s := { s with drive := { s.drive with blkFrames := Tab.set (fun _ => 0) s.drive.blkFrames b k } }
    if (s.tickCount / 8) % 256 = 0 ∧ !s.seq.synced.getLsbD b then
      { s with seq := { s.seq with acc := Tab.clear (32 * b) 32 s.seq.acc, synced := s.seq.synced ||| BitVec.ofNat 16 (2 ^ b) } }
    else s
  else s

/-- LOOP_FRAME_START (R112): at a boundary tick whose count is a multiple of 8, once: the thermal model is evaluated and published,
and every powered block starts its frame. -/
def execLoopFrameStart (s : State) : Out :=
  .next (if s.tickCount % 8 = 0 ∧ (s.loop.frame ≠ s.tickCount ∨ !s.loop.started) ∧ s.mode ≠ .dormant then
    let s := { s with loop := { s.loop with frame := s.tickCount, started := true } }
    let s := if s.thermalOn then
        (s.setF R.THM_STATUS F.THM_STATUS_SCALE_STALE (bnat s.scaleStale)).evalModel.publish
      else s
    forUp State.blockFrame 16 0 s
  else s)

/-- FF_STALE (R123): a node held for 125 frames raises its source, once. -/
def execFfStale (b : Fin 16) (s : State) : Out :=
  .next (if Tab.get (fun _ => 0) s.loop.held b = 125 then
    let s := { s with loop := { s.loop with held := Tab.set (fun _ => 0) s.loop.held b 126 } }
    s.raise (112 + b) b
  else s)

/-! ### Measurement (R118, R119) -/

/-- A window in computation: the instant of its samples, the frame they were taken in, and the feed-forward of that frame. -/
structure Win where
  at_ : Nat
  frame : Nat
  dt : Int
  diff : Int
  deriving DecidableEq, Repr

/-- The window of group k of block b that ends at this tick. -/
def State.win (s : State) (b k : Nat) : Win :=
  let cur := s.loop.frame + k + 2 ≤ s.tickCount
  { at_ := s.tick - 2000 + 62, frame := (Tab.get (fun _ => 0) s.drive.blkFrames b + 256 - (if cur then 1 else 2)) % 256,
    dt := if cur then s.ffDt b else Tab.get (fun _ => 0) s.loop.dtOld b,
    diff := if cur then s.ffDiff b else Tab.get (fun _ => 0) s.loop.diffOld b }

def State.monCode (s : State) (x : Nat) : Nat := s.fld (R.DRV_MON x) F.DRV_MON_SAMPLE

/-- The monitor MEAS_REF of a RATIO loop. -/
def State.refMon (s : State) (x : Nat) : Nat := 576 * blockOf x + cfgMeasRef (s.cfgW x 0)

/-- ELx has a valid sample of the window's frame; a RATIO loop needs its reference's latest sample as well. -/
def State.sampleOk (s : State) (w : Win) (x : Nat) : Bool :=
  !s.flag (R.DRV_MON x) F.DRV_MON_INVALID && s.fld (R.DRV_MON x) F.DRV_MON_FRAME == w.frame &&
  (cfgMeas (s.cfgW x 0) != 1 || !s.flag (R.DRV_MON (s.refMon x)) F.DRV_MON_INVALID)

/-- A sample of the demodulation: linear power times the reference of the element's slot, and linear power. -/
def State.demSample (s : State) (x : Nat) : Int × Int :=
  let p : Int := Config.linearPower (s.monCode x)
  (p * Tab.get (fun _ => 0) s.seq.refPrev2 (32 * blockOf x + s.fld (R.SEQ_SLOT x) F.SEQ_SLOT_SLOT), p)

/-- g of R118 over a window, Q8.24: 2 Σ p·ref ÷ Σ p, the reference in 2^-30. -/
def demod (l : List (Int × Int)) : Int :=
  let num := sumInt (l.map Prod.fst)
  let den := sumInt (l.map Prod.snd)
  if den ≤ 0 then Config.demodDark else divRound num (32 * den.toNat)

/-- NO_LIGHT (R119) for ELx with its demodulation window l. -/
def State.dark (s : State) (x : Nat) (l : List (Int × Int)) : Bool :=
  let min_ := s.fld R.LOOP_ENGINE_CTRL F.LOOP_ENGINE_CTRL_LIGHT_MIN
  match cfgMeas (s.cfgW x 0) with
  | 0 => s.monCode x < min_
  | 1 => s.monCode x < min_ || s.monCode (s.refMon x) < min_
  | _ => decide (sumInt (l.map Prod.snd) < (l.length : Int) * (Config.linearPower min_ : Nat))

/-- A result rounded and saturated to Q8.24 from 44 fractional bits (R117), with whether it saturated. -/
def fit (z : Int) : Int × Bool :=
  let r := roundAway z 20
  let c := sat32 r
  (c, c != r)

/-- y of R118 with the window l, Q8.24. -/
def State.measure (s : State) (x : Nat) (l : List (Int × Int)) : Int × Bool :=
  match cfgMeas (s.cfgW x 0) with
  | 0 => (sat32 (divRound ((18 * (s.monCode x : Int) - 72000) * 2 ^ 24) 1000), false)
  | 1 => (sat32 (divRound (18 * ((s.monCode x : Int) - s.monCode (s.refMon x)) * 2 ^ 24) 1000), false)
  | _ => fit (cfgScale (s.cfgW x 3) * demod l)

/-! ### The loop law (R116, R117) -/

def State.xhat (s : State) (x i : Nat) : Int := signedOf 32 (s.rd (R.LOOP_XHAT x i)).toNat
def State.setXhat (s : State) (x i : Nat) (v : Int) : State := s.wr (R.LOOP_XHAT x i) (BitVec.ofNat 32 (unsignedOf 32 v))

/-- A result saturated: LOOP_ST_x.SAT (R117). -/
def State.sat (s : State) (x : Nat) (b : Bool) : State := if b then s.setF (R.LOOP_ST x) F.LOOP_ST_SAT 1 else s

/-- Σ of coefficient words from w0 upwards times the states of ELx, 44 fractional bits. -/
def State.dot (s : State) (x w0 n : Nat) : Int :=
  sumInt ((List.range n).map fun j => s.coef x (w0 + j) * s.xhat x j)

/-- The residual e = y − C·x̂. -/
def State.residual (s : State) (x : Nat) (y : Int) : Int × Bool :=
  fit (y * 2 ^ 20 - s.dot x 28 (cfgOrder (s.cfgW x 0)))

/-- x̂ := A·x̂ + B·u + L·e, with u the base code last applied; e is 0 in a frame that does not correct. -/
def State.observe (s : State) (x : Nat) (e : Int) : State :=
  let n := cfgOrder (s.cfgW x 0)
  let u : Int := (s.baseCode x : Int) * 1024
  let next := (List.range n).map fun i => fit (s.dot x (4 + 4 * i) n + s.coef x (20 + i) * u + s.coef x (24 + i) * e)
  forUp (fun i s =>
    let r := nth (0, false) next i
    (s.setXhat x i r.1).sat x r.2) n 0 s

/-- ff of R116: 0 when FF_EN is 0. -/
def State.feedForward (s : State) (w : Win) (x : Nat) : Int × Bool :=
  if cfgFf (s.cfgW x 0) then fit (s.coef x 37 * w.dt + s.coef x 38 * w.diff) else (0, false)

/-- The loop's own output: v := −K·x̂ + N·SETPOINT + ff, as a code within the limits; written, and kept for roll-back (R74). -/
def State.output (s : State) (w : Win) (x : Nat) : State :=
  let ff := s.feedForward w x
  let v := fit (- s.dot x 32 (cfgOrder (s.cfgW x 0)) + s.coef x 36 * s.setPoint x + ff.1 * 2 ^ 20)
  let lim := cfgLimits (s.cfgW x 1)
  let code := (clampInt lim.1 lim.2 (roundAway v.1 10)).toNat
  let s := (s.sat x ff.2).sat x v.2
  (s.setLx x { s.lx x with loopCode := code }).writeCode x byLoop code

/-- The preload of R132 for code c: x̂[I] such that v gives c. -/
def State.preload (s : State) (w : Win) (x c : Nat) : State :=
  let w0 := s.cfgW x 0
  let i := cfgInt w0
  let ff := s.feedForward w x
  let others := sumInt ((List.range (cfgOrder w0)).map fun j => if j = i then 0 else s.coef x (32 + j) * s.xhat x j)
  let r := fit ((c : Int) * 2 ^ 30 + others - s.coef x 36 * s.setPoint x - ff.1 * 2 ^ 20)
  let p := fit (- (s.coef x 43 * r.1))
  ((s.setXhat x i p.1).sat x r.2).sat x p.2

/-- The states but x̂[I] at the first loop sample after a sequence: RESET·y (R132). -/
def State.resetStates (s : State) (x : Nat) (y : Int) : State :=
  let w0 := s.cfgW x 0
  forUp (fun j s =>
    if j = cfgInt w0 then s
    else
      let r := fit (s.coef x (39 + j) * y)
      (s.setXhat x j r.1).sat x r.2) (cfgOrder w0) 0 s

/-- Plausibility at a correction frame outside hand-over (R135). -/
def State.plausible (s : State) (x : Nat) (e : Int) : State :=
  let o := R.LOOP_ST x
  let lim := s.coef x 45 * 16
  if lim < (if e < 0 then - e else e) then
    let k := s.fld o F.LOOP_ST_PL_RUN
    let k' := satAdd 8 k 1
    let s := s.setF o F.LOOP_ST_PL_RUN k'
    let n := cfgPlLimit (s.cfgW x 0)
    if k' = n ∧ k ≠ n then s.raise (48 + blockOf x) x else s
  else s.setF o F.LOOP_ST_PL_RUN 0

def State.setResid (s : State) (x : Nat) (e : Int) : State := s.wr (R.LOOP_RESID x) (BitVec.ofNat 32 (unsignedOf 32 e))

/-- The hand-over of ELx is complete: its loop is in Hold (R133, R134). -/
def State.handedOver (s : State) (x : Nat) : State :=
  let s := s.setLx x { s.lx x with ho := none }
  (s.setLoopState x 2).setF (R.LOOP_ST x) F.LOOP_ST_HELD_ONCE 1

/-- A correction sample in hand-over or in Hold: the residual e, then R133 or R116 with R135. -/
def State.correct (s : State) (w : Win) (x : Nat) (y : Int) : State :=
  let e := s.residual x y
  let s := (s.setResid x e.1).sat x e.2
  let r := s.lx x
  match r.ho with
  | none => ((s.plausible x e.1).observe x e.1).output w x
  | some i =>
    let win := s.coef x 44 * 16
    if (if e.1 < 0 then - e.1 else e.1) ≤ win ∨ 5 ≤ i then ((s.handedOver x).observe x e.1).output w x
    else
      let s := s.setLx x { r with ho := some (i + 1) }
      let s := s.setF (R.LOOP_ST x) F.LOOP_ST_HO_HOLDS (min 4 (s.fld (R.LOOP_ST x) F.LOOP_ST_HO_HOLDS + 1))
      let s := if i = 4 then s.raise (64 + blockOf x) x else s
      ((s.observe x e.1).preload w x r.base).output w x

/-- The first loop sample after a sequence, a lock or a re-initialisation (R132): x̂ is preloaded for the code to be continued. -/
def State.firstSample (s : State) (w : Win) (x : Nat) (y : Int) : State :=
  let c := s.baseCode x
  let s := s.setLx x { s.lx x with ho := some 1, base := c }
  let s := s.setF (R.LOOP_ST x) F.LOOP_ST_HO_HOLDS 0
  let s := if s.loopState x = 3 then s.setLoopState x 2 else s
  ((s.resetStates x y).preload w x c).output w x

/-- The demodulation window with this frame's sample, newest first, no longer than m. -/
def State.takeSample (s : State) (w : Win) (x m : Nat) : State :=
  let r := s.lx x
  if s.sampleOk w x ∧ r.since ≤ w.at_ then s.setLx x { r with dem := (s.demSample x :: r.dem).take m } else s

/-- ELx in Hold, or in a hand-over to Hold (R116, R118, R119, R132, R133). -/
def State.holdStep (s : State) (w : Win) (x : Nat) : State :=
  let w0 := s.cfgW x 0
  let m := cfgHoldM (s.cfgW x 3)
  let dither := cfgMeas w0 == 2
  let s := if dither then s.takeSample w x m else s
  let r := s.lx x
  let ok := s.sampleOk w x && decide (r.since ≤ w.at_)
  let s := if ok then s.setF (R.LOOP_ST x) F.LOOP_ST_NO_LIGHT (bnat (s.dark x r.dem)) else s
  let full := !dither || r.dem.length == m
  let y := s.measure x r.dem
  match r.ho with
  | some 0 => if ok && full then (s.sat x y.2).firstSample w x y.1 else s
  | _ =>
    if ok && full && !s.flag (R.LOOP_ST x) F.LOOP_ST_NO_LIGHT then (s.sat x y.2).correct w x y.1
    else (s.observe x 0).output w x

/-! ### Acquire (R129 to R131) -/

def signInt (z : Int) : Int := if 0 < z then 1 else if z < 0 then -1 else 0

def State.setPhase (s : State) (x n : Nat) : State := s.setF (R.LOOP_ST x) F.LOOP_ST_ACQ_PHASE n

/-- The search of ELx begins (R130, R131), from ACQ_SEED or from its last applied code. -/
def State.searchFrom (s : State) (x base : Nat) : State :=
  let r : LoopX :=
    { s.lx x with slot := true, base := base, step := cfgStep (s.cfgW x 47), gLast := 0, confirm := 0, searched := 0,
                  dem := [], since := s.now }
  (s.setLx x r).setPhase x 2

/-- Free slots of block b go to waiting elements in ascending local index (R129). -/
def State.giveSlots (s : State) (b : Nat) : State :=
  let els := (upFrom (576 * b) 576).filter fun x => s.loopState x == 1 && (s.lx x).ho.isNone
  let used := (els.filter fun x => (s.lx x).slot).length
  let cap := max 1 (s.fld R.LOOP_ENGINE_CTRL F.LOOP_ENGINE_CTRL_ACQ_SLOTS)
  ((els.filter fun x => !(s.lx x).slot).take (cap - used)).foldl (fun s x =>
    s.searchFrom x (if (s.lx x).fromSeed then cfgSeed (s.cfgW x 47) else s.baseCode x)) s

/-- The end of a demodulation period (R130): lock, or a step of the base code. -/
def State.searchStep (s : State) (x : Nat) : State :=
  let r := s.lx x
  let g := demod r.dem
  let r := { r with dem := [] }
  if (if g < 0 then - g else g) ≤ s.coef x 46 * 16 then
    if r.confirm = 3 then s.setLx x { r with confirm := 4, slot := false, ho := some 0, since := s.now }
    else (s.setLx x { r with confirm := r.confirm + 1, gLast := g }).setPhase x 3
  else
    let step : Nat := if r.gLast ≠ 0 ∧ signInt g ≠ signInt r.gLast then max 1 (r.step / 2) else r.step
    let lim := cfgLimits (s.cfgW x 1)
    let base := (clampInt lim.1 lim.2 ((r.base : Int) - cfgGoal (s.cfgW x 3) * signInt g * (step : Int))).toNat
    (s.setLx x { r with confirm := 0, step := step, base := base, gLast := g }).setPhase x 2

/-- ELx in Acquire: with a slot it searches while it sees light; its base code is written. -/
def State.acquireStep (s : State) (w : Win) (x : Nat) : State :=
  let r := s.lx x
  if r.ho.isSome then s.holdStep w x
  else if !r.slot then s
  else
    let m := cfgAcqM (s.cfgW x 3)
    let s := s.takeSample w x m
    let r := s.lx x
    let ok := s.sampleOk w x && decide (r.since ≤ w.at_)
    let s := if ok then s.setF (R.LOOP_ST x) F.LOOP_ST_NO_LIGHT (bnat (s.dark x r.dem)) else s
    let s :=
      if s.flag (R.LOOP_ST x) F.LOOP_ST_NO_LIGHT then
        (if r.dem.length = m then s.setLx x { r with dem := [] } else s).setPhase x 1
      else
        let s := s.setLx x { r with searched := r.searched + 1 }
        let s := if s.fld (R.LOOP_ST x) F.LOOP_ST_ACQ_PHASE = 1 then s.setPhase x (if r.confirm = 0 then 2 else 3) else s
        if r.dem.length = m then s.searchStep x else s
    (s.setLx x { s.lx x with loopCode := (s.lx x).base }).writeCode x byLoop (s.lx x).base

/-- A sequence of ELx has ended and its loop was, and stays, in Acquire, or has left Off since (R128, R134): at the first sample it
enters Acquire with the sequencer's last code as its base code. -/
def State.intoAcquire (s : State) (w : Win) (x : Nat) : State :=
  let r := s.lx x
  if r.since ≤ w.at_ then
    ((s.setLx x { r with ho := none, slot := false, fromSeed := false, base := s.baseCode x, dem := [] }).setLoopState x 1).setPhase x 0
  else s

/-- ELx in one window, by its loop state (R124, R126, R127, R132, R134). -/
def State.elemWindow (s : State) (w : Win) (x : Nat) : State :=
  if s.hold x ≠ 0 then s
  else match s.loopState x with
  | 0 => s
  | 1 => s.acquireStep w x
  | 2 => s.holdStep w x
  | _ =>
    if (s.lx x).ho.isNone then s
    else if s.flag (R.LOOP_ST x) F.LOOP_ST_HELD_ONCE then s.holdStep w x
    else s.intoAcquire w x

/-! ### Windows and overrun (R112, R113, R115, R136) -/

/-- Cost of ELx in this window (R113). -/
def State.elemCost (s : State) (x : Nat) : Nat :=
  match s.loopState x with
  | 1 => 32
  | 2 => holdCost (s.cfgW x 0)
  | _ => 0

/-- First pass: elements of live cells, and open attenuators (R136). -/
def State.firstPass (s : State) (x : Nat) : Bool :=
  match elemOf x with
  | .cell i => s.liveCell i
  | _ => !s.flag (R.DRV_CH_CODE x) F.DRV_CH_CODE_PARKED

/-- ELx is unfinished in this window (R136). -/
def State.unfinished (s : State) (x : Nat) : State :=
  let o := R.LOOP_ST x
  let k := s.fld o F.LOOP_ST_OVERRUN_RUN
  let s := (s.setF o F.LOOP_ST_STALE 1).count o F.LOOP_ST_OVERRUN_RUN 1
  let s := s.count (R.LOOP_BLK_COUNTS (blockOf x)) F.LOOP_BLK_COUNTS_SKIPPED 1
  if k = 2 then s.raise (80 + blockOf x) x else s

/-- A finished computation clears STALE and OVERRUN_RUN. -/
def State.finishedElem (s : State) (x : Nat) : State :=
  let o := R.LOOP_ST x
  if s.flag o F.LOOP_ST_STALE then (s.setF o F.LOOP_ST_STALE 0).setF o F.LOOP_ST_OVERRUN_RUN 0 else s

/-- The elements of a window in order, with the cycles left; bad: some element was unfinished. -/
def State.runWindow (w : Win) : List Nat → Nat → Bool → State → State × Bool
  | [], _, bad, s => (s, bad)
  | x :: l, left, bad, s =>
    let c := s.elemCost x
    if c ≠ 0 ∧ (left < c ∨ s.loop.lost.contains x) then State.runWindow w l (if left < c then 0 else left - c) true (s.unfinished x)
    else State.runWindow w l (left - c) bad ((s.elemWindow w x).finishedElem x)

/-- LOOP_GROUP_WINDOW (R112): at its output tick, group k of block b is computed and written, once. stall: lane cycles of the window that
the block's memory port lost to class-1 traffic (R115). -/
def execLoopGroupWindow (b : Fin 16) (k : Fin 8) (stall : Nat) (s : State) : Out :=
  .next (if s.tickCount % 8 = (k.val + 2) % 8 ∧ s.blkUp b ∧ Tab.get (fun _ => 0) s.loop.win b ≠ s.tickCount then
    let s := { s with loop := { s.loop with win := Tab.set (fun _ => 0) s.loop.win b s.tickCount } }
    let s := s.giveSlots b
    let w := s.win b k
    let xs := (List.range 72).map fun i => 576 * b.val + 8 * i + k.val
    let lanes := s.lanes b + Tab.get (fun _ => 0) s.loop.lostLanes b
    let order := xs.filter s.firstPass ++ xs.filter fun x => !s.firstPass x
    let (s, bad) := State.runWindow w order (800 * lanes - stall) false s
    let s := if bad then s.count (R.LOOP_BLK_COUNTS b) F.LOOP_BLK_COUNTS_OVERRUNS 1 else s
    { s with loop := { s.loop with lost := s.loop.lost.filter (fun x => blockOf x ≠ b),
                                   lostLanes := Tab.set (fun _ => 0) s.loop.lostLanes b 0 } }
  else s)

/-- LOOP_LANE_LOST (R115): a lane of block b fails its residue check while it computes the elements of local index xs: it is removed
at the end of the window, and those elements are unfinished in it. -/
def execLoopLaneLost (b : Fin 16) (xs : List (Fin 576)) (s : State) : Out :=
  let n := s.lanes b
  .next (if n = 0 ∨ !s.blkUp b then s
  else
    let s := s.setF (R.LOOP_BLK_STATUS b) F.LOOP_BLK_STATUS_LANES (n - 1)
    let s := { s with loop := { s.loop with
        lost := s.loop.lost ++ (xs.map fun (j : Fin 576) => 576 * b.val + j.val),
        lostLanes := Tab.set (fun _ => 0) s.loop.lostLanes b (Tab.get (fun _ => 0) s.loop.lostLanes b + 1) } }
    let s := s.raise (128 + b) b
    if n ≤ 4 then s.raise (144 + b) b else s)

/-- ACQ_TIMEOUT (R131): an element that has searched for the limit without locking raises its source and begins again from ACQ_SEED. -/
def execAcqTimeout (x : Fin 9216) (s : State) : Out :=
  let lim := s.fld R.LOOP_ENGINE_CTRL F.LOOP_ENGINE_CTRL_ACQ_TIMEOUT
  let r := s.lx x
  .next (if s.loopState x = 1 ∧ r.slot ∧ lim ≠ 0 ∧ lim * 1250 ≤ r.searched then
    (s.raise (96 + blockOf x) x).searchFrom x (cfgSeed (s.cfgW x 47))
  else s)

/-- An attenuator of a dark port (R32, R93). -/
def State.darkAttenuator (s : State) (x : Nat) : Bool := elemKind x == .attenuator && bitOf (s.hold x) 0

/-- LOOP_CMD_REACQUIRE (R125): LOOP_CMD with OP 1 moves an element in Hold, of an idle cell or of a dark port, to Acquire; any other is
refused. -/
def execLoopCmdReacquire (element : BitVec 14) (s : State) : Out :=
  let x := element.toNat
  let s := s.setF R.LOOP_CMD_STATUS F.LOOP_CMD_STATUS_LAST_ELEMENT x
  let idle : Bool := match elemOf x with
    | .cell i => !s.liveCell i
    | _ => s.darkAttenuator x
  .next (if x < 9216 ∧ s.loopState x = 2 ∧ idle then
    ((s.setLx x { s.lx x with ho := none, slot := false, fromSeed := false, base := s.baseCode x, dem := [] }).setLoopState x 1).setPhase x 0
  else s.setF R.LOOP_CMD_STATUS F.LOOP_CMD_STATUS_CMD_REFUSED 1)

end Sys2Proof.Machine
end

