-- ==== Sys2Proof/Machine/Hif.lean ====
section
/-! DEFINITION. The host interface: rings, doorbells, descriptors, completions, attention and the resets of the ring engine
(14_host_interface.md R300 to R325). -/

namespace Sys2Proof.Machine

/-! ### The ring engine -/

/-- The ring engine runs and may reach host memory (R302, R306, R325). -/
def State.ringsOn (s : State) : Bool :=
  s.flag R.HIF_CTRL F.HIF_CTRL_EN && s.flag R.HIF_CTRL F.HIF_CTRL_READY && s.busMaster

/-- A submission ring that fetches and starts: enabled, not stopped, its completion ring enabled (R309, R325). -/
def State.sqUp (s : State) (n : Nat) : Bool :=
  s.flag (R.HIF_SQ_CFG n) F.HIF_SQ_CFG_EN && !s.flag (R.HIF_SQ_STATUS n) F.HIF_SQ_STATUS_ERR &&
  s.flag (R.HIF_CQ_CFG (s.boundCq n)) F.HIF_CQ_CFG_EN

/-- R308, R312: a ring may start its next descriptor: none in execution, the completion before it written or discarded, and space
in a completion ring that keeps completions. Recovery serves SQ0 only (R344). -/
def State.canStart (s : State) (n : Nat) : Bool :=
  let c := s.boundCq n
  (n == 0 || !s.flag R.MGT_BOOT_STATUS F.MGT_BOOT_STATUS_RECOVERY) && !s.restarting 0 && s.ringsOn && s.sqUp n && (s.sqRing n).exec.isNone && !((s.cqRing c).held.any fun k => k.sq == n) &&
  (!s.cqUp c || ((s.cqRing c).held.isEmpty && s.cqSpace c))

/-- The ring starts descriptor d: HEAD passes it and the ring is busy (R307, R312). -/
def State.startedDesc (s : State) (n : Nat) (d : Desc) : Req × State :=
  let ring := s.sqRing n
  let r : Req := ⟨n, s.hif.job⟩
  let s := s.setSq n { ring with fetched := ring.fetched.drop 1, exec := some (s.hif.job, d) }
  let s := { s with hif := { s.hif with job := s.hif.job + 1 } }
  let s := s.setF (R.HIF_SQ_STATUS n) F.HIF_SQ_STATUS_HEAD
    ((s.fld (R.HIF_SQ_STATUS n) F.HIF_SQ_STATUS_HEAD + 1) % s.sqSize n)
  (r, s.setF (R.HIF_SQ_STATUS n) F.HIF_SQ_STATUS_BUSY 1)

/-! ### Errors of host memory (R309) -/

/-- A submission ring is stopped: it fetches nothing more, and descriptors fetched and not started are dropped. -/
def State.stopSq (s : State) (n : Nat) : State :=
  if s.flag (R.HIF_SQ_CFG n) F.HIF_SQ_CFG_EN then
    (s.setF (R.HIF_SQ_STATUS n) F.HIF_SQ_STATUS_ERR 1).setSq n { s.sqRing n with fetched := [] }
  else s

/-- A completion ring is stopped: it discards every completion bound to it. -/
def State.stopCq (s : State) (n : Nat) : State :=
  if s.flag (R.HIF_CQ_CFG n) F.HIF_CQ_CFG_EN then
    ((s.setF (R.HIF_CQ_STATUS n) F.HIF_CQ_STATUS_ERR 1).setCq n { s.cqRing n with held := [] }).cqFullBits n
  else s

/-- An error is recorded in HIF_ERR and class RING is raised. -/
def State.hifErr (s : State) (source : Nat) (ring : Option Nat) : State :=
  let s := s.setF R.HIF_ERR F.HIF_ERR_SOURCE source
  let s := match ring with
    | some r => s.setF R.HIF_ERR F.HIF_ERR_RING r
    | none => s
  (s.count R.HIF_ERR F.HIF_ERR_COUNT 1).attn 9

/-- R309: what an error stops. -/
def State.hostError (s : State) (e : HostErr) : State :=
  match e with
  | .array => (forUp (fun n s => (s.stopSq n).stopCq n) 32 0 s).hifErr 1 none
  | .desc n => (s.stopSq n).hifErr 2 (some n)
  | .buffer n => (s.stopSq n).hifErr 3 (some n)
  | .completion n => (s.stopCq n).hifErr 4 (some n)
  | .beacon => ({ s with hif := { s.hif with beaconStopped := true } }).hifErr 5 none
  | .rangeSq n => (s.stopSq n).hifErr 6 (some n)
  | .rangeCq n => (s.stopCq n).hifErr 6 (some n)

/-! ### Results that every opcode shares -/

/-- Words 0 to 3 of an opcode's completion where they are registers (R315, R316). -/
def State.opWords (s : State) (op : Nat) : List Word :=
  if op = 2 then [s.rd R.FAB_SOLVE_STATS, s.rd R.FAB_SOLVE_BASE, s.rd R.FAB_VINTAGE_FABRIC, s.rd R.FAB_VINTAGE_PACKET]
  else if op = 3 then [s.rd R.FAB_VINTAGE_FABRIC, s.rd R.FAB_VINTAGE_PACKET, s.rd R.FAB_RACK_STATUS, s.rd R.FAB_RACK_UNPREPARED]
  else if op = 4 then [s.rd R.TBL_OP_LAST]
  else if op = 6 then [s.rd R.CAL_SWEEP_DONE, s.rd R.CAL_SWEEP_SKIPS]
  else []

/-- Reserved bytes of the header are not 0 (R310). -/
def Desc.reservedSet (d : Desc) : Bool := d.byte 1 != 0 || d.le 4 4 != 0

/-- Rootstock is in recovery (15_management.md R344). -/
def State.inRecovery (s : State) : Bool := s.flag R.MGT_BOOT_STATUS F.MGT_BOOT_STATUS_RECOVERY

/-- Recovery accepts NOP, LOG_READ, IMAGE_WRITE and IMAGE_COMMIT with OP 0 (R344). -/
def Desc.inRecovery (d : Desc) : Bool :=
  d.opcode == 0 || d.opcode == 0x0B || d.opcode == 0x0C || (d.opcode == 0x0D && d.byte 20 == 0)

/-- R314, checked before any other, and RECOVERY of R344. -/
def State.headerResult (s : State) (d : Desc) (needsBuf : Bool) (bufOk : Bool) : Option Nat :=
  if 0x10 < d.opcode then some 0x0F01
  else if d.reservedSet then some 0x0F02
  else if needsBuf && (d.bufAddr % 8 != 0 || d.bufLen == 0) then some 0x0F04
  else if needsBuf && !bufOk then some 0x0F03
  else if s.inRecovery && !d.inRecovery then some 0x090E
  else none

/-- A descriptor that selects no row of the table: its result (R314 and the BAD_REQUEST of its opcode). -/
def State.rowless (s : State) (d : Desc) : Option Nat :=
  if 0x10 < d.opcode || d.reservedSet then s.headerResult d false true
  else
    let b := d.byte 20
    let bad : Option (Bool × Nat) := match d.opcode with
      | 0x01 => if b = 0 ∨ 12 < b then some (d.byte 21 % 2 == 0, 0x0601) else none
      | 0x02 => if 1 < b then some (false, 0x0109) else none
      | 0x03 => if 1 < b then some (false, 0x0209) else none
      | 0x04 => if 8 < b then some (false, 0x0403) else none
      | 0x06 => if 1 < b then some (false, 0x0302) else none
      | 0x09 => if 2 < d.byte 21 then some (false, 0x0701) else none
      | 0x0D => if 2 < b then some (false, 0x0901) else none
      | 0x0E => if b = 0 ∨ 5 < b then some (false, 0x0A01) else none
      | 0x0F => if 1 < b then some (false, 0x0B01) else none
      | 0x10 => if 2 < b then some (false, 0x0C03) else none
      | _ => none
    bad.map fun (needs, c) => (s.headerResult d needs true).getD c

/-- Descriptors at the front of a ring that select no row complete with their results, as soon as the ring may start them. -/
def State.serveRowless (n : Nat) : Nat → State → State
  | 0, s => s
  | k + 1, s =>
    match (s.sqRing n).fetched with
    | d :: _ =>
      match s.rowless d with
      | some c =>
        if s.canStart n then
          let (r, s) := s.startedDesc n d
          State.serveRowless n k (s.finish r c (s.opWords d.opcode) 0 (d.opcode == 2))
        else s
      | none => s
    | [] => s

/-- Start descriptor d from ring n, where it is the ring's next and selects the row (want): the checks of R314, then k. A TABLE_OP waits
while the table keeper restarts (R328). -/
def State.launch (s : State) (n : Nat) (d : Desc) (want needsBuf : Bool) (bufOk : Bool) (k : Req → State → State) : State :=
  if want && !(d.opcode == 4 && s.restarting 3) && s.canStart n && (s.sqRing n).fetched.head? == some d && (s.rowless d).isNone then
    let (r, s) := s.startedDesc n d
    match s.headerResult d needsBuf bufOk with
    | some c =>
      let s := if c = 0x0F03 then s.hostError (.buffer (Fin.ofNat 32 n)) else s
      s.finish r c (s.opWords d.opcode) 0 (d.opcode == 2)
    | none => k r s
  else s

/-- A request writes its buffer and ends with a result that lets it (R311): where the buffer's accesses fail, with HOST_MEMORY. -/
def State.finishBuf (s : State) (r : Req) (d : Desc) (ok : Bool) (result : Nat) (words : List Word) (data : List Byte) : State :=
  if data.isEmpty then s.finish r result words 0 false
  else if ok then (s.post d.bufAddr data).finish r result words data.length false
  else (s.hostError (.buffer (Fin.ofNat 32 r.sq))).finish r 0x0F03 words 0 false

/-! ### Commands -/

/-- NOP (R313): bytes 32 to 47 of the descriptor in RESULT_WORDS. -/
def execNop (sq : Fin 32) (d : Desc) (s : State) : Out :=
  .next (s.launch sq d (d.opcode == 0) false true fun r s => s.finish r 0 (toWords 4 (d.bytes 32 16)) 0 false)

/-- A tail or head read from the doorbell array (R305, R307, R308, R309). -/
def State.takeTail (s : State) (n v : Nat) : State :=
  if s.flag (R.HIF_SQ_CFG n) F.HIF_SQ_CFG_EN && !s.flag (R.HIF_SQ_STATUS n) F.HIF_SQ_STATUS_ERR then
    (if v < s.sqSize n then s.setSq n { s.sqRing n with tail := v } else s.hostError (.rangeSq (Fin.ofNat 32 n)))
  else s
def State.takeHead (s : State) (n v : Nat) : State :=
  if s.cqUp n then
    (if v < s.cqSize n then (s.setCq n { s.cqRing n with head := v }).cqFullBits n else s.hostError (.rangeCq (Fin.ofNat 32 n)))
  else s

/-- DOORBELL_POLL (R305, R306): arr is the 256 bytes of the array, byte i in bits [8i + 7 : 8i]. -/
def execDoorbellPoll (arr : BitVec 2048) (s : State) : Out :=
  let word (i : Nat) : Nat := (arr.toNat >>> (32 * i)) % 65536
  .next (if s.ringsOn then
    let s := { s with hif := { s.hif with readDue := false, lastRead := s.now } }
    let s := forUp (fun n s => (s.takeTail n (word n)).takeHead n (word (32 + n))) 32 0 s
    forUp (fun n s => State.serveRowless n 16 s) 32 0 s
  else s)

/-- HIF_NUDGE (R306): a read of the array is due at once. -/
def execHifNudge (s : State) : Out :=
  .next (if s.flag R.HIF_CTRL F.HIF_CTRL_EN then { s with hif := { s.hif with readDue := true } } else s)

/-- Descriptors an enabled ring holds and the device has not fetched (R307). -/
def State.unfetched (s : State) (n : Nat) : Nat :=
  let size := s.sqSize n
  (((s.sqRing n).tail + size - s.fld (R.HIF_SQ_STATUS n) F.HIF_SQ_STATUS_HEAD % size) % size) - (s.sqRing n).fetched.length

/-- DESCRIPTOR_FETCH (R307): the next descriptor of ring n arrives; up to 16 are held ahead of the one in execution. -/
def execDescriptorFetch (n : Fin 32) (d : Desc) (s : State) : Out :=
  let ring := s.sqRing n
  .next (if s.ringsOn && s.sqUp n && decide (ring.fetched.length < 16) && decide (0 < s.unfetched n) then
    State.serveRowless n 16 (s.setSq n { ring with fetched := ring.fetched ++ [d] })
  else s)

/-- The 32 bytes of a completion (R311). -/
def State.completionBytes (s : State) (c : Nat) (k : Completion) : List Byte :=
  let words := if k.vint then k.words.take 2 ++ [s.rd R.FAB_VINTAGE_FABRIC, s.rd R.FAB_VINTAGE_PACKET] else k.words
  wordBytes (s.statusWord k.result) ++ leBytes 2 k.tag ++ leBytes 1 k.sq ++
  leBytes 1 (s.fld (R.HIF_CQ_STATUS c) F.HIF_CQ_STATUS_PHASE) ++ leBytes 2 k.sqHead ++ leBytes 2 0 ++ leBytes 4 k.dataLen ++
  words.flatMap wordBytes

/-- Base address of a ring or of the beacon: the pair of registers at o and o + 4. -/
def State.baseAt (s : State) (o : Nat) : Nat := (s.rd o).toNat + 2 ^ 32 * (s.rd (o + 4)).toNat

/-- COMPLETION_WRITE (R308): the oldest completion held for ring c is written, when the ring has space. -/
def execCompletionWrite (c : Fin 32) (s : State) : Out :=
  let q := s.cqRing c
  .next (match q.held with
  | k :: rest =>
    if s.ringsOn && s.cqUp c && s.cqSpace c then
      let o := R.HIF_CQ_STATUS c
      let tail := s.fld o F.HIF_CQ_STATUS_TAIL
      let s := s.post (s.baseAt (R.HIF_CQ_BASE_LO c) + 32 * tail) (s.completionBytes c k)
      let s := s.setCq c { q with held := rest }
      let tail' := (tail + 1) % s.cqSize c
      let s := s.setF o F.HIF_CQ_STATUS_TAIL tail'
      let s := if tail' = 0 then s.setF o F.HIF_CQ_STATUS_PHASE (1 - s.fld o F.HIF_CQ_STATUS_PHASE) else s
      State.serveRowless k.sq 16 (s.cqFullBits c)
    else s
  | [] => s)

/-- HOST_MEMORY_ERROR (R309): an access to host memory ends in error, or a tail or head is out of range. An error of the buffer of
the descriptor in execution ends it with HOST_MEMORY. -/
def execHostMemoryError (e : HostErr) (s : State) : Out :=
  let s' := s.hostError e
  .next (match e with
  | .buffer n =>
    match (s.sqRing n).exec with
    | some (job, d) => s'.finish ⟨n, job⟩ 0x0F03 (s'.opWords d.opcode) 0 (d.opcode == 2)
    | none => s'
  | _ => s')

/-- Some ring has ERR set, or the beacon is stopped. -/
def State.anyErr (s : State) : Bool :=
  s.hif.beaconStopped || (List.range 32).any fun n =>
    s.flag (R.HIF_SQ_STATUS n) F.HIF_SQ_STATUS_ERR || s.flag (R.HIF_CQ_STATUS n) F.HIF_CQ_STATUS_ERR

/-- ATTN_ACK (R320): a write of HIF_ATTN_ACK. Bit 7 sets reasons 2 to 4 to 0 in every pipeline. -/
def execAttnAck (v : Word) (s : State) : Out :=
  let ack (c : Nat) (s : State) : State := if v.getLsbD c then s.attnClear c else s
  let s := ack 3 (ack 4 (ack 5 (ack 8 s)))
  let s := if v.getLsbD 7 then
      let s := forUp (fun p s =>
        if 2 ≤ s.fld (R.TBL_STATUS p) F.TBL_STATUS_REASON then s.setF (R.TBL_STATUS p) F.TBL_STATUS_REASON 0 else s) 4 0 s
      if (List.range 4).any (fun p => s.flag (R.TBL_STATUS p) F.TBL_STATUS_REASON) then s else s.attnClear 7
    else s
  .next (if v.getLsbD 9 && !s.anyErr then s.attnClear 9 else s)

/-- HIF_ENABLE (R306): HIF_CTRL.EN goes from 0 to 1, and the first read of the array starts at once. -/
def execHifEnable (s : State) : Out :=
  .next (if s.flag R.HIF_CTRL F.HIF_CTRL_EN then s
  else
    let s := s.setF R.HIF_CTRL F.HIF_CTRL_EN 1
    { s with hif := { s.hif with readDue := true } })

/-- SQ_ENABLE (R325): a write v of HIF_SQ_CFG_n with EN 1 while EN is 0: HEAD 0, ERR clear, nothing fetched, no tail read yet. -/
def execSqEnable (n : Fin 32) (v : Word) (s : State) : Out :=
  let o := R.HIF_SQ_CFG n
  .next (if s.flag o F.HIF_SQ_CFG_EN || F.HIF_SQ_CFG_EN.get v == 0 then s
  else
    let s := s.setF o F.HIF_SQ_CFG_EN 1
    let s := (s.setF o F.HIF_SQ_CFG_CQ (F.HIF_SQ_CFG_CQ.get v)).setF o F.HIF_SQ_CFG_SIZE_LOG2 (F.HIF_SQ_CFG_SIZE_LOG2.get v)
    let s := (s.setF (R.HIF_SQ_STATUS n) F.HIF_SQ_STATUS_HEAD 0).setF (R.HIF_SQ_STATUS n) F.HIF_SQ_STATUS_ERR 0
    s.setSq n { s.sqRing n with fetched := [], tail := 0 })

/-- CQ_ENABLE (R325): a write v of HIF_CQ_CFG_n with EN 1 while EN is 0: TAIL 0, PHASE 1, ERR clear. -/
def execCqEnable (n : Fin 32) (v : Word) (s : State) : Out :=
  let o := R.HIF_CQ_CFG n
  .next (if s.flag o F.HIF_CQ_CFG_EN || F.HIF_CQ_CFG_EN.get v == 0 then s
  else
    let s := s.setF o F.HIF_CQ_CFG_EN 1
    let s := s.setF o F.HIF_CQ_CFG_SIZE_LOG2 (F.HIF_CQ_CFG_SIZE_LOG2.get v)
    let t := R.HIF_CQ_STATUS n
    let s := ((s.setF t F.HIF_CQ_STATUS_TAIL 0).setF t F.HIF_CQ_STATUS_PHASE 1).setF t F.HIF_CQ_STATUS_ERR 0
    (s.setCq n CqRing.zero).cqFullBits n)

/-! ### Resets of the ring engine (R324) -/

/-- The ring engine reset: HIF registers to their reset values, but the attention register and READY; every descriptor fetched or in
execution, and every completion held, is discarded. -/
def State.ringReset (s : State) : State :=
  let attn := s.rd R.HIF_ATTN
  let ready := s.fld R.HIF_CTRL F.HIF_CTRL_READY
  let s := ((s.resetRange 0x10000 0x10000).wr R.HIF_ATTN attn).setF R.HIF_CTRL F.HIF_CTRL_READY ready
  { s with hif := { s.hif with sq := [], cq := [], readDue := false, beaconStopped := false, beaconSeq := 0 } }

/-- Configuration space returns to its reset values: Bus Master Enable 0, D0. -/
def State.configReset (s : State) : State := { s with hif := { s.hif with bme := false, d3hot := false } }

/-- BUS_MASTER_DISABLE (R302). -/
def execBusMasterDisable (s : State) : Out := .next { s with hif := { s.hif with bme := false } }

/-- BUS_MASTER_ENABLE (R302): the function is in D0 with Bus Master Enable 1, and a read of the array is due. -/
def execBusMasterEnable (s : State) : Out :=
  .next { s with hif := { s.hif with bme := true, d3hot := false, readDue := s.flag R.HIF_CTRL F.HIF_CTRL_EN } }

/-- SOFT_RESET (R324): configuration space is kept. -/
def execSoftReset (s : State) : Out := .next s.ringReset

/-- FUNCTION_LEVEL_RESET (R324). -/
def execFunctionLevelReset (s : State) : Out := .next s.ringReset.configReset

/-- HOT_RESET (R324). -/
def execHotReset (s : State) : Out := .next s.ringReset.configReset

/-- PCIE_LINK_LOSS (R324). -/
def execPcieLinkLoss (s : State) : Out :=
  let s := s.ringReset
  .next { s with hif := { s.hif with linkUp := false } }

/-- PERST_N_ASSERT (R462): the PCI Express controller is reset, as loss of the link. -/
def execPerstNAssert (s : State) : Out :=
  let s := s.ringReset.configReset
  .next { s with hif := { s.hif with linkUp := false, perstLow := true } }

/-- PERST_N_RELEASE (R462). -/
def execPerstNRelease (s : State) : Out := .next { s with hif := { s.hif with perstLow := false } }

/-- The PCI Express link may train: from step 3 of a cold start, with PERST_N high, outside Dormant (R462). -/
def State.linkMayTrain (s : State) : Bool := s.eventsOn && !s.hif.perstLow

/-- PCIE_LINK_UP (R324, R462): training completes; the ring engine is as its reset left it. -/
def execPcieLinkUp (s : State) : Out :=
  .next (if s.linkMayTrain && !s.hif.linkUp then
    let s := s.ringReset
    { s with hif := { s.hif with linkUp := true } }
  else s)

/-- D3HOT_ENTRY (R302): acts as a function level reset of the host interface. -/
def execD3hotEntry (s : State) : Out :=
  let s := s.ringReset.configReset
  .next { s with hif := { s.hif with d3hot := true } }

end Sys2Proof.Machine
end

