-- ==== Sys2Proof/Machine/Solver.lean ====
section
/-! DEFINITION. The route solver and the permutation checker as functions of the active image, the maps and the failed set
(02_fabric.md R21 to R23; 03_routing.md R37 to R52). Images and sets of lines are numbers read as bit sets. -/

namespace Sys2Proof.Machine.Solver

/-- w(s, a) of R23: the line of stage s + 1 that line a of the output of stage s connects to. -/
def wire (s a : Nat) : Nat :=
  let m := 8 - (if s ≤ 6 then s else 13 - s)
  let lo := a % 2 ^ m
  let hi := a - lo
  hi + (if s ≤ 6 then lo / 2 + (lo % 2) * 2 ^ (m - 1) else (2 * lo) % 2 ^ m + lo / 2 ^ (m - 1))

/-- A connection of a map (R37). -/
structure Conn where
  inp : Nat
  out : Nat
  planeReq : Nat
  protect : Bool
  deriving DecidableEq, Repr

/-- A path: the cells it passes, those of them in cross, and the stage lines it takes, as bit sets; its plane; where it leaves
stage 14. -/
structure Path where
  cells : Nat
  cross : Nat
  lines : Nat
  plane : Nat
  exit : Nat
  deriving DecidableEq, Repr

/-- Walk stages s, s + 1, … of plane p from line a, crossing where x says so. -/
def walk (x : Nat → Nat → Bool) (p : Nat) : Nat → Nat → Nat → Path → Path
  | 0, _, a, acc => { acc with exit := a }
  | n + 1, s, a, acc =>
    let bit := 2 ^ (1920 * p + 128 * s + a / 2)
    let b := x s a
    let o := if b then a ^^^ 1 else a
    walk x p n (s + 1) (if s = 14 then o else wire s o)
      { acc with cells := acc.cells ||| bit, cross := if b then acc.cross ||| bit else acc.cross,
                 lines := acc.lines ||| 2 ^ ((15 * p + s) * 256 + a) }

/-- The path from input n on plane p, with ISn, and the combiner at its end set to match (R42). -/
def pathVia (x : Nat → Nat → Bool) (p n : Nat) : Path :=
  let t := walk x p 15 0 n ⟨2 ^ (3840 + n), if p = 1 then 2 ^ (3840 + n) else 0, 0, p, n⟩
  let oc := 2 ^ (4096 + t.exit)
  { t with cells := t.cells ||| oc, cross := if p = 1 then t.cross ||| oc else t.cross }

/-- The path from input n on plane p to output m with free choices f in stages 0 to 6; stages 7 to 14 steer to m. -/
def candidate (p n m f : Nat) : Path :=
  pathVia (fun s a => if s < 7 then f.testBit s else (a % 2 != (m >>> (14 - s)) % 2)) p n

/-- The path that an image gives input n (R43, R51), with ISn and the combiner it ends at, in their states. -/
def tracePath (img n : Nat) : Path :=
  let p := if img.testBit (3840 + n) then 1 else 0
  let t := walk (fun s a => img.testBit (1920 * p + 128 * s + a / 2)) p 15 0 n
    ⟨2 ^ (3840 + n), if p = 1 then 2 ^ (3840 + n) else 0, 0, p, n⟩
  let oc := 2 ^ (4096 + t.exit)
  { t with cells := t.cells ||| oc, cross := if img.testBit (4096 + t.exit) then t.cross ||| oc else t.cross }

/-- The output that the traced path reaches: the line it ends on, when that combiner passes its plane (R22). -/
def reaches (img n : Nat) : Option Nat :=
  let t := tracePath img n
  if img.testBit (4096 + t.exit) == (t.plane == 1) then some t.exit else none

/-- An image with the cells of a path in the states it needs (R41). -/
def Path.apply (t : Path) (img : Nat) : Nat := (img ^^^ (img &&& t.cells)) ||| t.cross

/-- Plane p is allowed by PLANE_REQ (R37). -/
def planeOk (req p : Nat) : Bool := req == 0 || req == p + 1

/-- Every path a connection may take: allowed plane, no failed cell (R42). -/
def candidates (failed : Nat) (c : Conn) : List Path :=
  ([0, 1].filter (planeOk c.planeReq)).flatMap fun p =>
    ((List.range 128).map (candidate p c.inp c.out)).filter fun t => t.cells &&& failed == 0

/-- How many bits are set: the lowest one is taken away at each step. -/
def popcount : Nat → Nat → Nat
  | 0, _ => 0
  | k + 1, n => if n = 0 then 0 else popcount k (n &&& (n - 1)) + 1

/-- Cells of an image that differ from another, failed cells excluded (R46). -/
def changed (active failed img : Nat) : Nat :=
  let d := img ^^^ active
  popcount 4352 (d ^^^ (d &&& failed))

/-- The lowest bit set. -/
def lowBit (n : Nat) : Nat := Nat.log2 (n ^^^ (n &&& (n - 1)))

/-- R46: of two images with their counts of changed cells, fewest changed, then bar at the lowest cell index where they differ. -/
def better (best : Option (Nat × Nat)) (b : Nat × Nat) : Option (Nat × Nat) :=
  match best with
  | none => some b
  | some a =>
    if b.1 < a.1 then some b
    else if a.1 < b.1 || a.2 == b.2 then some a
    else if a.2.testBit (lowBit (a.2 ^^^ b.2)) then some b else some a

/-- No image so far changes fewer cells than n. -/
def within (best : Option (Nat × Nat)) (n : Nat) : Bool :=
  match best with
  | none => true
  | some a => decide (n ≤ a.1)

/-- The best image that gives every connection one of its paths, with no line shared (R42, R46). Placing a path never lowers the
count of changed cells, so a part image that already changes more than the best one found is left. -/
def placeBest (active failed : Nat) : List (List Path) → Nat → Nat → Option (Nat × Nat)
  | [], img, _ => some (changed active failed img, img)
  | ts :: rest, img, occ =>
    ts.foldl (fun best t =>
      if t.lines &&& occ = 0 then
        let img' := t.apply img
        if within best (changed active failed img') then
          match placeBest active failed rest img' (occ ||| t.lines) with
          | some r => better best r
          | none => best
        else best
      else best) none

def place (active failed : Nat) (l : List (List Path)) (img occ : Nat) : Option Nat :=
  (placeBest active failed l img occ).map Prod.snd

/-- Apply f to n, n - 1, … 0 and take the first answer. -/
def firstDown (f : Nat → Option β) : Nat → Option β
  | 0 => f 0
  | n + 1 => match f (n + 1) with
    | some x => some x
    | none => firstDown f n

/-- R44: keep the longest leading part of the kept connections for which a solution exists: its length and the image. -/
def solveKeeping (active failed : Nat) (kept placed : List Conn) : Option (Nat × Nat) :=
  firstDown (fun k =>
    let occ := (kept.take k).foldl (fun o c => o ||| (tracePath active c.inp).lines) 0
    (place active failed ((kept.drop k ++ placed).map (candidates failed)) active occ).map fun img => (k, img)) kept.length

/-- Insertion by a strict order, keeping equal elements in their order. -/
def insertBy (lt : α → α → Bool) (a : α) : List α → List α
  | [] => [a]
  | b :: l => if lt a b then a :: b :: l else b :: insertBy lt a l

def sortBy (lt : α → α → Bool) (l : List α) : List α := l.foldr (insertBy lt) []

/-- The order of the kept connections (R44). -/
def keptOrder (l : List Conn) : List Conn := l.filter Conn.protect ++ l.filter fun c => !c.protect

/-- The order of omission (R45): placed before kept, PROTECT = 0 before 1, then descending input port. -/
def omissionOrder (kept placed : List Conn) : List Conn :=
  let g (l : List Conn) : List Conn := ((l.filter fun c => !c.protect).reverse) ++ (l.filter Conn.protect).reverse
  g (sortBy (fun a b => a.inp < b.inp) placed) ++ g (sortBy (fun a b => a.inp < b.inp) kept)

/-- R45 with ACCEPT_PARTIAL = 1: omit in order until a solution exists: the image, its kept prefix, the kept connections left and
the omitted ones. -/
def solveOmitting (active failed : Nat) : List Conn → List Conn → List Conn → List Nat → Option (Nat × Nat × List Conn × List Nat)
  | [], kept, placed, om => (solveKeeping active failed kept placed).map fun r => (r.2, r.1, kept, om)
  | c :: cs, kept, placed, om =>
    match solveKeeping active failed kept placed with
    | some r => some (r.2, r.1, kept, om)
    | none => solveOmitting active failed cs (kept.filter (· != c)) (placed.filter (· != c)) (c.inp :: om)

/-! ### Maps -/

/-- The connection of entry n, where it is VALID. -/
def connOf (n : Nat) (w : Word) : Option Conn :=
  if w.getLsbD 31 then some ⟨n, bits w.toNat 16 8, bits w.toNat 29 2, w.getLsbD 28⟩ else none

/-- The connections of a map, ascending input. -/
def connsFrom : Nat → List Word → List Conn
  | _, [] => []
  | n, w :: l => match connOf n w with
    | some c => c :: connsFrom (n + 1) l
    | none => connsFrom (n + 1) l

def conns (m : List Word) : List Conn := connsFrom 0 m

/-- Entry w breaks the first condition of R38. -/
def badEntry (w : Word) : Bool := w.getLsbD 31 && (bits w.toNat 29 2 == 3 || decide (200 < bits w.toNat 0 8))

/-- The lowest VALID entry that breaks the first condition of R38. -/
def firstBadEntry : Nat → List Word → Option Nat
  | _, [] => none
  | n, w :: l => if badEntry w then some n else firstBadEntry (n + 1) l

/-- The lowest VALID entry whose OUT another VALID entry also names (R56). -/
def firstConflict (cs : List Conn) : Option Nat :=
  (cs.find? fun c => cs.any fun d => d.inp != c.inp && d.out == c.out).map Conn.inp

/-! ### The checker (R51) -/

/-- The lowest condition of R51 that input c fails; none where it passes all. -/
def checkOne (img failed : Nat) (cs : List Conn) (c : Conn) : Option Nat :=
  let t := tracePath img c.inp
  let r := reaches img c.inp
  if r != some c.out then some 1
  else if cs.any (fun d => d.inp != c.inp && reaches img d.inp == r) then some 2
  else if t.cells &&& failed != 0 then some 3
  else if !planeOk c.planeReq t.plane then some 4
  else none

/-- The lowest traced input that fails, and why (R52). -/
def check (img failed : Nat) (cs : List Conn) : Option (Nat × Nat) :=
  cs.findSome? fun c => (checkOne img failed cs c).map fun k => (c.inp, k)

/-- The live mask the checker builds: the cells on the traced paths (R30, R51). -/
def liveMask (img : Nat) (cs : List Conn) : Nat := cs.foldl (fun m c => m ||| (tracePath img c.inp).cells) 0

/-! ### Solves -/

/-- What a solve works from: the active image and failed set; which connections the active map carries, with their outputs; ports
for which no connection has a solution (R45, last paragraph). -/
structure Given where
  active : Nat
  failed : Nat
  carried : List Conn
  noIn : Nat
  noOut : Nat
  deriving DecidableEq, Repr

/-- R43: the connection is kept. -/
def Given.keeps (g : Given) (c : Conn) : Bool :=
  g.carried.any fun d => d.inp == c.inp && d.out == c.out &&
    (let t := tracePath g.active c.inp
     planeOk c.planeReq t.plane && t.cells &&& g.failed == 0)

/-- R45, last paragraph. -/
def Given.hopeless (g : Given) (c : Conn) : Bool := g.noIn.testBit c.inp || g.noOut.testBit c.out

/-- The outcome of a solve: an image with its omitted inputs and moved count, or NO_ROUTE with FIRST_BAD_PORT. -/
inductive Outcome where
  | image (img : Nat) (omits : List Nat) (moved : Nat)
  | noRoute (port : Nat)
  deriving DecidableEq, Repr

/-- Kept connections past the kept part whose path the image changes (R44). -/
def movedCount (active img : Nat) (l : List Conn) : Nat :=
  (l.filter fun c => tracePath img c.inp != tracePath active c.inp).length

/-- A host solve (R42 to R46) of a well-formed map. -/
def Given.solve (g : Given) (cs : List Conn) (partialOk : Bool) : Outcome :=
  match (cs.filter g.hopeless).head?, partialOk with
  | some c, false => .noRoute c.inp
  | _, _ =>
    let cs' := cs.filter fun c => !g.hopeless c
    let kept := keptOrder (cs'.filter g.keeps)
    let placed := cs'.filter fun c => !g.keeps c
    let om := (cs.filter g.hopeless).map Conn.inp
    let order := omissionOrder kept placed
    if partialOk then
      match solveOmitting g.active g.failed order kept placed om with
      | some (img, k, kept, om) => .image img om (movedCount g.active img (kept.drop k))
      | none => .image g.active (cs.map Conn.inp) 0
    else
      match solveKeeping g.active g.failed kept placed with
      | some (k, img) => .image img [] (movedCount g.active img (kept.drop k))
      | none => .noRoute ((order.head?.map Conn.inp).getD 0)

/-- A fault re-solve (R48): the connections the active map carries; those whose paths pass through a failed cell are displaced. The
image and the inputs carried dark. -/
def Given.resolve (g : Given) : Nat × List Nat :=
  let kept := keptOrder (g.carried.filter g.keeps)
  let disp := g.carried.filter fun c => !g.keeps c
  let om := (disp.filter g.hopeless).map Conn.inp
  let disp := disp.filter fun c => !g.hopeless c
  let occ := kept.foldl (fun o c => o ||| (tracePath g.active c.inp).lines) 0
  let other (c : Conn) : List Path :=
    (candidates g.failed c).filter fun t => t.plane != (tracePath g.active c.inp).plane
  match place g.active g.failed (disp.map other) g.active occ with
  | some img => (img, om)
  | none =>
    match place g.active g.failed (disp.map (candidates g.failed)) g.active occ with
    | some img => (img, om)
    | none =>
      match solveOmitting g.active g.failed (omissionOrder kept disp) kept disp om with
      | some (img, _, _, om) => (img, om)
      | none => (g.active, g.carried.map Conn.inp)

/-- A set of input ports as a mask. -/
def portMask (l : List Nat) : BitVec 256 := BitVec.ofNat 256 (l.foldl (fun m n => m ||| 2 ^ n) 0)

end Sys2Proof.Machine.Solver
end

