-- ==== Sys2Proof/Machine/Fabric.lean ====
section
/-! DEFINITION. Connection maps, solve requests, the failed set, and the loop words derived from an image
(02_fabric.md R30 to R36; 03_routing.md R37 to R58; 06_loops.md R121). -/

namespace Sys2Proof.Machine

open Solver (Conn Given)

/-! ### Admission by mode (R427, R431) -/

/-- A host request that a cold start admits from the end of step n, and a warm start from the end of step 5. -/
def State.admitted (s : State) (n : Nat) : Bool :=
  if s.start.cold then bitOf s.start.ended n else if s.start.warm then bitOf s.start.ended 5 else true

/-! ### Maps and images -/

def State.shadowMap (s : State) : List Word := (List.range 256).map fun n => s.rd (R.FAB_SHADOW_MAP n)
def State.activeMap (s : State) : List Word := (List.range 256).map fun n => s.rd (R.FAB_ACTIVE_MAP n)

/-- Port n is out of use by isolation on its input side, or on its output side (R32, R45, R49). -/
def State.downIn (s : State) (n : Nat) : Bool :=
  s.fab.isoBlocks.getLsbD (n / 16) || s.fab.isoIn.getLsbD n || s.fab.isoCells.getLsbD (3840 + n)
def State.downOut (s : State) (n : Nat) : Bool :=
  s.fab.isoBlocks.getLsbD (n / 16) || s.fab.isoOut.getLsbD n || s.fab.isoCells.getLsbD (4096 + n)

/-- A connection of the active map that the active image carries, or would but for isolation. -/
def State.routed (s : State) (c : Conn) : Bool := !s.fab.activeOmit.getLsbD c.inp
/-- A connection that carries light (R32, R43, R45, R49). -/
def State.carries (s : State) (c : Conn) : Bool :=
  s.routed c && !s.fab.activeDark.getLsbD c.inp && !s.fab.startDark.getLsbD c.inp &&
  !s.downIn c.inp && !s.downOut c.out

/-- The connections that the active image carries (R43). -/
def State.carriedConns (s : State) : List Conn := (Solver.conns s.activeMap).filter s.carries

/-- Failed and isolated ends (R45, last paragraph). -/
def State.noInMask (s : State) : Nat :=
  (List.range 256).foldl (fun m n => if s.downIn n || s.fab.failed.getLsbD (3840 + n) then m ||| 2 ^ n else m) 0
def State.noOutMask (s : State) : Nat :=
  (List.range 256).foldl (fun m n => if s.downOut n || s.fab.failed.getLsbD (4096 + n) then m ||| 2 ^ n else m) 0

/-- What a solve works from now. -/
def State.given (s : State) : Given :=
  { active := s.fab.active.toNat, failed := s.fab.failed.toNat, carried := s.carriedConns, noIn := s.noInMask, noOut := s.noOutMask }

/-! ### Loop words of an image (R121) -/

/-- KEY1 of the active curve of ELx (R181). -/
def State.key1 (s : State) (x : Nat) : Nat := bits (s.rd (R.CAL_CURVE x 1)).toNat 0 14
def State.key2 (s : State) (x : Nat) : Nat := bits (s.rd (R.CAL_CURVE x 1)).toNat 16 14

/-- Words 1 and 2 of an F element whose cell is in the given state. -/
def State.fWords (s : State) (x : Nat) (cross : Bool) : Nat × Nat :=
  if cross then
    let k := s.key1 x
    ((k - 1024) * 65536 + min 16383 (k + 1024), 0)
  else (0, 0)

/-- SETPOINT of VOm: minus (minimum loss + 0.1 dB × ATTEN), Q8.24 in dB, rounded to the nearest. -/
def State.voSetpoint (s : State) (x atten : Nat) : Nat :=
  unsignedOf 32 (- (((bits (s.rd (R.CAL_CURVE x 2)).toNat 16 16 + 10 * atten) * 2 ^ 24 + 50) / 100 : Nat))

/-- Words 1 and 2 of the loop record of ELx in the set at base o, where they change. -/
def State.setLoopWords (s : State) (o : Nat → Nat → Nat) (x : Nat) (w : Nat × Nat) : State :=
  let put (s : State) (k v : Nat) : State := if (s.rd (o x k)).toNat = v then s else s.wr (o x k) (BitVec.ofNat 32 v)
  put (put s 1 w.1) 2 w.2

/-- R121: words 1 and 2 of every F element, and of the attenuators of connected ports, from an image and its map. -/
def State.deriveLoopWords (s : State) (o : Nat → Nat → Nat) (img : Nat) (map : List Word) (cs : List Conn) : State :=
  let s := forUp (fun i s => s.setLoopWords o (cellF i) (s.fWords (cellF i) (img.testBit i))) cellCount 0 s
  cs.foldl (fun s c =>
    (s.setLoopWords o (elemVI c.inp) (16383, 0)).setLoopWords o (elemVO c.out)
      (16383, s.voSetpoint (elemVO c.out) (bits (nth 0 map c.inp).toNat 0 8))) s

/-! ### The solver's queue (R55 to R57, R64) -/

/-- FAB_SOLVE_STATUS.STATE and QUEUED follow what runs and waits. -/
def State.showSolver (s : State) : State :=
  let st := if s.fab.resolve.isSome then 2 else match s.fab.solving with
    | some r => if r.checkOnly then 3 else 1
    | none => 0
  (s.setF R.FAB_SOLVE_STATUS F.FAB_SOLVE_STATUS_STATE st).setF R.FAB_SOLVE_STATUS F.FAB_SOLVE_STATUS_QUEUED s.fab.solveQ.length

/-- The solver accepts a request: SOLVED is cleared (R55). -/
def State.solveBegin (s : State) (r : SolveReq) : State :=
  let s := { s with fab := { s.fab with solving := some r } }
  (s.setF R.FAB_SOLVE_STATUS F.FAB_SOLVE_STATUS_SOLVED 0).showSolver

/-- A free solver takes the next request, unless it has RACK_AFTER = 1 and waits for its instant (R64), or the fabric processor restarts
(R328). -/
def State.solveNext (s : State) : State :=
  if s.fab.solving.isSome || s.fab.resolve.isSome || s.restarting 2 then s.showSolver
  else match s.fab.solveQ with
    | r :: q => if r.rackAfter then s.showSolver else State.solveBegin { s with fab := { s.fab with solveQ := q } } r
    | [] => s.showSolver

/-- A request reaches the solver: queued, or BUSY where four are (R56, R57). -/
def State.solveArrive (s : State) (r : SolveReq) : State :=
  if 4 ≤ s.fab.solveQ.length then s.finish r.req 0x0107 (s.opWords 2) 0 true
  else State.solveNext { s with fab := { s.fab with solveQ := s.fab.solveQ ++ [r] } }

/-- A rack of the given domain (1 fabric, 2 packet) is in progress (R65, R66). -/
def State.racking (s : State) (dom : Nat) : Bool :=
  match s.rack.run with
  | some run => run.trig.domains &&& dom != 0
  | none => false

/-- A SOLVE as its row starts it: refused by mode (R56), waiting behind a rack (R66), or queued. -/
def State.solveRequest (s : State) (r : SolveReq) : State :=
  if s.mode = .shadow || !s.admitted 8 then s.finish r.req 0x0108 (s.opWords 2) 0 true
  else if s.racking 1 then { s with rack := { s.rack with waiting := s.rack.waiting ++ [.solve r] } }
  else s.solveArrive r

/-- The request a SOLVE descriptor carries (R315). -/
def Desc.solveReq (d : Desc) (r : Req) : SolveReq :=
  let b := d.byte 21
  { req := r, checkOnly := d.byte 20 == 1, partialOk := bitOf b 0, rackAfter := bitOf b 1, joint := bitOf b 2 }

/-- SOLVE (R55) with MODE 0. -/
def execSolve (sq : Fin 32) (d : Desc) (s : State) : Out :=
  .next (s.launch sq d (d.opcode == 2 && d.byte 20 == 0) false true fun r s => s.solveRequest (d.solveReq r))

/-- CHECK_ONLY (R55): SOLVE with MODE 1. -/
def execCheckOnly (sq : Fin 32) (d : Desc) (s : State) : Out :=
  .next (s.launch sq d (d.opcode == 2 && d.byte 20 == 1) false true fun r s => s.solveRequest (d.solveReq r))

/-- SOLVE_RACK_AFTER_ACCEPT (R64): 512 ns before a boundary tick a free solver takes a waiting request with RACK_AFTER = 1. -/
def execSolveRackAfterAccept (s : State) : Out :=
  let s := s.at_ 488
  .next (if s.fab.solving.isSome || s.fab.resolve.isSome then s
  else match s.fab.solveQ with
    | r :: q => if r.rackAfter then State.solveBegin { s with fab := { s.fab with solveQ := q } } r else s
    | [] => s)

/-! ### Ends of a solve -/

/-- The running request ends with a result (R56) and FIRST_BAD_PORT; its completion is due unless a rack follows. -/
def State.solveEnd (s : State) (r : SolveReq) (result bad : Nat) (complete : Bool) : State :=
  let s := { s with fab := { s.fab with solving := none } }
  let s := s.setF R.FAB_SOLVE_STATUS F.FAB_SOLVE_STATUS_LAST_RESULT result
  let s := s.setF R.FAB_SOLVE_STATUS F.FAB_SOLVE_STATUS_FIRST_BAD_PORT bad
  let s := if complete then s.finish r.req result (s.opWords 2) 0 true else s
  s.solveNext

/-- The running host request ends with STALE or ABORTED; its work is discarded (R54, R58). -/
def State.solveCut (s : State) (result : Nat) : State :=
  match s.fab.solving with
  | some r => s.solveEnd r result 0 true
  | none => s

/-- The checker fails an image (R52). -/
def State.checkFailed (s : State) (port cause : Nat) : State :=
  let s := s.count R.FAB_CHECK_STATUS F.FAB_CHECK_STATUS_FAIL_COUNT 1
  (s.setF R.FAB_CHECK_STATUS F.FAB_CHECK_STATUS_BAD_PORT port).setF R.FAB_CHECK_STATUS F.FAB_CHECK_STATUS_CAUSE cause

/-- Words of a set of ports, from register o upwards. -/
def State.writePorts (s : State) (o : Nat → Nat) (m : BitVec 256) : State :=
  forUp (fun k s => s.wr (o k) (BitVec.ofNat 32 (m.toNat >>> (32 * k)))) 8 0 s

/-- A trigger reaches the fabric controller; it is taken at the next boundary tick (R62). -/
def State.trigger (s : State) (t : Trig) : State := { s with rack := { s.rack with arrived := s.rack.arrived ++ [{ t with at_ := s.now }] } }

/-- A checked image is held: SOLVED, BASE_VINTAGE, the statistics, the live mask and the derived loop words (R41, R51, R55, R121). -/
def State.holdImage (s : State) (img : Nat) (omits : List Nat) (moved : Nat) (map : List Word) : State :=
  let carriedCs := (Solver.conns map).filter fun c => !omits.contains c.inp
  let live := Solver.liveMask img carriedCs
  let changed := Solver.changed s.fab.active.toNat s.fab.failed.toNat img
  let s := { s with fab := { s.fab with
    shadow := BitVec.ofNat 4352 img, shadowLive := BitVec.ofNat 4352 live, shadowOmit := Solver.portMask omits } }
  let s := s.deriveLoopWords R.LOOP_SHADOW_CFG img map carriedCs
  let s := s.setF R.FAB_SOLVE_STATUS F.FAB_SOLVE_STATUS_SOLVED 1
  let s := s.wr R.FAB_SOLVE_BASE (s.rd R.FAB_VINTAGE_FABRIC)
  ((s.setF R.FAB_SOLVE_STATS F.FAB_SOLVE_STATS_UNROUTED omits.length).setF R.FAB_SOLVE_STATS
    F.FAB_SOLVE_STATS_MOVED moved).setF R.FAB_SOLVE_STATS F.FAB_SOLVE_STATS_CHANGED changed

/-- A request ends with a held image; then a rack where RACK_AFTER asks for one (R55, R64). -/
def State.solveHeld (s : State) (r : SolveReq) (img : Nat) (omits : List Nat) (moved : Nat) (map : List Word) : State :=
  let s := s.holdImage img omits moved map
  let s := if r.checkOnly then s else s.writePorts R.FAB_UNROUTED (Solver.portMask omits)
  if omits.isEmpty && r.rackAfter then
    (s.solveEnd r 0 0 false).trigger
      { src := .rackAfter, req := some r.req, domains := if r.joint then 3 else 1, tset := 0, expect := none, vint := none, path := [], at_ := 0 }
  else s.solveEnd r (if omits.isEmpty then 0 else 1) 0 true

/-- SOLVE_RESULT_HELD (R53, R56): the running solve or check ends. forced: the checker disagrees with a solver image that its own
conditions pass (an error of the hardware, R52); none in a machine without errors. -/
def execSolveResultHeld (forced : Option (Fin 256 × Fin 5)) (s : State) : Out :=
  .next (match s.fab.solving with
  | none => s
  | some r =>
    if s.fab.resolve.isSome || s.rack.arrived.any (fun t => t.src == .fault) || s.racking 1 then s
    else
      let map := s.shadowMap
      let cs := Solver.conns map
      match Solver.firstBadEntry 0 map, Solver.firstConflict cs with
      | some n, _ => s.solveEnd r 0x0101 n true
      | none, some n => s.solveEnd r 0x0102 n true
      | none, none =>
        let g := s.given
        if r.checkOnly then
          let img := s.fab.shadow.toNat
          match Solver.check img g.failed cs with
          | some (p, c) => (s.checkFailed p c).solveEnd r 0x0104 p true
          | none =>
            s.solveHeld r img [] (Solver.movedCount g.active img (cs.filter g.keeps)) map
        else
          match g.solve cs r.partialOk with
          | .noRoute n => s.solveEnd r 0x0103 n true
          | .image img omits moved =>
            match Solver.check img g.failed (cs.filter fun c => !omits.contains c.inp), forced with
            | some (p, c), _ => ((s.checkFailed p c).raiseD 225 p c 0 0 []).solveEnd r 0x0104 p true
            | none, some (p, c) => ((s.checkFailed p c).raiseD 225 p c 0 0 []).solveEnd r 0x0104 p true
            | none, none => s.solveHeld r img omits moved map)

/-- SOLVE_ABORT (R58): a write of FAB_SOLVE_CTRL.ABORT ends the running host request. -/
def execSolveAbort (s : State) : Out := .next (s.solveCut 0x0106)

/-! ### The failed set (R47) -/

/-- A fault record is open and keeps the cells it marked: not yet acknowledged (R47, R386). -/
def State.recOpen (s : State) (q : Nat) : Bool :=
  s.flt.recs.any fun e => match e.2 with
    | some r => r.seq == q && r.opened
    | none => false

/-- FAILED_CELL_MARK (R47): FAB_FAILED_EDIT with OP 1. Larger indices than 4,351 have no effect. -/
def execFailedCellMark (cell : BitVec 13) (s : State) : Out :=
  .next (if cell.toNat < cellCount then
    { s with fab := { s.fab with failed := s.fab.failed ||| BitVec.ofNat 4352 (2 ^ cell.toNat) } }
  else s)

/-- FAILED_CELL_CLEAR (R47): FAB_FAILED_EDIT with OP 2: ignored, with EDIT_REFUSED, while the record that marked the cell is open. -/
def execFailedCellClear (cell : BitVec 13) (s : State) : Out :=
  .next (if cell.toNat < cellCount then
    if s.fab.recCells.any fun e => e.1 == cell.toNat && s.recOpen e.2 then
      s.setF R.FAB_SOLVE_STATUS F.FAB_SOLVE_STATUS_EDIT_REFUSED 1
    else
      { s with fab := { s.fab with
          failed := s.fab.failed &&& ~~~ (BitVec.ofNat 4352 (2 ^ cell.toNat)),
          recCells := s.fab.recCells.filter fun e => e.1 != cell.toNat } }
  else s)

end Sys2Proof.Machine
end

