-- ==== Sys2Proof/Machine/Cellar.lean ====
section
/-! DEFINITION. Cellar, the board memory (10_tables.md R207 to R210): bytes and words, forwarding entries in their buckets, and the
counter pairs with their accumulator (11_scheduling.md R255, R256). -/

namespace Sys2Proof.Machine

/-! ### CRC-32 (IEEE 802.3) -/

/-- n bits through the reflected CRC-32 register. -/
def crcBits : Nat → Nat → Nat
  | 0, c => c
  | n + 1, c => crcBits n (if c % 2 = 1 then (c / 2) ^^^ 0xEDB88320 else c / 2)

/-- The CRC-32 of IEEE 802.3 over bytes. -/
def crc32 (l : List Byte) : Nat := 0xFFFFFFFF ^^^ l.foldl (fun c b => crcBits 8 (c ^^^ b.toNat)) 0xFFFFFFFF

/-! ### Bytes and words -/

/-- A byte that nothing has written reads 0 (a cold start clears the regions and pairs; elsewhere log entry 31). -/
def State.cByte (s : State) (a : Nat) : Byte := Tab.get (fun _ => (0 : Byte)) s.cellar a

/-- Write bytes from address a upwards. -/
def State.cWrite (s : State) (a : Nat) (l : List Byte) : State :=
  { s with cellar := Tab.setList (fun _ => (0 : Byte)) s.cellar a l }

/-- n bytes from a, least significant first. -/
def State.cLe (s : State) (a n : Nat) : Nat := ofLe (Tab.getList (fun _ => (0 : Byte)) s.cellar a n)

/-- Bytes of Cellar (DDR4 training finds 4 GiB to 32 GiB). -/
def State.cellarSize (s : State) : Nat := s.pk.memGiB * 2 ^ 30

/-! ### Forwarding entries (R207 to R210) -/

/-- Base of forwarding region r of PPn. -/
def fwdBase (n r : Nat) : Nat := 0x05000000 * n + 0x02800000 * r

/-- Bytes of a forwarding region. -/
abbrev fwdSize : Nat := 0x02800000

/-- Address of slot t of bucket k. -/
def slotAddr (n r k t : Nat) : Nat := fwdBase n r + 128 * k + 32 * t

/-- The eight words of an entry (R209). -/
def FEntry.words (e : FEntry) : List Nat :=
  [2 ^ 31 + bnat e.stat * 2 ^ 30 + bnat e.disc * 2 ^ 29 + e.vid % 4096, e.mac >>> 16, (e.mac % 65536) * 65536 + e.port % 128,
   e.seen, e.moves % 65536, 0, 0, 0]

def FEntry.bytes (e : FEntry) : List Byte := e.words.flatMap (leBytes 4)

/-- The entry in a slot, if VALID. -/
def State.entryAt (s : State) (a : Nat) : Option FEntry :=
  let w (i : Nat) : Nat := s.cLe (a + 4 * i) 4
  let w0 := w 0
  if bitOf w0 31 then
    some { stat := bitOf w0 30, disc := bitOf w0 29, vid := bits w0 0 12, mac := w 1 * 65536 + w 2 / 65536, port := bits (w 2) 0 7,
           seen := w 3, moves := bits (w 4) 0 16 }
  else none

def State.setEntry (s : State) (a : Nat) (e : FEntry) : State := s.cWrite a e.bytes
def State.clearEntry (s : State) (a : Nat) : State := s.cWrite a (List.replicate 32 0)

/-- Return a range of Cellar to zeros. -/
def State.cClear (s : State) (a n : Nat) : State := { s with cellar := Tab.clear a n s.cellar }

/-- Slots of a region that hold an entry, in bucket order, with their addresses. -/
def State.regionEntries (s : State) (n r : Nat) : List (Nat × FEntry) :=
  let addrs := ((Tab.slice (fwdBase n r) fwdSize s.cellar).map fun e => e.1 / 32).eraseDups
  addrs.filterMap fun i => (s.entryAt (fwdBase n r + 32 * i)).map fun e => (fwdBase n r + 32 * i, e)

/-- A key as bytes: VID, most significant byte first, then the address (R210). -/
def keyBytes (vid mac : Nat) : List Byte := beBytes 2 (vid % 4096) ++ beBytes 6 mac

/-- bucket_i of a key under a seed (R210). -/
def bucketOf (seed i vid mac : Nat) : Nat :=
  crc32 (beBytes 4 (if i = 0 then seed else seed ^^^ 0xFFFFFFFF) ++ keyBytes vid mac) * 327680 / 2 ^ 32

/-- Current region and seed of PPn (R208); the other region, and its seed during a rehash (R218). -/
def State.curRegion (s : State) (n : Nat) : Nat := s.fld (R.TBL_STATUS n) F.TBL_STATUS_REGION
def State.curSeed (s : State) (n : Nat) : Nat := (s.rd (R.TBL_SEED n)).toNat
def State.newSeed (s : State) (n : Nat) : Nat := (s.rd (R.TBL_SEED_NEW n)).toNat
def State.rehashOf (s : State) (n : Nat) : Option RehashRun := Tab.get (fun _ => none) s.pk.rehash n

/-- The slot and entry of a key in region r under a seed, bucket_0 first. -/
def State.findIn (s : State) (n r seed vid mac : Nat) : Option (Nat × FEntry) :=
  let slots := [bucketOf seed 0 vid mac, bucketOf seed 1 vid mac].flatMap fun k => (List.range 4).map fun t => slotAddr n r k t
  slots.findSome? fun a =>
    match s.entryAt a with
    | some e => if e.vid = vid ∧ e.mac = mac then some (a, e) else none
    | none => none

/-- What a table-store read finds (R211 to R213): the new region first during a rehash, then the current one. -/
def State.tableRead (s : State) (n vid mac : Nat) : Option FEntry :=
  let cur := (s.findIn n (s.curRegion n) (s.curSeed n) vid mac).map (·.2)
  match s.rehashOf n with
  | some _ => match s.findIn n (1 - s.curRegion n) (s.newSeed n) vid mac with
    | some e => some e.2
    | none => cur
  | none => cur

/-! ### Counter pairs (R255, R256) -/

/-- Address of pair i. -/
def pairAddr (i : Nat) : Nat := 0x14000000 + 16 * i

/-- The two counts of pair i in Cellar. -/
def State.pairIn (s : State) (i : Nat) : Nat × Nat := (s.cLe (pairAddr i) 8, s.cLe (pairAddr i + 8) 8)

/-- A line is folded into Cellar. -/
def State.foldLine (s : State) (l : AccLine) : State :=
  let (p, b) := s.pairIn l.pair
  s.cWrite (pairAddr l.pair) (leBytes 8 ((p + l.pkts) % 2 ^ 64) ++ leBytes 8 ((b + l.bytes) % 2 ^ 64))

/-- Lines of the accumulator. -/
abbrev accLines : Nat := 16384

/-- Counts go to the accumulator; with all lines in use the oldest is evicted. A pair past the last does not exist. -/
def State.countPair (s : State) (i pkts bytes : Nat) : State :=
  if 1048576 ≤ i then s
  else if s.pk.acc.any (fun l => l.pair == i) then
    { s with pk := { s.pk with acc := s.pk.acc.map fun l =>
        if l.pair = i then { l with pkts := l.pkts + pkts, bytes := l.bytes + bytes } else l } }
  else
    let s := if accLines ≤ s.pk.acc.length then
        match s.pk.acc with
        | l :: rest => { s.foldLine l with pk := { s.pk with acc := rest } }
        | [] => s
      else s
    { s with pk := { s.pk with acc := s.pk.acc ++ [⟨i, pkts, bytes, s.now⟩] } }

/-- The line of pair i is folded and leaves the accumulator. -/
def State.foldPair (s : State) (i : Nat) : State :=
  match s.pk.acc.find? fun l => l.pair == i with
  | some l => { s.foldLine l with pk := { s.pk with acc := s.pk.acc.filter fun l => l.pair != i } }
  | none => s

/-- COUNTER_FOLD (R256): a line past a count or an age threshold is folded. -/
def execCounterFold (pair : BitVec 20) (s : State) : Out :=
  let age := (max 1 (s.fld R.SCH_CTRL F.SCH_CTRL_FLUSH_MS)) * 1000000
  .next (match s.pk.acc.find? fun l => l.pair == pair.toNat with
  | some l =>
    if 2 ^ 15 < l.pkts ∨ 2 ^ 28 < l.bytes ∨ l.at_ + age ≤ s.now then s.foldPair l.pair else s
  | none => s)

/-- COUNTER_DUMP (R257): pairs are folded, read in ascending order and, with CLEAR, zeroed. -/
def execCounterDump (sq : Fin 32) (d : Desc) (buf : Buf) (s : State) : Out :=
  .next (s.launch sq d (d.opcode == 5) true true fun r s =>
    let first := d.le 24 4
    let count := if d.le 28 4 = 0 then 1048576 - first else d.le 28 4
    if s.mode = .start ∧ !s.admitted 10 then s.finish r 0x0504 [] 0 false
    else if 1048576 < first + count then s.finish r 0x0501 [] 0 false
    else if d.bufLen < 16 * count then s.finish r 0x0502 [] 0 false
    else
      let lines := s.pk.acc.filter fun l => decide (first ≤ l.pair) && decide (l.pair < first + count)
      let s := lines.foldl (fun s l => s.foldPair l.pair) s
      let data := Tab.getList (fun _ => (0 : Byte)) s.cellar (pairAddr first) (16 * count)
      if buf.ok then
        let s := if d.byte 20 % 2 = 1 then s.cClear (pairAddr first) (16 * count) else s
        s.finishBuf r d true 0 [BitVec.ofNat 32 count] data
      else s.finishBuf r d false 0 [] data)

end Sys2Proof.Machine
end

