-- ==== Sys2Proof/Machine/Crypto.lean ====
section
/-! DEFINITION. SHA-384 and the check of an ECDSA signature on P-384, which 15_management.md R339 and R340 name and do not define
(log entry 59: taken from the standards). -/

namespace Sys2Proof.Machine.Crypto

/-! ### SHA-384 -/

/-- A 64-bit word. -/
abbrev W64 := BitVec 64

/-- The round constants. -/
def roundK : List Nat :=
  [0x428A2F98D728AE22, 0x7137449123EF65CD, 0xB5C0FBCFEC4D3B2F, 0xE9B5DBA58189DBBC,
   0x3956C25BF348B538, 0x59F111F1B605D019, 0x923F82A4AF194F9B, 0xAB1C5ED5DA6D8118,
   0xD807AA98A3030242, 0x12835B0145706FBE, 0x243185BE4EE4B28C, 0x550C7DC3D5FFB4E2,
   0x72BE5D74F27B896F, 0x80DEB1FE3B1696B1, 0x9BDC06A725C71235, 0xC19BF174CF692694,
   0xE49B69C19EF14AD2, 0xEFBE4786384F25E3, 0x0FC19DC68B8CD5B5, 0x240CA1CC77AC9C65] ++
  [0x2DE92C6F592B0275, 0x4A7484AA6EA6E483, 0x5CB0A9DCBD41FBD4, 0x76F988DA831153B5,
   0x983E5152EE66DFAB, 0xA831C66D2DB43210, 0xB00327C898FB213F, 0xBF597FC7BEEF0EE4,
   0xC6E00BF33DA88FC2, 0xD5A79147930AA725, 0x06CA6351E003826F, 0x142929670A0E6E70,
   0x27B70A8546D22FFC, 0x2E1B21385C26C926, 0x4D2C6DFC5AC42AED, 0x53380D139D95B3DF,
   0x650A73548BAF63DE, 0x766A0ABB3C77B2A8, 0x81C2C92E47EDAEE6, 0x92722C851482353B] ++
  [0xA2BFE8A14CF10364, 0xA81A664BBC423001, 0xC24B8B70D0F89791, 0xC76C51A30654BE30,
   0xD192E819D6EF5218, 0xD69906245565A910, 0xF40E35855771202A, 0x106AA07032BBD1B8,
   0x19A4C116B8D2D0C8, 0x1E376C085141AB53, 0x2748774CDF8EEB99, 0x34B0BCB5E19B48A8,
   0x391C0CB3C5C95A63, 0x4ED8AA4AE3418ACB, 0x5B9CCA4F7763E373, 0x682E6FF3D6B2B8A3,
   0x748F82EE5DEFB2FC, 0x78A5636F43172F60, 0x84C87814A1F0AB72, 0x8CC702081A6439EC] ++
  [0x90BEFFFA23631E28, 0xA4506CEBDE82BDE9, 0xBEF9A3F7B2C67915, 0xC67178F2E372532B,
   0xCA273ECEEA26619C, 0xD186B8C721C0C207, 0xEADA7DD6CDE0EB1E, 0xF57D4F7FEE6ED178,
   0x06F067AA72176FBA, 0x0A637DC5A2C898A6, 0x113F9804BEF90DAE, 0x1B710B35131C471B,
   0x28DB77F523047D84, 0x32CAAB7B40C72493, 0x3C9EBE0A15C9BEBC, 0x431D67C49C100D4C,
   0x4CC5D4BECB3E42B6, 0x597F299CFC657E2A, 0x5FCB6FAB3AD6FAEC, 0x6C44198C4A475817]

/-- The eight working words. -/
structure Work where
  a : W64
  b : W64
  c : W64
  d : W64
  e : W64
  f : W64
  g : W64
  h : W64
  deriving DecidableEq, Repr

def start : Work :=
  ⟨0xCBBB9D5DC1059ED8, 0x629A292A367CD507, 0x9159015A3070DD17, 0x152FECD8F70E5939,
   0x67332667FFC00B31, 0x8EB44A8768581511, 0xDB0C2E0D64F98FA7, 0x47B5481DBEFA4FA4⟩

def rotr (x : W64) (n : Nat) : W64 := (x >>> n) ||| (x <<< (64 - n))

/-- One round with constant k and schedule word w. -/
def round (s : Work) (k w : W64) : Work :=
  let t1 := s.h + (rotr s.e 14 ^^^ rotr s.e 18 ^^^ rotr s.e 41) + ((s.e &&& s.f) ^^^ (~~~ s.e &&& s.g)) + k + w
  let t2 := (rotr s.a 28 ^^^ rotr s.a 34 ^^^ rotr s.a 39) + ((s.a &&& s.b) ^^^ (s.a &&& s.c) ^^^ (s.b &&& s.c))
  ⟨t1 + t2, s.a, s.b, s.c, s.d + t1, s.e, s.f, s.g⟩

/-- The next schedule word after the last sixteen, oldest first. -/
def nextW (l : List W64) : W64 :=
  let x := nth 0 l 1
  let y := nth 0 l 14
  nth 0 l 0 + (rotr x 1 ^^^ rotr x 8 ^^^ (x >>> 7)) + nth 0 l 9 + (rotr y 19 ^^^ rotr y 61 ^^^ (y >>> 6))

/-- Rounds over the constants left, with the next sixteen schedule words. -/
def rounds : List Nat → List W64 → Work → Work
  | [], _, s => s
  | k :: ks, l, s => rounds ks (l.drop 1 ++ [nextW l]) (round s (BitVec.ofNat 64 k) (nth 0 l 0))

/-- One block of 128 bytes. -/
def block (s : Work) (l : List Byte) : Work :=
  let ws := (List.range 16).map fun i => BitVec.ofNat 64 (ofBe ((l.drop (8 * i)).take 8))
  let t := rounds roundK ws s
  ⟨s.a + t.a, s.b + t.b, s.c + t.c, s.d + t.d, s.e + t.e, s.f + t.f, s.g + t.g, s.h + t.h⟩

def blocks : Nat → List Byte → Work → Work
  | 0, _, s => s
  | n + 1, l, s => blocks n (l.drop 128) (block s (l.take 128))

/-- The digest as a number, its first byte most significant. -/
def sha384 (l : List Byte) : Nat :=
  let n := l.length
  let zeros := (128 - (n + 17) % 128) % 128
  let padded := l ++ [0x80] ++ List.replicate zeros 0 ++ beBytes 16 (8 * n)
  let s := blocks (padded.length / 128) padded start
  [s.a, s.b, s.c, s.d, s.e, s.f].foldl (fun acc w => acc * 2 ^ 64 + w.toNat) 0

/-! ### P-384 -/

def prime : Nat := 2 ^ 384 - 2 ^ 128 - 2 ^ 96 + 2 ^ 32 - 1
def coefB : Nat := 0xB3312FA7E23EE7E4988E056BE3F82D19181D9C6EFE8141120314088F5013875AC656398D8A2ED19D2A85C8EDD3EC2AEF
def baseX : Nat := 0xAA87CA22BE8B05378EB1C71EF320AD746E1D3B628BA79B9859F741E082542A385502F25DBF55296C3A545E3872760AB7
def baseY : Nat := 0x3617DE4A96262C6F5D9E98BF9292DC29F8F41DBD289A147CE9DA3113B5F0B8C00A60B1CE1D7E819D7A431D7C90EA0E5F
def order : Nat := 0xFFFFFFFFFFFFFFFFFFFFFFFFFFFFFFFFFFFFFFFFFFFFFFFFC7634D81F4372DDF581A0DB248B0A77AECEC196ACCC52973

/-- x^k mod m, over the low n bits of k. -/
def powMod (m : Nat) : Nat → Nat → Nat → Nat → Nat
  | 0, _, _, acc => acc
  | n + 1, k, x, acc => powMod m n (k / 2) (x * x % m) (if k % 2 = 1 then acc * x % m else acc)

/-- The inverse modulo a prime of 384 bits. -/
def inv (m x : Nat) : Nat := powMod m 384 (m - 2) (x % m) 1

/-- A point in Jacobian coordinates: x = X / Z², y = Y / Z³; Z = 0 is the point at infinity. -/
structure Point where
  x : Nat
  y : Nat
  z : Nat

/-- a minus b modulo the prime, for b below it. -/
def sub (a b : Nat) : Nat := (a + (prime - b)) % prime

/-- A point added to itself (the curve's coefficient a is -3). -/
def Point.double (p : Point) : Point :=
  let zz := p.z * p.z % prime
  let yy := p.y * p.y % prime
  let m := 4 * p.x * yy % prime
  let a := 3 * sub p.x zz * (p.x + zz) % prime
  let x := sub (a * a) (2 * m % prime)
  ⟨x, sub (a * sub m x) (8 * yy * yy % prime), 2 * p.y * p.z % prime⟩

/-- The sum of two points. -/
def Point.add (p q : Point) : Point :=
  if p.z = 0 then q
  else if q.z = 0 then p
  else
    let pz := p.z * p.z % prime
    let qz := q.z * q.z % prime
    let u := p.x * qz % prime
    let s := p.y * qz * q.z % prime
    let h := sub (q.x * pz) u
    let r := sub (q.y * pz * p.z) s
    if h = 0 then (if r = 0 then p.double else ⟨1, 1, 0⟩)
    else
      let hh := h * h % prime
      let v := u * hh % prime
      let hhh := h * hh % prime
      let x := sub (r * r) ((hhh + 2 * v) % prime)
      ⟨x, sub (r * sub v x) (s * hhh % prime), h * p.z * q.z % prime⟩

/-- k times a point, over the low n bits of k. -/
def mul : Nat → Nat → Point → Point → Point
  | 0, _, _, acc => acc
  | n + 1, k, p, acc => mul n (k / 2) p.double (if k % 2 = 1 then acc.add p else acc)

/-- (x, y) lies on the curve. -/
def onCurve (x y : Nat) : Bool :=
  decide (x < prime) && decide (y < prime) && y * y % prime == (x * x * x + (prime - 3) * x + coefB) % prime

/-- The signature (r, s) over a digest e is valid under the public key (x, y). -/
def verify (x y r s e : Nat) : Bool :=
  decide (0 < r ∧ r < order ∧ 0 < s ∧ s < order) && onCurve x y &&
  (let w := inv order s
   let u := mul 384 (e * w % order) ⟨baseX, baseY, 1⟩ ⟨1, 1, 0⟩
   let p := u.add (mul 384 (r * w % order) ⟨x, y, 1⟩ ⟨1, 1, 0⟩)
   p.z != 0 && p.x * inv prime (p.z * p.z) % prime % order == r)

end Sys2Proof.Machine.Crypto
end

