-- ==== Sys2Proof/Machine/Time.lean ====
section
/-! DEFINITION. Time bases, servos, pulses, compare units and the timestamp queues (12_network_time.md R261 to R281). -/

namespace Sys2Proof.Machine

/-! ### Format and advance (R261 to R263) -/

/-- One nanosecond in units of 2^-48 ns. -/
abbrev nsUnit : Nat := 2 ^ 48

/-- Values of a time base repeat after 2^64 s. -/
abbrev tbSpan : Nat := 2 ^ 64 * 1000000000 * nsUnit

def State.tb (s : State) (n : Nat) : TimeBase := Tab.get (fun _ => TimeBase.zero) s.tim.bases n
def State.setTb (s : State) (n : Nat) (t : TimeBase) : State :=
  { s with tim := { s.tim with bases := Tab.set (fun _ => TimeBase.zero) s.tim.bases n t } }

/-- Value of a time base at cycle c of its clock, an integer number of cycles from its anchor. -/
def TimeBase.at_ (t : TimeBase) (c : Nat) : Nat :=
  (((t.val : Int) + (t.inc : Int) * ((c : Int) - t.cyc)) % (tbSpan : Int)).toNat

/-- Value of TBn at instant ns. -/
def State.tbAt (s : State) (n ns : Nat) : Nat := (s.tb n).at_ (ns / 2)
def State.tbNow (s : State) (n : Nat) : Nat := s.tbAt n s.now

def tbSec (v : Nat) : Nat := v / nsUnit / 1000000000
def tbNs (v : Nat) : Nat := v / nsUnit % 1000000000
def tbSub (v : Nat) : Nat := v % nsUnit / 2 ^ 32

/-- N of R263. -/
def tbN (v : Nat) : Nat := v / nsUnit % 2 ^ 64

/-- Increment of R261 for a rate in 2^-16 ppb and a compensation in 2^-8 ppb, in 2^-48 ns, rounded to the nearest, ties away from 0. -/
def tbInc (rate osc : Int) : Nat :=
  let r := rate + 256 * osc
  let z := 2 ^ 33 * r
  let q : Int := if 0 ≤ z then (z + 500000000) / 1000000000 else - ((- z + 500000000) / 1000000000)
  ((2 ^ 49 : Int) + q).toNat

/-- The time base goes on from now with the increment its rate and the compensation give. -/
def State.retune (s : State) (n : Nat) : State :=
  let t := s.tb n
  let c := s.now / 2
  let osc := signedOf 24 (s.fld R.TIM_OSC_COMP_CTRL F.TIM_OSC_COMP_CTRL_OSC_PPB)
  s.setTb n { t with val := t.at_ c, cyc := c, inc := tbInc (signedOf 32 (s.rd (R.TIM_RATE n)).toNat) osc }

/-- A write of TIM_RATE_n (R261). -/
def State.setRate (s : State) (n : Nat) (v : Word) : State := (s.wr (R.TIM_RATE n) v).retune n

/-- The time base moves by d units of 2^-48 ns: a step (R264). -/
def State.tbMove (s : State) (n : Nat) (d : Int) : State :=
  let t := s.tb n
  let c := s.now / 2
  let v := t.at_ c
  let s := s.setTb n { t with val := (((v : Int) + d) % (tbSpan : Int)).toNat, cyc := c, steps := t.steps + d }
  s.count (R.TIM_SERVO_STATUS n) F.TIM_SERVO_STATUS_STEPS 1

/-! ### Setting, stepping and snapshots (R264, R265) -/

/-- The operand of TIM_TB_CMD_n, in 2^-48 ns. -/
def State.tbOperand (s : State) (n : Nat) : Nat :=
  let sec := (s.rd (R.TIM_TB_OPND_SEC_HI n)).toNat * 2 ^ 32 + (s.rd (R.TIM_TB_OPND_SEC_LO n)).toNat
  (sec * 1000000000 + s.fld (R.TIM_TB_OPND_NS n) F.TIM_TB_OPND_NS_NS) * nsUnit +
    s.fld (R.TIM_TB_OPND_SUB n) F.TIM_TB_OPND_SUB_SUB * 2 ^ 32

/-- TIM_SET (R264): TBn takes the operand at its next cycle; a step. -/
def execTimSet (n : Fin 4) (ns : Fin 1000) (s : State) : Out :=
  let s := s.at_ ns
  .next (s.tbMove n ((s.tbOperand n : Int) - (s.tbNow n : Int)))

/-- TIM_ADD (R264): the signed operand is added; a step. -/
def execTimAdd (n : Fin 4) (ns : Fin 1000) (s : State) : Out :=
  let s := s.at_ ns
  let d : Int := s.tbOperand n
  .next (s.tbMove n (if s.flag (R.TIM_TB_OPND_NS n) F.TIM_TB_OPND_NS_NEG then - d else d))

def State.servoX (s : State) (n : Nat) : ServoX := Tab.get (fun _ => ServoX.zero) s.tim.servo n
def State.setServoX (s : State) (n : Nat) (x : ServoX) : State :=
  { s with tim := { s.tim with servo := Tab.set (fun _ => ServoX.zero) s.tim.servo n x } }

/-- TIM_CLEAR_INT (R264). -/
def execTimClearInt (n : Fin 4) (s : State) : Out :=
  .next ((s.setServoX n { s.servoX n with i := 0 }).wr (R.TIM_SERVO_INT n) 0)

/-- The four words of a value, as TIM_SNAP_n_w lays them out (R281). -/
def snapWords (v : Nat) : List Word :=
  [BitVec.ofNat 32 (tbSec v >>> 32), BitVec.ofNat 32 (tbSec v), BitVec.ofNat 32 (tbNs v), BitVec.ofNat 32 (tbSub v)]

/-- One base is latched into a requester's copy: MGMT's own, or the host's. -/
def State.snap (s : State) (o : Owner) (n : Nat) : State :=
  let ws := snapWords (s.tbNow n)
  if o = .mgmt then
    { s with tim := { s.tim with snapM := Tab.setList (fun _ => (0 : Word)) s.tim.snapM (4 * n) ws } }
  else forUp (fun w s => s.wr (R.TIM_SNAP n w) (nth 0 ws w)) 4 0 s

/-- TIM_SNAP_CMD (R265): the bases named in MASK are latched into the requester's snapshot. -/
def execTimSnapCmd (o : Owner) (mask : BitVec 4) (ns : Fin 1000) (s : State) : Out :=
  let s := s.at_ ns
  .next (forUp (fun n s => if mask.getLsbD n then s.snap o n else s) 4 0 s)

/-! ### The servo (R266 to R268) -/

/-- Rounded to the nearest, ties away from zero, at k fewer fractional bits. -/
def q16 (z : Int) : Int := roundAway z 24

/-- TIM_SERVO_LAST_n: θ in ns, saturating. -/
def thetaNs (θ : Int) : Nat := unsignedOf 32 (clampInt (-(2 ^ 31 - 1)) (2 ^ 31 - 1) (roundAway θ 16))

/-- The servo applies an offset θ (ns × 2^16) to TBn (R266). -/
def State.servoApply (s : State) (n : Nat) (θ : Int) : State :=
  let x := s.servoX n
  let held := s.fld (R.TIM_SERVO_STATUS n) F.TIM_SERVO_STATUS_STATE == 2
  let stepNs : Int := (s.rd (R.TIM_SERVO_STEP n)).toNat
  let stepping := s.flag (R.TIM_SERVO_CFG n) F.TIM_SERVO_CFG_STEP_EN &&
    (decide (stepNs * 65536 ≤ (if 0 ≤ θ then θ else - θ)) || x.first || held)
  let s := (s.wr (R.TIM_SERVO_LAST n) (BitVec.ofNat 32 (thetaNs θ))).setF (R.TIM_SERVO_STATUS n) F.TIM_SERVO_STATUS_STATE 1
  let x' : ServoX := { x with first := false, last := s.now }
  if stepping then
    ((s.setServoX n x').tbMove n (- θ * 2 ^ 32)).raise (445 + n) n
  else
    let lim : Int := 32768 * 2 ^ 40
    let ki := signedOf 32 (s.rd (R.TIM_SERVO_KI n)).toNat
    let kp := signedOf 32 (s.rd (R.TIM_SERVO_KP n)).toNat
    let i := clampInt (- lim) lim (x.i + ki * θ)
    let r := clampInt (- lim) lim (-(kp * θ + i))
    let top : Int := 2 ^ 31 - 1
    let s := s.setServoX n { x' with i := i }
    let s := s.wr (R.TIM_SERVO_INT n) (BitVec.ofNat 32 (unsignedOf 32 (clampInt (- 2 ^ 31) top (q16 i))))
    s.setRate n (BitVec.ofNat 32 (unsignedOf 32 (clampInt (- 2 ^ 31) top (q16 r))))

/-- An offset sample reaches the servo of TBn from a source (R267): one not selected, and any while EN is 0, is counted in IGNORED. -/
def State.servoSample (s : State) (n : Nat) (selected : Bool) (θ : Int) : State :=
  if selected && s.flag (R.TIM_SERVO_CFG n) F.TIM_SERVO_CFG_EN then s.servoApply n θ
  else s.count (R.TIM_SERVO_STATUS n) F.TIM_SERVO_STATUS_IGNORED 1

/-- The standby's servo of TBn follows Graft (R447). -/
def State.tbFollows (s : State) (n : Nat) : Bool :=
  s.mode == .shadow && bitOf (s.fld R.PAIR_CFG F.PAIR_CFG_TB_FOLLOW) n

/-- SERVO_HOLDOVER (R268): no sample for HOLD_MS. -/
def execServoHoldover (n : Fin 4) (s : State) : Out :=
  let o := R.TIM_SERVO_STATUS n
  let hold := (max 1 (s.fld (R.TIM_SERVO_CFG n) F.TIM_SERVO_CFG_HOLD_MS)) * 100000000
  .next (if s.flag (R.TIM_SERVO_CFG n) F.TIM_SERVO_CFG_EN && s.fld o F.TIM_SERVO_STATUS_STATE != 2 &&
      decide ((s.servoX n).last + hold ≤ s.now) then
    (s.setF o F.TIM_SERVO_STATUS_STATE 2).raise (441 + n) n
  else s)

/-! ### Pulses (R269, R270) -/

def State.pps (s : State) (n : Nat) : PpsX := Tab.get (fun _ => PpsX.zero) s.tim.pps n
def State.setPps (s : State) (n : Nat) (p : PpsX) : State :=
  { s with tim := { s.tim with pps := Tab.set (fun _ => PpsX.zero) s.tim.pps n p } }

/-- NS of a capture less the cable delay, taken modulo 10^9 into −500,000,000 to 499,999,999 (R267). -/
def ppsTheta (ns : Nat) (delay : Int) : Int :=
  let d := ((ns : Int) - delay) % 1000000000
  if d < 500000000 then d else d - 1000000000

/-- PPS_INPUT_EDGE (R269): an edge on PPSIn. One closer than 500 ms to the accepted edge before it is discarded; an accepted one
latches the time, fires source 232 + n and gives a pulse sample. -/
def execPpsInputEdge (n : Fin 4) (rising : Bool) (ns : Fin 1000) (s : State) : Out :=
  let s := s.at_ ns
  let o := R.TIM_PPS_CFG n
  let p := s.pps n
  .next (if s.flag o F.TIM_PPS_CFG_IN_EN && (s.flag o F.TIM_PPS_CFG_EDGE != rising) then
    if p.edge && decide (s.now < p.since + 500000000) then s.count o F.TIM_PPS_CFG_GLITCHES 1
    else
      let v := s.tbNow n
      let s := s.setPps n { p with since := s.now, edge := true, lost := false }
      let s := (s.wr (R.TIM_PPS_SEC n) (BitVec.ofNat 32 (tbSec v))).wr (R.TIM_PPS_NS n) (BitVec.ofNat 32 (tbNs v))
      let s := s.fire (232 + n)
      s.servoSample n (s.flag (R.TIM_SERVO_CFG n) F.TIM_SERVO_CFG_SRC && !s.tbFollows n)
        (ppsTheta (tbNs v) (signedOf 32 (s.rd (R.TIM_PPS_DELAY n)).toNat) * 65536)
  else s)

/-- PPS_LOST (R269): no accepted edge for 1.5 s on an enabled input. -/
def execPpsLost (n : Fin 4) (s : State) : Out :=
  let p := s.pps n
  .next (if s.flag (R.TIM_PPS_CFG n) F.TIM_PPS_CFG_IN_EN && !p.lost && decide (p.since + 1500000000 ≤ s.now) then
    (s.setPps n { p with lost := true }).raise (437 + n) n
  else s)

/-! ### Compare units (R272, R273) -/

/-- TARGET in force of unit c of TBn. -/
def State.cmpTarget (s : State) (n c : Nat) : Nat := Tab.get (fun _ => 0) s.tim.target (32 * n + c)

/-- (N − TARGET) mod 2^64 as a signed number. -/
def State.cmpDiff (s : State) (n c : Nat) : Int :=
  signedOf 64 (tbN (s.tbNow n) + 2 ^ 64 - s.cmpTarget n c % 2 ^ 64)

def State.setTarget (s : State) (n c v : Nat) : State :=
  { s with tim := { s.tim with target := Tab.set (fun _ => 0) s.tim.target (32 * n + c) (v % 2 ^ 64) } }

/-- The unit fires (R272): FIRED, its event source, PPSOn for unit 0; then it disarms, or moves its target past N. -/
def State.cmpFire (s : State) (n c : Nat) (late : Bool) : State :=
  let o := R.TIM_CMP_CTRL n c
  let d := (s.cmpDiff n c).toNat
  let s := s.setF o F.TIM_CMP_CTRL_FIRED 1
  let s := if late then s.setF o F.TIM_CMP_CTRL_LATE 1 else s
  let s := s.fire (16 + 32 * n + c)
  let s := if c = 0 ∧ s.flag (R.TIM_PPS_CFG n) F.TIM_PPS_CFG_OUT_EN then
      s.setPps n { s.pps n with falls := some (s.now + (max 1 (s.fld (R.TIM_PPS_CFG n) F.TIM_PPS_CFG_WIDTH)) * 1000) }
    else s
  let period := (s.rd (R.TIM_CMP_PERIOD n c)).toNat
  if period = 0 then s.setF o F.TIM_CMP_CTRL_ENABLE 0
  else
    let k := d / period + 1
    let t := (s.cmpTarget n c + k * period) % 2 ^ 64
    let s := (s.setTarget n c t).count o F.TIM_CMP_CTRL_MISSED (k - 1)
    (s.wr (R.TIM_CMP_TARGET_LO n c) (BitVec.ofNat 32 t)).wr (R.TIM_CMP_TARGET_HI n c) (BitVec.ofNat 32 (t >>> 32))

/-- COMPARE_FIRE (R272): an armed unit whose time base has reached TARGET fires. -/
def execCompareFire (n : Fin 4) (c : Fin 32) (ns : Fin 1000) (s : State) : Out :=
  let s := s.at_ ns
  .next (if s.flag (R.TIM_CMP_CTRL n c) F.TIM_CMP_CTRL_ENABLE && decide (0 ≤ s.cmpDiff n c) then s.cmpFire n c false else s)

/-- COMPARE_TARGET_HI_WRITE (R273): the new target takes effect with the word in TARGET_LO; a target already reached fires late. -/
def execCompareTargetHiWrite (n : Fin 4) (c : Fin 32) (v : Word) (s : State) : Out :=
  let s := s.wr (R.TIM_CMP_TARGET_HI n c) v
  let s := s.setTarget n c (v.toNat * 2 ^ 32 + (s.rd (R.TIM_CMP_TARGET_LO n c)).toNat)
  .next (if s.flag (R.TIM_CMP_CTRL n c) F.TIM_CMP_CTRL_ENABLE && decide (0 ≤ s.cmpDiff n c) then s.cmpFire n c true else s)

/-- PPSO_FALL (R270): PPSOn falls WIDTH µs after rising. -/
def execPpsoFall (n : Fin 4) (ns : Fin 1000) (s : State) : Out :=
  let s := s.at_ ns
  let p := s.pps n
  .next (match p.falls with
  | some t => if t ≤ s.now then s.setPps n { p with falls := none } else s
  | none => s)

/-! ### Timestamp queues (R275) -/

def State.tsq (s : State) (n : Nat) : List (List Word) := Tab.get (fun _ => []) s.tim.tsq n
def State.setTsq (s : State) (n : Nat) (l : List (List Word)) : State :=
  let s := { s with tim := { s.tim with tsq := Tab.set (fun _ => []) s.tim.tsq n l } }
  s.setF (R.TIM_TSQ_STATUS n) F.TIM_TSQ_STATUS_HELD l.length

/-- A record enters the queue of pipeline n, or is dropped and counted where 1,024 are held. -/
def State.tsqPut (s : State) (n : Nat) (rec_ : List Word) : State :=
  let q := s.tsq n
  if 1024 ≤ q.length then s.count (R.TIM_TSQ_STATUS n) F.TIM_TSQ_STATUS_TSQ_LOST 1 else s.setTsq n (q ++ [rec_])

/-- A PTP record (R275): word 0 from DIR, TB, messageType, port, ENCAP and sequenceId; the domain; the stamp v of that base. -/
def tsqRecord (dir tb typ port encap seqId domain v : Nat) : List Word :=
  [BitVec.ofNat 32 (2 ^ 31 + dir * 2 ^ 30 + tb * 2 ^ 28 + typ * 2 ^ 24 + port * 2 ^ 17 + encap * 2 ^ 16 + seqId % 65536),
   BitVec.ofNat 32 (domain * 2 ^ 24 + (tbSub v >>> 8) * 2 ^ 16 + (tbSec v >>> 32) % 65536),
   BitVec.ofNat 32 (tbSec v), BitVec.ofNat 32 (tbNs v)]

/-- TSQ_HEAD_LATCH (R275): a read of word 0 latches the head record; an empty queue reads VALID 0. -/
def execTsqHeadLatch (n : Fin 4) (s : State) : Out :=
  let ws := (s.tsq n).head?.getD [0, 0, 0, 0]
  let s := forUp (fun w s => s.wr (R.TIM_TSQ n w) (nth 0 ws w)) 4 0 s
  .next { s with hif := { s.hif with rdata := BitVec.ofNat 64 (nth 0 ws 0).toNat } }

/-- TSQ_RECORD_REMOVE (R275): a read of word 3 removes the head record. -/
def execTsqRecordRemove (n : Fin 4) (s : State) : Out :=
  let s := { s with hif := { s.hif with rdata := BitVec.ofNat 64 (s.rd (R.TIM_TSQ n 3)).toNat } }
  .next (s.setTsq n ((s.tsq n).drop 1))

/-! ### Oscillator compensation (R279) -/

/-- The polynomial of R279 in 2^-8 ppb for d in 0.1 °C, rounded to the nearest, ties away from zero. -/
def oscPpb (cal c0 c1 c2 c3 d : Int) : Int :=
  let z := (cal + c0) * 2 ^ 24 * 1000 + c1 * d * 2 ^ 16 * 100 + c2 * d * d * 2 ^ 8 * 10 + c3 * d * d * d
  let den : Int := 2 ^ 16 * 1000
  let q := if 0 ≤ z then (z + den / 2) / den else - ((- z + den / 2) / den)
  clampInt (- 2 ^ 23) (2 ^ 23 - 1) q

/-- OSC_PPB takes a value, and every time base with it. -/
def State.setOsc (s : State) (q : Int) : State :=
  let s := s.setF R.TIM_OSC_COMP_CTRL F.TIM_OSC_COMP_CTRL_OSC_PPB (unsignedOf 24 q)
  forUp (fun n s => s.retune n) 4 0 s

/-- OSC_COMP_UPDATE (R279, R411): once per millisecond with EN = 1, from the TCXO temperature; held while there is none. -/
def execOscCompUpdate (s : State) : Out :=
  let c (k : Nat) : Int := signedOf 32 (s.rd (R.TIM_OSC_COMP_C k)).toNat
  .next (if s.flag R.TIM_OSC_COMP_CTRL F.TIM_OSC_COMP_CTRL_EN && s.thm.tcxoOk then
    s.setOsc (oscPpb (signedOf 24 (bits (s.rd R.CAL_OSC).toNat 0 24)) (c 0) (c 1) (c 2) (c 3)
      (signedOf 16 (bits (s.rd R.THM_DERIVED).toNat 0 16) - 250))
  else s)

end Sys2Proof.Machine
end

