-- ==== Sys2Proof/Machine/Mgmt.lean ====
section
/-! DEFINITION. The Lees log, boot records, the NOR and the check of an image; the address swap and the default target of the bus
(15_management.md R326 to R353). -/

namespace Sys2Proof.Machine

/-! ### The NOR window (R337, R338) -/

/-- The NOR temperature lies between −20 °C and +90 °C. -/
def State.norWindow (s : State) : Bool :=
  let t := signedOf 16 (s.fld R.THM_DERIVED F.THM_DERIVED_NOR)
  s.thm.norOk && decide (-200 ≤ t) && decide (t ≤ 900)

/-- Shutdown threshold or PFAIL_N holds NOR writes. -/
def State.norHeld (s : State) : Bool := s.flag R.THM_STATUS F.THM_STATUS_SHUTDOWN || s.flag R.PWR_STATUS F.PWR_STATUS_PFAIL

def State.norUsable (s : State) : Bool := s.norWindow && !s.norHeld

/-! ### The Lees log (R349 to R351) -/

/-- The log registers follow the records held. -/
def State.showLog (s : State) : State :=
  let l := s.mgmt.log ++ s.mgmt.logQ
  let s := s.wr R.MGT_LOG_OLDEST (BitVec.ofNat 32 ((l.head?.map LogRec.seq).getD 0))
  let s := s.wr R.MGT_LOG_NEWEST (BitVec.ofNat 32 ((l.getLast?.map LogRec.seq).getD 0))
  s.setF R.MGT_LOG_STATUS F.MGT_LOG_STATUS_QUEUED s.mgmt.logQ.length

/-- A record formed now (R349), with its LOG_SEQ still to come. -/
def State.newRec (s : State) (typ sev src : Nat) (d : List Nat) : LogRec :=
  { seq := 0, injected := false, typ := typ, sev := sev, src := src, sec := tbSec (s.tbNow 0) % 2 ^ 32, ns := tbNs (s.tbNow 0),
    boot := (s.rd R.MGT_BOOT_COUNT).toNat, mode := s.mode.code, region := 0, block := 0, cell := 0, secCount := 0, cause := 0,
    d := (d ++ [0, 0, 0, 0, 0, 0, 0]).take 7 |>.map (BitVec.ofNat 32) }

/-- The lowest severity among records that wait. -/
def lowestSev (l : List LogRec) : Nat := l.foldl (fun m r => min m r.sev) 15

/-- Room for one more record (R350): where 256 wait, the oldest of the lowest severity is dropped. -/
def State.logRoom (s : State) : State :=
  if s.mgmt.logQ.length < 256 then { s with mgmt := { s.mgmt with logDropRun := false } }
  else
    let k := lowestSev s.mgmt.logQ
    let i := s.mgmt.logQ.findIdx fun r => r.sev == k
    let run := s.mgmt.logDropRun
    let s := { s with mgmt := { s.mgmt with logQ := s.mgmt.logQ.eraseIdx i, logDropRun := true } }
    let s := s.count R.MGT_LOG_STATUS F.MGT_LOG_STATUS_DROPPED 1
    if run then s else s.raise 480 0

/-- LOG_RECORD_QUEUE (R350): a record takes the next LOG_SEQ and waits in retention SRAM; its LOG_SEQ. -/
def State.logPut (s : State) (r : LogRec) : Nat × State :=
  let n := s.mgmt.logSeq + 1
  let s := s.logRoom
  let s := { s with mgmt := { s.mgmt with logSeq := n, logQ := s.mgmt.logQ ++ [{ r with seq := n }] } }
  (n, s.showLog)

/-- A record of no fault is queued. -/
def State.logNote (s : State) (typ sev src : Nat) (d : List Nat) : State := (s.logPut (s.newRec typ sev src d)).2

/-- Records that the ring still holds when n have been written: the sector ahead of the newest record is kept erased (R349). -/
def ringHeld (n : Nat) : Nat := if n = 0 then 0 else n - ((n - 1) / 1024 - 254) * 1024

/-- LOG_RECORD_WRITE (R350): the oldest waiting record is written to the NOR with its commit flag; ok: the programming succeeds. -/
def execLogRecordWrite (ok : Bool) (s : State) : Out :=
  .next (match s.mgmt.logQ with
  | r :: q =>
    if !s.norUsable then s
    else if !ok then s.raise 479 0
    else
      let n := s.mgmt.logCount + 1
      let l := s.mgmt.log ++ [r]
      let s := { s with mgmt := { s.mgmt with logQ := q, logCount := n, log := l.drop (l.length - ringHeld n) } }
      s.showLog
  | [] => s)

/-- The 64 bytes of a record (R349); queued: it still waits in retention SRAM. The CRC takes QUEUED as 0. -/
def LogRec.bytes (r : LogRec) (queued : Bool) : List Byte :=
  let w0 (q : Nat) : Nat := q * 2 ^ 31 + bnat r.injected * 2 ^ 30 + r.typ * 2 ^ 24 + r.sev * 2 ^ 16 + r.src
  let rest := leBytes 4 r.seq ++ leBytes 4 r.sec ++ leBytes 4 r.ns ++ leBytes 4 r.boot ++
    leBytes 4 (r.mode * 2 ^ 28 + r.region * 2 ^ 24 + r.block * 2 ^ 16 + r.cell) ++ leBytes 4 (r.secCount * 65536 + r.cause) ++
    r.d.flatMap wordBytes
  leBytes 4 (w0 (bnat queued)) ++ rest ++ leBytes 4 (crc32 (leBytes 4 (w0 0) ++ rest)) ++ leBytes 4 0x4C454553

/-- LOG_READ (R351). -/
def State.logRead (s : State) (d : Desc) (buf : Buf) (r : Req) : State :=
  let minSev := d.byte 20 % 8
  let newest := (s.rd R.MGT_LOG_NEWEST).toNat
  let oldest := (s.rd R.MGT_LOG_OLDEST).toNat
  let first := d.le 24 4
  let first := if first = 0xFFFFFFFF then oldest else first
  let words (n next : Nat) : List Word := [n, next, oldest, newest].map (BitVec.ofNat 32)
  if 4 < minSev ∨ newest + 1 < first then s.finish r 0x0801 (words 0 0) 0 false
  else if d.bufLen < 64 then s.finish r 0x0802 (words 0 0) 0 false
  else
    let fits := d.bufLen / 64
    let count := if d.le 28 4 = 0 then fits else min fits (d.le 28 4)
    let all := (s.mgmt.log.map fun r => (r, false)) ++ s.mgmt.logQ.map fun r => (r, true)
    let wanted := all.filter fun e => first ≤ e.1.seq && minSev ≤ e.1.sev
    let out := wanted.take count
    let next := if wanted.length ≤ count then newest + 1 else (out.getLast?.map fun e => e.1.seq + 1).getD first
    s.finishBuf r d buf.ok (if first < oldest then 1 else 0) (words out.length next) (out.flatMap fun e => e.1.bytes e.2)

/-- LOG_READ: its row. -/
def execLogRead (sq : Fin 32) (d : Desc) (buf : Buf) (s : State) : Out :=
  .next (s.launch sq d (d.opcode == 0x0B) true true fun r s => s.logRead d buf r)

/-! ### Boot records (R336, R341) -/

def State.slotState (s : State) (k : Nat) : Nat := s.fld (R.MGT_SLOT k) F.MGT_SLOT_STATE
def State.setSlotState (s : State) (k st : Nat) : State := s.setF (R.MGT_SLOT k) F.MGT_SLOT_STATE st
def State.slotTries (s : State) (k : Nat) : Nat := s.fld (R.MGT_SLOT k) F.MGT_SLOT_TRIES
def State.setTries (s : State) (k n : Nat) : State := s.setF (R.MGT_SLOT k) F.MGT_SLOT_TRIES n
def State.preferred (s : State) : Nat := s.fld R.MGT_BOOT_STATUS F.MGT_BOOT_STATUS_PREFERRED

/-- BR_SEQ of the newest record of a sector; 0 with none. -/
def newestSeq (l : List BootRec) : Nat := l.foldl (fun m r => max m r.seq) 0

/-- The newest valid boot record (R336). -/
def State.newestBoot (s : State) : Option BootRec :=
  (s.mgmt.bootSec0 ++ s.mgmt.bootSec1).foldl (fun m r => match m with
    | some b => if b.seq < r.seq then some r else m
    | none => some r) none

/-- The boot record that the working state of the slots makes. -/
def State.bootRec (s : State) : BootRec :=
  { seq := (s.newestBoot.map BootRec.seq).getD 0 + 1, preferred := s.preferred, state := [s.slotState 0, s.slotState 1],
    tries := [s.slotTries 0, s.slotTries 1], bootCount := (s.rd R.MGT_BOOT_COUNT).toNat }

/-- A sector takes one more record; a full one is erased first, since the other then holds the newest. -/
def sectorPut (l : List BootRec) (r : BootRec) : List BootRec := if 256 ≤ l.length then [r] else l ++ [r]

/-- A boot record is written to the sector that does not hold the newest one. -/
def State.writeBoot (s : State) (r : BootRec) : State :=
  let s := if newestSeq s.mgmt.bootSec0 ≤ newestSeq s.mgmt.bootSec1 then
      { s with mgmt := { s.mgmt with bootSec0 := sectorPut s.mgmt.bootSec0 r, bootWaits := none } }
    else { s with mgmt := { s.mgmt with bootSec1 := sectorPut s.mgmt.bootSec1 r, bootWaits := none } }
  s.setF R.MGT_BOOT_STATUS F.MGT_BOOT_STATUS_DEFERRED 0

/-- The state of the slots has changed: a boot record is written, or waits for the NOR (R337, R342). -/
def State.recordBoot (s : State) : State :=
  let r := s.bootRec
  if s.norUsable then s.writeBoot r
  else
    let s := { s with mgmt := { s.mgmt with bootWaits := some r } }
    s.setF R.MGT_BOOT_STATUS F.MGT_BOOT_STATUS_DEFERRED 1

/-! ### Images (R339, R340) -/

/-- A slot's NOR bytes. -/
def State.slotTab (s : State) (k : Nat) : Tab Byte := if k = 0 then s.mgmt.slotA else s.mgmt.slotB
def State.setSlotTab (s : State) (k : Nat) (t : Tab Byte) : State :=
  if k = 0 then { s with mgmt := { s.mgmt with slotA := t } } else { s with mgmt := { s.mgmt with slotB := t } }
def State.slotFlag (s : State) (k : Nat) : Bool := if k = 0 then s.mgmt.flagA else s.mgmt.flagB
def State.setSlotFlag (s : State) (k : Nat) (b : Bool) : State :=
  if k = 0 then { s with mgmt := { s.mgmt with flagA := b } } else { s with mgmt := { s.mgmt with flagB := b } }

/-- An erased NOR byte. -/
def erased (_ : Nat) : Byte := 0xFF

/-- n bytes of slot k from an offset. -/
def State.slotBytes (s : State) (k off n : Nat) : List Byte := Tab.getList erased (s.slotTab k) off n
def State.slotLe (s : State) (k off n : Nat) : Nat := ofLe (s.slotBytes k off n)

/-- Entry i of the component table: TYPE, OFFSET, LENGTH, CRC-32. -/
def State.component (s : State) (k i : Nat) : Nat × Nat × Nat × Nat :=
  let o := 272 + 16 * i
  (s.slotLe k o 1, s.slotLe k (o + 4) 4, s.slotLe k (o + 8) 4, s.slotLe k (o + 12) 4)

def State.components (s : State) (k : Nat) : List (Nat × Nat × Nat × Nat) :=
  (List.range (min 16 (s.slotLe k 20 4))).map (s.component k)

/-- The header fields lie within R339. -/
def State.headerOk (s : State) (k : Nat) : Bool :=
  let len := s.slotLe k 16 4
  let cs := s.components k
  s.slotLe k 0 4 == 0x48454C58 && s.slotLe k 4 2 == 2 && s.slotLe k 6 2 == 0x5120 && decide (s.slotLe k 12 1 ≤ 64) &&
  decide (s.slotLe k 13 1 ≤ 3) && len % 256 == 0 && decide (4096 ≤ len ∧ len ≤ 16777216) &&
  decide (1 ≤ s.slotLe k 20 4 ∧ s.slotLe k 20 4 ≤ 16) && s.slotLe k 169 7 == 0 && s.slotLe k 528 3568 == 0 &&
  (cs.all fun c => decide (1 ≤ c.1 ∧ c.1 ≤ 9 ∧ c.2.1 + c.2.2.1 ≤ len) && (4 < c.1 || decide (c.2.2.1 ≤ 524288))) &&
  [1, 2, 3, 4].all fun t => cs.any fun c => c.1 == t

/-- DIGEST and every component CRC match. -/
def State.digestOk (s : State) (k : Nat) : Bool :=
  Crypto.sha384 (s.slotBytes k 4096 (s.slotLe k 16 4 - 4096)) == ofBe (s.slotBytes k 24 48) &&
  (s.components k).all fun c => crc32 (s.slotBytes k c.2.1 c.2.2.1) == c.2.2.2

/-- The SHA-384 of PUBLIC_KEY is the key hash fused at KEY_INDEX, and the signature over bytes 0 to 175 is valid. -/
def State.signatureOk (s : State) (k : Nat) : Bool :=
  let key := s.slotBytes k 72 97
  Crypto.sha384 key == nth 0 s.mgmt.keyHashes (s.slotLe k 13 1) && s.slotLe k 72 1 == 4 &&
  Crypto.verify (ofBe (s.slotBytes k 73 48)) (ofBe (s.slotBytes k 121 48)) (ofBe (s.slotBytes k 176 48))
    (ofBe (s.slotBytes k 224 48)) (Crypto.sha384 (s.slotBytes k 0 176))

/-- Why an image does not verify (R340), in the order of R347; none where it does. -/
def State.imageFault (s : State) (k : Nat) : Option Nat :=
  if !s.headerOk k then some 0x0905
  else if !s.digestOk k then some 0x0906
  else if !s.signatureOk k then some 0x0907
  else if bitOf (s.fld R.MGT_OTP F.MGT_OTP_REVOKED) (s.slotLe k 13 1) then some 0x0908
  else if s.slotLe k 12 1 < s.fld R.MGT_OTP F.MGT_OTP_FLOOR then some 0x0909
  else none

/-! ### The bus (R333, R334) -/

/-- MGT_REMAP_WRITE (R333): Rootstock writes SWAP; once 1 it stays so until the next start. -/
def State.setSwap (s : State) (v : Bool) : State :=
  if s.mgmt.swapFixed then s
  else
    let s := { s with mgmt := { s.mgmt with swapFixed := v } }
    s.setF R.MGT_REMAP F.MGT_REMAP_SWAP (bnat v)

def execMgtRemapWrite (v : Bool) (s : State) : Out := .next (s.setSwap v)

/-- BUS_DEFAULT_ACCESS (R334): a request of a master reaches the default target: rights, an address outside its rights; otherwise no
target decodes it. -/
def execBusDefaultAccess (master : Fin 6) (rights write : Bool) (addr : Word) (s : State) : Out :=
  let o := R.MGT_BUS_ERR
  let s := if s.flag o F.MGT_BUS_ERR_VALID then s
    else
      let s := (s.setF o F.MGT_BUS_ERR_VALID 1).setF o F.MGT_BUS_ERR_MASTER master
      let s := (s.setF o F.MGT_BUS_ERR_KIND (bnat rights)).setF o F.MGT_BUS_ERR_WRITE (bnat write)
      s.wr R.MGT_BUS_ERR_ADDR addr
  .next ((s.count o F.MGT_BUS_ERR_COUNT 1).raise 477 0)

end Sys2Proof.Machine
end

