-- ==== Sys2Proof/Machine/Sched.lean ====
section
/-! DEFINITION. Cooper: the queue tree, admission, shapers, time gates, selection, mirror copies and the transparent clock at egress
(11_scheduling.md R236 to R260; 12_network_time.md R275 to R278). -/

namespace Sys2Proof.Machine

/-! ### The SCH tables (R260, R318) -/

/-- Words of a record, records, and first word of table t; the tables lie one after another. -/
def schWidth (t : Nat) : Nat := nth 0 [5, 5, 10, 5, 1, 8, 1] t
def schRecs (t : Nat) : Nat := nth 0 [16384, 1024, 96, 262144, 98304, 8, 4096] t
def schBase (t : Nat) : Nat := nth 0 [0, 81920, 87040, 88000, 1398720, 1497024, 1497088] t

/-- Reset values of the tables (R238, R260). -/
def schReset (k : Nat) : Word :=
  let v : Nat :=
    if k < 81920 then (if k % 5 = 0 then k / 5 / 128 * 65536 + 16 else 0)
    else if k < 87040 then (if (k - 81920) % 5 = 0 then (k - 81920) / 5 % 96 * 65536 + 16 else 0)
    else if k < 88000 then
      let p := (k - 87040) / 10
      match (k - 87040) % 10 with | 0 => 20 | 4 => 128 * p | 5 => 32768 | _ => 0
    else if k < 1497024 then 0
    else if k < 1497088 then (if 6 ≤ (k - 1497024) % 8 then 2 ^ 31 else 0) + 4096 * 256 + 16
    else 0
  BitVec.ofNat 32 v

/-- Word w of record r of table t of a set. -/
def schWord (tab : Tab Word) (t r w : Nat) : Nat := (Tab.get schReset tab (schBase t + schWidth t * r + w)).toNat

/-- The same in the active set. -/
def State.sch (s : State) (t r w : Nat) : Nat := schWord s.pk.sch t r w

/-! ### The tree (R236, R237) -/

/-- Node numbers: ports from 0, services from 96, subscribers from 1120, queues from 17504. -/
abbrev svcNode (n : Nat) : Nat := 96 + n
abbrev subNode (n : Nat) : Nat := 1120 + n
abbrev queueNode (q : Nat) : Nat := 17504 + q

def subParent (tab : Tab Word) (sub : Nat) : Nat := bits (schWord tab 0 sub 0) 16 10
def svcParent (tab : Tab Word) (n : Nat) : Nat := bits (schWord tab 1 n 0) 16 7

/-- The port that the chain of a subscriber leads to. -/
def chainPort (tab : Tab Word) (sub : Nat) : Nat := svcParent tab (subParent tab sub)

def subBase (tab : Tab Word) (p : Nat) : Nat := bits (schWord tab 2 p 4) 0 14
def subCount (tab : Tab Word) (p : Nat) : Nat := bits (schWord tab 2 p 4) 16 14 + 1

/-- The queue of a frame of a VID and class at port p (R237). -/
def State.queueFor (s : State) (p vid cls : Nat) : Nat :=
  8 * (subBase s.pk.sch p + bits (s.sch 6 vid 0) 0 14 % subCount s.pk.sch p) + cls

def State.queue (s : State) (q : Nat) : List Copy := Tab.get (fun _ => []) s.pk.queues q
def State.setQueue (s : State) (q : Nat) (l : List Copy) : State :=
  { s with pk := { s.pk with queues := Tab.set (fun _ => []) s.pk.queues q l } }

/-- Non-empty queues whose chain leads to port p. -/
def State.portQueues (s : State) (p : Nat) : List Nat :=
  (s.pk.queues.filter fun e => chainPort s.pk.sch (e.1 / 8) == p).map (·.1)

/-- Rate of a packet port in Gb/s (R9, R282); 0 when off. -/
def State.rate (s : State) (p : Nat) : Nat := nth 0 [0, 10, 25, 100, 100] (s.mode_ p)

/-- Bytes of a frame from the destination address to the FCS (R242, R250). -/
def frameLen (data : List Byte) : Nat := data.length + 4

/-- Cells a frame takes (R247). -/
def cellsOf (data : List Byte) : Nat := cdiv (frameLen data + 32) 256

/-- Wire length at port p (R242), and wire time in ns (R244). -/
def State.wireLen (s : State) (p : Nat) (c : Copy) : Nat := frameLen c.data + bits (s.sch 2 p 0) 0 8
def State.wireNs (s : State) (p wl : Nat) : Nat := if s.rate p = 0 then 0 else cdiv (wl * 8) (s.rate p)

/-! ### Buckets (R242) -/

/-- Level of a bucket now: it fills at rate kb/s up to size bytes; 1 kb/s is 125 × 10^-9 byte per ns. -/
def Bucket.level (b : Bucket) (rate size now : Nat) : Int :=
  let v := b.lvl + ((rate * 125 * (now - b.at_) : Nat) : Int)
  let top : Int := ((size * 1000000000 : Nat) : Int)
  if top < v then top else v

/-- Rate and size of bucket k (0 committed, 1 peak) of a node. -/
def nodeShape (tab : Tab Word) (node k : Nat) : Nat × Nat :=
  let rd (t r b : Nat) : Nat × Nat := (bits (schWord tab t r (b + k)) 0 28, bits (schWord tab t r (b + 2 + k)) 0 24)
  if node < 96 then rd 2 node 6 else if node < 1120 then rd 1 (node - 96) 1 else rd 0 (node - 1120) 1

def State.nodeLevel (s : State) (node k : Nat) : Int :=
  let (r, z) := nodeShape s.pk.sch node k
  (Tab.get (fun _ => Bucket.zero) s.pk.node (2 * node + k)).level r z s.now

def State.setNodeLevel (s : State) (node k : Nat) (l : Int) : State :=
  { s with pk := { s.pk with node := Tab.set (fun _ => Bucket.zero) s.pk.node (2 * node + k) ⟨l, s.now⟩ } }

/-- R239: no peak rate, or the peak level at or above 0. -/
def State.peakOk (s : State) (node : Nat) : Bool := (nodeShape s.pk.sch node 1).1 == 0 || decide (0 ≤ s.nodeLevel node 1)

/-- R239: a node in commit. -/
def State.inCommit (s : State) (node : Nat) : Bool := (nodeShape s.pk.sch node 0).1 != 0 && decide (0 ≤ s.nodeLevel node 0)

/-- A frame starts on the wire: both buckets of a node are debited. -/
def State.debitNode (s : State) (node len : Nat) : State :=
  let d : Int := ((len * 1000000000 : Nat) : Int)
  (s.setNodeLevel node 0 (s.nodeLevel node 0 - d)).setNodeLevel node 1 (s.nodeLevel node 1 - d)

/-! ### Time gates (R243 to R246) -/

def State.gateOn (s : State) (p : Nat) : Bool := bitOf (s.sch 2 p 0) 31

/-- Entries of the gate list in force: GATES and duration in ns. -/
def gateList (tab : Tab Word) (p : Nat) : List (Nat × Nat) :=
  (List.range (bits (schWord tab 2 p 0) 19 10 + 1)).map fun i =>
    let w := schWord tab 4 (1024 * p + i) 0
    (w / 2 ^ 24, 8 * (w % 2 ^ 24))

def gateCycle (l : List (Nat × Nat)) : Nat := l.foldl (fun a e => a + e.2) 0

/-- The list turned so that the entry in force at pos is first, with what is left of it. -/
def gateTurn : List (Nat × Nat) → List (Nat × Nat) → Nat → List (Nat × Nat)
  | done, [], _ => done
  | done, e :: l, pos => if pos < e.2 then (e.1, e.2 - pos) :: l ++ done ++ [(e.1, pos)] else gateTurn (done ++ [e]) l (pos - e.2)

/-- The list of port p from now on (R243): the position is that of GATE_TB truncated to 8 ns. -/
def State.gatesFrom (s : State) (p : Nat) : List (Nat × Nat) :=
  let l := gateList s.pk.sch p
  let v : Int := ((s.tbNow (bits (s.sch 2 p 0) 29 2) / nsUnit / 8 * 8 : Nat) : Int)
  let base : Int := (((s.sch 2 p 2 + 2 ^ 32 * s.sch 2 p 3) * 1000000000 + bits (s.sch 2 p 1) 0 30 : Nat) : Int)
  let cyc : Int := ((gateCycle l : Nat) : Int)
  gateTurn [] l (if cyc = 0 then 0 else ((v - base) % cyc).toNat)

/-- Time the gate of class k stays open from the start of a list; none when it never closes. -/
def openFor (k : Nat) (l : List (Nat × Nat)) : Option Nat :=
  if l.all fun e => bitOf e.1 k then none else some (gateCycle (l.takeWhile fun e => bitOf e.1 k))

/-- R244: a head frame of class k and wire length wl may start now. -/
def State.mayStart (s : State) (p k wl : Nat) : Bool :=
  if s.gateOn p then
    match openFor k (s.gatesFrom p) with
    | none => true
    | some t => decide (0 < t) && decide (s.wireNs p wl ≤ t)
  else true

/-- LONGEST_k in ns (R245); none when the gate never closes. -/
def longestOpen (k : Nat) (l : List (Nat × Nat)) : Option Nat :=
  if l.all fun e => bitOf e.1 k then none
  else some ((List.range l.length).foldl (fun a i => max a ((openFor k (l.drop i ++ l.take i)).getD 0)) 0)

/-- Gate state of port p in SCH_PORT_STATUS. -/
def State.showGates (s : State) (p : Nat) : State :=
  let on := s.gateOn p
  let g := if on then (s.gatesFrom p).head?.elim 0xFF (·.1) else 0xFF
  (s.setF (R.SCH_PORT_STATUS p) F.SCH_PORT_STATUS_GATE_ACTIVE (bnat on)).setF (R.SCH_PORT_STATUS p) F.SCH_PORT_STATUS_GATES g

/-! ### The buffer (R247, R248) -/

def State.freeCells (s : State) : Nat := s.fld R.SCH_BUF_STATUS F.SCH_BUF_STATUS_FREE_CELLS
def State.setFree (s : State) (n : Nat) : State :=
  let s := s.setF R.SCH_BUF_STATUS F.SCH_BUF_STATUS_FREE_CELLS n
  if n < s.fld R.SCH_BUF_LOW F.SCH_BUF_LOW_LOW then s.setF R.SCH_BUF_LOW F.SCH_BUF_LOW_LOW n else s

def State.portOcc (s : State) (p : Nat) : Nat := s.fld (R.SCH_PORT_STATUS p) F.SCH_PORT_STATUS_OCC_CELLS
def State.setPortOcc (s : State) (p n : Nat) : State := s.setF (R.SCH_PORT_STATUS p) F.SCH_PORT_STATUS_OCC_CELLS n

def State.queueCells (s : State) (q : Nat) : Nat := (s.queue q).foldl (fun a c => a + cellsOf c.data) 0

/-- Word of the profile that applies to queue q. -/
def State.profile (s : State) (q : Nat) : Nat := s.sch 5 (bits (s.sch 0 (q / 8) 0) 8 3) (q % 8)

/-- R247. -/
def State.fits (s : State) (p q : Nat) (c : Copy) : Bool :=
  let n := cellsOf c.data
  decide (s.queueCells q + n ≤ bits (s.profile q) 8 18) && decide (s.portOcc p + n ≤ bits (s.sch 2 p 5) 0 18) &&
    decide (n ≤ s.freeCells)

/-- A copy is charged: its port, and the buffer on the first copy of its frame (R248). -/
def State.charge (s : State) (p : Nat) (c : Copy) : State :=
  let n := cellsOf c.data
  let s := s.setPortOcc p (s.portOcc p + n)
  if s.pk.stored.any (fun e => e.1 == c.fid) then
    { s with pk := { s.pk with stored := s.pk.stored.map fun e => if e.1 = c.fid then (e.1, e.2.1, e.2.2 + 1) else e } }
  else { s.setFree (s.freeCells - n) with pk := { s.pk with stored := s.pk.stored ++ [(c.fid, n, 1)] } }

/-- A copy leaves or is dropped: its port, and the buffer with the last copy. -/
def State.discharge (s : State) (p : Nat) (c : Copy) : State :=
  let s := s.setPortOcc p (s.portOcc p - cellsOf c.data)
  match s.pk.stored.find? fun e => e.1 == c.fid with
  | some (f, n, k) =>
    if k ≤ 1 then { s.setFree (s.freeCells + n) with pk := { s.pk with stored := s.pk.stored.filter fun e => e.1 != f } }
    else { s with pk := { s.pk with stored := s.pk.stored.map fun e => if e.1 = f then (f, n, k - 1) else e } }
  | none => s

/-- A copy is dropped out of a queue or before it: its drop pair (R255), and that of its mirror session (R254). -/
def State.countDrop (s : State) (q : Nat) (c : Copy) : State :=
  let s := s.countPair (131072 + q) 1 (frameLen c.data)
  match c.mirror with
  | some m => s.countPair (262152 + m) 1 (frameLen c.data)
  | none => s

/-! ### Choosing the next frame (R239 to R241) -/

def State.child (s : State) (node : Nat) : Child := Tab.get (fun _ => Child.zero) s.pk.child node
def State.setChild (s : State) (node : Nat) (c : Child) : State :=
  { s with pk := { s.pk with child := Tab.set (fun _ => Child.zero) s.pk.child node c } }
def State.vtime (s : State) (node : Nat) : Nat := Tab.get (fun _ => 0) s.pk.vt node
def State.setVtime (s : State) (node v : Nat) : State :=
  { s with pk := { s.pk with vt := Tab.set (fun _ => 0) s.pk.vt node v } }

/-- a comes before b by signed 48-bit difference. -/
def before48 (a b : Nat) : Bool := decide (signedOf 48 (a + 2 ^ 48 - b) < 0)

/-- The child with the smallest finish time; ties go to the first of an ascending list. -/
def State.least (s : State) (l : List Nat) : Option Nat :=
  l.foldl (fun b x => match b with
    | none => some x
    | some y => if before48 (s.child x).fin (s.child y).fin then some x else b) none

/-- Step 1 of R240 among eligible nodes: those in commit first. -/
def State.best (s : State) (l : List Nat) : Option Nat :=
  let c := l.filter fun n => s.inCommit n
  s.least (if c.isEmpty then l else c)

/-- Queues of port p whose head may start (R239). -/
def State.openQueues (s : State) (p : Nat) : List Nat :=
  (s.portQueues p).filter fun q => match s.queue q with
    | c :: _ => s.mayStart p (q % 8) (s.wireLen p c)
    | [] => false

/-- Step 2 of R240 at a subscriber, among eligible queues. -/
def State.pickQueue (s : State) (qs : List Nat) (sub : Nat) : Option Nat :=
  let mine := qs.filter fun q => q / 8 == sub
  match (mine.filter fun q => bitOf (s.profile q) 31).getLast? with
  | some q => some q
  | none => (s.least (mine.map queueNode)).map fun n => n - 17504

/-- Eligible subscribers and services above eligible queues, ascending. -/
def State.openSubs (s : State) (qs : List Nat) : List Nat :=
  ((qs.map fun q => q / 8).eraseDups).filter fun x => s.peakOk (subNode x)
def State.openSvcs (s : State) (subs : List Nat) : List Nat :=
  (List.range 1024).filter fun n => subs.any (fun x => subParent s.pk.sch x == n) && s.peakOk (svcNode n)

/-- The frame a service, or a subscriber, would send. -/
def State.svcPick (s : State) (qs subs : List Nat) (n : Nat) : Option Nat :=
  ((s.best ((subs.filter fun x => subParent s.pk.sch x == n).map subNode)).bind fun x => s.pickQueue qs (x - 1120))

/-- A child enters contention at its parent with a frame of wire length len (R241). -/
def State.enter (s : State) (node parent weight len : Nat) : State :=
  let c := s.child node
  if c.inC then s
  else
    let v := s.vtime parent
    let st := if before48 v c.fin then c.fin else v
    s.setChild node ⟨st, (st + cdiv (len * 65536) (max 1 weight)) % 2 ^ 48, true⟩

/-- Wire length of the head of a queue. -/
def State.headLen (s : State) (p q : Nat) : Nat := (s.queue q).head?.elim 0 (s.wireLen p)

/-- R245: head frames longer than the longest open run of their class are dropped. -/
def State.dropOversizeQ (s : State) (p q : Nat) : Nat → State
  | 0 => s
  | n + 1 => match s.queue q with
    | c :: rest => match longestOpen (q % 8) (gateList s.pk.sch p) with
      | some t =>
        if t < s.wireNs p (s.wireLen p c) then
          let s := ((s.setQueue q rest).discharge p c).countDrop q c
          State.dropOversizeQ (s.count (R.SCH_PORT_DROPS p) F.SCH_PORT_DROPS_OVERSIZE_FOR_GATE 1) p q n
        else s
      | none => s
    | [] => s

def State.dropOversize (s : State) (p : Nat) : State :=
  if s.gateOn p && s.rate p != 0 then
    (s.portQueues p).foldl (fun s q => s.dropOversizeQ p q (s.queue q).length) s
  else s

/-- Port that a node of the tree leads to. -/
def State.nodePort (s : State) (node : Nat) : Nat :=
  if node < 96 then node else if node < 1120 then svcParent s.pk.sch (node - 96)
  else if node < 17504 then chainPort s.pk.sch (node - 1120) else chainPort s.pk.sch ((node - 17504) / 8)

/-- Children of port p's tree enter contention as they become eligible, and leave it as they cease to be (R241). -/
def State.contend (s : State) (p : Nat) : State :=
  let s := s.dropOversize p
  let qs := s.openQueues p
  let subs := s.openSubs qs
  let svcs := s.openSvcs subs
  let live := svcs.map svcNode ++ subs.map subNode ++ qs.map queueNode
  let gone := (s.pk.child.filter fun e => e.2.inC && s.nodePort e.1 == p && !live.contains e.1).map (·.1)
  let s := gone.foldl (fun s n => s.setChild n { s.child n with inC := false }) s
  let s := qs.foldl (fun s q => s.enter (queueNode q) (subNode (q / 8)) (bits (s.profile q) 0 8) (s.headLen p q)) s
  let s := subs.foldl (fun s x =>
    s.enter (subNode x) (svcNode (subParent s.pk.sch x)) (bits (s.sch 0 x 0) 0 8)
      ((s.pickQueue qs x).elim 0 (s.headLen p))) s
  svcs.foldl (fun s n =>
    s.enter (svcNode n) p (bits (s.sch 1 n 0) 0 8) ((s.svcPick qs subs n).elim 0 (s.headLen p))) s

/-- The queue that port p sends from next (R240). -/
def State.choose (s : State) (p : Nat) : Option Nat :=
  let qs := s.openQueues p
  let subs := s.openSubs qs
  if s.peakOk p then (s.best ((s.openSvcs subs).map svcNode)).bind fun n => s.svcPick qs subs (n - 96) else none

/-! ### Enqueue and mirror copies (R247, R253, R254) -/

/-- A copy is admitted to queue q of port p, or refused and counted. -/
def State.enqueue (s : State) (p q : Nat) (c : Copy) : State × Bool :=
  if s.fits p q c then (((s.charge p c).setQueue q (s.queue q ++ [c])).contend p, true)
  else (((s.countDrop q c).count (R.SCH_PORT_DROPS p) F.SCH_PORT_DROPS_ADMIT 1), false)

/-- A number of its own for a stored frame. -/
def State.freshId (s : State) : Nat × State := (s.pk.nextId, { s with pk := { s.pk with nextId := s.pk.nextId + 1 } })

/-- A packet port that forwards: ENABLE in its own record, and not a lane of a four-lane port (R191, R206). -/
def State.portEnabled (s : State) (p : Nat) : Bool :=
  decide (p < 96) && s.flag (R.PIPE_PORT_ACTIVE p) F.PIPE_PORT_ACTIVE_ENABLE &&
    !(decide (p < 64) && p % 4 != 0 && s.mode_ (p - p % 4) == 3)

/-- Session m takes a frame at point pt from a port, or by the mask of its action (R253). -/
def State.mirrors (s : State) (m pt port mask : Nat) : Bool :=
  let o := R.SCH_MIRROR_CFG m
  let point := s.fld o F.SCH_MIRROR_CFG_POINT
  s.flag o F.SCH_MIRROR_CFG_ENABLE && (if point = 3 then 0 else point) == pt &&
    (bitOf mask m || (s.rd (R.SCH_MIRROR_SRC m (port / 32))).getLsbD (port % 32))

/-- Session m copies a frame; from: the egress port it leaves by, at point 2. -/
def State.mirrorCopy (s : State) (m : Nat) (from_ : Option Nat) (inPort : Nat) (data : List Byte) : State :=
  let o := R.SCH_MIRROR_CFG m
  let d := s.fld o F.SCH_MIRROR_CFG_DEST_PORT
  let (fid, s) := s.freshId
  let c : Copy := { fid := fid, inPort := inPort, data := data, tbIn := [], ptp := none, mask := 0, mirror := some m }
  if !s.portEnabled d || from_ == some d then s.countPair (262152 + m) 1 (frameLen data)
  else
    let q := 8 * (subBase s.pk.sch d + s.fld o F.SCH_MIRROR_CFG_SUB_OFFSET % subCount s.pk.sch d) + s.fld o F.SCH_MIRROR_CFG_CLASS
    (s.enqueue d q c).1

/-- Every session that takes a frame at a point copies it, once. -/
def State.mirrorAt (s : State) (pt port mask : Nat) (from_ : Option Nat) (inPort : Nat) (data : List Byte) : State :=
  forUp (fun m s => if s.mirrors m pt port mask then s.mirrorCopy m from_ inPort data else s) 8 0 s

/-! ### Timestamps and the transparent clock at egress (R275 to R278) -/

/-- Byte i of a frame; 0 past its end. -/
def fByte (l : List Byte) (i : Nat) : Nat := (nth 0 l i).toNat
def fBe (l : List Byte) (i n : Nat) : Nat := ofBe ((l.drop i).take n)

/-- Replace bytes from i upwards. -/
def fSet (l : List Byte) (i : Nat) (v : List Byte) : List Byte :=
  if i + v.length ≤ l.length then l.take i ++ v ++ l.drop (i + v.length) else l

/-- Ethernet or UDP encapsulation of a PTP message at offset o (R276). -/
def ptpEth (l : List Byte) (o : Nat) : Bool := decide (2 ≤ o) && fBe l (o - 2) 2 == 0x88F7
def ptpUdp (l : List Byte) (o : Nat) : Bool := decide (6 ≤ o) && fBe l (o - 6) 2 == 319

/-- RFC 1624: the checksum hc after the 16-bit words of old become those of new. -/
def csumUpdate (hc : Nat) : List Byte → List Byte → Nat
  | a :: b :: o, c :: d :: n =>
    let fold (x : Nat) : Nat := x % 65536 + x / 65536
    let x := (65535 - hc) + (65535 - (a.toNat * 256 + b.toNat)) + (c.toNat * 256 + d.toNat)
    csumUpdate (65535 - fold (fold x)) o n
  | _, _ => hc

/-- Time base n at an instant less its steps, in 2^-48 ns (R277). -/
def State.tbFlat (s : State) (n at_ : Nat) : Int := ((s.tbAt n at_ : Nat) : Int) - (s.tb n).steps

/-- The timestamp record of a PTP frame at a port (R275). -/
def State.ptpRecord (s : State) (dir p o at_ : Nat) (data : List Byte) : State :=
  let tb := s.fld (R.TIM_PORT p) F.TIM_PORT_TS_TB
  let encap := if ptpUdp data o then 1 else if ptpEth data o then 0 else s.freeVal 1
  let s := if ptpUdp data o || ptpEth data o then s else s.drawn
  s.tsqPut (pipeOf p) (tsqRecord dir tb (fByte data o % 16) p encap (fBe data (o + 30) 2) (fByte data (o + 4)) (s.tbAt tb at_))

/-- The correction of R277 in 2^-16 ns, where the frame is corrected. -/
def State.tcSum (s : State) (p : Nat) (c : Copy) (o at_ : Nat) : Option Int :=
  let mode := s.fld R.TIM_CTRL F.TIM_CTRL_TC_MODE
  let typ := fByte c.data o % 16
  if mode = 0 ∨ mode = 3 ∨ !s.flag (R.TIM_PORT p) F.TIM_PORT_TC_EN ∨ fByte c.data (o + 1) % 16 ≠ 2 ∨ 3 < typ ∨
      !(ptpEth c.data o || ptpUdp c.data o) ∨ (mode = 2 ∧ 2 ≤ typ) then none
  else
    let tb := s.fld R.TIM_CTRL F.TIM_CTRL_TC_TB
    let res := asr (s.tbFlat tb at_ - nth 0 c.tbIn tb) 32
    some (if mode = 2 ∧ typ = 0 then res + ((s.rd (R.TIM_PATH_DELAY c.inPort)).toNat : Int) else res)

/-- The egress pipeline corrects a PTP frame (R276, R278). -/
def State.tcCorrect (s : State) (p : Nat) (c : Copy) (o at_ : Nat) : State × List Byte :=
  match s.tcSum p c o at_ with
  | none => (s.count (R.TIM_TC_STATS (pipeOf p)) F.TIM_TC_STATS_SKIPPED 1, c.data)
  | some z =>
    let old := (c.data.drop (o + 8)).take 8
    let new := beBytes 8 (unsignedOf 64 (((fBe c.data (o + 8) 8 : Nat) : Int) + z))
    let l := fSet c.data (o + 8) new
    let hc := fBe c.data (o - 2) 2
    let l := if ptpUdp c.data o && !ptpEth c.data o && hc != 0 then fSet l (o - 2) (beBytes 2 (csumUpdate hc old new)) else l
    (s.count (R.TIM_TC_STATS (pipeOf p)) F.TIM_TC_STATS_CORRECTED 1, l)

/-! ### Transmission -/

/-- The first bit of a copy leaves port p at instant at_, out of queue q (R240 to R242, R255). -/
def State.transmit (s : State) (p q : Nat) (c : Copy) (at_ : Nat) : State :=
  let sub := q / 8
  let svc := subParent s.pk.sch sub
  let wl := s.wireLen p c
  let s := s.setVtime (subNode sub) (s.child (queueNode q)).fin
  let s := s.setVtime (svcNode svc) (s.child (subNode sub)).fin
  let s := s.setVtime p (s.child (svcNode svc)).fin
  let again (n : Nat) (s : State) : State := s.setChild n { s.child n with inC := false }
  let s := again (queueNode q) (again (subNode sub) (again (svcNode svc) s))
  let s := ((s.debitNode (subNode sub) wl).debitNode (svcNode svc) wl).debitNode p wl
  let (s, data) := match c.ptp with
    | some o =>
      let (s, data) := s.tcCorrect p c o at_
      (if s.flag (R.TIM_PORT p) F.TIM_PORT_REC_EG then s.ptpRecord 1 p o at_ data else s, data)
    | none => (s, c.data)
  let out : Sent := ⟨c.fid, p, data, crc32 data, at_⟩
  let busy := Tab.set (fun _ => 0) s.pk.txEnd p (at_ + s.wireNs p wl)
  let s := { s with pk := { s.pk with sent := s.pk.sent ++ [out], txEnd := busy } }
  let s := (s.countPair q 1 (frameLen data)).discharge p c
  let s := match c.mirror with
    | some m => s.countPair (262144 + m) 1 (frameLen data)
    | none => s.mirrorAt 2 p c.mask (some p) c.inPort data
  s.contend p

def State.txEnd (s : State) (p : Nat) : Nat := Tab.get (fun _ => 0) s.pk.txEnd p

/-- A transmit direction sleeps in low-power idle (R291). -/
def State.txSleeps (s : State) (p : Nat) : Bool := decide (p < 64) && s.flag (R.LANE_STATE p) F.LANE_STATE_TX_LPI

/-- Cooper may select for port p: frames are forwarded, the port is up and awake, and it receives no remote fault (R15, R286, R388,
R434). -/
def State.sends (s : State) (p : Nat) : Bool :=
  (s.mode == .serve || s.mode == .limp) && s.portUp p && !s.flag (R.LANE_PORT_STATUS p) F.LANE_PORT_STATUS_REMOTE_FAULT && !s.txSleeps p

/-- EGRESS_SELECT (R240): the MAC of port p can take a frame. -/
def execEgressSelect (p : Fin 96) (ns : Fin 1000) (s : State) : Out :=
  let s := s.at_ ns
  .next (if s.sends p && decide (s.txEnd p ≤ s.now) then
    let s := s.contend p
    match s.choose p with
    | some q => match s.queue q with
      | c :: rest => (s.setQueue q rest).transmit p q c s.now
      | [] => s
    | none => s
  else s)

/-- GATE_ENTRY_START (R243): an entry of the list of port p begins. -/
def execGateEntryStart (p : Fin 96) (ns : Fin 1000) (s : State) : Out :=
  .next (((s.at_ ns).showGates p).contend p)

/-- LPI_TX_ENTER (R291): nothing to send for LPI_IDLE µs. -/
def execLpiTxEnter (p : Fin 64) (s : State) : Out :=
  let idle := (max 1 (s.fld (R.LANE_PORT_ACTIVE p) F.LANE_PORT_ACTIVE_LPI_IDLE)) * 1000
  .next (if s.lpiOn p && !s.gateOn p && (s.portQueues p).isEmpty && decide (s.txEnd p + idle ≤ s.now) then
    s.showLpi p F.LANE_STATE_TX_LPI true
  else s)

/-- LPI_TX_WAKE (R291): Cooper has a frame for the port. -/
def execLpiTxWake (p : Fin 64) (s : State) : Out :=
  .next (if s.txSleeps p && !(s.portQueues p).isEmpty then s.showLpi p F.LANE_STATE_TX_LPI false else s)

/-! ### The indirect window (R260) -/

/-- Words of the record a selection names; none when TABLE or INDEX is out of range. -/
def State.schRecord (s : State) (shadow : Bool) (t r : Nat) : Option (List Word) :=
  if t = 7 then
    (if r < 131072 then some [BitVec.ofNat 32 (s.queueCells r), BitVec.ofNat 32 (s.queue r).length] else none)
  else if t < 7 ∧ r < schRecs t then
    some (Tab.getList schReset (if shadow then s.pk.schShadow else s.pk.sch) (schBase t + schWidth t * r) (schWidth t))
  else none

/-- SCH_IND_SEL_WRITE (R260): a write of SCH_IND_SEL loads the selected record. -/
def execSchIndSelWrite (v : Word) (s : State) : Out :=
  let o := R.SCH_IND_SEL
  let s := (s.setF o F.SCH_IND_SEL_SHADOW (F.SCH_IND_SEL_SHADOW.get v)).setF o F.SCH_IND_SEL_TABLE (F.SCH_IND_SEL_TABLE.get v)
  let s := s.setF o F.SCH_IND_SEL_INDEX (F.SCH_IND_SEL_INDEX.get v)
  let rec_ := s.schRecord (s.flag o F.SCH_IND_SEL_SHADOW) (s.fld o F.SCH_IND_SEL_TABLE) (s.fld o F.SCH_IND_SEL_INDEX)
  let s := s.setF o F.SCH_IND_SEL_BAD (bnat rec_.isNone)
  .next (forUp (fun w s => s.wr (R.SCH_IND_DATA w) (nth 0 (rec_.getD []) w)) 16 0 s)

/-! ### Racks and the queue tree (R238, R249, R252) -/

/-- Port p of a set is a lane of a four-lane port, whose records are ignored (R236). -/
def laneOfFour (rec_ : Nat → Word) (p : Nat) : Bool :=
  decide (p < 64) && p % 4 != 0 && F.LANE_PORT_ACTIVE_MODE.get (rec_ (p - p % 4)) == 3

/-- Prepare check of Cooper (R238): cause and index. rec_ reads the lane records of the set. -/
def schCheck (tab : Tab Word) (rec_ : Nat → Word) : Option (Nat × Nat) :=
  let ports := (List.range 96).filter fun p => !laneOfFour rec_ p
  let lo (p : Nat) : Nat := subBase tab p
  let hi (p : Nat) : Nat := subBase tab p + subCount tab p - 1
  let bad1 (p : Nat) : Bool :=
    decide (16383 < hi p) || ports.any fun r => r != p && decide (lo r ≤ hi p) && decide (lo p ≤ hi r)
  match ports.find? bad1 with
  | some p => some (1, p)
  | none =>
    let subs := ports.flatMap fun p =>
      (upFrom (lo p) (subCount tab p)).filter fun x => chainPort tab x != p
    match subs.foldl (fun b x => match b with | none => some x | some y => some (min x y)) none with
    | some x => some (2, x)
    | none =>
      let bad3 (p : Nat) : Bool := bitOf (schWord tab 2 p 0) 31 &&
        ((gateList tab p).any (fun e => e.2 == 0) || decide (1000000000 < gateCycle (gateList tab p)))
      (ports.find? bad3).map fun p => (3, p)

/-- A subscriber lies in the range of some port. -/
def State.inRange (s : State) (sub : Nat) : Bool :=
  (List.range 96).any fun p => !laneOfFour (fun p => s.rd (R.LANE_PORT_ACTIVE p)) p &&
    decide (subBase s.pk.sch p ≤ sub) && decide (sub < subBase s.pk.sch p + subCount s.pk.sch p)

/-- Every frame of queue q of port p is dropped and counted in its drop pair. -/
def State.emptyQueue (s : State) (p q : Nat) : State :=
  (s.queue q).foldl (fun s c => (s.discharge p c).countDrop q c) (s.setQueue q [])

/-- Nodes and policers whose buckets a rack settles: those listed, and those that either set shapes. -/
def shapedNodes (a b : Tab Word) : List Nat :=
  ((a ++ b).filterMap fun e =>
    if e.1 < 81920 then some (subNode (e.1 / 5)) else if e.1 < 87040 then some (svcNode ((e.1 - 81920) / 5))
    else if e.1 < 88000 then some ((e.1 - 87040) / 10) else none).eraseDups
def shapedPols (a b : Tab Word) : List Nat :=
  ((a ++ b).filterMap fun e => if 88000 ≤ e.1 ∧ e.1 < 1398720 then some ((e.1 - 88000) / 5) else none).eraseDups

/-- Rate and size of bucket k (0 committed, 1 peak) of a policer; a PIR below CIR acts as CIR (R250). -/
def polShape (tab : Tab Word) (i k : Nat) : Nat × Nat :=
  let r (k : Nat) : Nat := bits (schWord tab 3 i k) 0 28
  (if k = 1 ∧ r 1 ≠ 0 then max (r 0) (r 1) else r k, bits (schWord tab 3 i (2 + k)) 0 24)

def State.setNodeBucket (s : State) (i : Nat) (b : Bucket) : State :=
  { s with pk := { s.pk with node := Tab.set (fun _ => Bucket.zero) s.pk.node i b } }
def State.setPolBucket (s : State) (i : Nat) (b : Bucket) : State :=
  { s with pk := { s.pk with pol := Tab.set (fun _ => Bucket.zero) s.pk.pol i b } }

/-- Buckets keep their levels, clamped to the new sizes (R249, R252): old is the set that has been replaced. -/
def State.settleBuckets (s : State) (old : Tab Word) : State :=
  let keep (b : Bucket) (o n : Nat × Nat) : Bucket := ⟨min (b.level o.1 o.2 s.now) ((n.2 * 1000000000 : Nat) : Int), s.now⟩
  let both (f : Nat → State → State) (s : State) : State := f 1 (f 0 s)
  let s := (shapedNodes old s.pk.sch).foldl (fun s x => both (fun k s =>
    let b := Tab.get (fun _ => Bucket.zero) s.pk.node (2 * x + k)
    s.setNodeBucket (2 * x + k) (keep b (nodeShape old x k) (nodeShape s.pk.sch x k))) s) s
  (shapedPols old s.pk.sch).foldl (fun s x => both (fun k s =>
    let b := Tab.get (fun _ => Bucket.zero) s.pk.pol (2 * x + k)
    s.setPolBucket (2 * x + k) (keep b (polShape old x k) (polShape s.pk.sch x k))) s) s

/-- Policer levels become full (R252, R453). -/
def State.fillPolicers (s : State) : State :=
  (shapedPols s.pk.sch []).foldl (fun s x => forUp (fun k s =>
    s.setPolBucket (2 * x + k) ⟨(((polShape s.pk.sch x k).2 * 1000000000 : Nat) : Int), s.now⟩) 2 0 s) s

/-- Cooper applies its new set (R246, R249), the swap done; old is the set that has been replaced. -/
def State.coopApply (s : State) (old : Tab Word) : State :=
  let s := s.settleBuckets old
  let s := (s.pk.queues.map (·.1)).foldl (fun s q =>
    let sub := q / 8
    let p0 := chainPort old sub
    if chainPort s.pk.sch sub ≠ p0 ∨ !s.inRange sub ∨ !s.portEnabled p0 then
      (s.emptyQueue p0 q).count (R.SCH_PORT_DROPS p0) F.SCH_PORT_DROPS_RACK_FLUSH (s.queue q).length
    else s) s
  let moved (n : Nat) : Bool :=
    if n < 96 then false else if n < 1120 then svcParent old (n - 96) != svcParent s.pk.sch (n - 96)
    else if n < 17504 then subParent old (n - 1120) != subParent s.pk.sch (n - 1120) else false
  let s := ((s.pk.child.filter fun e => e.2.inC && moved e.1).map (·.1)).foldl
    (fun s n => s.setChild n { s.child n with inC := false }) s
  forUp (fun p s => (s.showGates p).contend p) 96 0 s

/-- Node state in error (R259): S and F become the parent's V, and both levels full. -/
def State.nodeLost (s : State) (node : Nat) : State :=
  let parent := if node < 96 then 0 else if node < 1120 then svcParent s.pk.sch (node - 96)
    else svcNode (subParent s.pk.sch (node - 1120))
  let s := if 96 ≤ node then s.setChild node ⟨s.vtime parent, s.vtime parent, (s.child node).inC⟩ else s
  forUp (fun k s => s.setNodeLevel node k (((nodeShape s.pk.sch node k).2 * 1000000000 : Nat) : Int)) 2 0 s

end Sys2Proof.Machine
end

