-- ==== Sys2Proof/Machine/Pipe.lean ====
section
/-! DEFINITION. The frame pipelines: the parser graph, keys, caches and parking, decision, policing, commit, replay and the end of a
frame (09_frame_pipeline.md R182 to R206; 10_tables.md R211, R212, R219, R221, R226, R228; 11_scheduling.md R250, R251). -/

namespace Sys2Proof.Machine

/-! ### Press (R184 to R187) -/

/-- What a walk of the parser graph leaves: key fields, flags, PARSE_STATUS, and PTP_OFF (R275). -/
structure Parsed where
  fields : Tab (List Byte)
  flags : Nat
  status : Nat
  ptp : Option Nat
  deriving DecidableEq, Repr

/-- The status of a read that reaches byte last of a frame of len bytes: TRUNC past byte 63, SHORT past its end (R186). -/
def reach (len last : Nat) : Option Nat := if 63 < last then some 1 else if len ≤ last then some 2 else none

/-- w bits from bit b of byte i, right-aligned (R185). -/
def fieldAt (data : List Byte) (i b w : Nat) : Nat :=
  let n := (b + w - 1) / 8 + 1
  (fBe data i n >>> (8 * n - b - w)) % 2 ^ w

/-- The extractions of a node, in order; the status that stops them (R185, R186). -/
def extracts (data : List Byte) (cur : Nat) : List Nat → Tab (List Byte) → Tab (List Byte) × Option Nat
  | [], t => (t, none)
  | x :: l, t =>
    if bitOf x 15 then
      let lo := cur + bits x 4 6
      let n := bits x 0 4 + 1
      match reach data.length (lo + n - 1) with
      | some st => (t, some st)
      | none => extracts data cur l (Tab.set (fun _ => []) t (bits x 10 5) ((data.drop lo).take n))
    else extracts data cur l t

/-- Where a node leads: a node, or the end with a status (R185). -/
def nextOf (g : Nat → Nat) (v : Nat) : Nat ⊕ Nat :=
  let w1 := g 1
  let n := min 16 (bits w1 16 5)
  match ((List.range n).map fun i => g (4 + i)).find? fun t => bitOf t 31 && bits t 0 16 == v with
  | some t => if bitOf t 23 then .inr 0 else .inl (bits t 24 7)
  | none => match bits w1 30 2 with
    | 0 => .inl (bits w1 23 7)
    | 1 => .inr 0
    | _ => .inr 4

/-- The walk from a node with the cursor at cur, with this many hops left. -/
def walk (g : Nat → Nat → Nat) (data : List Byte) : Nat → Nat → Nat → Parsed → Parsed
  | 0, _, _, r => { r with status := 3 }
  | k + 1, v, cur, r =>
    let w0 := g v 0
    if !bitOf w0 31 then { r with status := 4 }
    else
      let i := cur + bits w0 25 6
      let b := bits w0 22 3
      let w := bits w0 18 4 + 1
      match reach data.length (i + (b + w - 1) / 8) with
      | some st => { r with status := st }
      | none =>
        let f := fieldAt data i b w
        match extracts data cur [g v 2 % 65536, g v 2 / 65536, g v 3 % 65536, g v 3 / 65536] r.fields with
        | (t, some st) => { r with fields := t, status := st }
        | (t, none) =>
          let fl := bits (g v 1) 8 8
          let r := { r with fields := t, flags := r.flags ||| fl,
                            ptp := if bitOf fl 7 && r.ptp.isNone && decide (cur ≤ 63) then some cur else r.ptp }
          if 2 ≤ bits w0 16 2 then { r with status := 0 }
          else match nextOf (g v) f with
            | .inr st => { r with status := st }
            | .inl v' =>
              let adv := bits w0 8 8 + (if bits w0 16 2 = 1 then f * 2 ^ bits w0 6 2 else 0)
              walk g data k v' (cur + adv) r

/-- Press under the active graph. -/
def State.parse (s : State) (data : List Byte) : Parsed :=
  walk (fun v w => (s.rd (R.PIPE_GRAPH_ACTIVE v w)).toNat) data 16 0 0 ⟨[], 0, 0, none⟩

/-! ### Key build (R189) -/

/-- Byte i of key field k; what was not extracted reads 0. -/
def Parsed.at_ (r : Parsed) (k i : Nat) : Nat := fByte (Tab.get (fun _ => []) r.fields k) i

/-- n bytes of key field k from byte i, first byte most significant. -/
def Parsed.be (r : Parsed) (k i n : Nat) : Nat := (List.range n).foldl (fun a j => a * 256 + r.at_ k (i + j)) 0

/-- The keys of a frame under the active templates and port records. -/
def State.keyed (s : State) (f : Fr) : Fr :=
  let r := s.parse f.data
  let o := R.PIPE_PORT_ACTIVE f.port
  let tag := s.fld o F.PIPE_PORT_ACTIVE_TAG_FIELD
  let tagged := !(Tab.get (fun _ => []) r.fields tag).isEmpty
  let tci := r.be tag 0 2
  let vid := if tagged && tci % 4096 != 0 then tci % 4096 else s.fld o F.PIPE_PORT_ACTIVE_PVID
  let slot (i : Nat) : Nat :=
    let w := (s.rd (R.PIPE_TMPL_ACTIVE (s.fld o F.PIPE_PORT_ACTIVE_TEMPLATE) i)).toNat
    if bitOf w 31 then r.be (bits w 24 5) (bits w 0 4) 4 else 0
  let head := f.port * 2 ^ 25 + r.status * 2 ^ 22 + r.flags * 2 ^ 14 + vid * 4
  let lpm := s.fld o F.PIPE_PORT_ACTIVE_LPM_FIELD
  { f with
    vid := vid, pcp := if tagged then some (tci / 8192) else none, dst := r.be 0 0 6, src := r.be 1 0 6,
    ckey := (List.range 16).foldl (fun a i => a + slot i * 2 ^ (32 * i + 32)) head,
    lpmKey := match s.fld o F.PIPE_PORT_ACTIVE_LPM_MODE with
      | 1 => some (false, r.be lpm 0 4)
      | 2 => some (true, r.be lpm 0 16)
      | _ => none,
    ptp := r.ptp }

/-! ### Forwarding caches (R211, R212) -/

/-- Set of a key. -/
def cacheSet (n vid mac : Nat) : Nat := 32768 * n + crc32 (keyBytes vid mac) % 32768

def State.cacheLines (s : State) (i : Nat) : List Line := Tab.get (fun _ => []) s.pk.cache i
def State.setLines (s : State) (i : Nat) (l : List Line) : State :=
  { s with pk := { s.pk with cache := Tab.set (fun _ => []) s.pk.cache i l } }

def Line.is (l : Line) (vid mac : Nat) : Bool := l.vid == vid && l.mac == mac

/-- The line of a key. -/
def State.probe (s : State) (n vid mac : Nat) : Option Line := (s.cacheLines (cacheSet n vid mac)).find? fun l => l.is vid mac

/-- A line becomes the most recently used of its set; four ways hold the four used last. -/
def State.useLine (s : State) (n : Nat) (l : Line) : State :=
  let i := cacheSet n l.vid l.mac
  s.setLines i ((l :: (s.cacheLines i).filter fun k => !k.is l.vid l.mac).take 4)

/-- The line of a key goes. -/
def State.dropLine (s : State) (n vid mac : Nat) : State :=
  let i := cacheSet n vid mac
  s.setLines i ((s.cacheLines i).filter fun k => !k.is vid mac)

/-- The answer of a read fills the cache: the entry found, or a NEG line. -/
def State.fillLine (s : State) (n vid mac : Nat) (e : Option FEntry) : State :=
  s.useLine n (match e with
    | some e => ⟨vid, mac, false, e.port, e.disc, false⟩
    | none => ⟨vid, mac, true, 0, false, false⟩)

/-- The forwarding result a line gives. -/
def Line.fwd (l : Line) : Fwd := if l.neg then .unknown else .to l.port l.disc

/-- The group bit of an address: bit 0 of byte 0. -/
def isGroup (mac : Nat) : Bool := bitOf mac 40

/-! ### Classification and longest prefix (R226 to R231) -/

abbrev clsSpan : Nat := 303104

def clsWord (tab : Tab Word) (n e w : Nat) : Nat := (Tab.get (fun _ => (0 : Word)) tab (clsSpan * n + 37 * e + w)).toNat

/-- Entries of PPn that hold anything but zeros, ascending. -/
def clsUsed (tab : Tab Word) (n : Nat) : List Nat := ((Tab.slice (clsSpan * n) clsSpan tab).map fun e => e.1 / 37).eraseDups

/-- A 544-bit part of an entry, from word w. -/
def clsPart (tab : Tab Word) (n e w : Nat) : Nat := (List.range 17).foldl (fun a i => a + clsWord tab n e (w + i) * 2 ^ (32 * i)) 0

def clsAction (tab : Tab Word) (n e : Nat) : Nat := clsWord tab n e 34 + 2 ^ 32 * clsWord tab n e 35

/-- The action of the lowest valid entry that matches (R226). -/
def State.classify (s : State) (n key : Nat) : Option Nat :=
  ((clsUsed s.pk.cls n).find? fun e =>
    bitOf (clsWord s.pk.cls n e 36) 0 &&
      (key &&& clsPart s.pk.cls n e 17) == (clsPart s.pk.cls n e 0 &&& clsPart s.pk.cls n e 17)).map fun e => clsAction s.pk.cls n e

/-- Slots of one part of a longest-prefix memory, lowest rows first. -/
def State.lpmSlots (s : State) (n : Nat) (v6 : Bool) : List LpmSlot := Tab.get (fun _ => []) s.pk.lpm (2 * n + bnat v6)

/-- Bits of a prefix that count. -/
def lpmCut (v6 : Bool) (len x : Nat) : Nat := x >>> ((if v6 then 128 else 32) - len)

/-- The action of the lowest-indexed prefix that matches (R230, R231). -/
def State.lpmFind (s : State) (n : Nat) (key : Option (Bool × Nat)) : Option Nat :=
  key.bind fun k => (s.lpmSlots n k.1).findSome? fun t => t.ent.bind fun e =>
    if lpmCut k.1 t.len e.1 = lpmCut k.1 t.len k.2 then some e.2 else none

/-! ### Decision (R191, R221, R222, R228) -/

/-- Ports of the flood set of a VID, ascending. -/
def State.flood (s : State) (vid : Nat) : List Nat :=
  (List.range 96).filter fun p => (s.rd (R.TBL_FLOOD vid (p / 32))).getLsbD (p % 32)

/-- Step 4 of R191. -/
def State.usable (s : State) (f : Fr) (l : List Nat) : List Nat := l.filter fun p => p != f.port && s.portEnabled p

/-- Mirror mask and counter pairs that actions ask for (R228). -/
def actMirror (a b : Nat) : Nat := bits a 26 8 ||| bits b 26 8
def actPairs (l : List Nat) : List Nat := ((l.filter fun a => bitOf a 25).map fun a => bits a 5 20).eraseDups

/-- A dropped frame with what its actions ask for. -/
def Outc.dropped (l : List Nat) : Outc :=
  { Outc.none with mirror := l.foldl (fun m a => m ||| bits a 26 8) 0, pairs := actPairs l }

/-- The decision of a frame under the active vintage: its outcome before policing, with the policer an action names. -/
def State.decision (s : State) (f : Fr) : State × Outc × Option Nat :=
  let n := pipeOf f.port
  let noEgress (l : List Nat) : State × Outc × Option Nat :=
    (s.count (R.PIPE_COUNT_DROP n) F.PIPE_COUNT_DROP_NO_EGRESS 1, Outc.dropped l, none)
  let a := (s.classify n f.ckey).getD 0
  let b := (s.lpmFind n f.lpmKey).getD 0
  if !s.portEnabled f.port then (s, Outc.none, none)
  else if f.srcOk == some false then (s.count (R.TBL_PORT_COUNT f.port) F.TBL_PORT_COUNT_LIMIT_HITS 1, Outc.none, none)
  else if bitOf a 63 then (s, Outc.dropped [a], none)
  else if !bitOf a 62 && (match f.fwd with | some (.to _ d) => d | _ => false) then (s, Outc.dropped [a], none)
  else
    let e := if bitOf a 62 then [bits a 55 7] else match f.fwd with
      | some (.to p _) => [p]
      | _ => s.flood f.vid
    let e := s.usable f e
    if e.isEmpty then noEgress [a]
    else if bitOf b 63 then (s, Outc.dropped [a, b], none)
    else
      let e := if bitOf b 62 && !bitOf a 62 then s.usable f [bits b 55 7] else e
      if e.isEmpty then noEgress [a, b]
      else
        let cls := if bitOf a 54 then bits a 51 3 else if bitOf b 54 then bits b 51 3
          else f.pcp.getD (s.fld (R.PIPE_PORT_ACTIVE f.port) F.PIPE_PORT_ACTIVE_DEF_CLASS)
        let pol := if bitOf a 50 then some (bits a 34 16) else if bitOf b 50 then some (bits b 34 16) else none
        (s, { drop := false, ports := e, cls := cls, mirror := actMirror a b, pairs := actPairs [a, b], debit := none },
          pol.map fun k => 65536 * n + k)

/-! ### Policing (R250, R251, R196) -/

/-- Level of bucket k (0 committed, 1 peak) of a policer, and its setting. -/
def State.polLevel (s : State) (i k : Nat) : Int :=
  let (r, z) := polShape s.pk.sch i k
  (Tab.get (fun _ => Bucket.zero) s.pk.pol (2 * i + k)).level r z s.now
def State.setPolLevel (s : State) (i k : Nat) (l : Int) : State :=
  s.setPolBucket (2 * i + k) ⟨min l (((polShape s.pk.sch i k).2 * 1000000000 : Nat) : Int), s.now⟩

/-- Take bytes from the buckets of a policer, or return them. -/
def State.polMove (s : State) (i : Nat) (tp tc : Int) : State :=
  let s := s.setPolLevel i 1 (s.polLevel i 1 + tp * 1000000000)
  s.setPolLevel i 0 (s.polLevel i 0 + tc * 1000000000)

/-- Colour of R250: 0 green, 1 yellow, 2 red. -/
def State.colour (s : State) (i len : Nat) : Nat :=
  let b : Int := ((len * 1000000000 : Nat) : Int)
  if (polShape s.pk.sch i 1).1 = 0 then 0
  else if s.polLevel i 1 - b < 0 then 2
  else if (polShape s.pk.sch i 0).1 = 0 ∨ s.polLevel i 0 - b < 0 then 1 else 0

/-- What becomes of a frame of a colour (R251): the class, or none when it is dropped. YELLOW_ACT 3 is not stated: one of the three
handlings, an open choice. -/
def polAct (w act3 colour cls : Nat) : Option Nat :=
  if colour = 0 then some cls
  else if colour = 1 then
    match (if bits w 29 2 = 3 then act3 % 3 else bits w 29 2) with
    | 0 => some cls
    | 1 => some (bits w 26 3)
    | _ => none
  else if bitOf w 25 then some (bits w 22 3) else none

/-- Policing of a decided frame by policer i. -/
def State.police (s : State) (i len : Nat) (o : Outc) : State × Outc :=
  let w := s.sch 3 i 4
  let col := s.colour i len
  let limited := (polShape s.pk.sch i 1).1 != 0
  let tp := if limited && col != 2 then len else 0
  let tc := if limited && col == 0 then len else 0
  let act3 := s.freeVal 8
  let s := if col = 1 ∧ bits w 29 2 = 3 then s.drawn else s
  let s := s.polMove i (-(tp : Int)) (-(tc : Int))
  let pairs := if bitOf w 31 then (o.pairs ++ [bits w 0 20 + col]).eraseDups else o.pairs
  let o := { o with pairs := pairs, debit := some (i, tp, tc) }
  match polAct w act3 col o.cls with
  | some c => (s, { o with cls := c })
  | none => (s, { o with drop := true, ports := [] })

/-- A speculative debit goes back to the buckets it came from. -/
def State.undebit (s : State) (o : Outc) : State :=
  match o.debit with
  | some (i, tp, tc) => s.polMove i tp tc
  | none => s

/-- Decision and policing. -/
def State.outcome (s : State) (f : Fr) : State × Outc :=
  match s.decision f with
  | (s, o, some i) => s.police i (frameLen f.data) o
  | (s, o, none) => (s, o)

/-! ### Frames held -/

def State.putFr (s : State) (f : Fr) : State :=
  if s.pk.frames.any (fun g => g.id == f.id) then
    { s with pk := { s.pk with frames := s.pk.frames.map fun g => if g.id = f.id then f else g } }
  else { s with pk := { s.pk with frames := s.pk.frames ++ [f] } }
def State.dropFr (s : State) (id : Nat) : State :=
  { s with pk := { s.pk with frames := s.pk.frames.filter fun g => g.id != id } }

/-- Frames of PPn at a stage, in arrival order. -/
def State.framesAt (s : State) (n : Nat) (g : FStage) : List Fr :=
  s.pk.frames.filter fun f => pipeOf f.port == n && f.stage == g

/-- PIPE_STATUS.PARKED follows the slots in use. -/
def State.showParked (s : State) (n : Nat) : State :=
  s.setF (R.PIPE_STATUS n) F.PIPE_STATUS_PARKED (s.framesAt n .parked).length

/-! ### Learn notices (R219, R221) -/

/-- What the table of PPn holds for a key: buckets, then stash. -/
def State.tableHas (s : State) (n vid mac : Nat) : Option FEntry :=
  match s.tableRead n vid mac with
  | some e => some e
  | none => (Tab.get (fun _ => []) s.pk.stash n ++ (s.rehashOf n).elim [] (·.stash)).find? fun e => e.vid == vid && e.mac == mac

/-- Port p is at its learning limit. -/
def State.atLimit (s : State) (p : Nat) : Bool :=
  decide (s.fld (R.TBL_PORT_LEARN p) F.TBL_PORT_LEARN_LIMIT ≤ s.fld (R.TBL_PORT_COUNT p) F.TBL_PORT_COUNT_LEARNED)

/-- A source probe that did not hit makes a notice, once the frame's FCS passes (R219). -/
def State.learn (s : State) (f : Fr) : State :=
  let n := pipeOf f.port
  let k : Notice := ⟨f.vid, f.src, f.port⟩
  let recent := (Tab.get (fun _ => []) s.pk.recent n).filter fun r => s.now < r.2 + 1000000
  if f.srcHit || isGroup f.src || f.src == 0 || recent.any (fun r => r.1 == k) then s
  else
    let adds := match s.tableHas n f.vid f.src with
      | none => true
      | some e => !e.stat && e.port != f.port
    if adds && s.atLimit f.port then
      if s.flag (R.TBL_PORT_LEARN f.port) F.TBL_PORT_LEARN_ACTION then s
      else s.count (R.TBL_PORT_COUNT f.port) F.TBL_PORT_COUNT_LIMIT_HITS 1
    else
      let s := { s with pk := { s.pk with recent := Tab.set (fun _ => []) s.pk.recent n (((k, s.now) :: recent).take 256) } }
      let q := Tab.get (fun _ => []) s.pk.notices n
      if 1024 ≤ q.length then s.count (R.TBL_LEARN_STATS n) F.TBL_LEARN_STATS_LEARN_LOST 1
      else { s with pk := { s.pk with notices := Tab.set (fun _ => []) s.pk.notices n (q ++ [k]) } }

/-! ### Commit and the end of a frame (R193, R201, R204) -/

/-- The pairs of a final outcome are counted, once (R255). -/
def State.countFrame (s : State) (f : Fr) : State := f.out.pairs.foldl (fun s i => s.countPair i 1 (frameLen f.data)) s

/-- The copy of a frame for one egress port. -/
def Fr.copy (f : Fr) : Copy :=
  { fid := f.id, inPort := f.port, data := f.data, tbIn := f.tbIn, ptp := f.ptp, mask := f.out.mirror, mirror := none }

/-- The FCS error count of port p. -/
def State.fcsError (s : State) (p : Nat) : State :=
  { s with pk := { s.pk with fcsErr := Tab.set (fun _ => 0) s.pk.fcsErr p (Tab.get (fun _ => 0) s.pk.fcsErr p + 1) } }

/-- A frame passes its FCS: it is learned, a stored one is enqueued, and mirror copies are made. -/
def State.endPass (s : State) (f : Fr) : State :=
  let s := (if f.learned then s else s.learn f).dropFr f.id
  let s := if f.stage = .decided then
      (s.countFrame f) |> fun s => f.out.ports.foldl (fun s p => (s.enqueue p (s.queueFor p f.vid f.out.cls) f.copy).1) s
    else s
  let s := s.mirrorAt 0 f.port f.out.mirror none f.port f.data
  if f.out.drop then s.mirrorAt 1 f.port f.out.mirror none f.port f.data else s

/-- A cut-through frame fails after commit, n bytes of it sent: the egress MAC ends it with the inverse of the CRC of those (R201). -/
def State.stomp (s : State) (f : Fr) (n : Nat) : State :=
  let out := s.pk.sent.map fun t =>
    if t.fid = f.id then { t with data := t.data.take n, fcs := 0xFFFFFFFF ^^^ crc32 (t.data.take n) } else t
  let s := { s with pk := { s.pk with sent := out } }
  (s.count (R.PIPE_COUNT_ERR (pipeOf f.port)) F.PIPE_COUNT_ERR_STOMPED 1).dropFr f.id

/-- A frame fails its FCS: before commit it is discarded, its debit returned. -/
def State.endFail (s : State) (f : Fr) (n : Nat) : State :=
  match f.stage with
  | .cut => s.stomp f n
  | .decided => (s.undebit f.out).dropFr f.id
  | _ => s.dropFr f.id

/-! ### Cut-through (R192) -/

/-- Cooper can start a frame of this wire length on port p without waiting. -/
def State.cutReady (s : State) (p q wl at_ : Nat) : Bool :=
  let sub := q / 8
  s.sends p && s.portOcc p == 0 && decide (s.txEnd p ≤ at_) && !s.gateOn p && decide (0 < wl) &&
    s.peakOk (subNode sub) && s.peakOk (svcNode (subParent s.pk.sch sub)) && s.peakOk p

/-- The hand-off of a decided frame: cut through where R192 allows it. -/
def State.handOff (s : State) (f : Fr) : State × Fr :=
  match f.out.ports with
  | [p] =>
    let q := s.queueFor p f.vid f.out.cls
    let c := f.copy
    let at_ := f.t0 + f.lat
    if s.flag (R.PIPE_PORT_ACTIVE f.port) F.PIPE_PORT_ACTIVE_CUT_THROUGH && decide (s.rate p ≤ s.rate f.port) &&
        s.cutReady p q (s.wireLen p c) at_ then
      let s := s.countFrame f
      let (s, ok) := s.enqueue p q c
      if ok then ((s.setQueue q ((s.queue q).drop 1)).transmit p q c at_, { f with stage := .cut })
      else (s, { f with stage := .dropped })
    else (s, { f with stage := .decided })
  | _ => (s, { f with stage := .decided })

/-- A frame that goes on after its outcome: dropped frames commit at once. -/
def State.goOn (s : State) (f : Fr) (o : Outc) : State × Fr :=
  let f := { f with out := o }
  if o.drop then (s.countFrame f, { f with stage := .dropped }) else s.handOff f

/-- A frame enters decision (R191 to R193); one whose end is known ends with it. -/
def State.enterDecision (s : State) (f : Fr) : State :=
  let (s, o) := s.outcome f
  let (s, f) := s.goOn f o
  if f.fcs == some true then s.endPass f else s.putFr f

/-! ### Lookups and parking (R198 to R200, R212) -/

/-- A parked frame has every result it waits for. -/
def Fr.ready (f : Fr) : Bool := f.fwd.isSome && f.srcOk.isSome

/-- Frames of one flow leave in arrival order, as their results come (R199). -/
def State.release (n : Nat) : Nat → State → State
  | 0, s => s.showParked n
  | k + 1, s =>
    let l := s.framesAt n .parked
    match l.find? fun f => f.ready && (l.find? fun g => g.flow == f.flow) == some f with
    | some f => State.release n k ((s.dropFr f.id).enterDecision f)
    | none => s.showParked n

/-- A frame through Press, key build and lookups; none when it needs a parking slot and all 512 are taken (R200). -/
def State.enterPipe (s : State) (f : Fr) : Option State :=
  let n := pipeOf f.port
  let f := s.keyed f
  let st := (s.parse f.data).status
  let group := isGroup f.dst
  let f := { f with flow := f.port * 4096 + crc32 (keyBytes f.vid f.dst) % 4096 }
  let dl := if group then none else s.probe n f.vid f.dst
  let sl := s.probe n f.vid f.src
  let hit := match sl with | some l => !l.neg && l.port == f.port | none => false
  let limited := s.atLimit f.port && s.flag (R.TBL_PORT_LEARN f.port) F.TBL_PORT_LEARN_ACTION && !hit
  let f := { f with
    fwd := if group then some .unknown else dl.map Line.fwd, line := dl.map fun _ => (f.vid, f.dst), srcHit := hit,
    srcOk := if limited then (if sl.isSome then some false else none) else some true }
  let parked := s.framesAt n .parked
  let guard := parked.any fun g => g.flow == f.flow
  if (!f.ready || guard) && decide (512 ≤ parked.length) then none
  else
    let s := s.count (R.PIPE_PARSE_COUNT n st) F.PIPE_PARSE_COUNT_VAL 1
    let s := match f.ptp with
      | some o => if s.flag (R.TIM_PORT f.port) F.TIM_PORT_REC_IN then s.ptpRecord 0 f.port o f.t0 f.data else s
      | none => s
    let s := match dl with | some l => s.useLine n l | none => s
    let s := match s.probe n f.vid f.src with
      | some l => s.useLine n { l with hit := l.hit || hit }
      | none => s
    let s := if f.ready then s else
      let s := s.count (R.PIPE_COUNT_PARK n) F.PIPE_COUNT_PARK_MISSES 1
      let keys := (if f.fwd.isNone then [(f.vid, f.dst)] else []) ++ (if f.srcOk.isNone then [(f.vid, f.src)] else [])
      { s with pk := { s.pk with reads := s.pk.reads ++ [⟨f.id, n, keys, s.now, false⟩] } }
    let s := if guard then s.count (R.PIPE_COUNT_PARK n) F.PIPE_COUNT_PARK_GUARD_HELD 1 else s
    if f.ready && !guard then some (s.enterDecision f) else some ((s.putFr { f with stage := .parked }).showParked n)

/-- Frames waiting in FIFOs of PPn go on in order while slots allow. -/
def State.drain (n : Nat) : Nat → State → State
  | 0, s => s
  | k + 1, s => match s.framesAt n .fifo with
    | f :: _ =>
      match (s.dropFr f.id).enterPipe f with
      | some t =>
        let t := if f.fcs == some true then
            match t.pk.frames.find? fun g => g.id == f.id with
            | some g => (t.learn g).putFr { g with learned := true }
            | none => t
          else t
        State.drain n k t
      | none => s
    | [] => s

/-- Frames of PPn move on after a slot may have been freed. -/
def State.advance (s : State) (n : Nat) : State :=
  let s := State.release n s.pk.frames.length s
  State.drain n s.pk.frames.length s

/-- Frames are received: the mode forwards, and the port is up (R15, R387, R434). -/
def State.receives (s : State) (p : Nat) : Bool := (s.mode == .serve || s.mode == .limp) && s.portUp p

/-- Bytes of an ingress FIFO. -/
abbrev fifoBytes : Nat := 16384

/-- FRAME_INGRESS (R184): a frame enters port p, its first bit at the instant ns of the tick; data is all of it before the FCS, of which
the pipeline uses the first 64 bytes; lat is when its first bit leaves, after that, if it is cut through. -/
def execFrameIngress (p : Fin 96) (data : List Byte) (ns : Fin 1000) (lat : Nat) (s : State) : Out :=
  let s := s.at_ ns
  let n := pipeOf p
  .next (if s.receives p then
    let (id, s) := s.freshId
    let bitsIn := Tab.get (fun _ => 0) s.thm.rxBits n + 8 * frameLen data
    let s := { s with thm := { s.thm with rxBits := Tab.set (fun _ => 0) s.thm.rxBits n bitsIn } }
    let f : Fr :=
      { id := id, port := p, data := data, t0 := s.now, lat := lat, tbIn := (List.range 4).map fun b => s.tbFlat b s.now,
        stage := .fifo, vid := 0, pcp := none, dst := 0, src := 0, ckey := 0, lpmKey := none, ptp := none, flow := 0, fwd := none,
        line := none, srcHit := false, srcOk := none, fcs := none, learned := false, out := Outc.none }
    let wait := s.framesAt n .fifo
    let held := (wait.drop 1).foldl (fun a g => if g.port = f.port then a + frameLen g.data else a) 0
    if wait.isEmpty then (s.enterPipe f).getD (s.putFr f)
    else if fifoBytes < held + frameLen data then s.count (R.PIPE_COUNT_DROP n) F.PIPE_COUNT_DROP_FIFO_DROP 1
    else s.putFr f
  else s)

/-- The frame of port p that is being received: the oldest that has not ended. -/
def State.receiving (s : State) (p : Nat) : Option Fr := s.pk.frames.find? fun f => f.port == p && f.fcs.isNone

/-- FRAME_END (R193): the frame being received on port p ends: its FCS passes or fails, or its elastic buffer has overflowed or
underflowed (R290), which discards it. -/
def execFrameEnd (p : Fin 96) (how : FrameEnd) (ns : Fin 1000) (s : State) : Out :=
  let s := s.at_ ns
  let n := pipeOf p
  .next (match s.receiving p with
  | none => s
  | some f =>
    match how with
    | .pass =>
      if f.stage = .fifo then s.putFr { f with fcs := some true }
      else if f.stage = .parked then (s.learn f).putFr { f with fcs := some true, learned := true }
      else s.endPass f
    | .fcs => ((s.endFail f f.data.length).fcsError p).advance n
    | .rate => ((s.endFail f f.data.length).count (R.LANE_RM p) F.LANE_RM_RM_ERR 1).advance n)

/-- INGRESS_FAIL_AFTER_COMMIT (R201): the cut-through frame being received on port p fails, with so many of its bytes sent. -/
def execIngressFailAfterCommit (p : Fin 96) (sent : Nat) (ns : Fin 1000) (s : State) : Out :=
  let s := s.at_ ns
  .next (match s.receiving p with
  | some f => if f.stage = .cut then (s.stomp f sent).fcsError p else s
  | none => s)

/-- CELLAR_READ_ANSWER (R198, R211): a table-store read answers; each key read fills the cache, a late answer too. -/
def execCellarReadAnswer (id : Nat) (ns : Fin 1000) (s : State) : Out :=
  let s := s.at_ ns
  .next (match s.pk.reads.find? fun r => r.id == id with
  | none => s
  | some r =>
    let s := { s with pk := { s.pk with reads := s.pk.reads.filter fun r => r.id != id } }
    let got (k : Nat × Nat) : Option FEntry := s.tableRead r.pipe k.1 k.2
    let first := r.keys.head?.bind got
    let last := r.keys.getLast?.bind got
    let filled := r.keys.foldl (fun t k => t.fillLine r.pipe k.1 k.2 (got k)) s
    match s.pk.frames.find? fun f => f.id == id && f.stage == .parked with
    | none => filled
    | some f =>
      let f := if f.fwd.isNone then
          { f with fwd := some (match first with | some e => .to e.port e.disc | none => .unknown), line := r.keys.head? }
        else f
      let f := if f.srcOk.isNone then
          { f with srcOk := some (match last with | some e => e.port == f.port | none => false) }
        else f
      (filled.putFr f).advance r.pipe)

/-- READ_LIMIT_EXPIRY (R198, R205): a read not answered within READ_LIMIT is taken as unknown. -/
def execReadLimitExpiry (id : Nat) (ns : Fin 1000) (s : State) : Out :=
  let s := s.at_ ns
  let limit := (max 1 (s.fld R.PIPE_CTRL F.PIPE_CTRL_READ_LIMIT)) * 100
  .next (match s.pk.reads.find? fun r => r.id == id && !r.late && decide (r.at_ + limit ≤ s.now) with
  | none => s
  | some r =>
    let s := { s with pk := { s.pk with reads := s.pk.reads.map fun (k : TblRead) => if k.id = id then { k with late := true } else k } }
    let s := (s.count (R.PIPE_COUNT_ERR r.pipe) F.PIPE_COUNT_ERR_READ_LATE 1).raise (260 + r.pipe) r.pipe
    match s.pk.frames.find? fun f => f.id == id && f.stage == .parked with
    | none => s
    | some f =>
      let f := { f with fwd := some (f.fwd.getD .unknown), srcOk := some (f.srcOk.getD false) }
      (s.putFr f).advance r.pipe)

/-! ### Replay and cache refusal (R194 to R197, R214) -/

/-- A decided frame runs decision and policing again. -/
def State.replay (s : State) (f : Fr) : State :=
  let n := pipeOf f.port
  let old := f.out
  let (s, o) := (s.undebit old).outcome f
  let s := s.count (R.PIPE_COUNT_REPLAY n) F.PIPE_COUNT_REPLAY_REPLAYED 1
  let s := if o.drop = old.drop ∧ o.ports = old.ports ∧ o.cls = old.cls then s
    else s.count (R.PIPE_COUNT_REPLAY n) F.PIPE_COUNT_REPLAY_REPLAY_CHANGED 1
  let f := { f with out := o }
  if o.drop then (s.countFrame f).putFr { f with stage := .dropped } else s.putFr f

/-- At a packet commit tick, after the swap: frames not yet in decision take their results under the new vintage, and decided ones are
replayed (R195). -/
def State.replayAll (s : State) : State :=
  s.pk.frames.foldl (fun s f =>
    match f.stage with
    | .parked => s.putFr (s.keyed f)
    | .decided => s.replay (s.keyed f)
    | _ => s) s

/-- R214, R197: the line of a key is invalidated, and every uncommitted frame decided on it is refused. -/
def State.invalidate (s : State) (n vid mac : Nat) : State :=
  let s := s.dropLine n vid mac
  s.pk.frames.foldl (fun s f =>
    if pipeOf f.port = n ∧ f.line = some (vid, mac) ∧ (f.stage = .parked ∨ f.stage = .decided) then
      let s := s.count (R.PIPE_COUNT_ERR n) F.PIPE_COUNT_ERR_CACHE_REFUSED 1
      let f := { f with fwd := some .unknown, line := none }
      if f.stage = .decided then s.replay f else s.putFr f
    else s) s

/-! ### Prepare checks and stage groups (R188, R205, R227) -/

/-- Check of the shadow graph (R188): cause and lowest node concerned. -/
def State.graphCheck (s : State) : Option (Nat × Nat) :=
  let w (v i : Nat) : Nat := (s.rd (R.PIPE_GRAPH_SHADOW v i)).toNat
  let ok (v : Nat) : Bool := bitOf (w v 0) 31
  if !ok 0 then some (1, 0)
  else
    let bad (v : Nat) : Bool := ok v &&
      ((List.range 16).any (fun i => bitOf (w v (4 + i)) 31 && !bitOf (w v (4 + i)) 23 && !ok (bits (w v (4 + i)) 24 7)) ||
        (bits (w v 1) 30 2 == 0 && !ok (bits (w v 1) 23 7)))
    (firstBelow bad 128).map fun v => (2, v)

/-- A REDIRECT_PORT above 95, or a reserved bit set (R227). -/
def actionBad (a : Nat) : Bool := decide (95 < bits a 55 7) || bits a 0 5 != 0

/-- Check of PPn in prepare (R188, R227). -/
def State.pipeCheck (s : State) (n : Nat) : Option (Nat × Nat) :=
  match s.graphCheck with
  | some c => some c
  | none => ((clsUsed s.pk.clsShadow n).find? fun e =>
      actionBad (clsAction s.pk.clsShadow n e) || clsWord s.pk.clsShadow n e 36 / 2 != 0).map fun e => (3, e)

/-- CONTAIN on a stage group (R205): the frames it holds are discarded. -/
def State.stageClear (s : State) (n : Nat) : State :=
  let s := s.pk.frames.foldl (fun s f =>
    if pipeOf f.port = n ∧ (f.stage = .parked ∨ f.stage = .decided) then
      ((s.undebit f.out).dropFr f.id).count (R.PIPE_COUNT_DROP n) F.PIPE_COUNT_DROP_NO_EGRESS 1
    else s) s
  (s.showParked n).advance n

/-- Ingress stops at once: frames being received are discarded, and cut-through ones end at egress (R201, R387). -/
def State.ingressStop (s : State) : State :=
  let s := s.pk.frames.foldl (fun s f => if f.fcs.isNone then s.endFail f f.data.length else s) s
  forUp (fun n s => s.showParked n) 4 0 s

/-- Every frame held in queues leaves the buffer (R388). -/
def State.bufferClear (s : State) : State :=
  (s.pk.queues.map (·.1)).foldl (fun s q =>
    let p := chainPort s.pk.sch (q / 8)
    (s.queue q).foldl (fun s c => s.discharge p c) (s.setQueue q [])) s

end Sys2Proof.Machine
end

