-- ==== Sys2Proof/Machine/Shadow.lean ====
section
/-! DEFINITION. SHADOW_WRITE and its word spaces (14_host_interface.md R317 to R319; 03_routing.md R54; 04_racking.md R59, R66;
06_loops.md R121, R138; 07_sequencers.md R158; 12_network_time.md R267). -/

namespace Sys2Proof.Machine

/-! ### The request (R317) -/

def Desc.target (d : Desc) : Nat := d.byte 20
def Desc.inline_ (d : Desc) : Bool := bitOf (d.byte 21) 0
def Desc.pipeMask (d : Desc) : Nat := d.byte 21 / 16
def Desc.table (d : Desc) : Nat := d.le 22 2
def Desc.first (d : Desc) : Nat := d.le 24 4
def Desc.count (d : Desc) : Nat := d.le 28 4

/-- Words of each target's space (R318); for SCH, of the records of its table. -/
def Desc.space (d : Desc) : Nat :=
  match d.target with
  | 1 => 256
  | 2 => 136
  | 3 => 442368
  | 4 => 12294
  | 5 => 2560
  | 6 => 128
  | 7 => 96
  | 8 => 303104
  | 9 => schWidth d.table * schRecs d.table
  | 10 => 96
  | _ => 0

/-- BAD_RANGE of R319. -/
def Desc.badRange (d : Desc) : Bool :=
  if d.target = 11 then d.first + d.count != 0
  else if d.target = 12 then d.count == 0 || decide (3 < d.first)
  else d.count == 0 || decide (d.space < d.first + d.count) || (d.target == 9 && decide (6 < d.table)) ||
    (d.target == 8 && d.pipeMask == 0)

/-- BAD_LENGTH of R319. -/
def Desc.badLength (d : Desc) : Bool :=
  if d.target = 11 then false
  else if d.target = 12 then !d.inline_ || d.count != 2
  else if d.inline_ then decide (8 < d.count) else decide (d.bufLen < 4 * d.count)

/-- A buffer is read (R317). -/
def Desc.needsBuf (d : Desc) : Bool := !d.inline_ && d.target != 11 && d.target != 12

/-- Domain of a target: 1 fabric, 2 packet, 0 none (R318). -/
def Desc.domain (d : Desc) : Nat := if d.target ≤ 4 then 1 else if d.target ≤ 11 then 2 else 0

/-- The first result of R319 that refuses the request. -/
def State.shadowRefusal (s : State) (d : Desc) : Option Nat :=
  if d.badRange then some 0x0602
  else if d.badLength then some 0x0603
  else if d.domain ≠ 0 ∧ (s.mode = .shadow ∨ s.mode = .dormant ∨ !s.admitted 8) then some 0x0604
  else none

/-- The words to write. -/
def Desc.data (d : Desc) (buf : Buf) : List Word :=
  toWords d.count (if d.inline_ then d.bytes 32 32 else buf.data)

/-! ### Word spaces (R318) -/

/-- A register word with its reserved bits left 0. -/
def State.wrMasked (s : State) (off mask : Nat) (v : Word) : State := s.wr off (v &&& BitVec.ofNat 32 mask)

/-- FAB_CELLS: state word n of the shadow image. -/
def State.cellsWord (s : State) (n : Nat) (v : Word) : State :=
  let m : CellSet := BitVec.ofNat 4352 (0xFFFFFFFF <<< (32 * n))
  { s with fab := { s.fab with shadow := (s.fab.shadow &&& ~~~ m) ||| BitVec.ofNat 4352 (v.toNat <<< (32 * n)) } }

/-- LOOP_CFG: words 1 and 2 of F elements and attenuators keep what R121 gave them; coefficients read back sign-extended (R138). -/
def State.loopCfgWord (s : State) (n : Nat) (v : Word) : State :=
  let x := n / 48
  let w := n % 48
  let o := R.LOOP_SHADOW_CFG x w
  if (w = 1 ∨ w = 2) ∧ elemKind x ≠ .heater then s
  else if 4 ≤ w ∧ w ≤ 46 then s.wr o (BitVec.ofNat 32 (unsignedOf 32 (signedOf 24 v.toNat)))
  else if w = 0 then s.wrMasked o 0xFFFF03FF v
  else if w = 1 ∨ w = 47 then s.wrMasked o 0x3FFF3FFF v
  else s.wr o v

/-- RACK_SEQ: segments and samples whole, kinds as VALID and FIRST. -/
def State.rackSeqWord (s : State) (n : Nat) (v : Word) : State :=
  let v := if 12288 ≤ n then v &&& 0x80000FFF else v
  { s with seq := { s.seq with rackShadow := Tab.set (fun _ => (0 : Word)) s.seq.rackShadow n v } }

/-- Bits of a parser node's word that are not reserved (R185). -/
def graphMask (w : Nat) : Nat := if w = 0 then 0xFFFFFFC0 else if w = 1 then 0xFF9FFF00 else if w < 4 then 0xFFFFFFFF else 0xFF80FFFF

/-- PIPE_CLASS: the word of an entry in every pipeline of the mask; prepare judges its reserved bits (R227). -/
def State.classWord (s : State) (mask n : Nat) (v : Word) : State :=
  forUp (fun p s =>
    if bitOf mask p then { s with pk := { s.pk with clsShadow := Tab.set (fun _ => (0 : Word)) s.pk.clsShadow (clsSpan * p + n) v } }
    else s) 4 0 s

/-- Bits of word w of a record of SCH table t that are not reserved (R260). -/
def schMask (t w : Nat) : Nat :=
  let shaper (k : Nat) : Nat := if k < 2 then 0x0FFFFFFF else 0x00FFFFFF
  match t with
  | 0 => if w = 0 then 0x03FF07FF else shaper (w - 1)
  | 1 => if w = 0 then 0x007F00FF else shaper (w - 1)
  | 2 => if 6 ≤ w then shaper (w - 6) else nth 0 [0xFFF800FF, 0x3FFFFFFF, 0xFFFFFFFF, 0xFFFFFFFF, 0x3FFF3FFF, 0x0003FFFF] w
  | 3 => if w = 4 then 0xFFCFFFFF else shaper w
  | 4 => 0xFFFFFFFF
  | 5 => 0x83FFFFFF
  | _ => 0x00003FFF

/-- SCH: word n of table t. -/
def State.schShadowWord (s : State) (t n : Nat) (v : Word) : State :=
  let v := v &&& BitVec.ofNat 32 (schMask t (n % schWidth t))
  { s with pk := { s.pk with schShadow := Tab.set schReset s.pk.schShadow (schBase t + n) v } }

/-- One word of a target's space is written. -/
def State.shadowWord (s : State) (d : Desc) (n : Nat) (v : Word) : State :=
  match d.target with
  | 1 => s.wrMasked (R.FAB_SHADOW_MAP n) 0xF0FF00FF v
  | 2 => s.cellsWord n v
  | 3 => s.loopCfgWord n v
  | 4 => s.rackSeqWord n v
  | 5 => s.wrMasked (R.PIPE_GRAPH_SHADOW (n / 20) (n % 20)) (graphMask (n % 20)) v
  | 6 => s.wrMasked (R.PIPE_TMPL_SHADOW (n / 16) (n % 16)) 0x9F00000F v
  | 7 => s.wr (R.PIPE_PORT_SHADOW n) v
  | 8 => s.classWord d.pipeMask n v
  | 9 => s.schShadowWord d.table n v
  | 10 => s.wrMasked (R.LANE_PORT_SHADOW n) 0xF800FFFF v
  | _ => s

def State.shadowWords (d : Desc) : Nat → List Word → State → State
  | _, [], s => s
  | n, v :: l, s => State.shadowWords d (n + 1) l (s.shadowWord d n v)

/-- What a write does beside its words: FAB_MAP and FAB_CELLS clear SOLVED and end a running request with STALE (R54); a packet
target clears SEALED, PKT_SEAL sets it (R59). -/
def State.shadowMarks (s : State) (d : Desc) : State :=
  if d.target ≤ 2 then (s.setF R.FAB_SOLVE_STATUS F.FAB_SOLVE_STATUS_SOLVED 0).solveCut 0x0105
  else if d.domain = 2 then s.setF R.FAB_PKT_SHADOW F.FAB_PKT_SHADOW_SEALED (bnat (d.target == 11))
  else s

/-- A SHADOW_WRITE that nothing holds back: every word, or none (R319). -/
def State.shadowDone (s : State) (r : Req) (d : Desc) (buf : Buf) : State :=
  ((State.shadowWords d d.first (d.data buf) s).shadowMarks d).finish r 0 [] 0 false

/-- θ of TIM_OFFSET: words 0 and 1, low word first, two's complement (R318). -/
def Desc.theta (d : Desc) : Int := signedOf 64 (d.le 32 8)

/-- A SHADOW_WRITE as its row starts it: refused, done at once, or waiting behind a rack of its domain (R66). -/
def State.shadowWrite (s : State) (d : Desc) (buf : Buf) (r : Req) : State :=
  match s.shadowRefusal d with
  | some c => s.finish r c [] 0 false
  | none =>
    if d.target = 12 then
      (s.servoSample d.first (!s.flag (R.TIM_SERVO_CFG d.first) F.TIM_SERVO_CFG_SRC && !s.tbFollows d.first) d.theta).finish r 0 [] 0 false
    else if s.racking d.domain then { s with rack := { s.rack with waiting := s.rack.waiting ++ [.shadow r d buf] } }
    else s.shadowDone r d buf

/-- A SHADOW_WRITE descriptor of one target. -/
def State.shadowRow (s : State) (sq : Fin 32) (d : Desc) (buf : Buf) (target : Nat) : State :=
  s.launch sq d (d.opcode == 1 && d.target == target) d.needsBuf buf.ok fun r s => s.shadowWrite d buf r

/-! ### Rows -/

/-- SHADOW_WRITE_FAB_MAP (R54, R317 to R319). -/
def execShadowWriteFabMap (sq : Fin 32) (d : Desc) (buf : Buf) (s : State) : Out := .next (s.shadowRow sq d buf 1)
/-- SHADOW_WRITE_FAB_CELLS (R54). -/
def execShadowWriteFabCells (sq : Fin 32) (d : Desc) (buf : Buf) (s : State) : Out := .next (s.shadowRow sq d buf 2)
/-- SHADOW_WRITE_LOOP_CFG (R121, R138). -/
def execShadowWriteLoopCfg (sq : Fin 32) (d : Desc) (buf : Buf) (s : State) : Out := .next (s.shadowRow sq d buf 3)
/-- SHADOW_WRITE_RACK_SEQ (R158). -/
def execShadowWriteRackSeq (sq : Fin 32) (d : Desc) (buf : Buf) (s : State) : Out := .next (s.shadowRow sq d buf 4)
/-- SHADOW_WRITE_PIPE_GRAPH (R184). -/
def execShadowWritePipeGraph (sq : Fin 32) (d : Desc) (buf : Buf) (s : State) : Out := .next (s.shadowRow sq d buf 5)
/-- SHADOW_WRITE_PIPE_TMPL (R189). -/
def execShadowWritePipeTmpl (sq : Fin 32) (d : Desc) (buf : Buf) (s : State) : Out := .next (s.shadowRow sq d buf 6)
/-- SHADOW_WRITE_PIPE_PORT (R206). -/
def execShadowWritePipePort (sq : Fin 32) (d : Desc) (buf : Buf) (s : State) : Out := .next (s.shadowRow sq d buf 7)
/-- SHADOW_WRITE_PIPE_CLASS (R226). -/
def execShadowWritePipeClass (sq : Fin 32) (d : Desc) (buf : Buf) (s : State) : Out := .next (s.shadowRow sq d buf 8)
/-- SHADOW_WRITE_SCH (R260). -/
def execShadowWriteSch (sq : Fin 32) (d : Desc) (buf : Buf) (s : State) : Out := .next (s.shadowRow sq d buf 9)
/-- SHADOW_WRITE_LANE_PORT (R283). -/
def execShadowWriteLanePort (sq : Fin 32) (d : Desc) (buf : Buf) (s : State) : Out := .next (s.shadowRow sq d buf 10)
/-- PKT_SEAL (R59). -/
def execPktSeal (sq : Fin 32) (d : Desc) (s : State) : Out := .next (s.shadowRow sq d ⟨true, []⟩ 11)
/-- TIM_OFFSET (R267): a host offset sample reaches the servo of its time base. -/
def execTimOffset (sq : Fin 32) (d : Desc) (s : State) : Out := .next (s.shadowRow sq d ⟨true, []⟩ 12)

end Sys2Proof.Machine
end

