-- ==== Sys2Proof/Machine/Rack.lean ====
section
/-! DEFINITION. Racking: triggers, admission, prepare, the commit window, the commit tick, withdrawal, and fault re-solves
(04_racking.md R59 to R86; 02_fabric.md R32, R36; 03_routing.md R48 to R50; 07_sequencers.md R146, R156 to R158). -/

namespace Sys2Proof.Machine

open Solver (Conn tracePath)

/-! ### Instants -/

/-- Move on to the first boundary tick at or after now. -/
def State.toTick (s : State) : State := { s with now := cdiv s.now tickNs * tickNs }

/-- Move on to the first boundary tick that is after t, and not before now (R62). -/
def State.toTickAfter (s : State) (t : Nat) : State :=
  { s with now := max ((t / tickNs + 1) * tickNs) (cdiv s.now tickNs * tickNs) }

/-! ### Calibration of an element coming into force (R173) -/

/-- The staged curve, DAC values and channel skew of ELx come into force. -/
def State.elemCalIn (s : State) (x : Nat) : State :=
  let s := if (s.rd (R.CAL_CURVE x 0)).getLsbD 30 then
      let s := s.copyRange (R.CAL_STAGE x 0) (R.CAL_CURVE x 0) 32
      let s := s.wr (R.CAL_CURVE x 0) (s.rd (R.CAL_CURVE x 0) &&& ~~~ 0x40000000#32)
      s.resetRange (R.CAL_STAGE x 0) 32
    else s
  let s := forUp (fun r s =>
    match Tab.get (fun _ => none) s.cal.dac (3 * x + r) with
    | some w => { s.wr (R.CAL_DAC x r) w with cal := { s.cal with dac := Tab.set (fun _ => none) s.cal.dac (3 * x + r) none } }
    | none => s) 3 0 s
  match Tab.get (fun _ => none) s.cal.chSkew x with
  | some w => { s.wr (R.CAL_CH_SKEW x) w with cal := { s.cal with chSkew := Tab.set (fun _ => none) s.cal.chSkew x none } }
  | none => s

/-! ### What a rack brings -/

/-- The image, map, and omitted inputs a rack of the fabric domain brings: its repair image for a fault rack (R81). -/
def State.newImg (s : State) (t : Trig) : Nat := if t.src = .fault then s.fab.repair.toNat else s.fab.shadow.toNat
def State.newMap (s : State) (t : Trig) : List Word := if t.src = .fault then s.activeMap else s.shadowMap
def State.newOmit (s : State) (t : Trig) : BitVec 256 :=
  if t.src = .fault then s.fab.repairOmit ||| s.fab.activeDark else s.fab.shadowOmit

/-- Connections that carry light after the rack (R32, R45, R49). -/
def State.newCarried (s : State) (t : Trig) : List Conn :=
  (Solver.conns (s.newMap t)).filter fun c => !(s.newOmit t).getLsbD c.inp && !s.downIn c.inp && !s.downOut c.out

/-- A connection that the rack neither adds, nor removes, nor moves. -/
def sameConn (old new : Nat) (l : List Conn) (c : Conn) : Bool :=
  l.any (fun d => d.inp == c.inp && d.out == c.out) && tracePath old c.inp == tracePath new c.inp

/-- The largest 14-bit code whose square does not exceed n. -/
def codeSqrt (n : Int) : Nat :=
  [13, 12, 11, 10, 9, 8, 7, 6, 5, 4, 3, 2, 1, 0].foldl
    (fun r b => if (((r + 2 ^ b) * (r + 2 ^ b) : Nat) : Int) ≤ n then r + 2 ^ b else r) 0

/-- The change of the square of the H code of cell i that makes its balance step (R73): heater power c² · R / 67,108,864 µW, with R
in 0.01 Ω, falls by the dissipation of the F element when the cell goes to cross, and rises by it when it goes to bar. -/
def State.balance (s : State) (i : Nat) (toCross : Bool) : Int :=
  let d : Int := bits (s.rd (R.CAL_CURVE (cellF i) 7)).toNat 0 16
  let r : Int := bits (s.rd (R.CAL_CURVE (cellH i) 7)).toNat 0 16
  let k : Int := d * 67108864 / r
  if toCross then -k else k

/-- The code of VOm for ATTEN d (R75). -/
def State.voCode (s : State) (x d : Nat) : Nat :=
  if d = 0 then s.key1 x else if d = 200 then s.key2 x else Config.attenCode x d % 16384

def attenOf (map : List Word) (n : Nat) : Nat := bits (nth 0 map n).toNat 0 8

/-- Every port of a standby is dark (R450). -/
def State.pairDark (s : State) : Bool := s.mode == .shadow || s.fld R.PAIR_STATUS F.PAIR_STATUS_ROLE == 2

/-- The moves of a rack of the fabric domain (R75), with the values active now (R174). A standby moves no
attenuator (R450). -/
def State.movesOf (s : State) (t : Trig) : List RackMove :=
  let img := s.newImg t
  let old := s.fab.active.toNat
  let was := s.carriedConns
  let is := s.newCarried t
  let lit := !s.pairDark
  let gone := was.filter fun c => lit && !sameConn old img is c
  let come := is.filter fun c => lit && !sameConn old img was c
  let kept := is.filter fun c => lit && sameConn old img was c
  let cells := (List.range cellCount).filter fun i => old.testBit i != img.testBit i
  let map := s.newMap t
  let step := kept.filter fun c => attenOf map c.inp != attenOf s.activeMap c.inp
  (gone.flatMap fun c => [⟨elemVI c.inp, 0, 0⟩, ⟨elemVO c.out, 0, 0⟩]) ++
  (cells.map fun i => if img.testBit i then ⟨cellF i, 1, s.key1 (cellF i)⟩ else ⟨cellF i, 2, 0⟩) ++
  (cells.map fun i => ⟨cellH i, 3, s.balance i (img.testBit i)⟩) ++
  (come.flatMap fun c =>
    [⟨elemVI c.inp, 4, s.key1 (elemVI c.inp)⟩, ⟨elemVO c.out, 4, s.voCode (elemVO c.out) (attenOf map c.inp)⟩]) ++
  step.map fun c => ⟨elemVO c.out, 5, s.voCode (elemVO c.out) (attenOf map c.inp)⟩

/-! ### Drive sequences (R75, R156, R157) -/

/-- The segments of a drive sequence from segment i, where it ends within n of them and is resident (R157). -/
def State.rackChain (s : State) : Nat → Nat → Option (List Nat)
  | 0, _ => none
  | n + 1, i =>
    let w0 := s.rd (R.SEQ_RACK_SEG i 0)
    let w1 := s.rd (R.SEQ_RACK_SEG i 1)
    if segSource w0 ≠ 0 ∨ 4096 < segStart w1 + segLen w1 then none
    else match segJmp w0 with
      | 3 => some [i]
      | 1 => (State.rackChain s n (segTarget w0)).map (i :: ·)
      | _ => (State.rackChain s n ((i + 1) % 4096)).map (i :: ·)

/-- The drive sequence of kind k as segments; none where it is not resident. -/
def State.kindChain (s : State) (k : Nat) : Option (List Nat) :=
  if s.flag (R.SEQ_RACK_KIND k) F.SEQ_RACK_KIND_VALID then s.rackChain 16 (s.fld (R.SEQ_RACK_KIND k) F.SEQ_RACK_KIND_FIRST)
  else none

/-- The sample words of kind k, in order. -/
def State.kindSamples (s : State) (k : Nat) : List Nat :=
  ((s.kindChain k).getD []).flatMap fun i =>
    let w1 := s.rd (R.SEQ_RACK_SEG i 1)
    (upFrom (segStart w1) (segLen w1)).map fun a => (s.rd (R.SEQ_RACK_SAMPLE a)).toNat

/-- The drive of one element: its final code, its loop's last code plus its balance step, OD_PCT and OD_LEN. -/
structure Play where
  x : Nat
  final : Nat
  loop : Nat
  pct : Nat
  odLen : Nat
  deriving DecidableEq, Repr

/-- The code of a sample word (R156). -/
def Play.code (p : Play) (w : Nat) : Nat :=
  match bits w 30 2 with
  | 0 => bits w 16 14
  | 1 => p.final
  | 2 => min 16383 (p.final * (100 + p.pct) / 100)
  | _ => p.loop

/-- Play samples for an element until its phase ends, left in 1/64 cycle. -/
def State.playOn (p : Play) : List Nat → Nat → State → State
  | [], _, s => s
  | w :: l, left, s =>
    let s := s.writeCode p.x byRackSeq (p.code w)
    let d := bits w 0 16
    let d := if d = 0xFFFF then p.odLen else d
    if bits w 0 16 = 0 ∨ left ≤ d then s else State.playOn p l (left - d) s

/-- Cell index of an element of a cell; group of its edge (R76). -/
def edgeGroup (x : Nat) : Nat :=
  match elemOf x with
  | .cell i => i % 8
  | _ => 0

/-- Length of the phase of a move from its edge, in 1/64 cycle (R76). -/
def phaseLeft (ts : Word) (m : RackMove) : Nat :=
  let gap := F.FAB_RACK_TS_GROUP_GAP.get ts
  if m.kind = 0 then 64 * F.FAB_RACK_TS_BLANK.get ts
  else if m.kind < 4 then 7 * gap + 64 * F.FAB_RACK_TS_F_SETTLE.get ts - edgeGroup m.x * gap
  else 64 * F.FAB_RACK_TS_UNBLANK.get ts

/-- The rack sequencer drives one element, from its edge to the end of its phase. -/
def State.drive1 (s : State) (ts : Word) (m : RackMove) (left : Nat) : State :=
  let c := (s.lx m.x).loopCode
  let bal := if m.kind = 3 then codeSqrt ((c * c : Nat) + m.val) else c
  let p : Play :=
    { x := m.x, final := if m.kind = 3 then bal else m.val.toNat, loop := bal, pct := F.FAB_RACK_TS_OD_PCT.get ts,
      odLen := F.FAB_RACK_TS_OD_LEN.get ts }
  State.playOn p (s.kindSamples m.kind) left s

/-- The rack sequencer takes elements (R125, R128): block sequences that drive any of them end with TAKEN_BY_RACK (R146). -/
def State.takeForRack (s : State) (xs : List Nat) : State :=
  let s := forUp (fun q s =>
    let keep := (s.seqSt q).targets.filter fun x => xs.contains x
    if s.seqState q < 2 ∨ keep = [] then s
    else
      let s := s.endSeq q 3 keep
      keep.foldl (fun s x => s.setLx x { s.lx x with taken := true }) s) 16 0 s
  xs.foldl (fun s x => s.takeElem x byRackSeq) s

/-! ### Port states and dark ports (R32, R36, R450) -/

/-- FAB_IN_STATE or FAB_OUT_STATE of the port p of connection c, the port at its other end being q (R36). -/
def State.portWord (s : State) (c : Conn) (peer : Nat) : Nat :=
  if s.fab.activeOmit.getLsbD c.inp then 2 ^ 13
  else
    let tap (n : Nat) : Nat := bnat (decide (224 ≤ n))
    let st := 1 + tap c.inp + tap c.out
    bnat (!s.carries c) * 2 ^ 12 + peer * 16 + (tracePath s.fab.active.toNat c.inp).plane * 8 + st

/-- PORT_STATE_UPDATE (R36): every port state register, from the active set. -/
def State.showPorts (s : State) : State :=
  let v := (s.rd R.FAB_VINTAGE_FABRIC).toNat % 65536 * 65536
  let cs := Solver.conns s.activeMap
  let find (p : Conn → Bool) (peer : Conn → Nat) : Nat := match cs.find? p with
    | some c => s.portWord c (peer c)
    | none => 0
  forUp (fun n s =>
    let s := s.wr (R.FAB_IN_STATE n) (BitVec.ofNat 32 (v + find (fun c => c.inp == n) Conn.out))
    s.wr (R.FAB_OUT_STATE n) (BitVec.ofNat 32 (v + find (fun c => c.out == n) Conn.inp))) 256 0 s

/-- The attenuator of ELx follows whether its port is dark (R32, R93). -/
def State.darkHold (s : State) (x : Nat) (lit : Bool) : State :=
  if lit then (if bitOf (s.hold x) 0 then s.unhold x 1 else s)
  else if bitOf (s.hold x) 0 then s else s.parkHold x 1

/-- The connections whose ports are lit (R32, R450). -/
def State.litConns (s : State) : List Conn := if s.pairDark then [] else s.carriedConns

/-- Every attenuator of a dark port is parked (R32). -/
def State.darkPorts (s : State) : State :=
  let cs := s.litConns
  let ins := Solver.portMask (cs.map Conn.inp)
  let outs := Solver.portMask (cs.map Conn.out)
  forUp (fun n s => (s.darkHold (elemVI n) (ins.getLsbD n)).darkHold (elemVO n) (outs.getLsbD n)) 256 0 s

/-- Inputs of the connections carried over a failed cell. -/
def State.lostInputs (s : State) : List Nat :=
  let g := s.given
  (s.carriedConns.filter fun c => !g.keeps c).map Conn.inp

/-- Connections stay dark after a re-solve that brought no image (R48), or an isolation without one (R49). -/
def State.goDark (s : State) (l : List Nat) : State :=
  let s := { s with fab := { s.fab with activeDark := s.fab.activeDark ||| Solver.portMask l } }
  s.darkPorts.showPorts

/-! ### Status and outcomes (R82, R86) -/

/-- SOURCE of FAB_RACK_STATUS. -/
def RackSrc.code : RackSrc → Nat
  | .rack => 0
  | .rackAfter => 0
  | .event => 1
  | .fault => 2
  | .mirror => 3

def State.setRack (s : State) (f : RackSt → RackSt) : State := { s with rack := f s.rack }

/-- PHASE and PENDING follow the rack, the pending trigger and the deferred one. -/
def State.showRack (s : State) : State :=
  let ph := match s.rack.run with
    | some r => if r.window then 3 else if r.missed then 2 else 1
    | none => if s.rack.deferred.isSome then 4 else 0
  (s.setF R.FAB_RACK_STATUS F.FAB_RACK_STATUS_PHASE ph).setF R.FAB_RACK_STATUS F.FAB_RACK_STATUS_PENDING
    (bnat s.rack.pendingTrig.isSome)

/-- SOURCE, DOMAINS, TSET and TRIES describe a rack or trigger. -/
def State.describe (s : State) (t : Trig) (domains tset : Nat) : State :=
  let o := R.FAB_RACK_STATUS
  let s := (s.setF o F.FAB_RACK_STATUS_SOURCE t.src.code).setF o F.FAB_RACK_STATUS_DOMAINS domains
  (s.setF o F.FAB_RACK_STATUS_TSET tset).setF o F.FAB_RACK_STATUS_TRIES 0

/-- The handling of the records that the last re-solve served ends now (R384). -/
def State.resolveDone (s : State) : State :=
  let l := s.fab.served
  let s := { s with flt := { s.flt with recs := s.flt.recs.map fun (e : Nat × Option FRec) =>
      (e.1, e.2.map fun (r : FRec) => if l.contains r.seq then { r with until_ := some (r.until_.getD s.now) } else r) } }
  { s with fab := { s.fab with served := [] } }

/-- The outcome of a rack or trigger: LAST_RESULT, the completion of a request, or attention class RACK (R82, R320). -/
def State.outcomeOf (s : State) (t : Trig) (result : Nat) : State :=
  let s := s.showRack.setF R.FAB_RACK_STATUS F.FAB_RACK_STATUS_LAST_RESULT result
  match t.src with
  | .rack =>
    let last := if result = 0x0224 then s.rd R.FAB_RACK_SKEWED else s.rd R.FAB_RACK_UNPREPARED
    s.finishOpt t.req result ((s.opWords 3).take 3 ++ [last]) false
  | .rackAfter => s.finishOpt t.req result (s.opWords 2) true
  | .mirror => if result = 0 then s else s.attn 3
  | .event => s.attn 3
  | .fault => (if result = 0 ∨ result = 0x0224 then s.attn 3 else (s.attn 3).goDark s.lostInputs).resolveDone

/-- A trigger that becomes no rack ends with a result. -/
def State.endTrig (s : State) (t : Trig) (result domains tset : Nat) : State :=
  (if s.rack.run.isNone then s.describe t domains tset else s).outcomeOf t result

/-- A trigger is refused at its trigger tick or at admission. -/
def State.refuseTrig (s : State) (t : Trig) (result : Nat) : State :=
  let s := s.count R.FAB_RACK_COUNTS F.FAB_RACK_COUNTS_REFUSALS 1
  if result = 0x0209 then s.endTrig t result 0 0 else s.endTrig t result t.domains t.tset

/-- SHADOW_EVAL of every pipeline (R194). -/
def State.shadowEval (s : State) (b : Bool) : State :=
  forUp (fun n s => s.setF (R.PIPE_STATUS n) F.PIPE_STATUS_SHADOW_EVAL (bnat b)) 4 0 s

/-- What waited behind the rack is carried out (R66). -/
def State.carryWaiting (s : State) : State :=
  let l := s.rack.waiting
  let s := s.setRack fun r => { r with waiting := [] }
  l.foldl (fun s w =>
    match w with
    | .shadow r d buf => s.shadowDone r d buf
    | .solve r => s.solveArrive r) s

/-! ### Pre-bias (R73, R74) -/

/-- The pre-biased elements of a rack. -/
def RackRun.biased (r : RackRun) : List Nat := if r.prebiased then (r.plan.filter fun m => m.kind == 3).map RackMove.x else []

/-- One pre-biased element is driven back to its loop's last code and returns to the state it had. -/
def State.rollBack (s : State) (x : Nat) : State :=
  let s := s.writeCode x byRackSeq (s.lx x).loopCode
  let r := s.lx x
  if r.taken then (s.setLx x { r with taken := false }).beginHandover x
  else if r.prior = 0 then (s.setLoopState x 0).park x
  else s.setLoopState x r.prior

/-- Roll-back of every pre-biased element. -/
def State.rollBackAll (s : State) (r : RackRun) : State := r.biased.foldl State.rollBack s

/-! ### Ends without commit -/

/-- A rack ends without commit: pre-bias is rolled back, the units discard what they staged, the waiting requests are carried out. -/
def State.endRack (s : State) (r : RackRun) (result : Nat) : State :=
  let s := s.rollBackAll r
  let s := if r.trig.domains / 2 = 1 then s.shadowEval false else s
  let s := s.setRack fun k => { k with run := none, endedAt := s.now }
  let s := s.count R.FAB_RACK_COUNTS F.FAB_RACK_COUNTS_ABORTS 1
  ((s.outcomeOf r.trig result).fireP 178 r.trig.path).carryWaiting

/-- SAFE, LATCH or a fault re-solve pre-empts: the rack before its commit point ends with PREEMPTED (R84). -/
def State.preempt (s : State) : State :=
  match s.rack.run with
  | some r => if r.window then s else s.endRack r 0x0223
  | none => s

/-- The deferred trigger ends with a result (R85). -/
def State.refuseDeferred (s : State) (result : Nat) : State :=
  match s.rack.deferred with
  | some (t, _) => (s.setRack fun k => { k with deferred := none }).refuseTrig t result
  | none => s

/-! ### Triggers and admission -/

/-- A rack of this source may run in the current mode (R17). -/
def State.rackMode (s : State) (src : RackSrc) : Bool :=
  match s.mode with
  | .serve => src != .mirror
  | .limp => src != .mirror
  | .shadow => src == .mirror || src == .fault
  | _ => false

/-- The first admission check that fails (R59, R63, R77, R82). -/
def State.admission (s : State) (t : Trig) : Option Nat :=
  let fabric := t.domains % 2 = 1 ∧ t.src ≠ .fault
  let packet := t.domains / 2 = 1
  let vf := (s.rd R.FAB_VINTAGE_FABRIC).toNat
  let vp := (s.rd R.FAB_VINTAGE_PACKET).toNat
  let expectBad := match t.expect with
    | some (f, p) => (t.domains % 2 = 1 && f != vf) || (t.domains / 2 = 1 && p != vp)
    | none => false
  if !s.rackMode t.src then some 0x0206
  else if fabric ∧ !s.flag R.FAB_SOLVE_STATUS F.FAB_SOLVE_STATUS_SOLVED then some 0x0201
  else if fabric ∧ (s.rd R.FAB_SOLVE_BASE).toNat ≠ vf then some 0x0202
  else if expectBad then some 0x0203
  else if packet ∧ !s.flag R.FAB_PKT_SHADOW F.FAB_PKT_SHADOW_SEALED then some 0x0204
  else if !s.flag (R.FAB_RACK_TS t.tset) F.FAB_RACK_TS_VALID then some 0x0205
  else none

/-- Units of the domains, but loop blocks isolated before the trigger tick (R68). -/
def State.rackUnits (s : State) (domains : Nat) : Nat :=
  (if domains % 2 = 1 then (0xFFFF ^^^ (s.fab.isoBlocks.toNat)) + 0x10000 else 0) + (if domains / 2 = 1 then 0x7E0000 else 0)

/-- A repair image and the inputs it leaves dark are held (R48, R81). -/
def State.setRepair (s : State) (img : Nat) (om : List Nat) : State :=
  let carried := s.carriedConns.filter fun c => !om.contains c.inp
  { s with fab := { s.fab with
      repair := BitVec.ofNat 4352 img, repairLive := BitVec.ofNat 4352 (Solver.liveMask img carried),
      repairOmit := s.fab.activeOmit ||| Solver.portMask om, repairBase := (s.rd R.FAB_VINTAGE_FABRIC).toNat } }

/-- A fault rack admitted after another commit works from the new active map (R84). -/
def State.freshRepair (s : State) (t : Trig) : State :=
  if t.src ≠ .fault ∨ s.fab.repairBase = (s.rd R.FAB_VINTAGE_FABRIC).toNat then s
  else
    let (img, om) := s.given.resolve
    s.setRepair img om

/-- Admission at the trigger tick, and the start of prepare (R67). -/
def State.admitRack (s : State) (t : Trig) : State :=
  match s.admission t with
  | some c => s.refuseTrig t c
  | none =>
    let s := s.freshRepair t
    let plan := if t.domains % 2 = 1 then s.movesOf t else []
    let run : RackRun :=
      { trig := t, ts := s.rd (R.FAB_RACK_TS t.tset), t0 := s.now, units := s.rackUnits t.domains, ready := 0, go := false, window := false, prebiased := false,
        missed := false, plan := plan }
    let s := (s.describe t t.domains t.tset).setRack fun k => { k with run := some run }
    let s := if t.domains / 2 = 1 then s.shadowEval true else s
    s.showRack.fireP 176 t.path

/-- DOMAINS or TSET of R63 not allowed. -/
def Trig.bad (t : Trig) : Bool := t.domains == 0 || decide (3 < t.domains) || decide (3 < t.tset)

/-- A trigger at its trigger tick: refused, pending, deferred, or admitted (R65, R82, R85). -/
def State.takeTrig (s : State) (t : Trig) : State :=
  if t.bad then s.refuseTrig t 0x0209
  else if s.rack.run.isSome then
    (if s.rack.pendingTrig.isSome then s.refuseTrig t 0x0207
    else if s.rack.deferred.isSome ∧ t.src ≠ .fault then s.refuseTrig t 0x0208
    else (s.setRack fun k => { k with pendingTrig := some t }).showRack)
  else if s.rack.deferred.isSome ∧ t.src ≠ .fault then s.refuseTrig t 0x0208
  else
    let soon : Bool := match s.rack.lastCommit with
      | some c => decide (s.now < c + 100000)
      | none => false
    if s.mode = .limp ∧ t.src ≠ .fault ∧ soon then
      (s.setRack fun k => { k with deferred := some (t, s.rack.lastCommit.getD 0 + 100000) }).showRack
    else s.admitRack t

/-- Triggers of one tick, in the order of R65. -/
def rackOrder (l : List Trig) : List Trig :=
  [RackSrc.fault, .mirror, .event, .rackAfter, .rack].flatMap fun k => l.filter fun t => t.src == k

/-- The pending trigger is judged at the tick now reached. -/
def State.judgePending (s : State) : State :=
  match s.rack.run, s.rack.pendingTrig with
  | none, some t => ((s.setRack fun k => { k with pendingTrig := none }).showRack).takeTrig t
  | _, _ => s

/-- The boundary tick after an instant. -/
def tickAfter (t : Nat) : Nat := (t / tickNs + 1) * tickNs

/-- A mode change goes before a rack judged at tick t (R17): one in prepare, or a request whose trigger tick is not later. -/
def State.modeAhead (s : State) (t : Nat) : Bool :=
  s.start.change.isSome || s.start.queue.any fun r => decide (r.at_ < t)

/-- RACK_TRIGGER_TICK (R62, R65): the first boundary tick after a trigger reached the fabric controller. One that arrives during the
prepare of a mode change waits for its commit tick (R17). -/
def execRackTriggerTick (s : State) : Out :=
  .next (match s.rack.arrived with
  | t :: _ =>
    if s.modeAhead (tickAfter t.at_) then s
    else
      let s := s.toTickAfter t.at_
      let s := s.judgePending
      let due (k : Trig) : Bool := decide (k.at_ < s.now) && !s.modeAhead (tickAfter k.at_)
      let l := s.rack.arrived.filter due
      let s := s.setRack fun k => { k with arrived := k.arrived.filter fun a => !due a }
      (rackOrder l).foldl State.takeTrig s
  | [] => s)

/-- PENDING_TRIGGER_JUDGED (R65): at the first boundary tick after a rack's commit tick or abort. -/
def execPendingTriggerJudged (s : State) : Out :=
  .next (match s.rack.run, s.rack.pendingTrig with
  | none, some t => if s.modeAhead (tickAfter t.at_) then s else (s.toTickAfter s.rack.endedAt).judgePending
  | _, _ => s)

/-- LIMP_DEFERRAL_END (R85): the deferred trigger is taken at the first boundary tick 100 µs after the previous commit tick. -/
def execLimpDeferralEnd (s : State) : Out :=
  .next (match s.rack.deferred with
  | some (t, at_) =>
    if s.modeAhead at_ then s
    else
      let s := ({ s with now := max s.now at_ }).toTick
      ((s.setRack fun k => { k with deferred := none }).showRack).takeTrig t
  | none => s)

/-! ### Requests -/

/-- RACK (R63) with OP 0: a trigger for the named domains and timing set. -/
def execRack (sq : Fin 32) (d : Desc) (s : State) : Out :=
  .next (s.launch sq d (d.opcode == 3 && d.byte 20 == 0) false true fun r s =>
    s.trigger { src := .rack, req := some r, domains := d.byte 21, tset := d.byte 22,
                expect := if bitOf (d.byte 23) 0 then some (d.le 24 4, d.le 28 4) else none, vint := none, path := [], at_ := 0 })

/-- A withdraw acts on racks and triggers of this source (R83). -/
def RackSrc.withdrawable (k : RackSrc) : Bool := k != .fault && k != .mirror

/-- R83: what a withdraw ends, and its result. -/
def State.withdraw (s : State) : State × Nat :=
  let (late, a, s) := match s.rack.run with
    | some r => if !r.trig.src.withdrawable then (false, false, s)
      else if r.window then (true, false, s) else (false, true, s.endRack r 0x0221)
    | none => (false, false, s)
  let (b, s) := match s.rack.pendingTrig with
    | some t => if t.src.withdrawable then
        (true, (s.setRack fun k => { k with pendingTrig := none }).endTrig t 0x0221 t.domains t.tset) else (false, s)
    | none => (false, s)
  let (c, s) := match s.rack.deferred with
    | some (t, _) => if t.src.withdrawable then
        (true, (s.setRack fun k => { k with deferred := none }).endTrig t 0x0221 t.domains t.tset) else (false, s)
    | none => (false, s)
  (s, if a || b || c then 0 else if late then 0x0231 else 0x0232)

/-- RACK_WITHDRAW (R83): a RACK request with OP 1. -/
def execRackWithdraw (sq : Fin 32) (d : Desc) (s : State) : Out :=
  .next (s.launch sq d (d.opcode == 3 && d.byte 20 == 1) false true fun r s =>
    let (s, c) := s.withdraw
    s.finish r c (s.opWords 3) 0 false)

/-- WITHDRAW_WRITE (R83): a write of 1 to FAB_RACK_CTRL.WITHDRAW. -/
def execWithdrawWrite (s : State) : Out := .next s.withdraw.1

/-! ### Prepare (R69, R73) -/

/-- What unit u finds in prepare: a result that refuses the rack, or none (R82). -/
def State.unitRefusal (s : State) (r : RackRun) (u : Nat) : State × Option Nat :=
  let packet (o : Nat) (cause index : Fld) (c : Option (Nat × Nat)) : State × Option Nat :=
    match c with
    | some (k, i) => ((s.setF o cause k).setF o index i, some 0x0213)
    | none => (s, none)
  if u < 16 then (s, if r.trig.src ≠ .fault ∧ s.overBudget u then some 0x0212 else none)
  else if u = 16 then
    let kinds := (List.range 6).filter fun k => r.plan.any fun m => m.kind == k
    let s := kinds.foldl (fun s k => s.setF (R.SEQ_RACK_KIND k) F.SEQ_RACK_KIND_RESIDENT (bnat (s.kindChain k).isSome)) s
    let bad := kinds.any (fun k => (s.kindChain k).isNone) ||
      r.plan.any fun m => s.fld (R.DRV_CH_CFG m.x) F.DRV_CH_CFG_RANGE == 0
    (s, if bad then some 0x0211 else none)
  else if u < 21 then
    packet (R.PIPE_PREP_STATUS (u - 17)) F.PIPE_PREP_STATUS_CAUSE F.PIPE_PREP_STATUS_INDEX (s.pipeCheck (u - 17))
  else if u = 21 then
    packet R.SCH_PREP_STATUS F.SCH_PREP_STATUS_CAUSE F.SCH_PREP_STATUS_INDEX
      (schCheck s.pk.schShadow fun p => s.rd (R.LANE_PORT_SHADOW p))
  else packet R.LANE_PREP_STATUS F.LANE_PREP_STATUS_CAUSE F.LANE_PREP_STATUS_PORT s.portPrepare

/-- Run-ahead pre-bias (R73): every H element of a changing cell takes its balance step. -/
def State.prebias (s : State) (r : RackRun) : State :=
  let ms := r.plan.filter fun m => m.kind == 3
  let s := s.takeForRack (ms.map RackMove.x)
  let left := 4608 + 64 * F.FAB_RACK_TS_BLANK.get r.ts
  let s := ms.foldl (fun s m => s.drive1 r.ts m left) s
  s.setRack fun k => { k with run := k.run.map fun r => { r with prebiased := true } }

/-- Prepare of a rack (R69): unit u of the mask of R68 ends its prepare with a ready report, or refuses, which aborts the rack. An
isolated rack sequencer never reports (R160). -/
def State.rackReport (s : State) (u : Fin 23) : State :=
  match s.rack.run with
  | some r =>
    if r.window || !bitOf r.units u || bitOf r.ready u || (u.val == 16 && s.rack.seqIso) then s
    else
      let (s, c) := s.unitRefusal r u
      match c with
      | some c => (s.wr R.FAB_RACK_UNPREPARED (BitVec.ofNat 32 (2 ^ u.val))).endRack r c
      | none =>
        let s := s.setRack fun k => { k with run := some { r with ready := r.ready ||| 2 ^ u.val } }
        if u.val = 16 ∧ F.FAB_RACK_TS_PREBIAS_EN.get r.ts ≠ 0 ∧ !r.missed then s.prebias r else s
  | none => s

/-- Ready collection of a rack (R69, R74): 360 ns before a boundary tick. With a report missing, TRIES counts, and pre-bias is rolled back. -/
def State.rackReady (s : State) : State :=
  match s.rack.run with
  | some r =>
    if r.window ∨ s.now < r.t0 ∨ s.restarting 2 then s
    else
      let s := s.at_ 640
      if r.units &&& r.ready = r.units then s.setRack fun k => { k with run := some { r with go := true } }
      else
        let s := (s.rollBackAll r).count R.FAB_RACK_STATUS F.FAB_RACK_STATUS_TRIES 1
        (s.setRack fun k => { k with run := some { r with go := false, missed := true, prebiased := false } }).showRack
  | none => s

/-- Deadline of a rack (R69): no commit point within DEADLINE of the trigger tick. -/
def State.rackTimeout (s : State) : State :=
  match s.rack.run with
  | some r =>
    let dl := max 2 (s.fld R.FAB_RACK_CTRL F.FAB_RACK_CTRL_DEADLINE)
    if r.window ∨ s.now < r.t0 + dl * 1000 then s
    else (s.wr R.FAB_RACK_UNPREPARED (BitVec.ofNat 32 (r.units ^^^ (r.units &&& r.ready)))).endRack r 0x0222
  | none => s

/-! ### The commit window (R70, R75, R76) -/

/-- The moves of one phase, in the order of their edges. -/
def State.drivePhase (s : State) (ts : Word) (ms : List RackMove) : State :=
  ms.foldl (fun s m => s.drive1 ts m (phaseLeft ts m)) s

/-- An attenuator opened from the park hold of a dark port leaves it through the Open drive (R93), unless its connection has gone
dark by isolation since. -/
def State.openHold (s : State) (t : Trig) (m : RackMove) : State :=
  if m.kind = 4 ∧ (s.newCarried t).any (fun c => elemVI c.inp == m.x || elemVO c.out == m.x) then s.unhold m.x 1 else s

/-- A running block sequence with a target whose cell the rack makes live, and no target the rack drives, writes no more (R146). -/
def State.muteLive (s : State) (t : Trig) : State :=
  let live := Solver.liveMask (s.newImg t) (s.newCarried t)
  forUp (fun q s =>
    let becomes (x : Nat) : Bool := match elemOf x with
      | .cell i => live.testBit i
      | _ => false
    if 2 ≤ s.seqState q ∧ (s.seqSt q).targets.any becomes then s.setSeqSt q { s.seqSt q with mute := true } else s) 16 0 s

/-- The rack sequencer's part of the commit window: Blank, Switch in its eight groups, Unblank. -/
def State.driveWindow (s : State) (r : RackRun) : State :=
  let t := r.trig
  let s := s.takeForRack ((r.plan.map RackMove.x).eraseDups)
  let s := s.muteLive t
  let s := s.drivePhase r.ts (r.plan.filter fun m => m.kind == 0)
  let s := forUp (fun g s =>
    s.drivePhase r.ts (r.plan.filter fun m =>
      (m.kind == 1 || m.kind == 2 || (m.kind == 3 && !r.prebiased)) && edgeGroup m.x == g)) 8 0 s
  let s := r.plan.foldl (fun s m => s.openHold t m) s
  s.drivePhase r.ts (r.plan.filter fun m => decide (4 ≤ m.kind))

/-- Commit point of a rack (R70): the commit point, 296 ns before a boundary tick, when every unit has reported. -/
def State.rackBroadcast (s : State) : State :=
  match s.rack.run with
  | some r =>
    if r.window || !r.go || s.restarting 2 then s
    else
      let s := s.at_ 704
      let s := s.driveWindow r
      (s.setRack fun k => { k with run := k.run.map fun r => { r with window := true } }).showRack
  | none => s

/-! ### The commit tick (R36, R60, R61, R71) -/

/-- The register windows of a domain: active set, shadow set, length. -/
def fabricWindows : List (Nat × Nat × Nat) := [(0x100800, 0x100400, 0x400), (0x480000, 0x640000, 1769472)]
def packetWindows : List (Nat × Nat × Nat) :=
  [(0xC01000, 0xC01200, 0x180), (0xC02000, 0xC02400, 0x200), (0xC10000, 0xC14000, 0x4000), (0xF03000, 0xF03200, 0x180)]

def State.swapWindows (s : State) (l : List (Nat × Nat × Nat)) : State := l.foldl (fun s w => s.swapRange w.1 w.2.1 w.2.2) s

/-- The active rack set as shadow words (R318): segments, samples, and kinds as VALID and FIRST. -/
def State.rackActive (s : State) : Tab Word :=
  let part (lo n base : Nat) : Tab Word :=
    (Tab.slice lo n s.regs).map fun e => (base + e.1 / 4, if base = 12288 then e.2 &&& 0x80000FFF#32 else e.2)
  (part (R.SEQ_RACK_SEG 0 0) 32768 0 ++ part (R.SEQ_RACK_SAMPLE 0) 16384 8192 ++ part (R.SEQ_RACK_KIND 0) 24 12288).filter fun e => e.2 != 0

/-- Put rack words into force; RESIDENT is kept. -/
def State.setRackActive (s : State) (l : Tab Word) : State :=
  let s := (s.resetRange (R.SEQ_RACK_SEG 0 0) 32768).resetRange (R.SEQ_RACK_SAMPLE 0) 16384
  let s := forUp (fun k s => s.wr (R.SEQ_RACK_KIND k) (s.rd (R.SEQ_RACK_KIND k) &&& 0x40000000#32)) 6 0 s
  l.foldl (fun s e =>
    if e.1 < 8192 then s.wr (R.SEQ_RACK_SEG 0 0 + 4 * e.1) e.2
    else if e.1 < 12288 then s.wr (R.SEQ_RACK_SAMPLE (e.1 - 8192)) e.2
    else s.wr (R.SEQ_RACK_KIND (e.1 - 12288)) (s.rd (R.SEQ_RACK_KIND (e.1 - 12288)) ||| e.2)) s

/-- The rack set in force and its shadow change places (R158). -/
def State.swapRackSeq (s : State) : State :=
  let old := s.rackActive
  let s := s.setRackActive s.seq.rackShadow
  { s with seq := { s.seq with rackShadow := old } }

/-- The next vintage (R60). -/
def nextVintage (v : Word) : Word := if v = 0xFFFFFFFF#32 then 1 else v + 1

/-- Tap receivers whose light the change takes away or gives. -/
def State.tapLight (s : State) (was : List Conn) : State :=
  let before := Solver.portMask (was.map Conn.out)
  let after := Solver.portMask (s.litConns.map Conn.out)
  forUp (fun k s =>
    if before.getLsbD (224 + k) = after.getLsbD (224 + k) then s else s.tapFabric k (!after.getLsbD (224 + k))) 32 0 s

/-- The reference loss of the output at the end of a move to be measured 10 ms from now (R393). -/
def State.lossDueAt (s : State) (m : Nat) : State :=
  { s with flt := { s.flt with
      commitRefLoss := Tab.set (fun _ => none) s.flt.commitRefLoss m none,
      lossDue := Tab.set (fun _ => none) s.flt.lossDue m (some (s.now + 10000000)) } }

/-- The set and image of the fabric domain change: a swap, or the repair image of a fault rack with the loop words of the cells it
changes (R61, R81, R121). -/
def State.applyFabric (s : State) (r : RackRun) : State :=
  let f := s.fab
  if r.trig.src = .fault then
    let cells := (List.range cellCount).filter fun i => f.active.getLsbD i != f.repair.getLsbD i
    let s := { s with fab := { f with active := f.repair, activeLive := f.repairLive, activeOmit := f.repairOmit } }
    cells.foldl (fun s i => s.setLoopWords R.LOOP_ACTIVE_CFG (cellF i) (s.fWords (cellF i) (f.repair.getLsbD i))) s
  else
    let s := (s.swapWindows fabricWindows).swapRackSeq
    let s := { s with fab := { s.fab with
        active := f.shadow, shadow := f.active, activeLive := f.shadowLive, shadowLive := f.activeLive,
        activeOmit := f.shadowOmit, shadowOmit := f.activeOmit, activeDark := 0 } }
    s.setF R.FAB_SOLVE_STATUS F.FAB_SOLVE_STATUS_SOLVED 0

/-- The fabric vintage of a rack (R60). -/
def State.fabricVintage (s : State) (t : Trig) : Word :=
  let v := s.rd R.FAB_VINTAGE_FABRIC
  match t.vint with
  | some (f, _) => BitVec.ofNat 32 f
  | none => if t.src = .fault ∧ s.mode = .shadow then v else nextVintage v

/-- Loops at a commit tick of the fabric domain: elements of the rack sequencer are handed over, and each loop follows its record (R71,
R120, R125, R134); w0 gives word 0 of each former record. -/
def State.loopsAtCommit (s : State) (w0 : Nat → Nat) : State :=
  let held := (s.loop.x.filter fun e => e.2.owner == byRackSeq && e.2.ho.isNone).map (·.1)
  let s := held.foldl (fun s x => (s.setLx x { s.lx x with taken := false }).beginHandover x) s
  forUp (fun x s => s.loopAtCommit x (w0 x)) 9216 0 s

/-- Block sequences muted at the commit point end with TAKEN_BY_RACK (R146). -/
def State.endMuted (s : State) : State :=
  forUp (fun q s => if (s.seqSt q).mute ∧ 2 ≤ s.seqState q then s.endSeq q 3 [] else s) 16 0 s

/-- Every unit of the fabric domain applies its part. -/
def State.commitFabric (s : State) (r : RackRun) : State :=
  let was := s.litConns
  let regs := s.regs
  let w0 (x : Nat) : Nat := (Tab.get resetOf regs (R.LOOP_ACTIVE_CFG x 0)).toNat
  let s := s.wr R.FAB_VINTAGE_FABRIC (s.fabricVintage r.trig)
  let s := s.applyFabric r
  let s := (r.plan.map RackMove.x).foldl (fun s x => s.elemCalIn x) s
  let s := (s.loopsAtCommit w0).endMuted
  let s := (s.darkPorts.showPorts).tapLight was
  (r.plan.filter fun m => decide (4 ≤ m.kind)).foldl (fun s m =>
    match elemOf m.x with
    | .vo n => s.lossDueAt n
    | _ => s) s

/-- Every unit of the packet domain applies its part. -/
def State.commitPacket (s : State) (t : Trig) : State :=
  let regs := s.regs
  let old (p : Nat) : Word := Tab.get resetOf regs (R.LANE_PORT_ACTIVE p)
  let oldSch := s.pk.sch
  let v := match t.vint with
    | some (_, p) => BitVec.ofNat 32 p
    | none => nextVintage (s.rd R.FAB_VINTAGE_PACKET)
  let s := (s.wr R.FAB_VINTAGE_PACKET v).swapWindows packetWindows
  let s := { s with pk := { s.pk with
      cls := s.pk.clsShadow, clsShadow := s.pk.cls, sch := s.pk.schShadow, schShadow := s.pk.sch } }
  let s := s.setF R.FAB_PKT_SHADOW F.FAB_PKT_SHADOW_SEALED 0
  let s := forUp (fun n s => s.setF (R.PIPE_STATUS n) F.PIPE_STATUS_VINTAGE_LO (v.toNat % 65536)) 4 0 (s.shadowEval false)
  ((s.applyPortRecords old).coopApply oldSch).replayAll

/-- FAB_RACK_STAMP takes the commit tick on STAMP_TB (R71). -/
def State.stampRack (s : State) : State :=
  let v := s.tbNow (s.fld R.FAB_RACK_CTRL F.FAB_RACK_CTRL_STAMP_TB)
  (s.wr R.FAB_RACK_STAMP_LO (BitVec.ofNat 32 (tbNs v))).wr R.FAB_RACK_STAMP_HI (BitVec.ofNat 32 (tbSec v))

/-- The committed set as the mirror carries it (R445, R446): the active windows, at the places of the shadow ones. -/
def State.mirrorSet (s : State) : MirrorRec :=
  let regs := (fabricWindows ++ packetWindows).flatMap fun w => (Tab.slice w.1 w.2.2 s.regs).map fun e => (w.2.1 + e.1, e.2)
  .set regs s.rackActive s.pk.cls s.pk.sch (s.rd R.FAB_VINTAGE_FABRIC).toNat (s.rd R.FAB_VINTAGE_PACKET).toNat

/-- The result of a rack that committed: a mirror rack with omitted connections answers MIRROR_PARTIAL (R446). -/
def State.okResult (s : State) (t : Trig) : Nat := if t.src = .mirror ∧ s.fab.activeOmit ≠ 0 then 0x0241 else 0

/-- COMMIT_TICK (R71): every participating unit applies its staged part. late: units that do not confirm within 128 ns; a unit isolated
since the commit point is not checked (R72). The completion is written when the result is known. -/
def execCommitTick (late : BitVec 23) (s : State) : Out :=
  .next (match s.rack.run with
  | some r =>
    if !r.window then s
    else
      let t := r.trig
      let s := s.toTick
      let s := if t.domains % 2 = 1 then s.commitFabric r else s
      let s := if t.domains / 2 = 1 then s.commitPacket t else s
      let s := s.stampRack
      let s := s.wr R.FAB_RACK_COMMITS (s.rd R.FAB_RACK_COMMITS + 1)
      let mask := (late.toNat &&& r.units) &&& (0x7FFFFF ^^^ s.fab.isoBlocks.toNat)
      let s := s.setRack fun k =>
        { k with run := none, endedAt := s.now, lastCommit := some s.now, confirmed := if mask = 0 then none else some (t, mask) }
      let s := s.fireP 177 t.path
      let s := if t.src = .fault then s.fire 179 else s
      let s := s.mirrorOut s.mirrorSet
      let s := if mask = 0 then s.outcomeOf t (s.okResult t) else s.showRack
      s.carryWaiting.solveNext
  | none => s)

/-- COMMIT_SKEW (R72): units that have not confirmed the apply 128 ns after the commit tick. -/
def execCommitSkew (s : State) : Out :=
  .next (match s.rack.confirmed with
  | some (t, mask) =>
    let s := s.wr R.FAB_RACK_SKEWED (BitVec.ofNat 32 mask)
    let s := (s.setRack fun k => { k with confirmed := none }).raiseD 226 0 mask 0 0 []
    s.outcomeOf t 0x0224
  | none => s)

/-! ### Fault re-solves (R48 to R50, R81, R84) -/

/-- A fault re-solve may start now: no fault rack or mirror rack in progress, and no rack past its commit point (R84). -/
def State.resolveFree (s : State) : Bool :=
  match s.rack.run with
  | some r => r.trig.src.withdrawable && !r.window
  | none => !s.rack.arrived.any fun t => t.src == .fault

/-- FAULT_RESOLVE_START (R48): a fault re-solve starts for the records that wait for one, or restarts with them. It ends a host rack
before its commit point (R84) and pre-empts a host solve (R50). During a warm start it waits for its end (R432), and for a restarting
fabric processor (R328). -/
def execFaultResolveStart (s : State) : Out :=
  .next (match s.fab.resolveDue, s.fab.resolve with
  | [], _ => s
  | due, some r => { s with fab := { s.fab with resolve := some ⟨r.seqs ++ due⟩, resolveDue := [] } }
  | due, none =>
    if s.mode = .start ∨ s.restarting 2 then s
    else if !s.rackMode .fault then ((({ s with fab := { s.fab with resolveDue := [], served := s.fab.served ++ due } }).goDark s.lostInputs).resolveDone)
    else if s.resolveFree then
      let s := s.preempt
      ({ s with fab := { s.fab with resolve := some ⟨due⟩, resolveDue := [] } }).showSolver
    else s)

/-- FAULT_RESOLVE_RESULT (R48): the re-solve ends with a checked repair image, which triggers a fault rack, or leaves the displaced
connections dark. forced: the checker disagrees with the image (an error of the hardware, R52). -/
def execFaultResolveResult (forced : Option (Fin 256 × Fin 5)) (s : State) : Out :=
  .next (match s.fab.resolve with
  | none => s
  | some k =>
    let g := s.given
    let (img, om) := g.resolve
    let carried := s.carriedConns.filter fun c => !om.contains c.inp
    let bad := (Solver.check img g.failed carried).orElse fun _ => forced.map fun e => (e.1.val, e.2.val)
    let s := { s with fab := { s.fab with resolve := none, served := s.fab.served ++ k.seqs } }
    match bad with
    | some (p, c) =>
      ((((s.checkFailed p c).raiseD 225 p c 0 0 []).goDark s.lostInputs).resolveDone).solveNext
    | none =>
      let s := s.setRepair img om
      (s.trigger { src := .fault, req := none, domains := 1, tset := s.fld R.FAB_RACK_CTRL F.FAB_RACK_CTRL_FAULT_TSET,
                   expect := none, vint := none, path := [], at_ := 0 }).showSolver)

/-! ### Port power (R36) -/

/-- Power on the waveguide of element ELx's monitor, in 0.01 dBm, from its monitor code (R28, R101). -/
def State.wavePower (s : State) (x : Nat) : Int := -5200 + ((18 * s.fld (R.DRV_MON x) F.DRV_MON_SAMPLE + 5) / 10 : Nat)

/-- A port monitor has made a reading with its block powered and not isolated. -/
def State.monValid (s : State) (x : Nat) : Bool :=
  s.blkUp (blockOf x) && !s.fab.isoBlocks.getLsbD (blockOf x) && decide (2 ≤ Tab.get (fun _ => 0) s.drive.blkFrames (blockOf x))

/-- One port power register, with the level that its monitor shows. -/
def State.powerReg (s : State) (o x : Nat) (bound : Bool) (level : Int) : State :=
  if !s.monValid x then s.setF o F.FAB_IN_POWER_VALID 0
  else
    let under := s.fld (R.DRV_MON x) F.DRV_MON_SAMPLE < 112
    let above := 2000 < level
    let s := (s.setF o F.FAB_IN_POWER_VALID 1).setF o F.FAB_IN_POWER_BOUND (bnat bound)
    let s := (s.setF o F.FAB_IN_POWER_UNDER (bnat under)).setF o F.FAB_IN_POWER_OVER (bnat above)
    if under ∨ above then s else s.setF o F.FAB_IN_POWER_LEVEL (unsignedOf 16 level)

/-- PORT_POWER_UPDATE (R36): every 1 ms, from the port monitors. An open input reads the monitor plus the calibrated minimum loss of its
attenuator, a parked one the monitor plus 45 dB. -/
def execPortPowerUpdate (s : State) : Out :=
  .next (forUp (fun n s =>
    let vi := elemVI n
    let parked := s.flag (R.DRV_CH_CODE vi) F.DRV_CH_CODE_PARKED
    let loss : Int := if parked then 4500 else (bits (s.rd (R.CAL_CURVE vi 2)).toNat 16 16 : Nat)
    let s := s.powerReg (R.FAB_IN_POWER n) vi parked (s.wavePower vi + loss)
    s.powerReg (R.FAB_OUT_POWER n) (elemVO n) false (s.wavePower (elemVO n))) 256 0 s)

end Sys2Proof.Machine
end

