-- ==== Sys2Proof/Machine/Cal.lean ====
section
/-! DEFINITION. Calibration: tastings, CAL_RUN and the sweep, staging and coming into force, CAL_SAVE and CAL_RESTORE
(08_calibration.md R162 to R181; 05_drive_and_sense.md R104). -/

namespace Sys2Proof.Machine

/-! ### Items and their eligibility (R162, R165 to R175) -/

/-- Items of a kind: elements, channels, global banks, slices, sequencers, tap ports, lanes, the oscillator (R175). -/
def calCount (k : Nat) : Nat := nth 0 [9216, 9216, 9216, 48, 8, 17, 32, 66, 1] k

/-- Index of the channel skew of ELx among the items of KIND 5, after the sequencers. -/
def chSkewItem (x : Nat) : Nat := 17 + x

/-- The fabric cell of an element is idle (R30). -/
def State.idleElem (s : State) (x : Nat) : Bool :=
  match elemOf x with
  | .cell i => !s.liveCell i
  | _ => false

/-- A channel whose output stage may be diverted (R169). -/
def State.divertible (s : State) (x : Nat) : Bool :=
  s.loopState x == 0 || (elemKind x == .attenuator && s.hold x != 0)

/-- A lane is up: its port is. -/
def State.laneUp (s : State) (x : Nat) : Bool :=
  if x < 64 then s.portUp (s.portOfLane x) else s.flag R.PAIR_STATUS F.PAIR_STATUS_LINK

/-- An item may be tasted now. -/
def State.calEligible (s : State) (ref10m : Bool) (e : Nat × Nat) : Bool :=
  let i := e.2
  match e.1 with
  | 0 => s.idleElem i && !s.elemIso i
  | 1 => s.loopState i == 2
  | 2 => s.divertible i
  | 3 => !s.flag (R.DRV_BANK_STATUS i) F.DRV_BANK_STATUS_NO_SPARE
  | 4 => true
  | 5 => decide (i < 17) || s.divertible (i - 17)
  | 6 => s.fld (R.FAB_IN_STATE (224 + i)) F.FAB_IN_STATE_STATE == 0 && s.fld (R.FAB_OUT_STATE (224 + i)) F.FAB_OUT_STATE_STATE == 0 &&
         s.mode_ (64 + i) == 0
  | 7 => !s.laneUp i
  | _ => ref10m

/-- Items of a run of one kind over [first, first + n): an ELEMENT tasting serves both elements of a cell, and is named by its H. -/
def runItems (k first n : Nat) : List (Nat × Nat) :=
  let l := upFrom first n
  if k = 0 then ((l.map fun x => if elemKind x = .shifter then x - 1 else x).eraseDups).map fun x => (0, x)
  else l.map fun i => (k, i)

/-- Items of stage b of a sweep (R176): a block, or at 16 the sequencers. -/
def State.sweepItems (s : State) (b : Nat) : List (Nat × Nat) :=
  if 16 ≤ b then (upFrom 0 17).map fun q => (5, q)
  else
    let xs := upFrom (576 * b) 576
    let chans := (xs.filter s.divertible).flatMap fun x => [(2, x), (5, chSkewItem x)]
    let cells := (List.range cellCount).filter fun i => blockOf (cellH i) == b && !s.liveCell i
    let held := xs.filter fun x => s.loopState x == 2 && (elemKind x == .attenuator || s.liveElem x)
    chans ++ (cells.map fun i => (0, cellH i)) ++ held.map fun x => (1, x)

/-! ### Runs (R175 to R177) -/

/-- CAL_STATUS follows the run. -/
def State.showCal (s : State) : State :=
  let (k, b) := match s.cal.run with
    | some r => (r.kind, r.block)
    | none => (15, 0)
  let o := R.CAL_STATUS
  let sweep := s.cal.run.isSome && k == 15
  ((s.setF o F.CAL_STATUS_KIND k).setF o F.CAL_STATUS_SWEEP (bnat sweep)).setF o F.CAL_STATUS_BLOCK (if sweep then min b 15 else 0)

/-- A run ends with a result, and its request completes. -/
def State.endRun (s : State) (r : CalRun) (result : Nat) : State :=
  let s := ({ s with cal := { s.cal with run := none, tries := [] } }).showCal
  (s.setF R.CAL_STATUS F.CAL_STATUS_LAST_RESULT result).finish r.req result (s.opWords 6) 0 false

/-- A run goes on, or ends where nothing is left: OK when every item was accepted, else PARTIAL. -/
def State.runOn : Nat → CalRun → State → State
  | 0, r, s => { s with cal := { s.cal with run := some r } }
  | n + 1, r, s =>
    if r.items ≠ [] then ({ s with cal := { s.cal with run := some r } }).showCal
    else if r.kind = 15 ∧ r.block < 16 then State.runOn n { r with block := r.block + 1, items := s.sweepItems (r.block + 1) } s
    else
      let clean := (s.rd R.CAL_SWEEP_DONE).toNat < 65536 && s.rd R.CAL_SWEEP_SKIPS == 0 && !r.left
      s.endRun r (if clean then 0 else 1)

/-- KIND, FIRST or COUNT not allowed. -/
def Desc.calBad (d : Desc) : Bool :=
  let k := d.byte 21
  (decide (8 < k) && k != 15) ||
    (k != 15 && d.count != 0 && decide (calCount k < d.first + d.count))

/-- Start, Safe and Dormant allow no run. -/
def State.calMode (s : State) : Bool := s.mode == .serve || s.mode == .limp || s.mode == .shadow

/-- CAL_RUN with OP 0 (R175). -/
def State.calRun (s : State) (d : Desc) (ref10m : Bool) (r : Req) : State :=
  let bad (c : Nat) : State := (s.setF R.CAL_STATUS F.CAL_STATUS_LAST_RESULT c).finish r c (s.opWords 6) 0 false
  let k := d.byte 21
  if s.cal.run.isSome then bad 0x0301
  else if d.calBad then bad 0x0302
  else if !s.calMode then bad 0x0306
  else
    let all := if k = 15 then s.sweepItems 0 else if d.count = 0 then runItems k 0 (calCount k) else runItems k d.first d.count
    let items := all.filter (s.calEligible ref10m)
    if k ≠ 15 ∧ items = [] then bad 0x0303
    else
      let s := (s.wr R.CAL_SWEEP_DONE 0).wr R.CAL_SWEEP_SKIPS 0
      let s := { s with cal := { s.cal with tries := [] } }
      State.runOn 17 { req := r, kind := k, items := items, block := 0, left := items.length != all.length, ref10m := ref10m } s

/-- CAL_RUN (R175) with OP 0. ref10m: the 10 MHz reference is present (R172). -/
def execCalRun (sq : Fin 32) (d : Desc) (ref10m : Bool) (s : State) : Out :=
  .next (s.launch sq d (d.opcode == 6 && d.byte 20 == 0) false true fun r s => s.calRun d ref10m r)

/-- CAL_RUN_ABORT (R175): CAL_RUN with OP 1. -/
def execCalRunAbort (sq : Fin 32) (d : Desc) (s : State) : Out :=
  .next (s.launch sq d (d.opcode == 6 && d.byte 20 == 1) false true fun r s =>
    match s.cal.run with
    | some run =>
      let s := s.endRun run 0x0304
      s.finish r 0 (s.opWords 6) 0 false
    | none => s.finish r 0x0307 (s.opWords 6) 0 false)

/-! ### Staging (R173) -/

/-- A register of one word shows that a staged value waits. -/
def State.stagedBit (s : State) (o bit : Nat) : State := s.wr o (s.rd o ||| BitVec.ofNat 32 (2 ^ bit))

/-- A curve record is staged. -/
def State.stageCurve (s : State) (x : Nat) (ws : List Word) : State :=
  let s := forUp (fun w s => s.wr (R.CAL_STAGE x w) (nth 0 ws w)) 8 0 s
  s.stagedBit (R.CAL_CURVE x 0) 30

def State.stageDac (s : State) (x r : Nat) (w : Word) : State :=
  ({ s with cal := { s.cal with dac := Tab.set (fun _ => none) s.cal.dac (3 * x + r) (some w) } }).stagedBit (R.CAL_DAC x r) 30
def State.stageChSkew (s : State) (x : Nat) (w : Word) : State :=
  ({ s with cal := { s.cal with chSkew := Tab.set (fun _ => none) s.cal.chSkew x (some w) } }).stagedBit (R.CAL_CH_SKEW x) 30
def State.stageSlice (s : State) (n p : Nat) (w : Word) : State :=
  ({ s with cal := { s.cal with slice := Tab.set (fun _ => none) s.cal.slice (32 * n + p) (some w) } }).stagedBit (R.CAL_SLICE n p) 29
def State.stageHk (s : State) (m : Nat) (w : Word) : State :=
  ({ s with cal := { s.cal with hk := Tab.set (fun _ => none) s.cal.hk m (some w) } }).stagedBit (R.CAL_HK m) 29
def State.stageSeqSkew (s : State) (q : Nat) (w : Word) : State :=
  { s with cal := { s.cal with seqSkew := Tab.set (fun _ => none) s.cal.seqSkew q (some w) } }
def State.stageTap (s : State) (k : Nat) (w : Word) : State :=
  ({ s with cal := { s.cal with tap := Tab.set (fun _ => none) s.cal.tap k (some w) } }).stagedBit (R.CAL_TAP k) 30
def State.stageLane (s : State) (x : Nat) (w : Word × Word) : State :=
  ({ s with cal := { s.cal with lane := Tab.set (fun _ => none) s.cal.lane x (some w) } }).stagedBit (R.LANE_EQ_CTRL x) 30
def State.stageOsc (s : State) (w : Word) : State := ({ s with cal := { s.cal with osc := some w } }).stagedBit R.CAL_OSC 30

/-- ELx may take its staged values at a loop-frame start. -/
def State.elemFree (s : State) (x : Nat) : Bool :=
  (s.idleElem x || (elemKind x == .attenuator && bitOf (s.hold x) 0)) && s.loopState x != 3 && (s.lx x).ho.isNone

/-- Slice p of bank n enters service by a swap at this tick. -/
def State.sliceEnters (s : State) (n p : Nat) : Bool :=
  let b := s.bank n
  b.lastSwap == s.now && nth 25 b.map ((s.fld (R.DRV_BANK_STATUS n) F.DRV_BANK_STATUS_NEXT_POS + 23) % 24) == p

/-- STAGED_VALUE_IN_FORCE (R173): at the first instant that the item allows. -/
def execStagedValueInForce (item : CalItem) (s : State) : Out :=
  let atTick := s.now % tickNs = 0
  .next (match item with
  | .elem x => if atTick ∧ s.tickCount % 8 = 0 ∧ s.elemFree x then s.elemCalIn x else s
  | .slice n p =>
    match Tab.get (fun _ => none) s.cal.slice (32 * n.val + p.val) with
    | some w => if s.sliceEnters n p then
        { s.wr (R.CAL_SLICE n p) w with cal := { s.cal with slice := Tab.set (fun _ => none) s.cal.slice (32 * n.val + p.val) none } }
      else s
    | none => s
  | .hk m =>
    match Tab.get (fun _ => none) s.cal.hk m.val with
    | some w => if (s.hkSlice m).pos = some 0 then
        { s.wr (R.CAL_HK m) w with cal := { s.cal with hk := Tab.set (fun _ => none) s.cal.hk m.val none } }
      else s
    | none => s
  | .seqSkew q =>
    let busy := (List.range 16).any (fun q => s.seqState q != 0) || (s.rack.run.map RackRun.window).getD false
    match Tab.get (fun _ => none) s.cal.seqSkew q.val with
    | some w => if atTick ∧ !busy then
        { s.wr (R.SEQ_SKEW q) w with cal := { s.cal with seqSkew := Tab.set (fun _ => none) s.cal.seqSkew q.val none } }
      else s
    | none => s
  | .osc =>
    match s.cal.osc with
    | some w => if atTick then { s.wr R.CAL_OSC w with cal := { s.cal with osc := none } } else s
    | none => s)

/-- Staged values that have not come into force are discarded (R177). -/
def State.dropStaged (s : State) : State :=
  let clr (bit : Nat) (s : State) (o : Nat) : State := s.wr o (s.rd o &&& ~~~ (BitVec.ofNat 32 (2 ^ bit)))
  let s := s.cal.dac.foldl (fun s e => clr 30 s (R.CAL_DAC (e.1 / 3) (e.1 % 3))) s
  let s := s.cal.chSkew.foldl (fun s e => clr 30 s (R.CAL_CH_SKEW e.1)) s
  let s := s.cal.slice.foldl (fun s e => clr 29 s (R.CAL_SLICE (e.1 / 32) (e.1 % 32))) s
  let s := s.cal.hk.foldl (fun s e => clr 29 s (R.CAL_HK e.1)) s
  let s := s.cal.tap.foldl (fun s e => clr 30 s (R.CAL_TAP e.1)) s
  let s := s.cal.lane.foldl (fun s e => clr 30 s (R.LANE_EQ_CTRL e.1)) s
  let s := if s.cal.osc.isSome then clr 30 s R.CAL_OSC else s
  let xs := ((Tab.slice (R.CAL_STAGE 0 0) 294912 s.regs).map fun e => e.1 / 32).eraseDups
  let s := xs.foldl (fun s x => clr 30 s (R.CAL_CURVE x 0)) s
  let s := s.resetRange (R.CAL_STAGE 0 0) 294912
  { s with cal := { CalSt.zero with run := s.cal.run, tries := s.cal.tries } }

/-- INTERRUPTED (R177): the run ends, and staged values are discarded. -/
def State.calInterrupt (s : State) : State :=
  let s := match s.cal.run with
    | some r => s.endRun r 0x0305
    | none => s
  s.dropStaged

/-! ### Tastings (R163, R164) -/

/-- How much two measurements of one value may differ, as (num, den) of |difference| · num ≤ AGREE · den; none: no figure. -/
def agreeOf (k : Nat) : List (Option (Nat × Nat)) :=
  let elem := [some (5, 6), none] ++ List.replicate 8 (some (1000, 4096)) ++ [none]
  match k with
  | 0 => elem ++ elem
  | 1 => [some (5, 6), some (1000, 4096), some (1000, 4096), none]
  | 2 => [some (1, 1), some (32768, 100000), some (1, 1), some (32768, 100000), some (1, 1), some (32768, 100000)]
  | 3 => [some (1, 1), some (1, 1)]
  | 4 => [some (1, 1), some (1, 1)]
  | 5 => [some (1, 1), some (1, 1)]
  | 6 => [none, none, some (1, 1)]
  | 7 => [none, none, none, none, none, some (1, 1)]
  | _ => [some (1, 1)]

/-- M1 and M2 agree (R163). -/
def agrees (agree : Nat) : List (Option (Nat × Nat)) → List Int → List Int → Bool
  | w :: ws, a :: as, b :: bs =>
    (match w with
      | some (n, d) => decide ((a - b).natAbs * n ≤ agree * d)
      | none => true) && agrees agree ws as bs
  | _, _, _ => true

/-- The mean of M1 and M2, in 1/m of the unit the register holds. -/
def meanOf (m : Nat) (a b : Int) : Int := divRound (a + b) (2 * m)

/-- The quality figure of a tasting: the extinction ratio and the eye width are among the measured values. -/
def qualityOf (k : Nat) (m1 m2 : List Int) (q : Nat) : Nat :=
  if k = 6 then (meanOf 1 (nth 0 m1 2) (nth 0 m2 2)).toNat
  else if k = 7 then (meanOf 1 (nth 0 m1 5) (nth 0 m2 5)).toNat
  else q

/-- The quality figure is within ACCEPT (R163). -/
def State.accepts (s : State) (k q : Nat) : Bool :=
  let a := s.fld (R.CAL_TOL k) F.CAL_TOL_ACCEPT
  if k = 6 ∨ k = 7 then decide (a ≤ q) else decide (q ≤ a)

/-- Word 0 of a new curve record: SOURCE, QUALITY in mrad, node temperature (R181). -/
def State.curveHead (s : State) (x source q : Nat) : Word :=
  BitVec.ofNat 32 (source * 2 ^ 28 + min q 0xFFF * 65536 + unsignedOf 16 (asr (s.nodeTM (blockOf x)) 16))

/-- The curve record of R181 from the eleven values of an ELEMENT tasting. -/
def State.elemRecord (s : State) (x q : Nat) (v : List Int) : List Word :=
  let u (i w : Nat) : Nat := unsignedOf w (nth 0 v i)
  let bp (i : Nat) : Word := BitVec.ofNat 32 (u (2 + 2 * i) 16 + 65536 * u (3 + 2 * i) 16)
  [s.curveHead x 0 q, BitVec.ofNat 32 (u 0 14), BitVec.ofNat 32 (u 1 16), bp 0, bp 1, bp 2, bp 3, BitVec.ofNat 32 (u 10 16)]

/-- A breakpoint of a record replaced. -/
def putBp (ws : List Word) (i v : Nat) : List Word :=
  let w := (nth 0 ws (3 + i / 2)).toNat
  setNth ws (3 + i / 2) (BitVec.ofNat 32 (if i % 2 = 0 then w / 65536 * 65536 + v else w % 65536 + v * 65536))

/-- A LOOP_HELD tasting: the key code, the breakpoints on either side of it, and MIN_LOSS of an attenuator (R168). -/
def State.heldRecord (s : State) (x q : Nat) (v : List Int) : List Word :=
  let u (i w : Nat) : Nat := unsignedOf w (nth 0 v i)
  let ws := (List.range 8).map fun w => s.rd (R.CAL_CURVE x w)
  let key := u 0 14
  let ws := setNth ws 0 (s.curveHead x 1 q)
  let ws := setNth ws 1 (BitVec.ofNat 32 ((nth 0 ws 1).toNat / 65536 * 65536 + key))
  let ws := if 2048 ≤ key then putBp ws (key / 2048 - 1) (u 1 16) else ws
  let ws := putBp ws (key / 2048) (u 2 16)
  if elemKind x = .attenuator then setNth ws 2 (BitVec.ofNat 32 ((nth 0 ws 2).toNat % 65536 + u 3 16 * 65536)) else ws

/-- An accepted result is staged (R163, R173). -/
def State.stageResult (s : State) (k i slice q : Nat) (m1 m2 : List Int) : State :=
  let mean (m j : Nat) : Int := meanOf m (nth 0 m1 j) (nth 0 m2 j)
  let all := (List.range 22).map (mean 1)
  let conv (gainW : Nat) (j : Nat) : Nat := unsignedOf gainW (mean (if gainW = 12 then 1 else 2) (j + 1)) * 256 + unsignedOf 8 (mean 2 j)
  match k with
  | 0 => (s.stageCurve i (s.elemRecord i q all)).stageCurve (i + 1) (s.elemRecord (i + 1) q (all.drop 11))
  | 1 => s.stageCurve i (s.heldRecord i q all)
  | 2 => forUp (fun r s => s.stageDac i r (BitVec.ofNat 32 (min q 0x3FF * 2 ^ 20 + conv 12 (2 * r)))) 3 0 s
  | 3 => s.stageSlice i slice (BitVec.ofNat 32 (min q 255 * 65536 + conv 8 0) ||| (s.rd (R.CAL_SLICE i slice) &&& 0x40000000#32))
  | 4 => s.stageHk i (BitVec.ofNat 32 (min q 255 * 65536 + conv 8 0))
  | 5 =>
    let corr := unsignedOf 6 (clampInt (-32) 31 (mean 1 1))
    if i < 17 then s.stageSeqSkew i (BitVec.ofNat 32 (unsignedOf 8 (mean 1 0) * 256 + corr))
    else s.stageChSkew (i - 17) (BitVec.ofNat 32 (min q 255 * 256 + corr))
  | 6 => s.stageTap i (BitVec.ofNat 32 (min q 255 * 65536 + unsignedOf 8 (mean 1 1) * 256 + unsignedOf 8 (mean 1 0)))
  | 7 =>
    let taps := (List.range 4).foldl (fun a t => a + unsignedOf 8 (mean 1 (t + 1)) * 256 ^ t) 0
    s.stageLane i (BitVec.ofNat 32 (min q 63 * 2 ^ 24 + unsignedOf 8 (mean 1 0)), BitVec.ofNat 32 taps)
  | _ => s.stageOsc (BitVec.ofNat 32 (unsignedOf 24 (mean 1 0)))

/-- A slice fails its tasting (R104): retired; a serving one is replaced by the spare; without a spare its elements lose their
monitor. -/
def State.retireSlice (s : State) (n p : Nat) : State :=
  let o := R.DRV_BANK_STATUS n
  let b := s.bank n
  let spare := s.fld o F.DRV_BANK_STATUS_OUT_SLICE
  let none_ := s.flag o F.DRV_BANK_STATUS_NO_SPARE
  let s := (s.setF (R.CAL_SLICE n p) F.CAL_SLICE_RETIRED 1).setF o F.DRV_BANK_STATUS_NO_SPARE 1
  let b := { b with retired := p :: b.retired }
  let s := s.raise (32 + n / 3) n
  if p = spare then s.setBank n b
  else if none_ then
    let s := s.setBank n b
    let a := b.map.findIdx (· == p)
    forUp (fun k s => s.raise (16 + n / 3) (bankElem n a k)) 8 0 s
  else (s.setBank n { b with map := b.map.map fun q => if q = p then spare else q }).setF o F.DRV_BANK_STATUS_OUT_SLICE p

/-- Attempts made at an item. -/
def State.triesOf (s : State) (e : Nat × Nat) : Nat := ((s.cal.tries.find? fun t => t.1 == e).map (·.2)).getD 0
def State.setTriesOf (s : State) (e : Nat × Nat) (n : Nat) : State :=
  { s with cal := { s.cal with tries := (s.cal.tries.filter fun t => t.1 != e) ++ (if n = 0 then [] else [(e, n)]) } }

/-- The run in progress is done with an item, counted in a field. -/
def State.runItem (s : State) (e : Nat × Nat) (o : Nat) (f : Fld) : State :=
  match s.cal.run with
  | some r =>
    if r.items.contains e then
      State.runOn 17 { r with items := r.items.filter (· != e) } (s.count o f 1)
    else s
  | none => s

/-- The light an ELEMENT tasting needs (R165). -/
def State.tasteLight (s : State) (x : Nat) : Bool :=
  decide (Config.linearPower (s.fld R.CAL_CTRL F.CAL_CTRL_TASTE_LIGHT_MIN) ≤
    Config.linearPower (s.fld (R.DRV_MON x) F.DRV_MON_SAMPLE) + Config.linearPower (s.fld (R.DRV_MON (x + 1)) F.DRV_MON_SAMPLE))

abbrev doneLo : Fld := ⟨0, 16⟩
abbrev doneHi : Fld := ⟨16, 16⟩

/-- A tasting completes with its two measurements: repeated, accepted and staged, or failed (R163). -/
def State.tasted (s : State) (k i slice : Nat) (m1 m2 : List Int) (quality : Nat) : State :=
  let e := (k, i)
  let q := qualityOf k m1 m2 quality
  let ok := agrees (s.fld (R.CAL_TOL k) F.CAL_TOL_AGREE) (agreeOf k) m1 m2
  let tries := s.triesOf e
  if !ok && decide (tries < s.fld R.CAL_CTRL F.CAL_CTRL_RETRIES) then s.setTriesOf e (tries + 1)
  else
    let s := s.setTriesOf e 0
    if ok && s.accepts k q then
      let s := s.stageResult k i slice q m1 m2
      let s := if k = 3 then
          (if slice = s.fld (R.DRV_BANK_STATUS i) F.DRV_BANK_STATUS_OUT_SLICE then
            (s.setBank i { s.bank i with tasted := true }).swapByTime i else s)
        else s
      s.runItem e R.CAL_SWEEP_DONE doneLo
    else
      let s := if k = 3 then s.retireSlice i slice else s.raiseD 227 i k 0 0 []
      s.runItem e R.CAL_SWEEP_DONE doneHi

/-- An item that the device tastes: one of the run in progress, a background slice, or a lane between attempts (R170, R172). -/
def State.tasting (s : State) (k i : Nat) : Bool :=
  (match s.cal.run with
    | some r => r.items.contains (k, i)
    | none => false) ||
  (k == 3 && s.flag R.CAL_CTRL F.CAL_CTRL_BG_EN && !s.flag (R.DRV_BANK_STATUS i) F.DRV_BANK_STATUS_NO_SPARE)

/-- TASTING_MEASUREMENT_DONE (R163): the measurements m1 and m2 of item (kind, index), their values in the order of agreeOf: offsets,
and the gains of converters, in half LSB, everything else in the unit of its register; quality: the figure computed from the mean.
slice: the physical slice of KIND 3. An ELEMENT tasting without light, or on a cell that has become live, is skipped, as is a
LOOP_HELD one of an element that left Hold (R165, R166, R168). -/
def execTastingMeasurementDone (kind : Fin 9) (index : Fin 9233) (slice : Fin 25) (m1 m2 : List Int) (quality : Nat) (s : State) : Out :=
  let k := kind.val
  let i := index.val
  let e := (k, i)
  .next (if !s.tasting k i then s
  else if k = 0 ∧ !s.idleElem i ∨ k = 1 ∧ s.loopState i ≠ 2 then s.runItem e R.CAL_SWEEP_SKIPS doneHi
  else if k = 0 ∧ !s.tasteLight i then s.runItem e R.CAL_SWEEP_SKIPS doneLo
  else s.tasted k i slice m1 m2 quality)

/-- HK_SELF_TASTING (R171): once per second, while no sequence, trigger or injection of the slice is pending. -/
def execHkSelfTasting (m : Fin 8) (m1 m2 : List Int) (quality : Nat) (s : State) : Out :=
  let h := s.hkSlice m
  .next (if h.pos.isNone && !h.pendingTrig && h.inj.isNone && (s.nextInj (.hk m)).isNone then s.tasted 4 m 0 m1 m2 quality else s)

/-! ### Saving and restoring (R179, R180) -/

/-- A record of a calibration image: KIND, INDEX and its words. -/
structure CalRec where
  kind : Nat
  index : Nat
  words : List Word
  deriving DecidableEq, Repr

def CalRec.bytes (r : CalRec) : List Byte :=
  leBytes 1 r.kind ++ leBytes 1 r.words.length ++ leBytes 2 0 ++ leBytes 4 r.index ++ r.words.flatMap wordBytes

/-- The words of an active record: curves; the three ranges of a channel with its skew; the slices of a bank; one register for the
other kinds, two for a lane. -/
def State.calWords (s : State) (k i : Nat) : List Word :=
  match k with
  | 0 => (List.range 8).map fun w => s.rd (R.CAL_CURVE i w)
  | 1 => (List.range 8).map fun w => s.rd (R.CAL_CURVE i w)
  | 2 => ((List.range 3).map fun r => s.rd (R.CAL_DAC i r)) ++ [s.rd (R.CAL_CH_SKEW i)]
  | 3 => (List.range 25).map fun p => s.rd (R.CAL_SLICE i p)
  | 4 => [s.rd (R.CAL_HK i)]
  | 5 => [s.rd (R.SEQ_SKEW i)]
  | 6 => [s.rd (R.CAL_TAP i)]
  | 7 => [s.rd (R.LANE_EQ_CTRL i), s.rd (R.LANE_EQ_DFE i)]
  | _ => [s.rd R.CAL_OSC]

/-- Words of a record of each kind. -/
def calWidth (k : Nat) : Nat := nth 0 [8, 8, 4, 25, 1, 1, 1, 2, 1] k

/-- The records a KIND_MASK asks for; an element's curve is saved once. -/
def State.calRecs (s : State) (mask : Nat) : List CalRec :=
  (List.range 9).flatMap fun k =>
    if bitOf mask k then
      let l := List.range (calCount k)
      let l := if k = 0 then l.filter fun x => elemKind x != .attenuator
        else if k = 1 ∧ bitOf mask 0 then l.filter fun x => elemKind x == .attenuator else l
      l.map fun i => ⟨k, i, s.calWords k i⟩
    else []

/-- The image of R179. -/
def calImage (mask : Nat) (recs : List CalRec) : List Byte :=
  let body := recs.flatMap CalRec.bytes
  let rest := List.replicate 32 0 ++ body
  leBytes 4 0x43414C31 ++ leBytes 2 1 ++ leBytes 2 0x00B1 ++ leBytes 8 Config.uniqueId.toNat ++ leBytes 4 mask ++
    leBytes 4 recs.length ++ leBytes 4 (64 + body.length) ++ leBytes 4 (crc32 rest) ++ rest

/-- A calibration request is turned away with BUSY. -/
def State.calBusy (s : State) : Bool := s.cal.run.isSome || !s.admitted 8

/-- CAL_SAVE (R179). -/
def execCalSave (sq : Fin 32) (d : Desc) (buf : Buf) (s : State) : Out :=
  .next (s.launch sq d (d.opcode == 7) true true fun r s =>
    if s.calBusy then s.finish r 0x0301 [] 0 false
    else
      let mask := d.le 24 4 % 512
      let img := calImage mask (s.calRecs mask)
      let w := [BitVec.ofNat 32 img.length]
      if d.bufLen < img.length then s.finish r 0x0311 w 0 false else s.finishBuf r d buf.ok 0 w img)

/-- The records of an image body; none where one is cut short. -/
def parseRecs : Nat → List Byte → Option (List CalRec)
  | 0, l => if l = [] then some [] else none
  | n + 1, l =>
    let w := ofLe ((l.drop 1).take 1)
    if l.length < 8 + 4 * w then none
    else (parseRecs n (l.drop (8 + 4 * w))).map (⟨ofLe (l.take 1), ofLe ((l.drop 4).take 4), toWords w (l.drop 8)⟩ :: ·)

/-- KIND, INDEX and length of a record within range. -/
def CalRec.ok (r : CalRec) : Bool := decide (r.kind ≤ 8) && decide (r.index < calCount r.kind) && r.words.length == calWidth r.kind

/-- A record is staged, with NOMINAL = 0 and the SOURCE of a restore (R180). -/
def State.restoreRec (s : State) (r : CalRec) : State :=
  let w (i : Nat) : Word := nth 0 r.words i
  let plain (i : Nat) : Word := w i &&& 0x3FFFFFFF#32
  match r.kind with
  | 0 => s.stageCurve r.index (setNth r.words 0 ((plain 0 &&& 0x0FFFFFFF#32) ||| 0x20000000#32))
  | 1 => s.stageCurve r.index (setNth r.words 0 ((plain 0 &&& 0x0FFFFFFF#32) ||| 0x20000000#32))
  | 2 => (forUp (fun k s => s.stageDac r.index k (plain k)) 3 0 s).stageChSkew r.index (plain 3)
  | 3 => forUp (fun p s =>
      s.stageSlice r.index p ((w p &&& 0x00FFFFFF#32) ||| (s.rd (R.CAL_SLICE r.index p) &&& 0x40000000#32))) 25 0 s
  | 4 => s.stageHk r.index (w 0 &&& 0x00FFFFFF#32)
  | 5 => s.stageSeqSkew r.index (w 0 &&& 0x0000FF3F#32)
  | 6 => s.stageTap r.index (plain 0)
  | 7 => s.stageLane r.index (plain 0, w 1)
  | _ => s.stageOsc (plain 0)

/-- Why an image is refused (R180), in the order of the results; else its records. -/
def calParse (force : Bool) (len : Nat) (l : List Byte) : Nat ⊕ List CalRec :=
  let f (i n : Nat) : Nat := ofLe ((l.drop i).take n)
  let size := f 24 4
  if len < 64 ∨ f 0 4 ≠ 0x43414C31 ∨ f 4 2 ≠ 1 ∨ 655360 < size ∨ len < size ∨ size < 64 ∨
      f 28 4 ≠ crc32 ((l.take size).drop 32) then .inl 0x0321
  else match parseRecs (f 20 4) ((l.take size).drop 64) with
    | none => .inl 0x0322
    | some rs =>
      if !rs.all CalRec.ok then .inl 0x0322
      else if !force && f 8 8 != Config.uniqueId.toNat then .inl 0x0323
      else .inr rs

/-- CAL_RESTORE (R180): the whole image is checked, then staged record by record. -/
def execCalRestore (sq : Fin 32) (d : Desc) (buf : Buf) (s : State) : Out :=
  .next (s.launch sq d (d.opcode == 8) true buf.ok fun r s =>
    if s.calBusy then s.finish r 0x0301 [] 0 false
    else match calParse (bitOf (d.byte 20) 0) d.bufLen buf.data with
      | .inl c => s.finish r c [] 0 false
      | .inr rs => (rs.foldl State.restoreRec s).finish r 0 [BitVec.ofNat 32 rs.length] 0 false)

end Sys2Proof.Machine
end

