-- ==== Sys2Proof/Machine/Table.lean ====
section
/-! DEFINITION. Forwarding tables and the longest-prefix memory: insertion by displacement chains, stash, rehash, learning, ageing,
and TABLE_OP (10_tables.md R207 to R235). -/

namespace Sys2Proof.Machine

/-! ### Counts, stash and attention reasons -/

def State.stash (s : State) (n : Nat) : List FEntry := Tab.get (fun _ => []) s.pk.stash n

/-- TBL_STATUS_n.REASON takes a value; class TABLE follows (R217, R320). -/
def State.setReason (s : State) (n r : Nat) : State :=
  let s := s.setF (R.TBL_STATUS n) F.TBL_STATUS_REASON r
  if r ≠ 0 then s.attn 7
  else if (List.range 4).any (fun p => s.flag (R.TBL_STATUS p) F.TBL_STATUS_REASON) then s else s.attnClear 7

/-- The stash of PPn becomes l: STASH, and reason REHASH_NEEDED at 49 entries and until it falls to 48 (R216, R217). -/
def State.setStash (s : State) (n : Nat) (l : List FEntry) : State :=
  let o := R.TBL_STATUS n
  let before := (s.stash n).length
  let s := { s with pk := { s.pk with stash := Tab.set (fun _ => []) s.pk.stash n l } }
  let s := s.setF o F.TBL_STATUS_STASH l.length
  if before < 49 ∧ 49 ≤ l.length then s.setReason n 1
  else if l.length ≤ 48 ∧ s.fld o F.TBL_STATUS_REASON = 1 then s.setReason n 0 else s

/-- Every entry of PPn's table in force: buckets, in order, then stash. -/
def State.entries (s : State) (n : Nat) : List FEntry := (s.regionEntries n (s.curRegion n)).map (·.2) ++ s.stash n

/-- TBL_COUNT_n, TBL_STATIC_n and the LEARNED counts of the pipeline's ports follow the table (R221, R224). -/
def State.recount (s : State) (n : Nat) : State :=
  let l := s.entries n
  let s := s.setF (R.TBL_COUNT n) F.TBL_COUNT_ENTRIES l.length
  let s := s.setF (R.TBL_STATIC n) F.TBL_STATIC_STATIC (l.filter fun e => e.stat).length
  forUp (fun p s =>
    if pipeOf p = n then
      s.setF (R.TBL_PORT_COUNT p) F.TBL_PORT_COUNT_LEARNED (min 0xFFFF (l.filter fun e => !e.stat && e.port == p).length)
    else s) 96 0 s

/-- The age clock (R225): seconds from cold start. -/
def State.ageClock (s : State) : Nat := (s.now - s.pk.ageT0) / 1000000000 % 2 ^ 32

/-! ### Displacement chains (R215) -/

/-- The entry of a slot, as the writes of a chain so far leave it. -/
def chainAt (s : State) (w : List (Nat × FEntry)) (a : Nat) : Option FEntry :=
  match w.find? fun x => x.1 == a with
  | some x => some x.2
  | none => s.entryAt a

/-- The lowest free slot of buckets, in their order. -/
def freeSlot (s : State) (w : List (Nat × FEntry)) (n r : Nat) (bs : List Nat) : Option Nat :=
  (bs.flatMap fun k => (List.range 4).map fun t => slotAddr n r k t).find? fun a => (chainAt s w a).isNone

/-- The slot of a full bucket that gives way: lowest not STATIC and not moved, else lowest STATIC not moved, else the lowest. -/
def victim (s : State) (w : List (Nat × FEntry)) (n r k : Nat) : Nat :=
  let slots := (List.range 4).map fun t => slotAddr n r k t
  let fresh := slots.filter fun a => !w.any fun x => x.1 == a
  let dyn := fresh.filter fun a => match chainAt s w a with | some e => !e.stat | none => true
  (dyn ++ fresh ++ slots).head?.getD 0

/-- The chain for an entry: its writes, newest first, and the entry left homeless after 32 displacements. -/
def chain (s : State) (n r seed : Nat) : Nat → List (Nat × FEntry) → FEntry → List Nat → List (Nat × FEntry) × Option FEntry
  | k, w, e, bs =>
    match freeSlot s w n r bs with
    | some a => ((a, e) :: w, none)
    | none =>
      match k with
      | 0 => (w, some e)
      | k + 1 =>
        let b := bs.head?.getD 0
        let a := victim s w n r b
        match chainAt s w a with
        | none => ((a, e) :: w, none)
        | some v =>
          let b0 := bucketOf seed 0 v.vid v.mac
          let other := if b = b0 then bucketOf seed 1 v.vid v.mac else b0
          chain s n r seed k ((a, e) :: w) v [other]

/-- The chain of R215 for a new key. -/
def chainFor (s : State) (n r seed : Nat) (e : FEntry) : List (Nat × FEntry) × Option FEntry :=
  chain s n r seed 32 [] e [bucketOf seed 0 e.vid e.mac, bucketOf seed 1 e.vid e.mac]

/-- A chain is written, oldest write last to stand where a slot was used twice, and the lines of its keys go (R214). -/
def State.writeChain (s : State) (n : Nat) (w : List (Nat × FEntry)) : State :=
  let s := w.reverse.foldl (fun s x => s.setEntry x.1 x.2) s
  w.foldl (fun s x => s.invalidate n x.2.vid x.2.mac) s

/-- A table: the current region with its stash, or the new region of a rehash with its own. -/
inductive Side where
  | cur | new
  deriving DecidableEq, Repr

def State.regionOf (s : State) (n : Nat) : Side → Nat
  | .cur => s.curRegion n
  | .new => 1 - s.curRegion n
def State.seedOf (s : State) (n : Nat) : Side → Nat
  | .cur => s.curSeed n
  | .new => s.newSeed n
def State.stashOf (s : State) (n : Nat) : Side → List FEntry
  | .cur => s.stash n
  | .new => (s.rehashOf n).elim [] (·.stash)
def State.setRehash (s : State) (n : Nat) (r : Option RehashRun) : State :=
  { s with pk := { s.pk with rehash := Tab.set (fun _ => none) s.pk.rehash n r } }
def State.setStashOf (s : State) (n : Nat) (side : Side) (l : List FEntry) : State :=
  match side with
  | .cur => s.setStash n l
  | .new => match s.rehashOf n with
    | some r => s.setRehash n (some { r with stash := l })
    | none => s

/-- Tables that changes apply to (R218): both while a rehash runs. -/
def State.sides (s : State) (n : Nat) : List Side := if (s.rehashOf n).isSome then [.cur, .new] else [.cur]

/-- Where a key stands in a table: in a slot, or in the stash. -/
def State.findSide (s : State) (n : Nat) (side : Side) (vid mac : Nat) : Option (Option Nat × FEntry) :=
  match s.findIn n (s.regionOf n side) (s.seedOf n side) vid mac with
  | some (a, e) => some (some a, e)
  | none => ((s.stashOf n side).find? fun e => e.vid == vid && e.mac == mac).map fun e => (none, e)

/-- Codes of R233 that an insertion can end with. -/
abbrev codeStashed : Nat := 2
abbrev codeFull : Nat := 0x0402

/-- Insert an absent key (R215, R216). -/
def State.insertNew (s : State) (n : Nat) (side : Side) (e : FEntry) : State × Nat :=
  match chainFor s n (s.regionOf n side) (s.seedOf n side) e with
  | (w, none) => (s.writeChain n w, 0)
  | (w, some h) =>
    let st := s.stashOf n side
    if 64 ≤ st.length then (s, codeFull)
    else
      let s := (s.writeChain n w).setStashOf n side (st ++ [h])
      (s.invalidate n h.vid h.mac, if h.vid = e.vid ∧ h.mac = e.mac then codeStashed else 0)

/-- Write an entry in place where its key stands, else insert it. -/
def State.putEntry (s : State) (n : Nat) (side : Side) (e : FEntry) : State × Nat :=
  match s.findSide n side e.vid e.mac with
  | some (some a, _) => ((s.setEntry a e).invalidate n e.vid e.mac, 0)
  | some (none, _) =>
    let l := (s.stashOf n side).map fun x => if x.vid = e.vid ∧ x.mac = e.mac then e else x
    ((s.setStashOf n side l).invalidate n e.vid e.mac, codeStashed)
  | none => s.insertNew n side e

/-- Remove a key. -/
def State.removeKey (s : State) (n : Nat) (side : Side) (vid mac : Nat) : State × Bool :=
  match s.findSide n side vid mac with
  | some (some a, _) => ((s.clearEntry a).invalidate n vid mac, true)
  | some (none, _) =>
    let l := (s.stashOf n side).filter fun x => !(x.vid == vid && x.mac == mac)
    ((s.setStashOf n side l).invalidate n vid mac, true)
  | none => (s, false)

/-- An entry goes into every table changes apply to; the code is the current one's, unless only the new one took it. -/
def State.putAll (s : State) (n : Nat) (e : FEntry) : State × Nat :=
  let (s, code) := (s.sides n).foldl (fun (a : State × Option Nat) side =>
    let (t, c) := a.1.putEntry n side e
    (t, some (match a.2 with | none => c | some b => if b = codeFull then c else b))) (s, none)
  (s.recount n, code.getD 0)

/-- A key leaves every table. -/
def State.removeAll (s : State) (n vid mac : Nat) : State × Bool :=
  let (s, any) := (s.sides n).foldl (fun (a : State × Bool) side =>
    let (t, b) := a.1.removeKey n side vid mac
    (t, a.2 || b)) (s, false)
  (s.recount n, any)

/-- Entries of every table of PPn, without repeats of a key. -/
def State.allEntries (s : State) (n : Nat) : List FEntry :=
  (s.sides n).foldl (fun l side =>
    l ++ (((s.regionEntries n (s.regionOf n side)).map (·.2)) ++ s.stashOf n side).filter fun e =>
      !l.any fun x => x.vid == e.vid && x.mac == e.mac) []

/-- A change of a table entry goes to the mirror (R445). -/
def State.mirrorEntry (s : State) (n : Nat) (e : FEntry) : State := s.mirrorOut (.fdb n e)

/-! ### The table keeper (R216, R220, R225) -/

/-- The table keeper works: it is not restarting, and the device is not in Safe (R388). -/
def State.keeperUp (s : State) : Bool := !s.mgmt.learnHeld && s.mode != .safe && s.mode != .latched

/-- LEARN_NOTICE_APPLY (R220): the oldest notice of PPn. -/
def execLearnNoticeApply (n : Fin 4) (s : State) : Out :=
  .next (match Tab.get (fun _ => []) s.pk.notices n with
  | [] => s
  | k :: rest =>
    if !s.keeperUp then s
    else
      let s := { s with pk := { s.pk with notices := Tab.set (fun _ => []) s.pk.notices n rest } }
      let put (s : State) (e : FEntry) : State :=
        let (s, c) := s.putAll n e
        if c = codeFull then s.count (R.TBL_LEARN_STATS n) F.TBL_LEARN_STATS_STASH_REFUSED 1 else s.mirrorEntry n e
      match s.tableHas n k.vid k.mac with
      | none => put s ⟨false, false, k.vid, k.mac, k.port, s.ageClock, 0⟩
      | some e =>
        if e.stat then s.count (R.TBL_LEARN_STATS n) F.TBL_LEARN_STATS_STATIC_BLOCKED 1
        else if e.port = k.port then
          -- a refresh places and moves nothing: the line stays
          (s.sides n).foldl (fun s side => match s.findSide n side k.vid k.mac with
            | some (some a, e) => s.setEntry a { e with seen := s.ageClock }
            | some (none, _) => s.setStashOf n side ((s.stashOf n side).map fun x =>
                if x.vid = k.vid ∧ x.mac = k.mac then { x with seen := s.ageClock } else x)
            | none => s) s
        else put s { e with port := k.port, moves := min 0xFFFF (e.moves + 1), seen := s.ageClock })

/-- One stash entry is tried: placed when its chain ends in a slot. -/
def State.tryStash (s : State) (n : Nat) (side : Side) (e : FEntry) : State :=
  match chainFor s n (s.regionOf n side) (s.seedOf n side) e with
  | (w, none) =>
    let l := (s.stashOf n side).filter fun x => !(x.vid == e.vid && x.mac == e.mac)
    (s.writeChain n w).setStashOf n side l
  | (_, some _) => s

/-- STASH_PLACEMENT (R216): stash entries are tried, STATIC ones first, then the oldest. -/
def execStashPlacement (n : Fin 4) (s : State) : Out :=
  .next ((s.sides n).foldl (fun s side =>
    let l := s.stashOf n side
    ((l.filter fun e => e.stat) ++ l.filter fun e => !e.stat).foldl (fun s e => s.tryStash n side e) s) s)

/-- AGE_SWEEP (R225): dynamic entries of PPn not seen for AGE_TIME go; a standby ages nothing (R450). -/
def execAgeSweep (n : Fin 4) (s : State) : Out :=
  let t := s.fld R.TBL_CTRL F.TBL_CTRL_AGE_TIME
  .next (if t = 0 ∨ !s.keeperUp ∨ s.mode = .shadow then s
  else
    let old := (s.allEntries n).filter fun e => !e.stat && decide (t ≤ s.ageClock - e.seen)
    old.foldl (fun s e =>
      (((s.removeAll n e.vid e.mac).1).count (R.TBL_AGE_STATS n) F.TBL_AGE_STATS_AGED 1).mirrorOut (.fdbGone n e.vid e.mac)) s)

/-- HIT marks of one set are written back and cleared. -/
def State.writeBackSet (s : State) (n i : Nat) : State :=
  let lines := s.cacheLines i
  let s := lines.foldl (fun s l =>
    if l.hit then
      (s.sides n).foldl (fun s side => match s.findIn n (s.regionOf n side) (s.seedOf n side) l.vid l.mac with
        | some (a, e) => s.setEntry a { e with seen := s.ageClock }
        | none => s) s
    else s) s
  s.setLines i (lines.map fun l => { l with hit := false })

/-- HIT_WRITEBACK (R225): once per second, each set HIT mark goes to LAST_SEEN of its entry. -/
def execHitWriteback (s : State) : Out :=
  .next (if s.keeperUp then (s.pk.cache.map (·.1)).foldl (fun s i => s.writeBackSet (i / 32768) i) s else s)

/-! ### TABLE_OP (R232, R233, R316) -/

def Desc.tblMask (d : Desc) : Nat := d.byte 21 % 16
def Desc.tblVid (d : Desc) : Nat := d.le 24 2 % 4096
def Desc.tblMac (d : Desc) : Nat := ofBe (d.bytes 26 6)
def Desc.tblFlag (d : Desc) (i : Nat) : Bool := bitOf (d.byte 22) i

/-- Pipelines of a mask, ascending. -/
def pipesOf (mask : Nat) : List Nat := (List.range 4).filter fun n => bitOf mask n

/-- TABLE_OP is accepted (R233, R427). -/
def State.tblAdmitted (s : State) : Bool :=
  match s.mode with
  | .serve | .limp | .safe | .latched => true
  | .start => s.admitted 10
  | _ => false

/-- A TABLE_OP ends: TBL_OP_LAST and the result of the lowest pipeline that is not OK (R233). -/
def State.tblDone (s : State) (r : Req) (d : Desc) (bufOk : Bool) (codes : List (Nat × Nat)) (data : List Byte) : State :=
  let s := s.wr R.TBL_OP_LAST (BitVec.ofNat 32 (codes.foldl (fun a c => a + c.2 % 256 * 2 ^ (8 * c.1)) 0))
  let res := ((codes.find? fun c => c.2 != 0).map (·.2)).getD 0
  s.finishBuf r d bufOk res [s.rd R.TBL_OP_LAST, BitVec.ofNat 32 data.length] data

/-- Start a TABLE_OP with OP op: the checks that come before any pipeline. -/
def State.tableOp (s : State) (sq : Nat) (d : Desc) (op : Nat) (needsBuf bufOk bad : Bool) (k : Req → State → State) : State :=
  s.launch sq d (d.opcode == 4 && d.byte 20 == op) needsBuf bufOk fun r s =>
    if !s.tblAdmitted then s.finish r 0x0409 [s.rd R.TBL_OP_LAST] 0 false
    else if bad then s.finish r 0x0403 [s.rd R.TBL_OP_LAST] 0 false
    else k r s

/-- Apply an operation to each pipeline of a mask, ascending, collecting the codes. -/
def overPipes (f : Nat → State → State × Nat) (mask : Nat) (s : State) : State × List (Nat × Nat) :=
  (pipesOf mask).foldl (fun (a : State × List (Nat × Nat)) n =>
    let (t, c) := f n a.1
    (t, a.2 ++ [(n, c)])) (s, [])

/-- FDB_INSERT in one pipeline. LAST_SEEN of a key never seen is not stated: an open value. -/
def State.fdbInsert (s : State) (n vid mac port : Nat) (disc : Bool) : State × Nat :=
  match s.tableHas n vid mac with
  | some e =>
    if !e.stat && decide (65536 ≤ s.fld (R.TBL_STATIC n) F.TBL_STATIC_STATIC) then (s, 0x0407)
    else
      let e := { e with stat := true, disc := disc, port := port }
      let (s, c) := s.putAll n e
      (s.mirrorEntry n e, c)
  | none =>
    if 65536 ≤ s.fld (R.TBL_STATIC n) F.TBL_STATIC_STATIC then (s, 0x0407)
    else
      let e : FEntry := ⟨true, disc, vid, mac, port, s.freeVal 32, 0⟩
      let (s, c) := s.drawn.putAll n e
      (if c = codeFull then s else s.mirrorEntry n e, c)

/-- FDB_INSERT (R232): a STATIC entry in each pipeline of the mask. -/
def execFdbInsert (sq : Fin 32) (d : Desc) (s : State) : Out :=
  .next (s.tableOp sq d 0 false true (d.tblMask == 0 || decide (95 < d.byte 23)) fun r s =>
    let (s, codes) := overPipes (fun n s => s.fdbInsert n d.tblVid d.tblMac (d.byte 23) (d.tblFlag 0)) d.tblMask s
    s.tblDone r d true codes [])

/-- FDB_REMOVE (R232). -/
def execFdbRemove (sq : Fin 32) (d : Desc) (s : State) : Out :=
  .next (s.tableOp sq d 1 false true (d.tblMask == 0) fun r s =>
    let (s, codes) := overPipes (fun n s =>
      let (s, any) := s.removeAll n d.tblVid d.tblMac
      (if any then s.mirrorOut (.fdbGone n d.tblVid d.tblMac) else s, if any then 0 else 0x0401)) d.tblMask s
    s.tblDone r d true codes [])

/-- FDB_READ (R232): the entry of the lowest pipeline of the mask; one in the stash carries STASHED. -/
def execFdbRead (sq : Fin 32) (d : Desc) (buf : Buf) (s : State) : Out :=
  .next (s.tableOp sq d 2 true true (d.tblMask == 0 || decide (d.bufLen < 32)) fun r s =>
    let n := (pipesOf d.tblMask).head?.getD 0
    let found := match s.findSide n .cur d.tblVid d.tblMac with
      | some x => some x
      | none => if (s.rehashOf n).isSome then s.findSide n .new d.tblVid d.tblMac else none
    match found with
    | some (some _, e) => s.tblDone r d buf.ok [(n, 0)] e.bytes
    | some (none, e) => s.tblDone r d buf.ok [(n, codeStashed)] e.bytes
    | none => s.tblDone r d buf.ok [(n, 0x0401)] [])

/-- FDB_FLUSH (R232): entries of a port or all, and of a VID or all; STATIC ones only with INCLUDE_STATIC. -/
def execFdbFlush (sq : Fin 32) (d : Desc) (s : State) : Out :=
  .next (s.tableOp sq d 3 false true (d.tblMask == 0 || (!d.tblFlag 2 && decide (95 < d.byte 23))) fun r s =>
    let hit (e : FEntry) : Bool :=
      (d.tblFlag 2 || e.port == d.byte 23) && (d.tblFlag 3 || e.vid == d.tblVid) && (d.tblFlag 1 || !e.stat)
    let (s, codes) := overPipes (fun n s =>
      (((s.allEntries n).filter hit).foldl (fun s e =>
        ((s.removeAll n e.vid e.mac).1).mirrorOut (.fdbGone n e.vid e.mac)) s, 0)) d.tblMask s
    s.tblDone r d true codes [])

/-- FDB_DUMP (R232): every entry of one pipeline, 32 bytes each, in bucket order, then the stash. -/
def execFdbDump (sq : Fin 32) (d : Desc) (buf : Buf) (s : State) : Out :=
  .next (s.tableOp sq d 5 true true ((pipesOf d.tblMask).length != 1) fun r s =>
    let n := (pipesOf d.tblMask).head?.getD 0
    let data := (s.entries n).flatMap FEntry.bytes
    if (s.rehashOf n).isSome then s.tblDone r d true [(n, 0x0404)] []
    else if d.bufLen < data.length then s.tblDone r d true [(n, 0x0408)] []
    else s.tblDone r d buf.ok [(n, 0)] data)

/-- An entry is placed in the new region and stash; one that finds no place is left out, and a STATIC one fails the rehash (R218). -/
def State.rehashPlace (s : State) (n : Nat) (e : FEntry) : State :=
  let (t, c) := s.insertNew n .new e
  if c = codeFull ∧ e.stat then
    match t.rehashOf n with
    | some r => t.setRehash n (some { r with failed := true })
    | none => t
  else t

/-- A rehash of PPn starts under a seed; r is its request. -/
def State.rehashStart (s : State) (n seed : Nat) (r : Option Req) : State :=
  let s := s.cClear (fwdBase n (1 - s.curRegion n)) fwdSize
  let s := (s.wr (R.TBL_SEED_NEW n) (BitVec.ofNat 32 seed)).setF (R.TBL_STATUS n) F.TBL_STATUS_ACTIVITY 1
  let s := if s.fld (R.TBL_STATUS n) F.TBL_STATUS_REASON = 1 then s.setReason n 0 else s
  let s := s.setRehash n (some ⟨r, [], false⟩)
  let l := (s.regionEntries n (s.curRegion n)).map (·.2)
  (s.stash n ++ (l.filter fun e => e.stat) ++ l.filter fun e => !e.stat).foldl (fun s e => s.rehashPlace n e) s

/-- The seed that stands for a seed of 0 (R218). -/
def State.nextSeed (s : State) (n : Nat) : Nat := (s.curSeed n + 0x9E3779B9) % 2 ^ 32

/-- The end of a rehash: the completion of its request, with a code of R233. -/
def State.rehashEnd (s : State) (n : Nat) (r : Option Req) (code : Nat) : State :=
  match r with
  | some r => s.tblDone r (((s.sqRing r.sq).exec.map (·.2)).getD 0) true [(n, code)] []
  | none => s

/-- REHASH (R218): the other region is cleared, and the stash, then STATIC entries, then the others are placed in it under the new
seed; it becomes current at REHASH_SWAP. -/
def execRehash (sq : Fin 32) (d : Desc) (s : State) : Out :=
  .next (s.tableOp sq d 4 false true ((pipesOf d.tblMask).length != 1) fun r s =>
    let n := (pipesOf d.tblMask).head?.getD 0
    if (s.rehashOf n).isSome then s.tblDone r d true [(n, 0x0404)] []
    else s.rehashStart n (if d.le 24 4 = 0 then s.nextSeed n else d.le 24 4) (some r))

/-- REHASH_SWAP (R218): the copy is complete; the new seed and region become current, or the rehash fails. -/
def execRehashSwap (n : Fin 4) (s : State) : Out :=
  let o := R.TBL_STATUS n
  .next (match s.rehashOf n with
  | none => s
  | some r =>
    if r.failed then
      let gone := (s.regionEntries n (1 - s.curRegion n)).map (·.2) ++ r.stash
      let s := s.cClear (fwdBase n (1 - s.curRegion n)) fwdSize
      let s := ((s.setRehash n none).wr (R.TBL_SEED_NEW n) 0).setF o F.TBL_STATUS_ACTIVITY 0
      let s := (gone.filter fun e => (s.tableHas n e.vid e.mac).isNone).foldl (fun s e => s.invalidate n e.vid e.mac) s
      ((s.setReason n 3).recount n).rehashEnd n r.req 0x0406
    else
      let kept (e : FEntry) : Bool := (s.findSide n .new e.vid e.mac).isSome
      let lost := (s.entries n).filter fun e => !kept e
      let old := s.curRegion n
      let s := (s.wr (R.TBL_SEED n) (s.rd (R.TBL_SEED_NEW n))).wr (R.TBL_SEED_NEW n) 0
      let s := ((s.setF o F.TBL_STATUS_REGION (1 - old)).setF o F.TBL_STATUS_ACTIVITY 0).setF o F.TBL_STATUS_REHASH_LOST
        (min 0xFFFF lost.length)
      let s := ((s.setRehash n none).cClear (fwdBase n old) fwdSize).setReason n 2
      let s := (s.setStash n r.stash).recount n
      let s := lost.foldl (fun s e => (s.invalidate n e.vid e.mac).mirrorOut (.fdbGone n e.vid e.mac)) s
      s.rehashEnd n r.req (if lost.isEmpty then 0 else 1))

/-! ### Longest prefix (R229, R230) -/

/-- Rows of an entry, and rows of each part. -/
def lpmRows (v6 : Bool) : Nat := if v6 then 4 else 1
def State.lpmPart (s : State) (n : Nat) (v6 : Bool) : Nat :=
  let q := 16384 * min 4 (s.fld (R.TBL_LPM_CFG n) F.TBL_LPM_CFG_V6_QUARTERS)
  if v6 then q else 65536 - q

/-- The slots of a part become l; FREE_ROWS follows. -/
def State.setLpm (s : State) (n : Nat) (v6 : Bool) (l : List LpmSlot) : State :=
  let s := { s with pk := { s.pk with lpm := Tab.set (fun _ => []) s.pk.lpm (2 * n + bnat v6) l } }
  s.setF (R.TBL_LPM_CFG n) F.TBL_LPM_CFG_FREE_ROWS
    (65536 - (s.lpmSlots n false).length - 4 * (s.lpmSlots n true).length)

/-- The memory of PPn holds no prefix (R229). -/
def State.lpmEmpty (s : State) (n : Nat) : Bool :=
  !((s.lpmSlots n false ++ s.lpmSlots n true).any fun t => t.ent.isSome)

/-- The prefix of a slot, cut to its length. -/
def LpmSlot.is (t : LpmSlot) (v6 : Bool) (len pre : Nat) : Bool :=
  t.len == len && (match t.ent with | some e => lpmCut v6 len e.1 == lpmCut v6 len pre | none => false)

/-- Each region of the slots is turned: its first row goes to its end. -/
def lpmTurn : Nat → List LpmSlot → List LpmSlot
  | k + 1, t :: l => (l.takeWhile fun x => x.len == t.len) ++ [t] ++ lpmTurn k (l.dropWhile fun x => x.len == t.len)
  | _, l => l

/-- Insertion of a prefix that is absent: into a hole of its region, else at the end of it, every shorter region moving its first row to
its end; holes elsewhere are filled first where no row is free (R230). -/
def State.lpmAdd (s : State) (n : Nat) (v6 : Bool) (t : LpmSlot) : State × Bool :=
  let l := s.lpmSlots n v6
  if l.any fun x => x.len == t.len && x.ent.isNone then
    let before := l.takeWhile fun x => !(x.len == t.len && x.ent.isNone)
    (s.setLpm n v6 (before ++ [t] ++ l.drop (before.length + 1)), true)
  else
    let room (l : List LpmSlot) : Bool := decide ((l.length + 1) * lpmRows v6 ≤ s.lpmPart n v6)
    let l := if room l then l else
      let before := l.takeWhile fun x => x.ent.isSome
      before ++ l.drop (before.length + 1)
    if room l then
      let upper := l.takeWhile fun x => t.len ≤ x.len
      (s.setLpm n v6 (upper ++ [t] ++ lpmTurn l.length (l.drop upper.length)), true)
    else (s, false)

/-- A prefix is written: replaced in place, or inserted. -/
def State.lpmPut (s : State) (n : Nat) (v6 : Bool) (pre len act : Nat) : State × Nat :=
  let t : LpmSlot := ⟨len, some (pre, act)⟩
  let l := s.lpmSlots n v6
  if l.any fun x => x.is v6 len pre then (s.setLpm n v6 (l.map fun x => if x.is v6 len pre then t else x), 0)
  else
    let (s, ok) := s.lpmAdd n v6 t
    (s, if ok then 0 else 0x0405)

/-- A prefix is removed; its hole stays in its region. -/
def State.lpmCutOut (s : State) (n : Nat) (v6 : Bool) (pre len : Nat) : State × Nat :=
  let l := s.lpmSlots n v6
  if l.any fun x => x.is v6 len pre then
    (s.setLpm n v6 (l.map fun x => if x.is v6 len pre then { x with ent := none } else x), 0)
  else (s, 0x0401)

def Desc.lpmV6 (d : Desc) : Bool := d.tblFlag 4
def Desc.lpmPrefix (d : Desc) : Nat := if d.lpmV6 then ofBe (d.bytes 32 16) else ofBe (d.bytes 32 4)
def Desc.lpmBad (d : Desc) : Bool := d.tblMask == 0 || decide ((if d.lpmV6 then 128 else 32) < d.byte 48)

/-- LPM_INSERT (R230, R232). -/
def execLpmInsert (sq : Fin 32) (d : Desc) (s : State) : Out :=
  .next (s.tableOp sq d 6 false true (d.lpmBad || decide (95 < bits (d.le 56 8) 55 7)) fun r s =>
    let (s, codes) := overPipes (fun n s =>
      let (s, c) := s.lpmPut n d.lpmV6 d.lpmPrefix (d.byte 48) (d.le 56 8)
      (if c = 0 then s.mirrorOut (.lpm n d.lpmV6 d.lpmPrefix (d.byte 48) (d.le 56 8)) else s, c)) d.tblMask s
    s.tblDone r d true codes [])

/-- LPM_REMOVE (R230, R232). -/
def execLpmRemove (sq : Fin 32) (d : Desc) (s : State) : Out :=
  .next (s.tableOp sq d 7 false true d.lpmBad fun r s =>
    let (s, codes) := overPipes (fun n s =>
      let (s, c) := s.lpmCutOut n d.lpmV6 d.lpmPrefix (d.byte 48)
      (if c = 0 then s.mirrorOut (.lpmGone n d.lpmV6 d.lpmPrefix (d.byte 48)) else s, c)) d.tblMask s
    s.tblDone r d true codes [])

/-- STREAM_WRITE (R207, R232): host data copied to Cellar at 0x1500_0000 or above. -/
def execStreamWrite (sq : Fin 32) (d : Desc) (buf : Buf) (s : State) : Out :=
  let a := d.le 32 8
  .next (s.tableOp sq d 8 true buf.ok
    (d.bufLen % 4 != 0 || decide (a < 0x15000000) || decide (s.cellarSize < a + d.bufLen)) fun r s =>
      let s := s.cWrite a (buf.data.take d.bufLen)
      let s := s.wr R.TBL_OP_LAST 0
      s.finish r 0 [0, BitVec.ofNat 32 d.bufLen] 0 false)

end Sys2Proof.Machine
end

