-- ==== Sys2Proof/Machine/Fault.lean ====
section
/-! DEFINITION. Errors from the block collector to the fault record: isolation, classification, records and their acknowledgement, and
the safe state (17_faults_and_safety.md R378 to R391, R477; 01_architecture.md R13 to R17). -/

namespace Sys2Proof.Machine

/-! ### Sources and what they name (R380, R381, R383) -/

/-- Group bit of a source (R381). -/
def groupOf (src : Nat) : Nat :=
  ([48, 160, 209, 256, 264, 276, 280, 437, 449, 469, 481, 501, 506, 528, 611].filter fun n => decide (n ≤ src)).length

/-- A source whose location is an element (R381, R395). -/
def namesElem (src : Nat) : Bool := src < 32 || (48 ≤ src && src < 112)

/-- A location within the source: an element of its block, or for MEM_ECC_UNCORR of a fabric region a loop block of that region. -/
def locOk (src loc : Nat) : Bool :=
  if namesElem src then decide (loc < 9216 ∧ blockOf loc = src % 16)
  else if 490 ≤ src ∧ src < 494 then decide (loc / 4 = src - 490)
  else true

/-- What CONTAIN isolates (R380). -/
inductive IsoTarget where
  | cell (i : Nat)
  | attIn (n : Nat)
  | attOut (n : Nat)
  | block (b : Nat)
  | rackSeq
  | stage (n : Nat)
  | quad (k : Nat)
  | tap (k : Nat)
  deriving DecidableEq, Repr

def elemTarget (x : Nat) : IsoTarget :=
  match elemOf x with
  | .cell i => .cell i
  | .vi n => .attIn n
  | .vo n => .attOut n

/-- The isolation target of a source at a location (R380); none for a source that names none. -/
def targetOf (src loc : Nat) : Option IsoTarget :=
  if src < 32 ∨ (48 ≤ src ∧ src < 96) then some (elemTarget loc)
  else if (144 ≤ src ∧ src < 160) ∨ (192 ≤ src ∧ src < 208) then some (.block (src % 16))
  else if src = 208 then some .rackSeq
  else if (256 ≤ src ∧ src < 260) ∨ (272 ≤ src ∧ src < 276) then some (.stage (src % 4))
  else if 376 ≤ src ∧ src < 401 then some (.quad (src - 376))
  else if 405 ≤ src ∧ src < 437 then some (.tap (src - 405))
  else if 490 ≤ src ∧ src < 494 then some (.block loc)
  else if 494 ≤ src ∧ src < 498 then some (.stage (src - 494))
  else none

/-- Region, block and index of a record (R349, R383): regions as R381 orders them; an element of a fabric cell is named by its cell. -/
def placeOf (src loc : Nat) : Nat × Nat × Nat :=
  if namesElem src then (blockOf loc / 4, blockOf loc, match elemOf loc with
    | .cell i => i
    | _ => loc)
  else if src < 208 then (src % 16 / 4, src % 16, 0)
  else if src < 209 then (0, 0, 0)
  else if src < 228 then (0, 0, loc % 16384)
  else if src < 276 then (4 + src % 4, 0, 0)
  else if src < 280 then (0, 0, 0)
  else if src < 376 then (0, 0, src - 280)
  else if src < 401 then (0, 0, src - 376)
  else if src < 405 then (0, 0, src - 401)
  else if src < 437 then (0, 0, src - 405)
  else if src < 449 then (0, 0, (src - 437) % 4)
  else if src < 451 then (0, 0, 0)
  else if src < 467 then (0, 0, src - 451)
  else if src < 469 then (0, 0, 0)
  else if src < 475 then (0, 0, (src - 469) % 3)
  else if src < 481 then (0, 0, 0)
  else if src < 490 then (src - 481, 0, 0)
  else if src < 494 then (src - 490, loc, 0)
  else if src < 499 then (src - 490, 0, 0)
  else if 502 ≤ src ∧ src < 505 then (0, 0, src - 502)
  else if 506 ≤ src ∧ src < 528 then (0, 0, (src - 506) % 11)
  else if 531 ≤ src ∧ src < 611 then (0, 0, src - 531)
  else (0, 0, 0)

def IsoTarget.elems : IsoTarget → List Nat
  | .cell i => [cellH i, cellF i]
  | .attIn n => [elemVI n]
  | .attOut n => [elemVO n]
  | .block b => upFrom (576 * b) 576
  | _ => []

/-- Fabric cells that a target takes out. -/
def IsoTarget.cells : IsoTarget → List Nat
  | .cell i => [i]
  | .block b => (List.range cellCount).filter fun i => blockOf (cellH i) == b
  | _ => []

def IsoTarget.inFabric (t : IsoTarget) : Bool := !t.elems.isEmpty

/-- An isolation that stands until RELEASE: not that of a stage group, which is cleared and restarted (R205). -/
def IsoTarget.stands : IsoTarget → Bool
  | .stage _ => false
  | _ => true

/-! ### Isolation (R380) -/

/-- A block sequence with a target among these elements, or armed with one, ends with TARGET_LOST (R145). -/
def State.seqsLose (s : State) (xs : List Nat) : State :=
  forUp (fun q s =>
    let ts := if s.seqState q = 1 then s.seqTargets q else (s.seqSt q).targets
    if 1 ≤ s.seqState q ∧ ts.any xs.contains then s.endSeq q 4 [] else s) 16 0 s

/-- An isolated element: park hold, loop Off (R93, R125). -/
def State.isolateElem (s : State) (x : Nat) : State :=
  let s := s.parkHold x 4
  (s.setLx x { s.lx x with isoOff := true }).loopOff x

/-- Bit n of a set. -/
def setBit (w : Nat) (v : BitVec w) (n : Nat) (b : Bool) : BitVec w :=
  if b then v ||| BitVec.ofNat w (2 ^ n) else v &&& ~~~ (BitVec.ofNat w (2 ^ n))

/-- The isolation marks of a target. -/
def State.markIso (s : State) (t : IsoTarget) (b : Bool) : State :=
  match t with
  | .cell i => { s with fab := { s.fab with isoCells := setBit 4352 s.fab.isoCells i b } }
  | .attIn n => { s with fab := { s.fab with isoIn := setBit 256 s.fab.isoIn n b } }
  | .attOut n => { s with fab := { s.fab with isoOut := setBit 256 s.fab.isoOut n b } }
  | .block k =>
    ({ s with fab := { s.fab with isoBlocks := setBit 16 s.fab.isoBlocks k b } }).setF (R.DRV_BLK_STATUS k)
      F.DRV_BLK_STATUS_ISOLATED (bnat b)
  | .rackSeq => s.setRack fun r => { r with seqIso := b }
  | .stage _ => s
  | .quad k => { s with lane := { s.lane with isoQuad := setBit 25 s.lane.isoQuad k b } }
  | .tap k => { s with lane := { s.lane with isoTap := setBit 32 s.lane.isoTap k b } }

/-- Packet ports whose lanes lie in a quad (R381). -/
def State.quadPorts (s : State) (k : Nat) : List Nat :=
  if k < 16 then ((upFrom (4 * k) 4).map s.portOfLane).eraseDups else if k < 24 then upFrom (4 * k) 4 else []

/-- The collector isolates a target (R13, R380). -/
def State.isolate (s : State) (t : IsoTarget) : State :=
  let was := s.litConns
  let s := s.markIso t true
  match t with
  | .rackSeq => s
  | .stage n => s.stageClear n
  | .quad k => ((s.quadPorts k).foldl (fun s p => s.linkDown p) s).showTx
  | .tap _ => s.showTx
  | t =>
    let s := t.elems.foldl State.isolateElem (s.seqsLose t.elems)
    (s.darkPorts.showPorts).tapLight was

/-! ### Tracked records (R385) -/

def State.frec (s : State) (p : Nat) : Option FRec := Tab.get (fun _ => none) s.flt.recs p

/-- Place p holds a record, or is free; FLT_OPEN_n follows. -/
def State.setFrec (s : State) (p : Nat) (r : Option FRec) : State :=
  let s := { s with flt := { s.flt with recs := Tab.set (fun _ => none) s.flt.recs p r } }
  if p < 64 then s.wr (R.FLT_OPEN p) (BitVec.ofNat 32 ((r.map FRec.seq).getD 0xFFFFFFFF)) else s

/-- Records with their places. -/
def State.frecs (s : State) : List (Nat × FRec) := s.flt.recs.filterMap fun e => e.2.map fun r => (e.1, r)
def State.openRecs (s : State) : List FRec := (s.frecs.map (·.2)).filter fun r => r.opened

/-- An unacknowledged SAFE record (R16), and an unacknowledged pipeline CONTAIN record (R17, R205). -/
def State.safeUnacked (s : State) : Bool := s.openRecs.any fun r => decide (3 ≤ r.sev)
def State.pipeUnacked (s : State) : Bool := s.openRecs.any fun r =>
  decide (2 ≤ r.sev) && match targetOf r.src r.loc with
    | some (.stage _) => true
    | _ => false

/-- FLT_STATUS, FAULT_N and the attention classes FAULT and SAFE follow the records and the mode (R320, R385). -/
def State.showFaults (s : State) : State :=
  let safe := s.mode == .safe || s.mode == .latched
  let o := R.FLT_STATUS
  let n := s.openRecs.length
  let s := (s.setF o F.FLT_STATUS_OPEN n).setF o F.FLT_STATUS_SAFE (bnat safe)
  let s := s.setF o F.FLT_STATUS_LATCHED (bnat s.flt.latchFlag)
  let s := s.setF o F.FLT_STATUS_FAULT_N
    (bnat (safe || s.flag R.FLT_CTRL F.FLT_CTRL_TEST_INJ_EN || s.openRecs.any fun r => decide (2 ≤ r.sev)))
  let s := if n = 0 then s.attnClear 2 else s
  if safe then s else s.attnClear 1

/-- One more record is untracked (R385): it stands above the 64 places. -/
def State.untrack (s : State) (r : FRec) : State :=
  (s.setFrec (64 + r.seq) (some { r with opened := false })).count R.FLT_STATUS F.FLT_STATUS_UNTRACKED 1

/-- The place that gives way to a new record at CONTAIN or above: the oldest NOTIFY, else CONTAIN, else SAFE record. -/
def State.victimPlace (s : State) : Option Nat :=
  let l := s.frecs.filter fun e => decide (e.1 < 64)
  let oldest (k : Nat) : Option Nat :=
    ((l.filter fun e => e.2.sev == k).foldl (fun (m : Option (Nat × FRec)) e => match m with
      | some b => if e.2.seq < b.2.seq then some e else some b
      | none => some e) none).map (·.1)
  (oldest 1).orElse fun _ => (oldest 2).orElse fun _ => oldest 3

/-- A record at NOTIFY or above takes a place (R385). -/
def State.track (s : State) (r : FRec) : State :=
  match (List.range 64).find? fun p => (s.frec p).isNone with
  | some p => s.setFrec p (some r)
  | none =>
    if r.sev < 2 then s.untrack r
    else match s.victimPlace with
      | some p => match s.frec p with
        | some old => (s.untrack old).setFrec p (some r)
        | none => s.setFrec p (some r)
      | none => s.untrack r

/-- Records at LOG whose handling has ended are forgotten. -/
def State.forgetLogs (s : State) : State :=
  { s with flt := { s.flt with recs := s.flt.recs.filter fun (e : Nat × Option FRec) =>
      match e.2 with
      | some r => r.sev != 0 || decide (s.now < r.until_.getD (s.now + 1))
      | none => false } }

/-! ### The safe state (R387, R388) -/

/-- The result of R455 for one of R439. -/
def pairResult (result : Nat) : Nat :=
  if result = 0 ∨ result = 0x0A07 then 0 else if result = 0x0A05 then 0x0B06 else if result = 0x0A06 then 0x0B07 else 0x0B04

/-- Words of a PAIR_CMD completion (R455): PAIR_STATUS, PAIR_VERSION, MODE before and after. -/
def State.pairWords (s : State) (before : Nat) : List Word :=
  [s.rd R.PAIR_STATUS, s.rd R.PAIR_VERSION, BitVec.ofNat 32 before, BitVec.ofNat 32 s.mode.code]

/-- A mode change request ends with a result of R439: its completion, or that of its PAIR_CMD (R454, R455), or the count and record of a
refused event. -/
def State.modeOutcome (s : State) (r : ModeReq) (result mask : Nat) (before : Mode) : State :=
  match r.src with
  | .host => s.finishOpt r.req result (s.modeWords mask before) false
  | .pairCmd =>
    let s := { s with pair := { s.pair with exch := none } }
    s.finishOpt r.req (pairResult result) (s.pairWords before.code) false
  | .takeOver => match s.pair.exch with
    | some (q, b) => { s with pair := { s.pair with exch := none } }.finishOpt q (pairResult result) (s.pairWords b) false
    | none => s
  | .event =>
    if result = 0 ∨ result = 1 ∨ 0x0A05 ≤ result ∧ result < 0x0A08 then s
    else (s.count R.EVT_MODE_TASK F.EVT_MODE_TASK_REFUSED 1).logNote 5 0 0 [result]
  | _ => s

/-- An exchange that a standby has relayed ends before its take-over (R455). -/
def State.exchEnd (s : State) (result : Nat) : State :=
  match s.pair.exch with
  | some (q, b) =>
    if s.mode = .shadow then { s with pair := { s.pair with exch := none } }.finishOpt q result (s.pairWords b) false else s
  | none => s

/-- A mode change before its commit point ends with PREEMPTED (R17), and so does an exchange that a standby has relayed (R455). -/
def State.preemptMode (s : State) : State :=
  match s.start.change with
  | some run =>
    (({ s with start := { s.start with change := none } }).modeOutcome run.r 0x0A06 (run.units ^^^ (run.units &&& run.ready)) s.mode).exchEnd 0x0B07
  | none => s.exchEnd 0x0B07

/-- Every block sequence ends with SAFE_STOP at the end of its sample (R145). -/
def State.seqsSafeStop (s : State) : State :=
  forUp (fun q s => match s.seqState q with
    | 1 => (s.setSeqSt q { s.seqSt q with armed := none }).endSeq q 7 []
    | 2 => s.setSeqSt q { s.seqSt q with stopAs := some 7 }
    | 3 => s.endSeq q 7 []
    | _ => s) 16 0 s

/-- The device is in Safe: mode, latch flag, attention, SAFE_N and FAULT_N. -/
def State.markSafe (s : State) (latch : Bool) : State :=
  let s := if latch then { s with flt := { s.flt with latchFlag := true } } else s
  ((s.setMode (if latch then .latched else .safe) []).attn 1).showFaults

/-- PAIR_HOLD_N is released (R451): it reads high unless the other member drives it. -/
def State.releaseLine (s : State) : State :=
  let o := R.PAIR_STATUS
  if s.flag o F.PAIR_STATUS_HOLD_DRIVEN then (s.setF o F.PAIR_STATUS_HOLD_DRIVEN 0).setF o F.PAIR_STATUS_LINE_LOW 0 else s

/-- The steps of a cold start that each step waits for (R425), as a mask. -/
def coldNeeds (n : Nat) : Nat := nth 0 [0, 0, 0x2, 0x4, 0x8, 0x10, 0x20, 0x40, 0x40, 0x100, 0x80, 0x400, 0x400] n

/-- Every step of a mask has ended. -/
def StartSt.done (st : StartSt) (m : Nat) : Bool := st.ended &&& m == m

/-- The steps of a cold start that SAFE leaves to end (R438): 1 to 6 where step 6 has not ended, else those begun. -/
def StartSt.coldLeft (st : StartSt) : Nat :=
  let m := if bitOf st.ended 6 then (List.range 13).foldl (fun m n => if st.done (coldNeeds n) then m ||| 2 ^ n else m) 0 else 0x7E
  st.allowed &&& m

/-- The broadcast (R387): the line released, attenuators parked, ingress stopped, transmitters off; racks, sequences and a CAL_RUN end. A
cold start goes on only as R438 says. -/
def State.broadcast (s : State) (latch : Bool) : State :=
  let s := (s.preempt.preemptMode).refuseDeferred 0x0223
  let st := s.start
  let s := { s with start := { st with safeCold := st.cold, allowed := st.coldLeft } }
  let s := s.releaseLine.markSafe latch
  let s := forUp (fun n s => (s.parkHold (elemVI n) 2).parkHold (elemVO n) 2) 256 0 s
  let s := ((s.ingressStop).showTx.seqsSafeStop).calInterrupt
  { s with flt := { s.flt with safeAt := some s.now } }

/-- SAFE_STATE_BROADCAST (R16, R17, R387): SAFE or LATCH forces the safe state. A mode change past its commit point completes first;
Dormant has no transition to Safe. -/
def State.forceSafe (s : State) (latch : Bool) : State :=
  match s.mode with
  | .dormant => s
  | .latched => s
  | .safe => if latch then s.markSafe true else s
  | _ =>
    let held : Bool := match s.start.change with
      | some run => run.window
      | none => false
    if held then { s with start := { s.start with safeDue := some (latch || s.start.safeDue.getD false) } }
    else s.broadcast latch

/-! ### Reports (R13, R379, R395, R477) -/

/-- The collector's copy of a severity (R379). -/
def State.sevCopy (s : State) (src : Nat) : Nat :=
  (Tab.get (fun _ => none) s.flt.copies src).getD (s.fld (R.FLT_SEV src) F.FLT_SEV_SEVERITY)

/-- Severity as it acts: CONTAIN on a source that names no target acts as NOTIFY (R379). -/
def State.actSev (s : State) (src loc : Nat) : Nat :=
  let k := s.sevCopy src
  if k = 2 ∧ (targetOf src loc).isNone then 1 else k

/-- What the unit in error does with the thing in error (R234, R259). -/
def State.unitError (s : State) (src place : Nat) : State :=
  if 264 ≤ src ∧ src < 268 then
    let n := src - 264
    let r := s.curRegion n
    let s := forUp (fun t s => match s.entryAt (slotAddr n r (place % 327680) t) with
      | some e => (s.clearEntry (slotAddr n r (place % 327680) t)).invalidate n e.vid e.mac
      | none => s) 4 0 s
    (s.recount n).setReason n 4
  else if 268 ≤ src ∧ src < 272 then s.invalidate (src - 268) (place / 2 ^ 48 % 4096) (place % 2 ^ 48)
  else if src = 276 then
    let hit := s.pk.queues.filter fun e => e.2.any fun c => c.fid == place
    let s := hit.foldl (fun s e =>
      let p := chainPort s.pk.sch (e.1 / 8)
      let s := (e.2.filter fun c => c.fid == place).foldl (fun s c => (s.discharge p c).countDrop e.1 c) s
      s.setQueue e.1 (e.2.filter fun c => c.fid != place)) s
    { s with pk := { s.pk with sent := s.pk.sent.map fun f =>
        if f.fid = place ∧ s.now < s.txEnd f.port then { f with fcs := 0xFFFFFFFF ^^^ f.fcs } else f } }
  else if src = 277 then s.nodeLost place
  else if src = 278 then s.emptyQueue (chainPort s.pk.sch (place / 8)) place
  else if src = 279 then
    (if place < 1048576 then
      ({ s with pk := { s.pk with acc := s.pk.acc.filter fun l => l.pair != place } }).cClear (pairAddr place) 16
    else s)
  else s

/-- An injection that awaits this report (R395). -/
def State.awaited (s : State) (r : Report) : Option Inject :=
  s.flt.inject.find? fun k => k.src == r.src && (!namesElem r.src || k.loc == r.loc) && decide (s.now ≤ k.due)

/-- The collector latches a report: the severity on its copy, isolation at CONTAIN or above, and with the safety monitor down the safe
state at SAFE or above. -/
def State.collect (s : State) (r : Report) : State :=
  let sev := s.actSev r.src r.loc
  let s := { s with flt := { s.flt with
      latched := s.flt.latched ++ [(r, sev)],
      lastRaise := ((r.src, r.loc), s.now) :: s.flt.lastRaise.filter fun e => e.1 != (r.src, r.loc) } }
  let s := match targetOf r.src r.loc with
    | some t => if 2 ≤ sev then s.isolate t else s
    | none => s
  if r.src = 475 ∨ r.src = 476 ∨ (!s.flt.monitorUp ∧ 3 ≤ sev) then s.forceSafe (sev == 4) else s

/-- FAULT_REPORT (R13): a cell's error reaches its block collector: one that a unit of this model has raised, or one of a checker that the
outside world makes fail. The report of an injection passes the test, and one of a host injection is handled as real (R395, R396). -/
def execFaultReport (r : Report) (s : State) : Out :=
  .next (if s.mode = .dormant ∨ (sevOf r.src).isNone ∨ !locOk r.src r.loc then s
  else match s.flt.raised.find? fun k => k.src == r.src && k.loc == r.loc with
    | some k => ({ s with flt := { s.flt with raised := s.flt.raised.erase k } }).collect k
    | none =>
      let pick (k : Inject) (s : State) : State := { s with flt := { s.flt with inject := s.flt.inject.erase k } }
      match s.awaited r with
      | some k => if k.host then (pick k s).collect { r with injected := true }
        else (pick k s).count R.FLT_INJ_STATUS F.FLT_INJ_STATUS_PASSED 1
      | none =>
        let s := if 48 ≤ r.src ∧ r.src < 160 then s.fire (144 + (r.src - 48) % 16) else s
        (s.unitError r.src r.place).collect { r with injected := false })

/-! ### Classification (R383, R384) -/

/-- A record of the Lees log changes, wherever it stands. -/
def State.logEdit (s : State) (seq : Nat) (f : LogRec → LogRec) : State :=
  let g (r : LogRec) : LogRec := if r.seq = seq then f r else r
  { s with mgmt := { s.mgmt with logQ := s.mgmt.logQ.map g, log := s.mgmt.log.map g } }

/-- The record an error merges into (R384, R393): one open for the same source at the same location, or the newest being handled, but not
for an error at CONTAIN that names another target. -/
def State.mergeInto (s : State) (r : Report) (sev : Nat) : Option (Nat × FRec) :=
  let same (k : FRec) : Bool := k.opened && k.src == r.src && (k.loc == r.loc || (209 ≤ r.src && r.src < 225))
  let handled (k : FRec) : Bool := decide (s.now < k.until_.getD (s.now + 1)) &&
    !(sev == 2 && targetOf r.src r.loc != targetOf k.src k.loc)
  (s.frecs.find? fun e => same e.2).orElse fun _ =>
    (s.frecs.filter fun e => handled e.2).foldl (fun (m : Option (Nat × FRec)) e => match m with
      | some b => if b.2.seq < e.2.seq then some e else some b
      | none => some e) none

/-- Cells isolated by a record are marked failed (R47). -/
def State.markFailed (s : State) (seq : Nat) (cells : List Nat) : State :=
  { s with fab := { s.fab with
      failed := s.fab.failed ||| BitVec.ofNat 4352 (cells.foldl (fun m i => m ||| 2 ^ i) 0),
      recCells := cells.map (fun i => (i, seq)) ++ s.fab.recCells.filter fun e => !cells.contains e.1 } }

/-- A re-solve starts for an isolation of live plane cells (R48). -/
def State.resolveFor (s : State) (t : IsoTarget) : Bool :=
  s.flag R.FAB_SOLVE_CTRL F.FAB_SOLVE_CTRL_AUTO_RESOLVE && t.cells.any fun i => decide (i < 3840) && s.liveCell i

/-- The reaction to an isolation in the fabric (R47 to R49, R432): the end of its handling, and what it displaced. -/
def State.fabricReaction (s : State) (seq sev : Nat) (t : IsoTarget) : State × Option Nat × List Nat :=
  let s := s.markFailed seq t.cells
  let lost := s.lostInputs
  if sev = 2 ∧ s.resolveFor t ∧ s.mode = .start ∧ s.start.warm then
    let s := { s with fab := { s.fab with resolveDue := s.fab.resolveDue ++ [seq], startDark := s.fab.startDark ||| Solver.portMask lost } }
    (s.darkPorts.showPorts, some s.now, lost)
  else if sev = 2 ∧ s.resolveFor t ∧ s.rackMode .fault then
    let up := s.fld (R.MGT_PROC_STATUS 2) F.MGT_PROC_STATUS_STATE = 1
    ({ s with fab := { s.fab with resolveDue := s.fab.resolveDue ++ [seq] } }, if up then none else some s.now, lost)
  else (s.goDark lost, some s.now, lost)

/-- The reaction of a severity (R378), with what it adds to the record. -/
def State.react (s : State) (r : Report) (sev : Nat) (k : FRec) : State × FRec :=
  let (s, k) := match targetOf r.src r.loc with
    | some t =>
      if sev < 2 then (s, k)
      else if t.inFabric then
        let (s, u, l) := s.fabricReaction k.seq sev t
        (s, { k with iso := true, until_ := u.bind fun a => k.until_.map (max a), names := (k.names ++ l).eraseDups })
      else
        let s := match t with
          | .stage _ => if s.mode = Mode.serve then s.askMode ⟨.limp, .contain, none, [], 0⟩ else s
          | _ => s
        (s, { k with iso := true })
    | none => (s, k)
  (if 3 ≤ sev then s.forceSafe (sev == 4) else s, k)

/-- End of handling of a severity with no re-solve (R384). -/
def State.handledTo (s : State) (sev : Nat) : Nat := if sev < 2 then s.now + 1000 else if sev = 2 then s.now else s.now + 20000

/-- A record at NOTIFY or above is formed (R320, R355). -/
def State.formed (s : State) (path : List Nat) : State := (s.attn 2).fireP 242 path

/-- A new record (R383). -/
def State.newRecord (s : State) (r : Report) (sev : Nat) : State :=
  let (g, b, c) := placeOf r.src r.loc
  let (q, s) := s.logPut { s.newRec 1 sev r.src [r.d0, r.d1, r.d2] with injected := r.injected, region := g, block := b, cell := c }
  let k : FRec :=
    { seq := q, sev := sev, src := r.src, loc := r.loc, iso := false, opened := decide (1 ≤ sev), until_ := some (s.handledTo sev),
      merged := [], names := [] }
  let s := if 1 ≤ sev then s.formed r.path else s
  let (s, k) := s.react r sev k
  if 1 ≤ sev then s.track k else s.setFrec (64 + q) (some k)

/-- RECORD_MERGE (R384): the error is merged, with its own reaction. A record that rises from LOG is tracked. -/
def State.mergeRecord (s : State) (p : Nat) (k : FRec) (r : Report) (sev : Nat) : State :=
  let up := max k.sev sev
  let s := s.logEdit k.seq fun l =>
    { l with sev := up, secCount := min 0xFFFF (l.secCount + 1), cause := l.cause ||| 2 ^ groupOf r.src,
             d := if 209 ≤ r.src ∧ r.src < 225 ∧ k.src = r.src then l.d.set 2 (nth 0 l.d 2 ||| BitVec.ofNat 32 r.d2) else l.d }
  let rise := k.sev = 0 ∧ 1 ≤ sev
  let k := { k with
    sev := up, merged := (r.src, r.loc) :: k.merged.filter (· != (r.src, r.loc)),
    until_ := k.until_.map fun u => max u (s.handledTo sev), opened := k.opened || decide rise }
  let s := if rise then s.formed r.path else s
  let (s, k) := s.react r sev k
  if rise then (s.setFrec p none).track k else s.setFrec p (some k)

/-- FAULT_CLASSIFICATION (R383): while its firmware runs, the safety monitor classifies the oldest report that a collector holds. -/
def execFaultClassification (s : State) : Out :=
  .next (match s.flt.latched with
  | (r, sev) :: l =>
    if !s.flt.monitorUp then s
    else
      let s := ({ s with flt := { s.flt with latched := l } }).forgetLogs
      let s := s.count (R.FLT_SRC_COUNT r.src) F.FLT_SRC_COUNT_VAL 1
      (match s.mergeInto r sev with
      | some (p, k) => s.mergeRecord p k r sev
      | none => s.newRecord r sev).showFaults
  | [] => s)

/-! ### The readback (R387, R389) -/

/-- The domain of a loop block goes off (R93, R125, R416). -/
def State.blockOff (s : State) (b : Nat) : State :=
  let xs := upFrom (576 * b) 576
  let s := xs.foldl (fun s x => (s.loopOff x).park x) (s.seqsLose xs)
  let s := ((s.resetRange (R.DRV_BLK_STATUS b) 4).resetRange (R.LOOP_BLK_STATUS b) 4).resetRange (R.DRV_MON (576 * b)) (4 * 576)
  { s with drive := { s.drive with blkFrames := Tab.set (fun _ => 0) s.drive.blkFrames b 0 } }

/-- SAFE_READBACK (R387, R389): 3 µs after the classification; open_: attenuators found not parked; others: a transmitter is not off or an
ingress MAC has not stopped. -/
def execSafeReadback (open_ : List (Fin 512)) (others : Bool) (s : State) : Out :=
  .next (match s.flt.safeAt with
  | some t =>
    let s := { s with now := max s.now (t + 3000), flt := { s.flt with safeAt := none } }
    if open_.isEmpty && !others then s
    else
      let xs := open_.map fun k => if k.val < 256 then elemVI k.val else elemVO (k.val - 256)
      let s := (s.setF R.FLT_STATUS F.FLT_STATUS_VERIFY_FAIL 1).raise 613 0
      (xs.map blockOf).eraseDups.foldl State.blockOff s
  | none => s)

/-! ### FAULT_ACK (R386) -/

/-- Words of a FAULT_ACK: records acknowledged, open records left, FLT_STATUS. -/
def State.ackDone (s : State) (r : Req) (result n : Nat) : State :=
  let s := s.showFaults
  s.finish r result [BitVec.ofNat 32 n, BitVec.ofNat 32 s.openRecs.length, s.rd R.FLT_STATUS] 0 false

/-- A record is acknowledged: it keeps its place only while its isolation stands. -/
def State.ackRec (s : State) (p : Nat) (k : FRec) : State :=
  let keep : Bool := k.iso && match targetOf k.src k.loc with
    | some t => t.stands
    | none => false
  s.setFrec p (if keep then some { k with opened := false } else none)

/-- The record with a LOG_SEQ, where it is tracked or untracked. -/
def State.recBySeq (s : State) (q : Nat) : Option (Nat × FRec) := s.frecs.find? fun e => e.2.seq == q

/-- The severity of a record of the Lees log. -/
def State.loggedSev (s : State) (q : Nat) : Option Nat :=
  ((s.mgmt.log ++ s.mgmt.logQ).find? fun r => r.seq == q).map LogRec.sev

/-- FAULT_ACK (R386) with OP 0. -/
def execFaultAck (sq : Fin 32) (d : Desc) (s : State) : Out :=
  .next (s.launch sq d (d.opcode == 0x10 && d.byte 20 == 0) false true fun r s =>
    let q := d.le 24 4
    match s.recBySeq q with
    | some (p, k) => if k.opened then (s.ackRec p k).ackDone r 0 1 else s.ackDone r 1 0
    | none => s.ackDone r (if (s.loggedSev q).isSome then 1 else 0x0C01) 0)

/-- FAULT_ACK_UP_TO (R386): OP 2. -/
def execFaultAckUpTo (sq : Fin 32) (d : Desc) (s : State) : Out :=
  .next (s.launch sq d (d.opcode == 0x10 && d.byte 20 == 2) false true fun r s =>
    let l := s.frecs.filter fun e => e.2.opened && decide (e.2.seq ≤ d.le 24 4)
    (l.foldl (fun s e => s.ackRec e.1 e.2) s).ackDone r 0 l.length)

/-- The condition of a record is present: its source, or one merged into it, raised at its location within 1 ms, lanes lost for good
(R115), or a diverted check of an element target that fails (R169). -/
def State.present (s : State) (k : FRec) (checkOk : Bool) : Bool :=
  let srcs := k.src :: k.merged.map (·.1)
  (s.flt.lastRaise.any fun e => srcs.contains e.1.1 && e.1.2 == k.loc && decide (s.now < e.2 + 1000000)) ||
  (srcs.any fun n => decide (144 ≤ n ∧ n < 160)) ||
  match targetOf k.src k.loc with
    | some (.cell _) => !checkOk
    | some (.attIn _) => !checkOk
    | some (.attOut _) => !checkOk
    | _ => false

/-- Another record, or a report not yet classified, isolates the same target. -/
def State.stillIso (s : State) (t : IsoTarget) : Bool :=
  (s.frecs.any fun e => e.2.iso && targetOf e.2.src e.2.loc == some t) ||
  s.flt.latched.any fun e => decide (2 ≤ e.2) && targetOf e.1.src e.1.loc == some t

/-- An isolation is lifted, and the park holds end (R386). -/
def State.lift (s : State) (t : IsoTarget) : State :=
  if s.stillIso t then s
  else
    let was := s.litConns
    let s := s.markIso t false
    match t with
    | .rackSeq => s
    | .stage _ => s
    | .quad _ => s.showTx
    | .tap _ => s.showTx
    | t =>
      let s := t.elems.foldl (fun s x => if s.elemIso x then s else s.unhold x 4) s
      (s.darkPorts.showPorts).tapLight was

/-- FAULT_RELEASE (R386): OP 1; checkOk: the diverted checks of the target's channels pass. -/
def execFaultRelease (sq : Fin 32) (d : Desc) (checkOk : Bool) (s : State) : Out :=
  .next (s.launch sq d (d.opcode == 0x10 && d.byte 20 == 1) false true fun r s =>
    let q := d.le 24 4
    match s.recBySeq q with
    | some (p, k) =>
      if 64 ≤ p then s.ackDone r 1 0
      else if !k.iso then s.ackDone r 0x0C04 0
      else
        let n := bnat k.opened
        let bad := s.present k checkOk
        if bad then (s.ackRec p k).ackDone r 0x0C02 n
        else
          let s := s.setFrec p none
          (match targetOf k.src k.loc with
          | some t => s.lift t
          | none => s).ackDone r 0 n
    | none => match s.loggedSev q with
      | none => s.ackDone r 0x0C01 0
      | some 0 => s.ackDone r 1 0
      | some _ => s.ackDone r 0x0C04 0)

end Sys2Proof.Machine
end

