-- ==== Sys2Proof/Machine/Monitor.lean ====
section
/-! DEFINITION. The diagnostics: supply and clock monitors, the light-path check, checker injection, the configuration scrub, the LK write
path, and the latch flag (17_faults_and_safety.md R391 to R398). -/

namespace Sys2Proof.Machine

/-! ### Supply and clock monitors (R394) -/

/-- Thresholds of a rail in mV: VIN, VBUS, then the rails at ±4 % (R394, R466). -/
def railLimits (k : Nat) : Nat × Nat :=
  nth (0, 0) [(8500, 63000), (11040, 12960), (720, 780), (768, 832), (816, 884), (1728, 1872), (1152, 1248), (3456, 3744),
    (1200, 1300), (1200, 1300), (1200, 1300)] k

/-- One sample of one comparator: two in a row beyond the threshold raise the source, once for each departure. -/
def State.supplyJudge (s : State) (i src v limit : Nat) (beyond : Bool) : State :=
  let k := Tab.get (fun _ => 0) s.flt.supply i
  let put (n : Nat) (s : State) : State := { s with flt := { s.flt with supply := Tab.set (fun _ => 0) s.flt.supply i n } }
  if !beyond then put 0 s
  else if k = 0 then put 1 s
  else if k = 1 then (put 2 s).raiseD src 0 v limit 0 []
  else s

/-- SUPPLY_MONITOR_SAMPLE (R394): the eleven rails of R381 in mV. -/
def execSupplyMonitorSample (mv : List Nat) (s : State) : Out :=
  .next (if s.mode = .dormant then s
  else forUp (fun i s =>
    match mv[i]? with
    | some v =>
      let (lo, hi) := railLimits i
      let s := s.supplyJudge i (506 + i) v lo (decide (v < lo))
      s.supplyJudge (11 + i) (517 + i) v hi (decide (hi < v))
    | none => s) 11 0 s)

/-- Clock monitor source of a clock: 0 to 7 those of CLK_MON_CORE (R382), then REFCLK_L, REFCLK_P, the 10 MHz reference, and the
always-on crystal. -/
def clockSource (i : Nat) : Nat := if i < 8 then 501 else if i < 11 then 494 + i else 505

/-- CLOCK_MONITOR_WINDOW (R394): at the end of a 10 µs window, how far each count lies from nominal, in ppm; two windows in a row outside
±2 % raise the source, once for each departure. -/
def execClockMonitorWindow (ppm : List Int) (s : State) : Out :=
  .next (if s.mode = .dormant then s
  else forUp (fun i s =>
    match ppm[i]? with
    | some v =>
      let k := Tab.get (fun _ => 0) s.flt.clock i
      let put (n : Nat) (s : State) : State := { s with flt := { s.flt with clock := Tab.set (fun _ => 0) s.flt.clock i n } }
      if v.natAbs ≤ 20000 then put 0 s
      else if k = 0 then put 1 s
      else if k = 1 then (put 2 s).raiseD (clockSource i) 0 (unsignedOf 32 v) 20000 0 []
      else s
    | none => s) 12 0 s)

/-! ### The light-path check (R393) -/

/-- A reading of a port power register in 0.01 dBm, where it is VALID; beyond the monitor's range it is taken at that end of it. -/
def State.portLevel (s : State) (o : Nat) : Option Int :=
  if !s.flag o F.FAB_IN_POWER_VALID then none
  else if s.flag o F.FAB_IN_POWER_UNDER then some (-5000)
  else if s.flag o F.FAB_IN_POWER_OVER then some 2000
  else some (signedOf 16 (s.fld o F.FAB_IN_POWER_LEVEL))

/-- The loss of a connection as its ports read now, where R393 checks it. -/
def State.lossNow (s : State) (c : Solver.Conn) : Option Int :=
  if s.flag (R.FAB_IN_POWER c.inp) F.FAB_IN_POWER_BOUND then none
  else match s.portLevel (R.FAB_IN_POWER c.inp), s.portLevel (R.FAB_OUT_POWER c.out) with
    | some a, some b => if a < -3000 then none else some (a - b)
    | _, _ => none

/-- How far the output of a connection is from its expected value, where it is checked, in 0.01 dB. -/
def State.lightError (s : State) (c : Solver.Conn) : Option Nat :=
  match Tab.get (fun _ => none) s.flt.commitRefLoss c.out, s.lossNow c with
  | some r, some l => some (l - r).natAbs
  | _, _ => none

/-- LIGHT_PATH_CHECK (R393): every 1 ms, outside Start; the mismatches of a group of 16 outputs form one raising. -/
def execLightPathCheck (s : State) : Out :=
  let tol := 10 * s.fld R.FLT_CTRL F.FLT_CTRL_LIGHT_TOL
  let bad := s.litConns.filterMap fun c => match s.lightError c with
    | some e => if tol < e then some (c.out, e) else none
    | none => none
  .next (if s.mode = .start then s
  else forUp (fun g s =>
    let l := bad.filter fun e => e.1 / 16 == g
    let low := l.foldl (fun (m : Option (Nat × Nat)) e => match m with
      | some b => if e.1 < b.1 then some e else some b
      | none => some e) none
    match low with
    | some (m, e) => s.raiseD (209 + g) m e tol (l.foldl (fun k e => k ||| 2 ^ (e.1 % 16)) 0) []
    | none => s) 16 0 s)

/-- REFERENCE_LOSS_MEASURE (R393): 10 ms after a connection settles or its ATTEN changes. With no reading to take it from, its
reference loss stays unmeasured. -/
def execReferenceLossMeasure (m : Fin 256) (s : State) : Out :=
  .next (match Tab.get (fun _ => none) s.flt.lossDue m.val with
  | some t =>
    let s := { s with now := max s.now t }
    let v := (s.litConns.find? fun c => c.out == m.val).bind s.lossNow
    { s with flt := { s.flt with
        lossDue := Tab.set (fun _ => none) s.flt.lossDue m none,
        commitRefLoss := Tab.set (fun _ => none) s.flt.commitRefLoss m v } }
  | none => s)

/-! ### Checker injection (R395, R396) -/

/-- Detection time of a checker in ns (R392); that of a plausibility comparator is R135's. -/
def State.detectNs (s : State) (src loc : Nat) : Nat :=
  if src < 16 then 1000
  else if 48 ≤ src ∧ src < 64 then
    let w0 := s.cfgW loc 0
    let k := if cfgMeas w0 = 2 then cfgHoldM (s.cfgW loc 3) else 1
    8000 * k * cfgPlLimit w0 + 2000
  else if (128 ≤ src ∧ src < 144) ∨ (192 ≤ src ∧ src < 209) then 1000
  else if src = 476 then 10
  else if 501 ≤ src ∧ src < 506 then 20000
  else if 506 ≤ src ∧ src < 528 then 10000
  else if src = 611 then 20000000
  else 0

/-- A loop that evaluates its plausibility now (R135, R395). -/
def State.plausibleNow (s : State) (x : Nat) : Bool :=
  s.loopState x == 2 && !s.flag (R.LOOP_ST x) F.LOOP_ST_NO_LIGHT && (s.lx x).ho.isNone

/-- A SOURCE and LOCATION that may be injected (R395). -/
def State.mayInject (s : State) (src loc : Nat) : Bool :=
  s.flag (R.FLT_SEV src) F.FLT_SEV_INJECTABLE && (if namesElem src then locOk src loc else loc == 0)

/-- An injection is made, but in a loop that evaluates no plausibility. -/
def State.inject (s : State) (src loc : Nat) (host : Bool) : State :=
  if 48 ≤ src ∧ src < 64 ∧ !s.plausibleNow loc then s
  else { s with flt := { s.flt with inject := s.flt.inject ++ [⟨src, loc, host, s.now + s.detectNs src loc + 10000⟩] } }

/-- SAFETY writes FLT_INJ: with GO, an injection of R395. -/
def State.injWrite (s : State) (v : Word) : State :=
  let s := s.wr R.FLT_INJ (v &&& 0xFFE03FFF#32)
  let src := F.FLT_INJ_SOURCE.get v
  let loc := F.FLT_INJ_LOCATION.get v
  if F.FLT_INJ_GO.get v = 0 then s
  else if s.mayInject src loc then s.inject src loc false
  else s.setF R.FLT_INJ_STATUS F.FLT_INJ_STATUS_REFUSED 1

/-- CHECKER_INJECTION (R395): the safety monitor injects into the next checker of its cycle, unless INJ_CYCLE is 0. -/
def execCheckerInjection (src : BitVec 10) (loc : BitVec 14) (s : State) : Out :=
  .next (if s.flt.monitorUp && s.fld R.FLT_CTRL F.FLT_CTRL_INJ_CYCLE != 0 && s.mayInject src.toNat loc.toNat then
    s.injWrite (BitVec.ofNat 32 (2 ^ 31 + src.toNat * 2 ^ 21 + loc.toNat))
  else s)

/-- CHECKER_DEAD (R395): the oldest injection stays unreported to the end of D plus 10 µs. -/
def execCheckerDead (s : State) : Out :=
  .next (match s.flt.inject with
  | k :: l =>
    let s := { s with now := max s.now k.due, flt := { s.flt with inject := l } }
    let s := if k.host then s else s.count R.FLT_INJ_STATUS F.FLT_INJ_STATUS_FAILED 1
    s.raiseD 612 0 0 0 k.src []
  | [] => s)

/-- FLT_TEST_INJ_WRITE (R396): a write of FLT_TEST_INJ; effective with GO while TEST_INJ_EN is 1. -/
def execFltTestInjWrite (v : Word) (s : State) : Out :=
  let s := s.wr R.FLT_TEST_INJ (v &&& 0xFFE03FFF#32)
  let src := F.FLT_INJ_SOURCE.get v
  let loc := F.FLT_INJ_LOCATION.get v
  .next (if F.FLT_INJ_GO.get v = 0 ∨ !s.flag R.FLT_CTRL F.FLT_CTRL_TEST_INJ_EN then s
  else if s.mayInject src loc then s.inject src loc true
  else s.setF R.FLT_INJ_STATUS F.FLT_INJ_STATUS_REFUSED 1)

/-! ### The configuration scrub (R397) -/

/-- The channel whose set-up lies at an offset: EVT_CH_OWN, EVT_CH_CFG or EVT_CH_TASKS. -/
def channelAt (o : Nat) : Option Nat :=
  if 0x51000 ≤ o ∧ o < 0x51400 ∧ o % 16 < 12 then some ((o - 0x51000) / 16) else none

/-- The channel is secure (R362). -/
def State.secure (s : State) (c : Nat) : Bool := s.flag (R.EVT_CH_OWN c) F.EVT_CH_OWN_SECURE

/-- Protected bits of a register: its LK fields, and the set-up of a secure channel (R362, R397). -/
def State.protMask (s : State) (o : Nat) : Word :=
  match findReg o with
  | some (d, _) =>
    let whole : Bool := match channelAt o with
      | some c => s.secure c
      | none => false
    BitVec.ofNat 32 (if whole then d.rw ||| d.lk else d.lk)
  | none => 0

/-- A disturbance of a protected register's storage: the safety monitor's reference keeps the value written. -/
def State.upsetReg (s : State) (o : Nat) (flip : Word) : State :=
  let m := s.protMask o
  let old := s.rd o
  let new := old ^^^ (flip &&& m)
  let ref := (Tab.get (fun _ => none) s.flt.refs o).getD (old &&& m)
  let s := s.wr o new
  { s with flt := { s.flt with refs := Tab.set (fun _ => none) s.flt.refs o (if new &&& m = ref then none else some ref) } }

/-- A disturbance of a collector's copy of a severity. -/
def State.upsetCopy (s : State) (src sev : Nat) : State :=
  let v := if s.fld (R.FLT_SEV src) F.FLT_SEV_SEVERITY = sev then none else some sev
  { s with flt := { s.flt with copies := Tab.set (fun _ => none) s.flt.copies src v } }

/-- CONFIG_SCRUB (R397): every 10 ms each protected register is compared with its reference, and each collector's copy with its register.
upset, copy: what has been disturbed since the last pass, a fault of the hardware. -/
def execConfigScrub (upset : Option (BitVec 24 × Word)) (copy : Option (Fin 1024 × Fin 8)) (s : State) : Out :=
  let s := match upset with
    | some (o, w) => s.upsetReg o.toNat w
    | none => s
  let s := match copy with
    | some (n, v) => s.upsetCopy n v
    | none => s
  let bad := s.flt.refs.map (·.1) ++ s.flt.copies.map fun e => R.FLT_SEV e.1
  .next (if !s.flt.monitorUp then s
  else match bad with
    | o :: l => s.raiseD 611 0 0 0 (l.foldl min o) []
    | [] => s)

/-! ### The LK write path (R379, R398) -/

def State.lkResult (s : State) (n : Nat) : State := s.setF R.FLT_LK_STATUS F.FLT_LK_STATUS_RESULT n
def State.setProposal (s : State) (p : Option (Nat × Word × Nat)) : State := { s with flt := { s.flt with proposal := p } }

/-- LK_PROPOSE (R398): FLT_LK_CMD with OP 1. -/
def execLkPropose (s : State) : Out :=
  .next (if s.mode = .latched then s.lkResult 7
  else (s.setProposal (some (s.fld R.FLT_LK_ADDR F.FLT_LK_ADDR_ADDR, s.rd R.FLT_LK_DATA, s.now))).lkResult 1)

/-- What forbids a value (R379, R398): 8 BAD_VALUE, 4 BELOW_FLOOR. -/
def State.lkRefusal (s : State) (o : Nat) (v : Word) : Option Nat :=
  let n := v.toNat % 8
  if 0x41000 ≤ o ∧ o < 0x42000 then
    (if 4 < n then some 8 else if n < s.fld o F.FLT_SEV_FLOOR then some 4 else none)
  else if o = R.EVT_MODE_TASK ∧ 4 < n then some 8
  else none

/-- A write as SAFETY of the protected bits of a register, with the reference and the collectors' copy (R379, R397). -/
def State.safetyWrite (s : State) (o : Nat) (v : Word) : State :=
  if o = R.FLT_INJ then s.injWrite v
  else if 0x30240 ≤ o ∧ o < 0x30380 then s.sensorOverride ((o - 0x30240) / 4) (v.toNat % 4)
  else
    let m := s.protMask o
    let s := s.wr o ((s.rd o &&& ~~~ m) ||| (v &&& m))
    let s := { s with flt := { s.flt with refs := Tab.set (fun _ => none) s.flt.refs o none } }
    let s := if 0x41000 ≤ o ∧ o < 0x42000 then
        { s with flt := { s.flt with copies := Tab.set (fun _ => none) s.flt.copies ((o - 0x41000) / 4) none } }
      else s
    s.showFaults

/-- The bits the LK write path writes: LK fields, or the whole of a secure channel's configuration or tasks. EVT_CH_OWN gives only
SECURE (R362, R398). -/
def State.lkWrite (s : State) (o : Nat) (v : Word) : State :=
  if 0x51000 ≤ o ∧ o < 0x51400 ∧ o % 16 = 0 then
    let s := s.safetyWrite o ((s.rd o &&& ~~~ 0x10000000#32) ||| (v &&& 0x10000000#32))
    if v.getLsbD 28 then s
    else { s with flt := { s.flt with refs := s.flt.refs.filter fun e => e.1 != o + 4 && e.1 != o + 8 } }
  else s.safetyWrite o v

/-- LK_CONFIRM (R398): FLT_LK_CMD with OP 2 and CHECK. -/
def execLkConfirm (check : BitVec 16) (s : State) : Out :=
  .next (if s.mode = .latched then s.lkResult 7
  else match s.flt.proposal with
    | none => s.lkResult 6
    | some (o, v, t) =>
      let s := s.setProposal none
      if t + 1000000 < s.now then s.lkResult 6
      else if check.toNat ≠ 0xFFFF - v.toNat % 65536 then s.lkResult 5
      else if s.protMask o = 0 then s.lkResult 3
      else match s.lkRefusal o v with
        | some c => s.lkResult c
        | none => (((s.lkWrite o v).lkResult 2).logNote 5 0 0 [o, v.toNat]))

/-! ### The latch flag (R391) -/

/-- LATCH_FLAG_CLEAR (R391): VIN has been below 3 V for 100 ms without a break. -/
def execLatchFlagClear (s : State) : Out :=
  .next (({ s with flt := { s.flt with latchFlag := false } }).setF R.FLT_STATUS F.FLT_STATUS_LATCHED 0)

end Sys2Proof.Machine
end

