-- ==== Sys2Proof/Machine/Event.lean ====
section
/-! DEFINITION. The event fabric: EVI pins, the channel pass, tasks, EVO pins, and the owners of channels (16_events_and_capture.md R354
to R364, R271). -/

namespace Sys2Proof.Machine

/-! ### Sources -/

/-- EDGE of a pin selects an edge of this polarity (R358). -/
def edgeSelected (edge : Nat) (rising : Bool) : Bool := edge == 2 || (edge == 0 && rising) || (edge == 1 && !rising)

/-- EVI_EDGE (R358): a transition at pin EVIn, at te; stable: the new level then holds for FILTER event cycles. -/
def execEviEdge (n : Fin 16) (rising : Bool) (stable : Bool) (ns : Fin 1000) (s : State) : Out :=
  let s := s.at_ ns
  let te := s.now
  let s := if stable then s.setF (R.EVT_PIN_STAT n) F.EVT_PIN_STAT_LEVEL (bnat rising) else s
  .next (if !s.eventsOn || !edgeSelected (s.fld (R.EVT_PIN_CFG n) F.EVT_PIN_CFG_EDGE) rising then s
  else
    let held : Bool := match Tab.get (fun _ => none) s.evt.lastEdge n with
      | some t => decide (te < t + 1000 * s.fld (R.EVT_PIN_CFG n) F.EVT_PIN_CFG_HOLDOFF)
      | none => false
    if !stable || held then s.count (R.EVT_PIN_STAT n) F.EVT_PIN_STAT_IGNORED 1
    else
      let f : Fire := ⟨n, [], te + 8 + 4 * s.fld (R.EVT_PIN_CFG n) F.EVT_PIN_CFG_FILTER, some te⟩
      { s with evt := { s.evt with lastEdge := Tab.set (fun _ => none) s.evt.lastEdge n (some te), fired := s.evt.fired ++ [f] } })

/-- EVT_SW_PULSE (R355, R376): a write of EVT_SW_PULSE from any owner. -/
def execEvtSwPulse (v : BitVec 8) (s : State) : Out :=
  .next (forUp (fun k s => if v.getLsbD k then s.fire (244 + k) else s) 8 0 s)

/-! ### The channel pass (R354, R357, R361, R363) -/

/-- A refusal of R362 (kind 0) or R363 (kind 1). -/
def State.evtRefuse (s : State) (kind owner c : Nat) : State :=
  let o := R.EVT_REFUSED
  let s := (s.setF o F.EVT_REFUSED_VALID 1).setF o F.EVT_REFUSED_OWNER owner
  let s := (s.setF o F.EVT_REFUSED_KIND kind).setF o F.EVT_REFUSED_CHANNEL c
  s.count o F.EVT_REFUSED_COUNT 1

/-- The clock of a task, in MHz (R356); none for a reserved number. -/
def taskMHz (t : Nat) : Option Nat :=
  if t = 0 then some 125
  else if t = 1 ∨ t = 2 then some 300
  else if t < 4 then none
  else if t < 20 then some 125
  else if t < 36 then some 500
  else if t < 68 then some 125
  else if t < 84 then some 16
  else if t < 92 then some 250
  else if 96 ≤ t ∧ t < 112 then some 250
  else none

/-- The tasks that only a secure channel activates (R356, R363). -/
def secureTask (t : Nat) : Bool := t == 1 || t == 2

/-- An activation on its way to task t, reaching it at at_: the channel, the path, and the EVI edge it comes from. -/
structure Act where
  t : Nat
  at_ : Nat
  chan : Nat
  path : List Nat
  edge : Option (Nat × Nat)
  deriving DecidableEq, Repr

/-- Instant at which an activation leaving its channel at e reaches a task at mhz: after 1 or 2 cycles of that clock, an open value. -/
def reachAt (e mhz more : Nat) : Nat := cdiv ((e * mhz / 1000 + 1 + more) * 1000) mhz

/-- Task field j of a channel, where it is valid. -/
def State.chanTask (s : State) (c j : Nat) : Option Nat :=
  let v := (s.rd (R.EVT_CH_TASKS c)).toNat
  if bitOf v (8 * j + 7) then some (bits v (8 * j) 7) else none

/-- Field j of channel c forks an event to its task. -/
def State.forkTo (f : Fire) (c j : Nat) (s : State) (l : List Act) : State × List Act :=
  match s.chanTask c j with
  | none => (s, l)
  | some t =>
    match taskMHz t with
    | none => (s, l)
    | some mhz =>
      if secureTask t && !s.secure c then (s.evtRefuse 1 (s.fld (R.EVT_CH_OWN c) F.EVT_CH_OWN_OWNER) c, l)
      else
        let a : Act := ⟨t, reachAt (f.at_ + 4) mhz (s.freeVal 1), c, c :: f.path, f.edge.map fun te => (f.src, te)⟩
        (s.drawn, l ++ [a])

/-- An event at channel c: discarded with its loop cut, or passed and forked to up to four tasks. -/
def State.pass (f : Fire) (c : Nat) (s : State) (l : List Act) : State × List Act :=
  let o := R.EVT_LOOP_STATUS
  let cut : Bool := f.path.contains c
  if cut || decide (8 ≤ f.path.length) then
    let s := s.setF o (if cut then F.EVT_LOOP_STATUS_LOOP_CUT else F.EVT_LOOP_STATUS_HOP_CUT) 1
    (((s.setF o F.EVT_LOOP_STATUS_LAST c).count o F.EVT_LOOP_STATUS_DISCARDS 1).raise 449 0, l)
  else
    let s := s.count (R.EVT_CH_COUNT c) F.EVT_CH_COUNT_VAL 1
    [0, 1, 2, 3].foldl (fun (p : State × List Act) j => p.1.forkTo f c j p.2) (s, l)

/-- An event reaches every enabled channel that takes its source; source 255 is never active (R355). -/
def State.passAll (s : State) (l : List Act) (f : Fire) : State × List Act :=
  if f.src = 255 then (s, l)
  else
    (List.range 64).foldl (fun (p : State × List Act) c =>
      if p.1.flag (R.EVT_CH_CFG c) F.EVT_CH_CFG_ENABLE && p.1.fld (R.EVT_CH_CFG c) F.EVT_CH_CFG_SOURCE == f.src then p.1.pass f c p.2
      else p) (s, l)

/-! ### Capture units, as tasks reach them -/

def State.hu (s : State) (u : Nat) : Hrv := Tab.get (fun _ => Hrv.zero) s.hrv u
def State.setHu (s : State) (u : Nat) (h : Hrv) : State := { s with hrv := Tab.set (fun _ => Hrv.zero) s.hrv u h }
def State.huState (s : State) (u : Nat) : Nat := s.fld (R.HRV_STATUS u) F.HRV_STATUS_STATE

/-- A capture unit that takes samples (R368). -/
def State.huRuns (s : State) (u : Nat) : Bool := s.huState u != 0 && s.huState u != 5

/-- The capture trigger task (R369): the event condition of unit u, at the first arrival since the last sample. -/
def State.captureTask (s : State) (u at_ : Nat) (path : List Nat) : State :=
  let h := s.hu u
  if s.huRuns u then s.setHu u { h with evtAt := some (h.evtAt.getD at_), path := (h.path ++ path).eraseDups } else s

/-! ### Tasks (R356) -/

/-- The timestamp capture task i stamps instant t (R271). -/
def State.stampTask (s : State) (i t : Nat) : State :=
  let o := R.TIM_EVSTAMP_CTRL i
  let v := s.tbAt (s.fld o F.TIM_EVSTAMP_CTRL_TB) t
  let s := if s.flag o F.TIM_EVSTAMP_CTRL_NEW then s.setF o F.TIM_EVSTAMP_CTRL_OVERRUN 1 else s
  let s := (s.setF o F.TIM_EVSTAMP_CTRL_NEW 1).wr (R.TIM_EVSTAMP_SEC i) (BitVec.ofNat 32 (tbSec v))
  (s.wr (R.TIM_EVSTAMP_NS i) (BitVec.ofNat 32 (tbNs v))).wr (R.TIM_EVSTAMP_SUB i) (BitVec.ofNat 32 (tbSub v))

/-- The rack task (R62, R357): the activation reaches the fabric controller at most 16 ns later, an open value. -/
def State.rackTask (s : State) (path : List Nat) : State :=
  let s := { s with now := s.now + s.freeVal 64 % 17 }
  s.drawn.trigger ⟨.event, none, s.fld R.FAB_RACK_EVT F.FAB_RACK_EVT_DOMAINS, s.fld R.FAB_RACK_EVT F.FAB_RACK_EVT_TSET, none, none, path, 0⟩

/-- The mode prepare task (R356, R376). -/
def State.modeTask (s : State) (path : List Nat) : State :=
  match s.fld R.EVT_MODE_TASK F.EVT_MODE_TASK_MODE with
  | 1 => s.askMode ⟨.limp, .event, none, path, 0⟩
  | 2 => s.askMode ⟨.serve, .event, none, path, 0⟩
  | 3 => s.askMode ⟨.dormant, .event, none, path, 0⟩
  | 4 => s.askMode ⟨.warm, .event, none, path, 0⟩
  | _ => s.count R.EVT_MODE_TASK F.EVT_MODE_TASK_REFUSED 1

/-- EVOk (R359): a pulse of WIDTH event cycles, restarted by a further activation, or a toggle. -/
def State.evoTask (s : State) (k : Nat) : State :=
  let o := R.EVT_EVO_CFG k
  if s.flag o F.EVT_EVO_CFG_MODE then s.setF o F.EVT_EVO_CFG_LEVEL (1 - s.fld o F.EVT_EVO_CFG_LEVEL)
  else
    let fall := s.now + 4 * max 1 (s.fld o F.EVT_EVO_CFG_WIDTH)
    let s := s.setF o F.EVT_EVO_CFG_LEVEL 1
    { s with evt := { s.evt with evoEnd := Tab.set (fun _ => none) s.evt.evoEnd k (some fall) } }

/-- The action of task t, reached now: by channel chan (the lowest of those merged), along a path; stamp: the instant a timestamp
capture takes. -/
def State.doTask (s : State) (t chan : Nat) (path : List Nat) (stamp : Nat) : State :=
  if t = 0 then s.rackTask path
  else if t = 1 then s.modeTask path
  else if t = 2 then s.raiseD 450 0 chan 0 0 path
  else if t < 20 then s.captureTask (t - 4) s.now path
  else if t < 36 then s.stampTask (t - 20) stamp
  else if t < 52 then s.seqRequest (t - 36) (s.fld (R.SEQ_CTRL (t - 36)) F.SEQ_CTRL_EVT_FIRST) path
  else if t < 68 then s.jumpRequest (t - 52)
  else if t < 84 then s.injActivate (t - 68) path
  else if t < 92 then s.evoTask (t - 84)
  else s.countWrap (R.EVT_CNT (t - 96)) F.EVT_CNT_VAL 1

/-- The edge of the lowest-numbered EVI source among merged activations (R360). -/
def lowestEdge (l : List Act) : Option (Nat × Nat) :=
  (l.filterMap Act.edge).foldl (fun (m : Option (Nat × Nat)) e => match m with
    | some b => if e.1 < b.1 then some e else some b
    | none => some e) none

/-- Activations that reach a task input in one destination cycle make one (R360). -/
def State.reach (s : State) (a : Act) (l : List Act) : State :=
  let s := { s with now := max s.now a.at_ }
  let s := s.count (R.EVT_TASK_STAT a.t) F.EVT_TASK_STAT_ACTIVATIONS 1
  let s := s.count (R.EVT_TASK_STAT a.t) F.EVT_TASK_STAT_MERGED l.length
  let path := ((a :: l).flatMap Act.path).eraseDups
  let chan := l.foldl (fun m b => min m b.chan) a.chan
  let stamp := match lowestEdge (a :: l) with
    | some (_, te) => te
    | none => a.at_
  s.doTask a.t chan path stamp

/-- Activations in the order in which they reach their tasks. -/
def insertAct (a : Act) : List Act → List Act
  | [] => [a]
  | b :: l => if a.at_ < b.at_ then a :: b :: l else b :: insertAct a l

/-- Deliver activations in their order, n at most. -/
def State.deliver : Nat → List Act → State → State
  | 0, _, s => s
  | _, [], s => s
  | n + 1, a :: l, s =>
    let same (b : Act) : Bool := b.t == a.t && b.at_ == a.at_
    State.deliver n (l.filter fun b => !same b) (s.reach a (l.filter same))

/-- EVENT_ACTIVATION (R354): the source events that wait pass through the channels and reach their tasks; source events they cause wait
for the next pass. -/
def execEventActivation (s : State) : Out :=
  let fires := s.evt.fired
  let s := { s with evt := { s.evt with fired := [] } }
  let (s, acts) := fires.foldl (fun (p : State × List Act) f => p.1.passAll p.2 f) (s, [])
  .next (State.deliver acts.length (acts.foldl (fun l a => insertAct a l) []) s)

/-- EVO_PULSE_END (R359). -/
def execEvoPulseEnd (k : Fin 8) (s : State) : Out :=
  .next (match Tab.get (fun _ => none) s.evt.evoEnd k.val with
  | some t =>
    let s := { s with now := max s.now t, evt := { s.evt with evoEnd := Tab.set (fun _ => none) s.evt.evoEnd k none } }
    s.setF (R.EVT_EVO_CFG k) F.EVT_EVO_CFG_LEVEL 0
  | none => s)

/-! ### Owners (R362) -/

/-- A write that reaches an LK field from another owner than SAFETY is counted (R398). -/
def State.lkDirect (s : State) : State := s.count R.FLT_LK_STATUS F.FLT_LK_STATUS_DIRECT 1

/-- A released channel is disabled, and its task fields are cleared. -/
def State.releaseChan (s : State) (c : Nat) : State := (s.setF (R.EVT_CH_CFG c) F.EVT_CH_CFG_ENABLE 0).wr (R.EVT_CH_TASKS c) 0

/-- The safety monitor's references follow what SAFETY writes (R397). -/
def State.dropRefs (s : State) (os : List Nat) : State :=
  { s with flt := { s.flt with refs := s.flt.refs.filter fun e => !os.contains e.1 } }

/-- EVT_CH_OWN_WRITE (R362): a write of EVT_CH_OWN_c by an owner. -/
def execEvtChOwnWrite (o : Owner) (c : Fin 64) (v : Word) (s : State) : Out :=
  let r := R.EVT_CH_OWN c
  let claimed := s.fld r F.EVT_CH_OWN_CLAIMED
  let secure := s.fld r F.EVT_CH_OWN_SECURE
  let nc := F.EVT_CH_OWN_CLAIMED.get v
  let no := F.EVT_CH_OWN_OWNER.get v
  .next (if o = .safety then
    let s := (s.wr r (v &&& 0xF0000000)).dropRefs [r, r + 4, r + 8]
    if claimed = 1 ∧ nc = 0 then s.releaseChan c else s
  else if F.EVT_CH_OWN_SECURE.get v ≠ secure then (s.evtRefuse 0 o.code c).lkDirect
  else if claimed = 0 ∧ secure = 0 ∧ nc = 1 ∧ no = o.code then
    (s.setF r F.EVT_CH_OWN_CLAIMED 1).setF r F.EVT_CH_OWN_OWNER no
  else if claimed = 1 ∧ s.fld r F.EVT_CH_OWN_OWNER = o.code ∧ nc = 0 then
    ((s.setF r F.EVT_CH_OWN_CLAIMED 0).setF r F.EVT_CH_OWN_OWNER no).releaseChan c
  else s.evtRefuse 0 o.code c)

/-- EVT_CH_CFG_WRITE (R362): a write of EVT_CH_CFG_c, or of EVT_CH_TASKS_c. -/
def execEvtChCfgWrite (o : Owner) (c : Fin 64) (tasks : Bool) (v : Word) (s : State) : Out :=
  let r := R.EVT_CH_OWN c
  let put (s : State) : State := if tasks then s.wr (R.EVT_CH_TASKS c) v else s.wr (R.EVT_CH_CFG c) (v &&& 0x800000FF)
  .next (if o = .safety then (put s).dropRefs [R.EVT_CH_CFG c, R.EVT_CH_TASKS c]
  else if s.secure c then (s.evtRefuse 0 o.code c).lkDirect
  else if s.flag r F.EVT_CH_OWN_CLAIMED && s.fld r F.EVT_CH_OWN_OWNER == o.code then put s
  else s.evtRefuse 0 o.code c)

end Sys2Proof.Machine
end

