-- ==== Sys2Proof/Machine/Harvest.lean ====
section
/-! DEFINITION. Harvest capture units, and the samples they take as time passes (16_events_and_capture.md R365 to R374, R377). -/

namespace Sys2Proof.Machine

/-! ### Set-up (R365 to R367, R377) -/

/-- RATE of a unit; 3 acts as 1. -/
def State.huRate (s : State) (u : Nat) : Nat :=
  let r := s.fld (R.HRV_CTRL u) F.HRV_CTRL_RATE
  if r = 3 then 1 else r

/-- Sample period in ns (R365). -/
def ratePeriod (r : Nat) : Nat := if r = 0 then 8 else if r = 1 then 1000 else 8000

/-- K of a unit; above 16 acts as 16. -/
def State.huK (s : State) (u : Nat) : Nat := min 16 (s.fld (R.HRV_CTRL u) F.HRV_CTRL_K)

/-- PRE_LEN and POST_LEN: 0 acts as 1, above 4,194,304 as that. -/
def State.huPre (s : State) (u : Nat) : Nat := clampNat 1 0x400000 (s.fld (R.HRV_PRE u) F.HRV_PRE_LEN)
def State.huPost (s : State) (u : Nat) : Nat := clampNat 1 0x400000 (s.fld (R.HRV_POST u) F.HRV_POST_LEN)

/-- The channel words of a unit that are on, in channel order. -/
def State.huChans (s : State) (u : Nat) : List Word :=
  ((List.range 8).map fun j => s.rd (R.HRV_CHAN u j)).filter fun w => F.HRV_CHAN_KIND.get w != 0

/-- Words of a row (R366). -/
def rowWords (nch k : Nat) : Nat := if k = 0 then nch else 2 * nch

/-- Bytes of a slot (R367). -/
def slotLen (nch k pre post : Nat) : Nat := cdiv (64 + (pre + post) * (4 * rowWords nch k)) 4096 * 4096

def State.huSlotLen (s : State) (u : Nat) : Nat := slotLen (s.huChans u).length (s.huK u) (s.huPre u) (s.huPost u)
def State.huSlots (s : State) (u : Nat) : Nat := s.fld (R.HRV_CTRL u) F.HRV_CTRL_RECORDS + 1
def State.huBase (s : State) (u : Nat) : Nat := s.fld (R.HRV_BASE u) F.HRV_BASE_BASE * 4096

/-- The region of a unit: its first byte and the byte past its end; none where its base is 0. -/
def State.huRegion (s : State) (u : Nat) : Option (Nat × Nat) :=
  if s.huBase u = 0 then none else some (s.huBase u, s.huBase u + s.huSlots u * s.huSlotLen u)

def regionsMeet (a b : Option (Nat × Nat)) : Bool :=
  match a, b with
  | some (x, y), some (z, w) => decide (x < w) && decide (z < y)
  | _, _ => false

/-- The region of unit u meets that of another unit that p admits. -/
def State.huOverlap (s : State) (u : Nat) (p : Nat → Bool) : Bool :=
  (List.range 16).any fun v => v != u && p v && regionsMeet (s.huRegion u) (s.huRegion v)

/-- A KIND at a RATE that R365 allows. -/
def kindAllowed (kind rate : Nat) : Bool := kind == 1 || kind == 2 || (decide (3 ≤ kind) && decide (kind ≤ 7) && rate != 0)

/-- What HARVEST_ARM refuses with BAD_CONFIG (R374). -/
def State.badCapture (s : State) (u : Nat) : Bool :=
  let chans := s.huChans u
  let rate := s.huRate u
  chans.isEmpty || chans.any (fun w => !kindAllowed (F.HRV_CHAN_KIND.get w) rate) ||
  decide (64 * 2 ^ s.huK u * ratePeriod rate < 1000 * rowWords chans.length (s.huK u)) ||
  (List.range 4).any (fun m =>
    let c := s.rd (R.HRV_COND_CTRL u m)
    F.HRV_COND_CTRL_EN.get c == 1 && F.HRV_COND_CTRL_TYPE.get c != 3 && decide (chans.length ≤ F.HRV_COND_CTRL_CHAN.get c)) ||
  match s.huRegion u with
  | some (_, hi) => decide (s.cellarSize < hi)
  | none => true

/-! ### Configuration writes (R367, R368) -/

/-- A write of an HRV register of unit u, at its offset in the unit: ignored outside IDLE and DONE; a base below the capture area, and a
base or length that meets the region of a unit outside them, likewise. -/
def State.hrvWrite (s : State) (u off : Nat) (v : Word) : State :=
  let o := 0xA00000 + 256 * u + off
  match findReg o with
  | none => s
  | some (d, _) =>
    if 0x80 ≤ off then s.wr o (d.written .host (s.rd o) v)
    else if s.huRuns u then s.setF (R.HRV_STATUS u) F.HRV_STATUS_WRITE_REFUSED 1
    else if off = 4 ∧ F.HRV_BASE_BASE.get v ≠ 0 ∧ F.HRV_BASE_BASE.get v ≤ 0x17FFF then
      s.setF (R.HRV_STATUS u) F.HRV_STATUS_BASE_REFUSED 1
    else
      let t := s.wr o (d.written .host (s.rd o) v)
      if (off = 4 ∨ off = 8 ∨ off = 12) ∧ t.huOverlap u t.huRuns = true then s.setF (R.HRV_STATUS u) F.HRV_STATUS_WRITE_REFUSED 1 else t

/-- HRV_CONFIG_WRITE (R367): a write of register word w of unit u. -/
def execHrvConfigWrite (u : Fin 16) (w : Fin 64) (v : Word) (s : State) : Out := .next (s.hrvWrite u (4 * w) v)

/-! ### Samples (R365, R369) -/

/-- The value of a channel now, as a signed 32-bit word (R365). -/
def State.chanValue (s : State) (w : Word) : Int :=
  let x := F.HRV_CHAN_INDEX.get w
  let kind := F.HRV_CHAN_KIND.get w
  if kind = 4 then (if x < 16 then (s.fld (R.DRV_HK_RESULT x) F.DRV_HK_RESULT_RESULT : Int) else Config.captureNone kind x)
  else if 9216 ≤ x then Config.captureNone kind x
  else if !s.blkUp (blockOf x) then 0
  else match kind with
    | 1 => s.appliedCode x
    | 2 => s.baseCode x
    | 3 => signedOf 32 (s.fld (R.DRV_MON x) F.DRV_MON_SAMPLE + bnat (s.flag (R.DRV_MON x) F.DRV_MON_INVALID) * 2 ^ 31)
    | 5 => signedOf 32 (s.rd (R.LOOP_RESID x)).toNat
    | 6 => s.xhat x (F.HRV_CHAN_SUB.get w)
    | _ => s.loopState x

/-- The constants of a condition: LEVEL or LO, HYST or HI, SLOPE. -/
structure Cond where
  typ : Nat
  a : Int
  b : Int
  slope : Int
  deriving DecidableEq, Repr

def State.cond (s : State) (u m : Nat) : Cond :=
  let w (o : Nat) : Int := signedOf 32 (s.rd o).toNat
  ⟨s.fld (R.HRV_COND_CTRL u m) F.HRV_COND_CTRL_TYPE, w (R.HRV_COND_LEVEL u m), w (R.HRV_COND_HYST u m), w (R.HRV_COND_SLOPE u m)⟩

/-- v[n] meets a condition in a direction, 0 or 1, its "after" clause apart (R369). -/
def Cond.holds (c : Cond) (d : Nat) (prev : Option Int) (v : Int) : Bool :=
  match c.typ, d with
  | 0, 0 => c.a ≤ v
  | 0, _ => v ≤ c.a
  | 1, 0 => v < c.a || c.b < v
  | 1, _ => c.a ≤ v && v ≤ c.b
  | _, 0 => match prev with
    | some p => c.slope ≤ v - p
    | none => false
  | _, _ => match prev with
    | some p => v - p ≤ - c.slope
    | none => false

/-- v[n] meets the "after" clause (R369). -/
def Cond.after (c : Cond) (d : Nat) (prev : Option Int) (v : Int) : Bool :=
  match c.typ, d with
  | 0, 0 => v ≤ c.a - c.b
  | 0, _ => c.a + c.b ≤ v
  | 1, 0 => c.a ≤ v && v ≤ c.b
  | 1, _ => v < c.a || c.b < v
  | _, _ => !c.holds d prev v

/-- The part of a sample period that lies before the trigger, in 1/256, to the nearest; none where the formula of R371 gives no place
in the period. -/
def fraction (num den : Int) : Option Nat :=
  let (a, b) := if den < 0 then (-num, -den) else (num, den)
  if b = 0 ∨ a < 0 ∨ b < a then none else some ((512 * a + b) / (2 * b)).toNat

/-- The place of a condition met in a direction (R371). -/
def Cond.place (c : Cond) (d : Nat) (prev : Option Int) (v : Int) : Option Nat :=
  let p := prev.getD v
  match c.typ, d with
  | 0, _ => fraction (c.a - p) (v - p)
  | 1, 0 => fraction ((if c.b < v then c.b else c.a) - p) (v - p)
  | 1, _ => fraction ((if c.b < p then c.b else c.a) - p) (v - p)
  | _, _ => some 256

/-- What one condition does at a sample: met, with its place in the period (none where the spec gives none), and its readiness. -/
structure CondAt where
  met : Bool
  place : Option Nat
  ready : Bool × Bool

/-- Condition m of unit u at the sample at t of the channel values vals, with arb a value for DIR 3, which has no meaning. -/
def State.condAt (s : State) (u m t : Nat) (vals : List Int) (arb : Bool) : CondAt :=
  let h := s.hu u
  let w := s.rd (R.HRV_COND_CTRL u m)
  let c := s.cond u m
  let chan := F.HRV_COND_CTRL_CHAN.get w
  let v := nth 0 vals chan
  let prev := if h.last.isEmpty then none else some (nth 0 h.last chan)
  let r0 := nth false h.ready (2 * m)
  let r1 := nth false h.ready (2 * m + 1)
  let dir := F.HRV_COND_CTRL_DIR.get w
  let m0 := r0 && c.holds 0 prev v
  let m1 := r1 && c.holds 1 prev v
  let en := F.HRV_COND_CTRL_EN.get w == 1
  let period := ratePeriod (s.huRate u)
  if c.typ = 3 then
    match h.evtAt with
    | some a => ⟨en && decide (a ≤ t), fraction ((a : Int) - (t - period : Nat)) period, (r0, r1)⟩
    | none => ⟨false, none, (r0, r1)⟩
  else
    let on0 := dir == 0 || dir == 2
    let on1 := dir == 1 || dir == 2
    let met := en && ((on0 && m0) || (on1 && m1) || (dir == 3 && arb))
    ⟨met, if on0 && m0 then c.place 0 prev v else if on1 && m1 then c.place 1 prev v else none,
      (!m0 && (r0 || c.after 0 prev v), !m1 && (r1 || c.after 1 prev v))⟩

/-- The bytes of a row. -/
def rowBytes (k : Nat) (acc : List (Int × Int)) : List Byte :=
  acc.flatMap fun p => leBytes 4 (unsignedOf 32 p.1) ++ (if k = 0 then [] else leBytes 4 (unsignedOf 32 p.2))

/-- Address of the slot a unit stores into. -/
def State.huAddr (s : State) (u : Nat) : Nat := s.huBase u + (s.hu u).slot * s.huSlotLen u

/-- A row is complete: pre-trigger rows in circular order, then the rows of the record (R368). -/
def State.storeRow (s : State) (u : Nat) : State :=
  let h := s.hu u
  let k := s.huK u
  let pre := s.huPre u
  let post : Bool := s.huState u == 3
  let pos := if post then pre + h.posted else h.rows % pre
  let h' := { h with acc := [], accN := 0, rows := if post then h.rows else h.rows + 1, posted := if post then h.posted + 1 else h.posted }
  let due := if post && decide (s.huPost u ≤ h'.posted) then [HrvDue.complete]
    else if s.huState u == 1 && decide (pre ≤ h'.rows) then [HrvDue.preFull] else []
  let s := s.setHu u { h' with due := h'.due ++ due }
  s.cWrite (s.huAddr u + 64 + pos * (4 * rowWords h.acc.length k)) (rowBytes k h.acc)

/-- Store a sample (R366 to R368), unless the unit's buffer is full. -/
def State.storeSample (s : State) (u : Nat) (vals : List Int) : State :=
  let h := s.hu u
  if s.huState u ≠ 1 ∧ s.huState u ≠ 2 ∧ s.huState u ≠ 3 then s
  else if h.lose ≠ 0 then
    (s.setHu u { h with lose := h.lose - 1, lost := h.lost + 1 }).count (R.HRV_LOST u) F.HRV_LOST_VAL 1
  else
    let acc := if h.accN = 0 then vals.map fun v => (v, v) else (h.acc.zip vals).map fun p => (min p.1.1 p.2, max p.1.2 p.2)
    let s := s.setHu u { h with acc := acc, accN := h.accN + 1 }
    if h.accN + 1 = 2 ^ s.huK u then s.storeRow u else s

/-- A running unit that waits for nothing takes the sample at t (R365, R369, R370). -/
def State.huSample (u t : Nat) (s : State) : State :=
  let h := s.hu u
  if !s.huRuns u || !h.due.isEmpty then s
  else
    let vals := (s.huChans u).map s.chanValue
    let arb := bitOf (s.freeVal 16) 15
    let placeOpen := 1 + s.freeVal 8
    let cs := (List.range 4).map fun m => s.condAt u m t vals arb
    let cause := ((List.range 4).foldl (fun k m => if (cs[m]?.map CondAt.met).getD false then k + 2 ^ m else k) 0) + 16 * bnat h.force
    let evt : Bool := (List.range 4).any fun m => s.fld (R.HRV_COND_CTRL u m) F.HRV_COND_CTRL_TYPE == 3 && bitOf cause m
    let place := match cs.find? CondAt.met with
      | some c => c.place.getD placeOpen
      | none => 256
    let n := (if s.huState u = 2 then s.huPre u * 2 ^ s.huK u else 0) + h.accN
    let arrived : Bool := match h.evtAt with
      | some a => decide (a ≤ t)
      | none => false
    let h' := { h with last := vals, ready := cs.flatMap (fun c => [c.ready.1, c.ready.2]), force := false, lastAt := t,
                       evtAt := if arrived then none else h.evtAt, path := if arrived then [] else h.path }
    let s := s.drawn
    if cause = 0 then (s.setHu u h').storeSample u vals
    else s.setHu u { h' with due := [.trigger cause (256 * n + place - 256) t vals (if evt then h.path else [])] }

/-- The sample instants of a unit since its last one, up to now. -/
def State.huSamples (u : Nat) (s : State) : State :=
  if s.huRuns u then
    let p := ratePeriod (s.huRate u)
    let t0 := ((s.hu u).lastAt / p + 1) * p
    if s.now < t0 then s else forUp (fun i s => s.huSample u (t0 + i * p)) ((s.now - t0) / p + 1) 0 s
  else s

/-- What an empty queue lets pass: time, to the next boundary tick, with the samples of the capture units. -/
def State.idle (s : State) : State :=
  let s := { s with now := s.tick + tickNs }
  forUp State.huSamples 16 0 s

/-! ### States of a unit (R368, R370) -/

def State.setHuState (s : State) (u n : Nat) : State := s.setF (R.HRV_STATUS u) F.HRV_STATUS_STATE n

/-- Two ranges of bytes meet. -/
def HrvRec.meets (r : HrvRec) (lo hi : Nat) : Bool := decide (r.addr < hi) && decide (lo < r.addr + slotLen r.nch r.k r.preLen r.postLen)

/-- Records whose bytes a unit is about to overwrite are lost. -/
def State.dropRecords (s : State) (lo hi : Nat) : State :=
  forUp (fun v s => s.setHu v { s.hu v with recs := (s.hu v).recs.filter fun r => !r.meets lo hi }) 16 0 s

/-- A unit enters FILLING in a slot (R368). -/
def State.huFill (s : State) (u slot : Nat) : State :=
  let h := s.hu u
  let s := s.setHu u { h with due := [], rows := 0, posted := 0, acc := [], accN := 0, slot := slot, cur := none, lose := 0, lost := 0 }
  (s.dropRecords (s.huAddr u) (s.huAddr u + s.huSlotLen u)).setHuState u 1

/-- The slot of the next record: the one after that of the last record kept, the first after the last. -/
def State.nextSlot (s : State) (u : Nat) : Nat := if s.huSlots u ≤ (s.hu u).slot then 0 else (s.hu u).slot

/-- The record in progress is kept: its rows and losses so far. -/
def State.keepRecord (s : State) (u : Nat) (stopped : Bool) : State :=
  let h := s.hu u
  match h.cur with
  | some r =>
    let r := { r with rows := r.preLen + h.posted, lost := h.lost, gap := decide (0 < h.lost), stopped := stopped, full := !stopped }
    s.setHu u { h with cur := none, recs := h.recs ++ [r], nextSeq := h.nextSeq + 1, due := [], slot := h.slot + 1 }
  | none => s

/-- A unit is stopped (R368, R372). -/
def State.huStop (s : State) (u : Nat) : State :=
  let s := s.keepRecord u true
  (s.setHu u { s.hu u with due := [], lose := 0, force := false, evtAt := none, path := [] }).setHuState u 0

/-- HRV_PRETRIGGER_FULL (R368). -/
def execHrvPretriggerFull (u : Fin 16) (s : State) : Out :=
  .next (match (s.hu u).due with
  | .preFull :: l => (s.setHu u { s.hu u with due := l }).setHuState u 2
  | _ => s)

/-- An accepted trigger: the record begins (R370, R371, R373). -/
def State.acceptTrigger (s : State) (u cause pos256 t : Nat) (path : List Nat) : State :=
  let h := s.hu u
  let v := s.tbAt (s.fld (R.HRV_CTRL u) F.HRV_CTRL_TB) t
  let r : HrvRec := ⟨h.nextSeq, s.huAddr u, cause, pos256, false, false, false, s.huPre u, tbSec v % 2 ^ 32, tbNs v, s.huPre u, s.huPost u, 0,
    (s.huChans u).length, s.huK u, s.huRate u, h.rows % s.huPre u⟩
  let s := s.setHu u { h with cur := some r, posted := 0, path := path }
  ((s.setF (R.HRV_STATUS u) F.HRV_STATUS_LAST_CAUSE cause).setHuState u 3).fireP (180 + u) path

/-- HRV_TRIGGER (R370): the trigger at the sample that the unit has reached, then the sample is stored. -/
def execHrvTrigger (u : Fin 16) (s : State) : Out :=
  .next (match (s.hu u).due with
  | .trigger cause pos256 t vals path :: l =>
    let s := s.setHu u { s.hu u with due := l }
    let s := match s.huState u with
      | 1 => s.count (R.HRV_COUNTS u) F.HRV_COUNTS_EARLY 1
      | 2 => s.acceptTrigger u cause pos256 t path
      | 4 => s.count (R.HRV_COUNTS u) F.HRV_COUNTS_REARM_MISS 1
      | _ => s
    s.storeSample u vals
  | _ => s)

/-- HRV_RECORD_COMPLETE (R368). -/
def execHrvRecordComplete (u : Fin 16) (s : State) : Out :=
  .next (match (s.hu u).due with
  | .complete :: _ =>
    let h := s.hu u
    let s := (s.keepRecord u false).setF (R.HRV_STATUS u) F.HRV_STATUS_REC_SEQ h.nextSeq
    let s := s.setHuState u (if s.flag (R.HRV_CTRL u) F.HRV_CTRL_CONTINUOUS then 4 else 5)
    let s := s.setHu u { s.hu u with path := [] }
    (s.fireP (196 + u) h.path).attn 8
  | _ => s)

/-- HRV_REARM_END (R368). -/
def execHrvRearmEnd (u : Fin 16) (s : State) : Out := .next (if s.huState u = 4 then s.huFill u (s.nextSlot u) else s)

/-- HRV_GAP (R367): the buffer of a unit that stores rows is full, and it is about to lose n samples. -/
def execHrvGap (u : Fin 16) (n : Nat) (s : State) : Out :=
  .next (if 1 ≤ s.huState u ∧ s.huState u ≤ 3 ∧ 0 < n then
    (s.setHu u { s.hu u with lose := (s.hu u).lose + n }).raise (451 + u) u
  else s)

/-! ### HARVEST_ARM and HARVEST_READ (R372 to R374) -/

/-- UNIT of both opcodes. -/
def Desc.unit (d : Desc) : Nat := d.byte 20 % 16

/-- The completion of HARVEST_ARM. -/
def State.armDone (s : State) (r : Req) (u result : Nat) : State :=
  s.finish r result [s.rd (R.HRV_STATUS u), BitVec.ofNat 32 (s.huSlotLen u)] 0 false

/-- A capture request that its mode does not allow. -/
def State.captureRefused (s : State) : Bool := s.mode == .start && !s.admitted 10

/-- HARVEST_ARM (R372): HARVEST_ARM with OP 0. -/
def execHarvestArm (sq : Fin 32) (d : Desc) (s : State) : Out :=
  .next (s.launch sq d (d.opcode == 9 && d.byte 21 == 0) false true fun r s =>
    let u := d.unit
    if s.captureRefused then s.armDone r u 0x0709
    else if s.huRuns u then s.armDone r u 0x0703
    else if s.badCapture u then s.armDone r u 0x0702
    else if s.huOverlap u (fun _ => true) then s.armDone r u 0x070A
    else
      let s := (s.setF (R.HRV_COUNTS u) F.HRV_COUNTS_EARLY 0).setF (R.HRV_COUNTS u) F.HRV_COUNTS_REARM_MISS 0
      let s := s.setHu u { s.hu u with last := [], ready := [], evtAt := none, force := false, path := [], lastAt := s.now }
      (s.huFill u (s.nextSlot u)).armDone r u 0)

/-- HARVEST_STOP (R372): HARVEST_ARM with OP 1. -/
def execHarvestStop (sq : Fin 32) (d : Desc) (s : State) : Out :=
  .next (s.launch sq d (d.opcode == 9 && d.byte 21 == 1) false true fun r s =>
    let u := d.unit
    if s.captureRefused then s.armDone r u 0x0709
    else if !s.huRuns u then s.armDone r u 0x0704
    else (s.huStop u).armDone r u 0)

/-- HARVEST_FORCE (R372): HARVEST_ARM with OP 2. -/
def execHarvestForce (sq : Fin 32) (d : Desc) (s : State) : Out :=
  .next (s.launch sq d (d.opcode == 9 && d.byte 21 == 2) false true fun r s =>
    let u := d.unit
    if s.captureRefused then s.armDone r u 0x0709
    else if !s.huRuns u then s.armDone r u 0x0704
    else
      let st := s.huState u
      (s.setHu u { s.hu u with force := true }).armDone r u (if st = 1 ∨ st = 4 then 0x0708 else 0))

/-- The header of a record (R373). -/
def HrvRec.header (h : HrvRec) (u : Nat) : List Byte :=
  leBytes 4 h.seq ++ leBytes 1 h.cause ++ leBytes 1 h.pos256 ++
  leBytes 1 (bnat h.gap + 2 * bnat h.stopped + 4 * bnat h.full) ++ leBytes 1 u ++ leBytes 4 (h.pos256 / 256) ++ leBytes 4 h.rows ++
  leBytes 4 h.sec ++ leBytes 4 h.ns ++ leBytes 4 h.preLen ++ leBytes 4 h.postLen ++ leBytes 4 h.lost ++ leBytes 1 h.nch ++
  leBytes 1 h.k ++ leBytes 1 h.rate ++ List.replicate 25 0

/-- Row i of a record, in record order. -/
def State.recordRow (s : State) (h : HrvRec) (i : Nat) : List Byte :=
  let n := 4 * rowWords h.nch h.k
  let pos := if i < h.preLen then (h.first + i) % h.preLen else i
  Tab.getList (fun _ => (0 : Byte)) s.cellar (h.addr + 64 + pos * n) n

/-- Records of a unit that can be read: those kept, and the one in progress. -/
def State.readable (s : State) (u : Nat) : List HrvRec :=
  let h := s.hu u
  match h.cur with
  | some r => h.recs ++ [{ r with rows := r.preLen + h.posted, lost := h.lost, gap := decide (0 < h.lost) }]
  | none => h.recs

/-- REC_SEQ of the newest complete record. -/
def State.newestRecord (s : State) (u : Nat) : Option Nat :=
  ((s.hu u).recs.filter HrvRec.full).foldl (fun m r => some (max (m.getD 0) r.seq)) none

/-- HARVEST_READ (R373); bad: a row is read with an uncorrectable error of Cellar (CELLAR_ECC_UNCORR). -/
def execHarvestRead (sq : Fin 32) (d : Desc) (buf : Buf) (bad : Bool) (s : State) : Out :=
  .next (s.launch sq d (d.opcode == 10) true true fun r s =>
    let u := d.unit
    let newest := s.newestRecord u
    let asked := if d.le 24 4 = 0xFFFFFFFF then newest else some (d.le 24 4)
    let first := d.le 28 4
    let words (n seq next : Nat) : List Word := [BitVec.ofNat 32 n, BitVec.ofNat 32 seq, BitVec.ofNat 32 (newest.getD 0), BitVec.ofNat 32 next]
    let refuse (c : Nat) : State := s.finish r c (words 0 (asked.getD 0) first) 0 false
    if s.captureRefused then refuse 0x0709
    else match asked with
    | none => refuse 0x0705
    | some q =>
      match (s.readable u).find? fun h => h.seq == q with
      | none => refuse (if q < (s.hu u).nextSeq then 0x0706 else 0x0705)
      | some h =>
        let n := 4 * rowWords h.nch h.k
        if d.bufLen < 64 + n then refuse 0x0707
        else if h.rows ≤ first then refuse 0x0701
        else
          let fit := (d.bufLen - 64) / n
          let want := if d.le 32 4 = 0 then fit else min fit (d.le 32 4)
          let k := min want (h.rows - first)
          let s := if bad then s.raise 500 0 else s
          let head : HrvRec := { h with gap := h.gap || bad }
          s.finishBuf r d buf.ok 0 (words k q (first + k)) (head.header u ++ (upFrom first k).flatMap (s.recordRow h)))

end Sys2Proof.Machine
end

