-- ==== Sys2Proof/Machine/Start.lean ====
section
/-! DEFINITION. Resets, the cold start with loop acquisition, the warm start, the settling of the role, and the commit of Start
(19_start_and_modes.md R424 to R433; 15_management.md R342 to R344, R348; 18_thermal_power_clocks.md R415, R418; 20_redundant_pair.md
R441, R442). -/

namespace Sys2Proof.Machine

open Solver (Conn)

def State.setStart (s : State) (f : StartSt → StartSt) : State := { s with start := f s.start }

/-- SAFE_N (R388): driven high in Serve, Shadow and Limp, low in every other mode. -/
def State.safeN (s : State) : Bool := s.mode == .serve || s.mode == .shadow || s.mode == .limp

/-! ### What a cold start keeps (R424, R437, R442) -/

/-- Copy bits of a register from another state. -/
def State.keepBits (s from_ : State) (o mask : Nat) : State :=
  let m := BitVec.ofNat 32 mask
  s.wr o ((s.rd o &&& ~~~ m) ||| (from_.rd o &&& m))

/-- Every unit at t0 of a cold start: the clock, the NOR, one-time programmed values, pins and what has left the device stay, and in the
always-on domain the latch flag and the records that wait in retention SRAM. -/
def State.bareKept (s : State) : State :=
  let z := State.reset
  { z with
    now := s.now, freeCtr := s.freeCtr, pending := s.pending, cellar := s.cellar,
    hif := { z.hif with posted := s.hif.posted, perstLow := s.hif.perstLow, job := s.hif.job },
    mgmt := { z.mgmt with
      slotA := s.mgmt.slotA, slotB := s.mgmt.slotB, flagA := s.mgmt.flagA, flagB := s.mgmt.flagB, bootSec0 := s.mgmt.bootSec0,
      bootSec1 := s.mgmt.bootSec1, sectorsClean := s.mgmt.sectorsClean, logQ := s.mgmt.logQ, log := s.mgmt.log,
      logCount := s.mgmt.logCount, logSeq := s.mgmt.logSeq, keyHashes := s.mgmt.keyHashes },
    flt := { z.flt with latchFlag := s.flt.latchFlag },
    pk := { z.pk with memGiB := s.pk.memGiB, ageT0 := s.now, sent := s.pk.sent },
    pair := { z.pair with out := s.pair.out, roleSince := s.now, downSince := s.now },
    start := { z.start with t0 := s.now } }

/-- The same, with the time bases counting, and the straps, pins, supply bits and one-time fuses in their registers. -/
def State.bare (s : State) : State :=
  let role := if s.flag R.PAIR_STATUS F.PAIR_STATUS_PAIR_EN then 3 else 0
  let k := forUp (fun n k => k.setTb n { TimeBase.zero with cyc := s.now / 2 }) 4 0 s.bareKept
  let k := (k.keepBits s R.PAIR_STATUS 0x01C00000).setF R.PAIR_STATUS F.PAIR_STATUS_ROLE role
  let k := (k.keepBits s R.PWR_STATUS 0xE0000000).keepBits s R.MGT_OTP 0xFFFFFFFF
  forUp (fun n k => k.keepBits s (R.EVT_PIN_STAT n) 0x80000000) 16 0 k

/-- t0 of a cold start from a device that runs, or from Dormant: steps whose domains run already have ended (R424). -/
def State.coldStart (s : State) : State :=
  let ended := if s.mode = .dormant then 2 else if s.start.cold then s.start.ended &&& 0xE else 0xE
  s.releaseLine.bare.setStart fun k => { k with ended := ended }

/-- Dormant with every domain but domain 0 off (R418, R437): Cellar and the time bases are lost, the wake set-up stays. -/
def State.darkened (s : State) : State :=
  let z := (s.releaseLine.bare.keepBits s R.PWR_WAKE 0xC0000000)
  { z with mode := .dormant, cellar := [] }

/-- No power: what waits in retention SRAM is lost as well (R338). -/
def State.unpowered (s : State) : State :=
  let z := s.darkened
  let z := { z with mgmt := { z.mgmt with logQ := [], logSeq := (z.mgmt.log.getLast?.map LogRec.seq).getD 0 } }
  (((z.wr R.PWR_WAKE 0).setF R.PWR_STATUS F.PWR_STATUS_PFAIL 1).setF R.PWR_STATUS F.PWR_STATUS_ON_HOLDUP 0).setStart
    fun k => { k with noPower := true }

/-! ### Sources of a cold start -/

/-- POWER_ON (R16, R424): VIN rises above the start threshold, from no power or from Safe, latched. -/
def execPowerOn (s : State) : Out :=
  .next (if s.start.noPower then s.bare else if s.mode = .latched then s.unpowered.bare else s)

/-- COLD_RESET_INPUT (R424): COLD_RST_N, low at so many consecutive always-on samples, is released; refused in Safe, latched. -/
def execColdResetInput (samples : Nat) (s : State) : Out :=
  .next (if 21 ≤ samples ∧ s.mode ≠ .latched ∧ !s.start.noPower then s.coldStart else s)

/-- EVI0_WAKE (R418): an edge of EVI0 in Dormant, after a stable level of 1 ms. -/
def execEvi0Wake (falling : Bool) (s : State) : Out :=
  .next (if s.mode = .dormant ∧ !s.start.noPower ∧ s.flag R.PWR_WAKE F.PWR_WAKE_EVI0_EN ∧
      s.flag R.PWR_WAKE F.PWR_WAKE_EDGE = falling then
    (s.coldStart).setF (R.EVT_PIN_STAT 0) F.EVT_PIN_STAT_LEVEL (bnat !falling)
  else s)

/-- TEST_PORT_RESET (R424): TRST_N resets the IEEE 1149.1 logic, which holds no state of this model. -/
def execTestPortReset (s : State) : Out := .next s

/-- HOLDUP_EXHAUSTED (R419): VHOLD has fallen to 9 V while the converter draws from it. -/
def execHoldupExhausted (s : State) : Out :=
  .next (if s.flag R.PWR_STATUS F.PWR_STATUS_ON_HOLDUP then s.unpowered else s)

/-- DORMANT_POWER_DOWN (R437): at most 60 ms after the commit tick of a change to Dormant. -/
def execDormantPowerDown (s : State) : Out :=
  .next (if s.mode = .dormant ∧ !s.start.cold then s.darkened else s)

/-! ### Rootstock (R342 to R344) -/

/-- The registers of slot k show its committed image (R353). -/
def State.showSlot (s : State) (k : Nat) : State :=
  let on := s.slotFlag k
  let v (off n : Nat) : Nat := if on then s.slotLe k off n else 0
  let s' := (s.setF (R.MGT_SLOT k) F.MGT_SLOT_FLOOR (v 12 1)).setF (R.MGT_SLOT k) F.MGT_SLOT_GRAFT_VERSION (v 14 2)
  s'.wr (R.MGT_SLOT_SEQ k) (BitVec.ofNat 32 (v 8 4))

/-- The newest valid boot record is read. -/
def State.loadBoot (s : State) : State :=
  let r := s.newestBoot.getD ⟨0, 0, [0, 0], [0, 0], 0⟩
  let s := forUp (fun k s => ((s.setSlotState k (nth 0 r.state k)).setTries k (nth 0 r.tries k)).showSlot k) 2 0 s
  let s := s.setF R.MGT_BOOT_STATUS F.MGT_BOOT_STATUS_PREFERRED r.preferred
  s.wr R.MGT_BOOT_COUNT (BitVec.ofNat 32 r.bootCount)

/-- A slot becomes REJECTED: MGT_IMAGE_FALLBACK. -/
def State.reject (s : State) (k : Nat) : State := (s.setSlotState k 5).raiseD 478 0 k 0 0 []

/-- A slot is tried: whether it boots. -/
def State.trySlot (s : State) (k : Nat) : State × Bool :=
  let verify (s : State) : State × Bool := if s.slotFlag k && (s.imageFault k).isNone then (s, true) else (s.reject k, false)
  match s.slotState k with
  | 4 => verify s
  | 3 =>
    if s.slotTries k = 0 then (s.reject k, false)
    else if s.norWindow then verify (s.setTries k (s.slotTries k - 1)) else (s, false)
  | _ => (s, false)

/-- Component of a type in slot k. -/
def State.componentOf (s : State) (k typ : Nat) : Option (List Byte) :=
  ((s.components k).find? fun c => c.1 == typ).map fun c => s.slotBytes k c.2.1 c.2.2.1

/-- Slot k boots. -/
def State.bootSlot (s : State) (k : Nat) : State :=
  let s := s.wr R.MGT_BOOT_COUNT (s.rd R.MGT_BOOT_COUNT + 1)
  let other := k ≠ s.preferred
  let s := if other then s.raiseD 478 0 k 0 0 [] else s
  let s := (s.setF R.MGT_BOOT_STATUS F.MGT_BOOT_STATUS_FALLBACK (bnat (decide other))).setF R.MGT_BOOT_STATUS F.MGT_BOOT_STATUS_SLOT k
  let s := s.setF R.PAIR_VERSION F.PAIR_VERSION_OWN_VERSION (s.slotLe k 14 2)
  ({ s with mgmt := { s.mgmt with running := k } }.setSwap true).recordBoot

/-- ROOTSTOCK_BOOT (R342): the slot that boots is chosen, or recovery is entered. -/
def State.rootstock (s : State) : State :=
  let s := { s with mgmt := { s.mgmt with swapFixed := false, running := 2, bootWaits := none } }
  let s := (s.setSwap false).loadBoot
  let s := { s with mgmt := { s.mgmt with swapFixed := false } }
  let a := s.preferred
  let (s, ok) := s.trySlot a
  if ok then s.bootSlot a
  else
    let (s, ok) := s.trySlot (1 - a)
    if ok then s.bootSlot (1 - a)
    else
      let s := s.recordBoot.setF R.MGT_BOOT_STATUS F.MGT_BOOT_STATUS_RECOVERY 1
      (s.setF R.HIF_CTRL F.HIF_CTRL_READY 1).setStart fun k => { k with allowed := 0 }

/-- The four processors run their firmware, and the safety monitor classifies (R477). -/
def State.firmwareUp (s : State) : State :=
  let s := forUp (fun k s => s.setF (R.MGT_PROC_STATUS k) F.MGT_PROC_STATUS_STATE 1) 4 0 s
  ({ s with flt := { s.flt with monitorUp := true } }.showLog).showFaults

/-- Severities of component 9, each raised to its floor (R379). -/
def State.loadSeverities (s : State) (c : List Byte) : State :=
  forUp (fun n s => match sevOf n with
    | some (floor, _) => s.setF (R.FLT_SEV n) F.FLT_SEV_SEVERITY (max floor (min 4 (Config.severityDefault c n)))
    | none => s) 1024 0 s

/-- Step 4 of a cold start: Rootstock, and what it takes from every loaded component (R342, R379, R300). -/
def State.bootCold (s : State) : State :=
  let s := s.rootstock
  if s.inRecovery then s
  else
    let k := s.mgmt.running
    let s := s.firmwareUp
    let s := match s.componentOf k 9 with
      | some c => s.loadSeverities c
      | none => s
    match s.componentOf k 8 with
    | some c => { s with hif := { s.hif with subsys := Config.subsystemIds c } }
    | none => s

/-- R348: Vintner erases a slot in WRITTEN that does not run, and goes on with one left in ERASING. -/
def State.eraseLeftover (s : State) : State :=
  forUp (fun k s =>
    if (s.slotState k = 2 ∨ s.slotState k = 1) ∧ k ≠ s.mgmt.running then
      ((s.setSlotState k 1).recordBoot).setF R.MGT_NOR_STATUS F.MGT_NOR_STATUS_ERASE_LEFT 512
    else s) 2 0 s

/-! ### Loop blocks and default sets (R138, R158) -/

/-- The default rack set (R158) as shadow words of R318. -/
def defaultRackSet : Tab Word :=
  [(0, 0x03000000), (2, 0x03000000), (3, 0x00010001), (4, 0x03000000), (5, 3), (6, 0x03000000), (7, 4), (8, 0x03000000), (9, 5),
   (10, 0x03000000), (11, 6), (8193, 0x8000FFFF), (8194, 0x40000000), (8196, 0xC0000000), (8197, 0x40000000), (8198, 0x40000000),
   (12288, 0x80000000), (12289, 0x80000001), (12290, 0x80000002), (12291, 0x80000003), (12292, 0x80000004), (12293, 0x80000005)]

/-- Word w of a loop record as the register holds it (R138). -/
def loopWordOf (w : Nat) (v : Word) : Word :=
  if 4 ≤ w ∧ w ≤ 46 then BitVec.ofNat 32 (unsignedOf 32 (signedOf 24 v.toNat))
  else if w = 0 then v &&& 0xFFFF03FF
  else if w = 1 ∨ w = 47 then v &&& 0x3FFF3FFF else v

/-- Loop records of component 5, into the active set. -/
def State.loadLoops (s : State) (c : List Byte) : State :=
  forUp (fun x s => forUp (fun w s => s.wr (R.LOOP_ACTIVE_CFG x w) (loopWordOf w (Config.loopDefault c x w))) 48 0 s) 9216 0 s

/-- Tone slots of component 7. -/
def State.loadTones (s : State) (c : List Byte) : State :=
  forUp (fun x s => s.wr (R.SEQ_SLOT x) (Config.toneDefault c x &&& 0x8000071F)) 9216 0 s

/-- Step 8: loop blocks powered, default sets loaded, tap transmitters on for acquisition (R425, R429). -/
def State.blocksUp (s : State) : State :=
  let s := forUp (fun b s => s.setF (R.DRV_BLK_STATUS b) F.DRV_BLK_STATUS_POWERED 1) 16 0 s
  let k := s.mgmt.running
  let s := match s.componentOf k 5 with
    | some c => s.loadLoops c
    | none => s
  let s := match s.componentOf k 7 with
    | some c => s.loadTones c
    | none => s
  let s := s.setRackActive defaultRackSet
  { s with seq := { s.seq with rackShadow := defaultRackSet } }

/-! ### Loop acquisition (R428 to R430) -/

/-- The connections of acquisition image Ai. -/
def acqConns (i : Nat) : List Conn :=
  (List.range 32).map fun k => ⟨224 + k, 224 + (k + 4 * i + 1) % 32, if k < 16 then 1 else 2, false⟩

/-- Acquisition image Ai. -/
def acqImg (i : Nat) : Nat :=
  (acqConns i).foldl (fun m c =>
    (Solver.candidate (c.planeReq - 1) c.inp c.out (Config.acqRow i (c.inp - 224) % 128)).apply m) 0

/-- Image Ai is one that the permutation checker passes. -/
def State.acqFault (s : State) (i : Nat) : Option (Nat × Nat) := Solver.check (acqImg i) s.fab.failed.toNat (acqConns i)

/-- The image applied in phase n of acquisition: none before the first, after the last, and where the checker fails it. -/
def State.acqAt (s : State) (n : Nat) : Nat :=
  if n = 0 ∨ 8 < n ∨ (s.acqFault (n - 1)).isSome then 0 else acqImg (n - 1)

/-- Tap attenuators VI224 to VI255 and VO224 to VO255. -/
def tapElems : List Nat := (upFrom 224 32).flatMap fun n => [elemVI n, elemVO n]

/-- Elements on the paths of image Ai. -/
def acqElems (i : Nat) : List Nat :=
  let m := Solver.liveMask (acqImg i) (acqConns i)
  ((List.range cellCount).filter m.testBit).flatMap (fun j => [cellH j, cellF j]) ++ tapElems

/-- Moves from one acquisition image to the next; lit: the tap attenuators are opened. -/
def State.acqMoves (s : State) (old new : Nat) (lit : Bool) : List RackMove :=
  let cells := (List.range cellCount).filter fun i => old.testBit i != new.testBit i
  (if old = 0 then [] else tapElems.map fun x => ⟨x, 0, 0⟩) ++
  (cells.map fun i => if new.testBit i then ⟨cellF i, 1, s.key1 (cellF i)⟩ else ⟨cellF i, 2, 0⟩) ++
  (cells.map fun i => ⟨cellH i, 3, s.balance i (new.testBit i)⟩) ++
  if lit then tapElems.map fun x => ⟨x, 4, s.key1 x⟩ else []

/-- The rack sequencer drives these moves with timing set 0, and hands over at the end. -/
def State.acqDrive (s : State) (ms : List RackMove) : State :=
  let ts := s.rd (R.FAB_RACK_TS 0)
  let s := s.takeForRack (ms.map RackMove.x).eraseDups
  let s := (ms.filter fun m => decide (m.kind < 4)).foldl (fun s m => s.drive1 ts m (phaseLeft ts m)) s
  let up := ms.filter fun m => m.kind == 4
  let s := up.foldl (fun s m => if bitOf (s.hold m.x) 0 then s.unhold m.x 1 else s) s
  let s := up.foldl (fun s m => s.drive1 ts m (phaseLeft ts m)) s
  let held := (s.loop.x.filter fun e => e.2.owner == byRackSeq && e.2.ho.isNone).map (·.1)
  held.foldl (fun s x => (s.setLx x { s.lx x with taken := false }).beginHandover x) s

/-- Image Ai is applied at a boundary tick; elements on its paths leave Off (R428, R430). One that the checker fails is not applied. -/
def State.acqApply (s : State) (i : Nat) : State :=
  let s := s.toTick
  let old := s.acqAt s.start.acqImage
  let s := s.setStart fun k => { k with acqImage := i + 1, acqAt := s.now }
  match s.acqFault i with
  | some (p, c) => s.raiseD 225 p c 0 0 []
  | none => (acqElems i).foldl State.leaveOff (s.acqDrive (s.acqMoves old (acqImg i) true))

/-- After A7: the tap attenuators are parked, and every changed cell is driven back to bar. -/
def State.acqFinish (s : State) : State :=
  let s := s.toTick
  let old := s.acqAt s.start.acqImage
  let s := s.acqDrive (s.acqMoves old 0 false)
  let s := tapElems.foldl (fun s x => s.parkHold x 1) s
  s.setStart fun k => { k with acqImage := 9, acqAt := s.now }

/-- Every element on the paths of the image applied is in Hold, or 400 ms have passed. -/
def State.acqDone (s : State) : Bool :=
  (s.start.acqAt + 400000000 ≤ s.now) ||
  ((s.acqFault (s.start.acqImage - 1)).isNone && (acqElems (s.start.acqImage - 1)).all fun x => s.loopState x == 2)

/-- Steps of a cold start may end now: in Start, or in a Safe entered during it (R438). -/
def State.coldRuns (s : State) (n : Nat) : Bool :=
  s.start.cold && (s.mode == .start || s.mode == .safe || s.mode == .latched) && bitOf s.start.allowed n &&
  s.start.done (coldNeeds n) && !bitOf s.start.ended n

/-- ACQ_IMAGE_ADVANCE (R428): the first image is applied, or the one applied gives way to the next. -/
def execAcqImageAdvance (s : State) : Out :=
  let n := s.start.acqImage
  .next (if !s.coldRuns 9 then s
  else if n = 0 then s.acqApply 0
  else if 9 ≤ n || !s.acqDone then s
  else if n < 8 then s.acqApply n
  else s.acqFinish)

/-! ### COLD_START (R425 to R427) -/

/-- The number of a step in R425. -/
def ColdStep.num : ColdStep → Nat
  | .alwaysOn _ _ => 1
  | .clocks => 2
  | .domains => 3
  | .rootstock => 4
  | .tests _ _ _ => 5
  | .hostUp => 6
  | .memory _ _ _ => 7
  | .loopBlocks => 8
  | .acquisition => 9
  | .regionsCleared => 10
  | .pipelines => 11
  | .cellarCleared => 12

/-- START_UP_TESTS (R426): a test that fails raises its source; the counts of R395 include its injections. -/
def State.startTests (s : State) (wdog : BitVec 4) (verify : Bool) (checkers : List (BitVec 10 × Bool)) : State :=
  let w (k src : Nat) (s : State) : State := if wdog.getLsbD k then s.raise src 0 else s
  let s := w 3 471 (w 2 470 (w 1 475 (w 0 469 s)))
  let s := if verify then s else s.raise 613 0
  checkers.foldl (fun s e =>
    if !injectable e.1.toNat then s
    else if e.2 then s.count R.FLT_INJ_STATUS F.FLT_INJ_STATUS_PASSED 1
    else (s.count R.FLT_INJ_STATUS F.FLT_INJ_STATUS_FAILED 1).raiseD 612 0 0 0 e.1.toNat []) s

/-- Steps before step 13 have all ended: of a cold start 9, 11 and 12, of a warm start 2 and 6. -/
def State.startReady (s : State) : Bool :=
  s.mode == .start && s.start.done (if s.start.cold then 0x1A00 else 0x44) && (s.start.cold || s.start.warm)

/-- A step has ended. -/
def State.stepEnded (s : State) (n : Nat) : State :=
  let s := s.setStart fun k => { k with ended := k.ended ||| 2 ^ n }
  if s.startReady ∧ s.start.readyAt.isNone then s.setStart fun k => { k with readyAt := some s.now } else s

/-- With the latch flag set, a cold start goes no further than step 6 (R391): Safe, latched again, with a record of TYPE 2. -/
def State.relatch (s : State) : State := 
  if s.flt.latchFlag then ((s.forceSafe true).logNote 2 0 0 []).setStart fun k => { k with allowed := 0 } else s

/-- What the end of a step does; none where the step does not end. -/
def State.coldStep (s : State) : ColdStep → Option State
  | .alwaysOn en pref =>
    let o := R.PAIR_STATUS
    let s := (s.setF o F.PAIR_STATUS_PAIR_EN (bnat en)).setF o F.PAIR_STATUS_PREF (bnat pref)
    some (s.setF o F.PAIR_STATUS_ROLE (if en then 3 else 0))
  | .clocks => some s
  | .domains => some s
  | .rootstock => some s.bootCold
  | .tests w v c => some (s.startTests w v c)
  | .hostUp => some ((s.setF R.HIF_CTRL F.HIF_CTRL_READY 1).eraseLeftover)
  | .memory (some n) _ _ => some { s with pk := { s.pk with memGiB := 4 * 2 ^ n.val } }
  | .memory none _ _ => none
  | .loopBlocks => some s.blocksUp
  | .acquisition =>
    if s.start.acqImage ≠ 9 then none
    else some (forUp (fun x s => if s.loopState x = 0 then s.leaveOff x else s) 9216 0 s)
  | .regionsCleared => some { s with cellar := Tab.clear 0 0x15000000 s.cellar }
  | .pipelines => some s
  | .cellarCleared => some { s with cellar := [] }

/-- COLD_START (R425): a step of the cold start ends. A memory that cannot be used stops the start there (R463). -/
def execColdStart (k : ColdStep) (s : State) : Out :=
  .next (if !s.coldRuns k.num then s
  else match k, s.coldStep k with
    | .memory none c e, _ => (s.logNote 3 0 0 [c, e]).setStart fun k => { k with allowed := 0 }
    | _, some t =>
      let t := t.stepEnded k.num
      if k.num = 6 then t.relatch else if k.num = 8 ∨ k.num = 9 then t.showTx else t
    | _, none => s)

/-! ### The warm start (R431, R432) -/

/-- The number of a step in R431. -/
def WarmStep.num : WarmStep → Nat
  | .stopped => 1
  | .poweredDown => 2
  | .rootstock => 3
  | .firmware => 4
  | .hostUp => 5
  | .pipelines => 6

/-- Steps that a step of the warm start waits for. -/
def WarmStep.needs : WarmStep → Nat
  | .stopped => 0
  | .poweredDown => 0x2
  | .rootstock => 0x2
  | .firmware => 0x8
  | .hostUp => 0x10
  | .pipelines => 0x20

/-- Every lane of port p has WARM_KEEP. -/
def State.keptPort (s : State) (p : Nat) : Bool := decide (p < 64) && (s.lanesOf p).all fun x => s.flag (R.LANE_CFG x) F.LANE_CFG_WARM_KEEP

/-- Step 1: ingress, lanes without WARM_KEEP, ring engine, block sequences and a CAL_RUN stop; then the processors are in reset. -/
def State.warmStop (s : State) : State :=
  let s := s.ingressStop
  let s := forUp (fun p s => if s.keptPort p then s else s.portOff p (s.lanesOf p)) 96 0 s
  let s := (s.ringReset.setF R.HIF_CTRL F.HIF_CTRL_READY 0).calInterrupt
  let s := forUp (fun q s => match s.seqState q with
    | 0 => s
    | 2 => s.setSeqSt q { s.seqSt q with stopAs := some 2 }
    | _ => s.endSeq q 2 []) 16 0 s
  let s := forUp (fun u s => if s.huRuns u then s.huStop u else s) 16 0 s
  let s := s.setF R.PAIR_STATUS F.PAIR_STATUS_SYNC 0
  let s := forUp (fun k s => s.setF (R.MGT_PROC_STATUS k) F.MGT_PROC_STATUS_STATE 0) 4 0 s
  { s with flt := { s.flt with monitorUp := false }, pair := { s.pair with resync := false, resyncReq := none, exch := none } }

/-- Step 2: the pipelines and buffer banks go off with the frames they hold. -/
def State.warmDown (s : State) : State :=
  let s := s.bufferClear
  let s := { s with pk := { s.pk with frames := [], reads := [], notices := [], recent := [], fcsErr := [] } }
  forUp (fun n s => s.resetRange (R.PIPE_STATUS n) 4) 4 0 s

/-- A rehash in progress is given up: its region is cleared (R208). -/
def State.rehashDrop (s : State) (n : Nat) : State :=
  if (s.rehashOf n).isNone then s
  else
    let o := R.TBL_STATUS n
    let s := ((s.setRehash n none).wr (R.TBL_SEED_NEW n) 0).setF o F.TBL_STATUS_ACTIVITY 0
    s.cClear (fwdBase n (1 - s.fld o F.TBL_STATUS_REGION)) fwdSize

/-- An image operation that a reset of Vintner ends leaves its slot WRITTEN (R328, R345). -/
def State.dropImageOp (s : State) : State :=
  { s with mgmt := { s.mgmt with imageOp := none } }

/-- Step 3: Rootstock, and the processor state that retention SRAM does not hold is lost. -/
def State.warmBoot (s : State) : State :=
  let s := forUp (fun n s => s.rehashDrop n) 4 0 s.dropImageOp
  let s := { s with
    fab := { s.fab with solving := none, solveQ := [] }, rack := { s.rack with waiting := [] },
    mgmt := { s.mgmt with expiries := [] },
    flt := { s.flt with inject := [], proposal := none, supply := [], clock := [] },
    start := { s.start with queue := [] } }
  s.showSolver.rootstock

/-- What the end of a step does. -/
def State.warmStep (s : State) : WarmStep → State
  | .stopped => s.warmStop
  | .poweredDown => s.warmDown
  | .rootstock => s.warmBoot
  | .firmware => s.firmwareUp
  | .hostUp => (s.setF R.HIF_CTRL F.HIF_CTRL_READY 1).eraseLeftover
  | .pipelines => ({ s with pk := { s.pk with cache := [] } }).fillPolicers

/-- WARM_START (R431): a step of the warm start ends. After SAFE, steps 3 to 5 still complete, so that the host interface returns. -/
def execWarmStart (k : WarmStep) (s : State) : Out :=
  let st := s.start
  let mode := s.mode == .start || ((s.mode == .safe || s.mode == .latched) && decide (k.num ≤ 5))
  .next (if st.warm && mode && st.done k.needs && !bitOf st.ended k.num && !s.inRecovery then (s.warmStep k).stepEnded k.num else s)

/-! ### The role (R441, R442) -/

/-- DRILL_OVERDUE follows HOURS and DRILL_H (R454). -/
def State.showDrill (s : State) : State :=
  let h := s.fld R.PAIR_DRILL F.PAIR_DRILL_DRILL_H
  s.setF R.PAIR_STATUS F.PAIR_STATUS_DRILL_OVERDUE (bnat (h != 0 && decide (h ≤ s.fld R.PAIR_DRILL F.PAIR_DRILL_HOURS)))

/-- Registers that the mirror carries as received (R445): TBL_CTRL, TBL_PORT_LEARN_p, TBL_FLOOD_v_w. -/
def mirroredRegs : List Nat :=
  [R.TBL_CTRL] ++ ((List.range 96).map fun p => R.TBL_PORT_LEARN p) ++ (List.range 12288).map fun k => R.TBL_FLOOD (k / 3) (k % 3)

/-- The whole mirrored content (R445, R449). -/
def State.mirrorContent (s : State) : List MirrorRec :=
  let lpm (n : Nat) (v6 : Bool) : List MirrorRec := (s.lpmSlots n v6).filterMap fun t => t.ent.map fun e => .lpm n v6 e.1 t.len e.2
  [s.mirrorSet] ++ ((List.range 4).flatMap fun n => ((s.entries n).map fun e => MirrorRec.fdb n e) ++ lpm n false ++ lpm n true) ++
  mirroredRegs.map fun o => .reg o (s.rd o)

/-- A resync starts (R449): SYNC is 0; the active sends everything. -/
def State.startResync (s : State) : State :=
  if s.flag R.PAIR_STATUS F.PAIR_STATUS_LINK && !s.flag R.PAIR_STATUS F.PAIR_STATUS_INCOMPATIBLE then
    let s := (s.setF R.PAIR_STATUS F.PAIR_STATUS_SYNC 0).count R.PAIR_COUNTS F.PAIR_COUNTS_RESYNCS 1
    let s := { s with pair := { s.pair with resync := true } }
    s.mirrorContent.foldl State.mirrorOut s
  else s

/-- The member's role becomes r: source 253 and class PAIR (R320, R453); the hours since its last change start again (R454). -/
def State.setRole (s : State) (r : Nat) : State :=
  if s.fld R.PAIR_STATUS F.PAIR_STATUS_ROLE = r then s
  else
    let s := ((s.setF R.PAIR_STATUS F.PAIR_STATUS_ROLE r).setF R.PAIR_DRILL F.PAIR_DRILL_HOURS 0).showDrill
    ({ s with pair := { s.pair with roleSince := s.now } }.fire 253).attn 5

/-- PAIR_HOLD_N is driven low. -/
def State.driveLine (s : State) : State :=
  (s.setF R.PAIR_STATUS F.PAIR_STATUS_HOLD_DRIVEN 1).setF R.PAIR_STATUS F.PAIR_STATUS_LINE_LOW 1

def State.role (s : State) : Nat := s.fld R.PAIR_STATUS F.PAIR_STATUS_ROLE

/-- The role has yet to be settled. -/
def State.unsettled (s : State) : Bool := s.role == 3

/-- Rules 1 to 3 of R441: the role, and whether equal straps clash; none where rule 4 waits. line: PAIR_HOLD_N reads low. -/
def State.settle (s : State) (line : Bool) : Option (Nat × Bool) :=
  let link := s.flag R.PAIR_STATUS F.PAIR_STATUS_LINK
  let pref := s.flag R.PAIR_STATUS F.PAIR_STATUS_PREF
  if line then some (2, false)
  else if !link then none
  else if s.pair.peer = 3 then
    if pref ≠ s.pair.peerPref then some (if pref then 2 else 1, false)
    else
      let peer := (s.rd R.PAIR_PEER_ID_LO).toNat + 2 ^ 32 * (s.rd R.PAIR_PEER_ID_HI).toNat
      some (if Config.uniqueId.toNat < peer then 1 else 2, true)
  else if s.pair.peer = 1 then some (2, false) else none

/-! ### The commit of Start -/

/-- The mode that Start leads to (R16, R425, R431). -/
def State.startTo (s : State) : Mode :=
  if s.role = 2 then .shadow
  else if s.flag R.THM_STATUS F.THM_STATUS_THROTTLE || s.pipeUnacked then .limp
  else if s.start.warm && s.start.warmTo == .limp then .limp
  else if s.start.warm && s.start.warmTo == .shadow then .shadow
  else .serve

/-- Step 7 of a warm start: the holds of the safe state end, and lanes without WARM_KEEP start bring-up (R431, R438). -/
def State.warmCommit (s : State) : State :=
  let lit := s.start.warmSafe
  let s := s.setStart fun k => { k with warmSafe := false }
  let s := if lit then forUp (fun n s => (s.unhold (elemVI n) 2).unhold (elemVO n) 2) 256 0 s else s
  let s := { s with fab := { s.fab with startDark := 0 } }
  let s := forUp (fun p s => if s.mode_ p ≠ 0 ∧ s.portStep p = 0 then s.bringStart p 1 else s) 96 0 s
  s.showTx

/-- Every unit of R68 commits from Start; late: units that fail to apply. A resync follows (R449). -/
def State.commitStart (s : State) (late : BitVec 23) : State :=
  let s := { s with now := s.tick + tickNs + tickNs }
  let dest := s.startTo
  let s := if s.role = 1 then s.driveLine else s
  let s := if s.start.warm then s.warmCommit else s
  let s := s.setStart fun k =>
    { k with cold := false, warm := false, readyAt := none, throttleOnly := decide (dest = .limp) && !s.pipeUnacked }
  let s := (((s.setMode dest []).attn 4).logNote 2 0 0 [0x7FFFFF]).showFaults
  let s := s.startResync
  let mask := late.toNat &&& (0x7FFFFF ^^^ s.fab.isoBlocks.toNat)
  if mask = 0 then s else (s.wr R.FAB_RACK_SKEWED (BitVec.ofNat 32 mask)).raiseD 226 0 mask 0 0 []

/-- START_COMMIT (R425, R431): the commit of step 13, or of step 7 of a warm start, once the role is settled; line: PAIR_HOLD_N has read
low for 8 consecutive always-on cycles. -/
def execStartCommit (late : BitVec 23) (line : Bool) (s : State) : Out :=
  .next (if !s.startReady then s
  else if !s.unsettled then s.commitStart late
  else
    let s := if line then s.setF R.PAIR_STATUS F.PAIR_STATUS_LINE_LOW 1 else s
    match s.settle line with
    | some (r, clash) => ((s.setRole r).setF R.PAIR_STATUS F.PAIR_STATUS_CLASH (bnat clash)).commitStart late
    | none => s)

/-- NEGOTIATE_TIMEOUT (R441, rule 4): the wait for the link ends with the line still released. -/
def execNegotiateTimeout (line : Bool) (s : State) : Out :=
  .next (match s.start.readyAt with
  | some t =>
    if !s.startReady || !s.unsettled || line || (s.settle false).isSome then s
    else
      let wait := 10000000 * max 1 (s.fld R.PAIR_CFG F.PAIR_CFG_NEGOTIATE) +
        (if s.flag R.PAIR_STATUS F.PAIR_STATUS_PREF then 100000000 else 0)
      { s with now := max s.now (t + wait) }.setRole 1
  | none => s)

end Sys2Proof.Machine
end

