-- ==== Sys2Proof/Machine/Mode.lean ====
section
/-! DEFINITION. MODE_SET and the two-phase mode change: trigger tick, prepare, commit point, commit tick (19_start_and_modes.md R434 to
R439; 01_architecture.md R16, R17; 20_redundant_pair.md R451 to R454). The commands of prepare serve racks and mode changes alike. -/

namespace Sys2Proof.Machine

/-! ### Requests (R439) -/

/-- MODE_SET with one TARGET: refused while Start is in progress, else it joins the order of R435. -/
def State.modeSet (s : State) (sq : Fin 32) (d : Desc) (code : Nat) (t : Target) : State :=
  s.launch sq d (d.opcode == 0x0E && d.byte 20 == code) false true fun r s =>
    if (upFrom 21 43).any (fun i => d.byte i != 0) then s.finish r 0x0A01 (s.modeWords 0 s.mode) 0 false
    else if s.mode = .start then s.finish r 0x0A02 (s.modeWords 0 s.mode) 0 false
    else s.askMode ⟨t, .host, some r, [], 0⟩

/-- MODE_SET_LIMP (R439). -/
def execModeSetLimp (sq : Fin 32) (d : Desc) (s : State) : Out := .next (s.modeSet sq d 1 .limp)

/-- MODE_SET_SERVE (R439, R17). -/
def execModeSetServe (sq : Fin 32) (d : Desc) (s : State) : Out := .next (s.modeSet sq d 2 .serve)

/-- MODE_SET_DORMANT (R439). -/
def execModeSetDormant (sq : Fin 32) (d : Desc) (s : State) : Out := .next (s.modeSet sq d 3 .dormant)

/-- MODE_SET_WARM_START (R439). -/
def execModeSetWarmStart (sq : Fin 32) (d : Desc) (s : State) : Out := .next (s.modeSet sq d 4 .warm)

/-- MODE_SET_COLD_START (R439). -/
def execModeSetColdStart (sq : Fin 32) (d : Desc) (s : State) : Out := .next (s.modeSet sq d 5 .cold)

/-! ### Admission (R16, R17, R434, R435) -/

def State.throttled (s : State) : Bool := s.flag R.THM_STATUS F.THM_STATUS_THROTTLE

/-- The result that a request meets at its trigger tick; none where it is admitted. -/
def State.modeRefusal (s : State) (t : Target) : Option Nat :=
  let up := s.mode == .serve || s.mode == .limp || s.mode == .shadow
  if s.mode = .latched then some 0x0A08
  else match t with
    | .limp => if s.mode = .limp then some 1 else if s.mode = .serve then none else some 0x0A02
    | .serve =>
      if s.mode = .serve then some 1
      else if s.mode ≠ .limp then some 0x0A02
      else if s.throttled then some 0x0A03
      else if s.pipeUnacked then some 0x0A04 else none
    | .shadow => if s.mode = .serve ∨ s.mode = .limp then none else some 0x0A02
    | .dormant => if up ∨ s.mode = .safe then none else some 0x0A02
    | .warm =>
      if up then none
      else if s.mode ≠ .safe ∨ s.start.safeCold then some 0x0A02
      else if s.safeUnacked then some 0x0A04 else none
    | .cold =>
      if up then none
      else if s.mode ≠ .safe then some 0x0A02
      else if s.safeUnacked then some 0x0A04 else none

/-- A change that the device asked for itself and that no longer applies is dropped without a record (R435, R452). -/
def State.modeMoot (s : State) (r : ModeReq) : Bool :=
  match r.src with
  | .throttle => s.mode != .serve || !s.throttled
  | .contain => s.mode != .serve
  | .cooled => s.mode != .limp || s.throttled || s.pipeUnacked || !s.start.throttleOnly
  | .takeOver => s.mode != .shadow
  | _ => false

/-- Participating units (R434), but loop blocks isolated before the trigger tick (R68). -/
def State.modeUnits (s : State) (r : ModeReq) : Nat :=
  let all := 0x7F0000 + (0xFFFF ^^^ s.fab.isoBlocks.toNat)
  if r.src = .takeOver then all
  else match r.target with
    | .limp => 0x3F0000
    | .serve => 0x3F0000
    | .warm => 0x7F0000
    | .cold => 0
    | _ => all

/-- A mode change is admitted at its trigger tick, and prepares. A take-over drives the line from here (R452). -/
def State.modeAdmit (s : State) (r : ModeReq) : State :=
  let s := s.setStart fun k => { k with change := some ⟨r, s.now, s.modeUnits r, 0, false, false⟩ }
  if r.src = .takeOver then s.driveLine else s

/-- A rack goes before a mode change (R17): one in progress, or a trigger of an earlier tick. -/
def State.rackAhead (s : State) (r : ModeReq) : Bool :=
  let earlier (t : Trig) : Bool := decide (tickAfter t.at_ ≤ r.at_)
  s.rack.run.isSome || s.rack.arrived.any earlier || (match s.rack.pendingTrig with
    | some t => earlier t
    | none => false)

/-- MODE_CHANGE_TRIGGER_TICK (R434, R435): the first boundary tick after the oldest request reached the fabric processor, once no change and
no earlier rack is in progress. -/
def execModeChangeTriggerTick (s : State) : Out :=
  .next (match s.start.queue, s.start.change with
  | r :: l, none =>
    if s.rackAhead r then s
    else
      let s := (s.toTickAfter r.at_).setStart fun k => { k with queue := l }
      if s.modeMoot r then s
      else if r.src = .takeOver then s.modeAdmit r
      else match s.modeRefusal r.target with
        | some c => s.modeOutcome r c 0 s.mode
        | none => s.modeAdmit r
  | _, _ => s)

/-! ### Prepare and commit point (R434, R69) -/

/-- Unit u reports ready for the mode change in progress. -/
def State.modeReport (s : State) (u : Nat) : State :=
  let f (r : ModeRun) : ModeRun := if r.window || !bitOf r.units u then r else { r with ready := r.ready ||| 2 ^ u }
  s.setStart fun k => { k with change := k.change.map f }

/-- UNIT_PREPARE_REPORT (R69, R434): unit u of the mask of R68 ends its prepare, of the rack in progress or of the mode change. -/
def execUnitPrepareReport (u : Fin 23) (s : State) : Out :=
  .next (if s.rack.run.isSome then s.rackReport u else s.modeReport u)

/-- READY_COLLECTION (R69, R74, R434): 360 ns before a boundary tick. -/
def execReadyCollection (s : State) : Out :=
  .next (if s.rack.run.isSome then s.rackReady
  else match s.start.change with
    | some r => if r.window || s.restarting 2 then s
      else (s.at_ 640).setStart fun k => { k with change := some { r with go := r.units &&& r.ready == r.units } }
    | none => s)

/-- The mode that a change to a target leads to, as the completion of R439 names it. -/
def Target.mode : Target → Mode
  | .limp => .limp
  | .serve => .serve
  | .shadow => .shadow
  | .dormant => .dormant
  | .warm => .start
  | .cold => .start

/-- Completions written before the commit tick (R439): to Dormant, and before a start begins. -/
def State.modeEarly (s : State) (r : ModeReq) : State :=
  match r.target with
  | .dormant => s.finishOpt r.req 0 [0, BitVec.ofNat 32 s.mode.code, 0] false
  | .warm => s.finishOpt r.req 0 [0, BitVec.ofNat 32 s.mode.code, 1] false
  | .cold => s.finishOpt r.req 0 [0, BitVec.ofNat 32 s.mode.code, 1] false
  | _ => s

/-- A take-over opens VIn and VOm of every mirrored connection (R452, R79). -/
def State.openAll (s : State) : State :=
  let ms : List RackMove := s.carriedConns.flatMap fun c =>
    [⟨elemVI c.inp, 4, s.key1 (elemVI c.inp)⟩, ⟨elemVO c.out, 4, s.voCode (elemVO c.out) (attenOf s.activeMap c.inp)⟩]
  let s := s.takeForRack (ms.map RackMove.x)
  let s := ms.foldl (fun s m => if bitOf (s.hold m.x) 0 then s.unhold m.x 1 else s) s
  ms.foldl (fun s m => s.drive1 (s.rd (R.FAB_RACK_TS 0)) m (phaseLeft (s.rd (R.FAB_RACK_TS 0)) m)) s

/-- COMMIT_BROADCAST (R70, R434): the commit point, 296 ns before a boundary tick, when every unit has reported. -/
def execCommitBroadcast (s : State) : Out :=
  .next (if s.rack.run.isSome then s.rackBroadcast
  else match s.start.change with
    | some r =>
      if r.window || !r.go || s.restarting 2 then s
      else
        let s := ((s.at_ 704).setStart fun k => { k with change := some { r with window := true } }).modeEarly r.r
        if r.r.src = .takeOver then s.openAll else s
    | none => s)

/-- PREPARE_TIMEOUT (R69, R434): no commit point within DEADLINE of the trigger tick. -/
def execPrepareTimeout (s : State) : Out :=
  .next (if s.rack.run.isSome then s.rackTimeout
  else match s.start.change with
    | some r =>
      let dl := max 2 (s.fld R.FAB_RACK_CTRL F.FAB_RACK_CTRL_DEADLINE)
      if r.window ∨ s.now < r.t0 + dl * 1000 then s
      else
        let s := s.setStart fun k => { k with change := none }
        let s := if r.r.src = .takeOver then s.releaseLine else s
        s.modeOutcome r.r 0x0A05 (r.units ^^^ (r.units &&& r.ready)) s.mode
    | none => s)

/-! ### The commit tick (R434, R436, R437, R454) -/

/-- Every attenuator is parked, as every port becomes dark (R437, R454). -/
def State.parkAll (s : State) : State := forUp (fun n s => (s.parkHold (elemVI n) 1).parkHold (elemVO n) 1) 256 0 s

/-- Limp ends: a deferred trigger is judged after a change to Serve, and refused at any other (R85). -/
def State.leaveLimp (s : State) (toServe : Bool) : State :=
  if !toServe then s.refuseDeferred 0x0206
  else match s.rack.deferred with
    | some (t, _) => (s.setRack fun k => { k with deferred := none, arrived := { t with at_ := s.now } :: k.arrived }).showRack
    | none => s

/-- The member takes over (R452, R453): ACTIVE, policers full, tap ports in bring-up, servos back on their own source. -/
def State.takeOver (s : State) (r : ModeReq) : State :=
  let was := s.litConns
  let dest : Mode := if s.throttled || s.pipeUnacked then .limp else .serve
  let s := ((s.setRole 1).setMode dest r.path).setStart fun k => { k with throttleOnly := decide (dest = .limp) && !s.pipeUnacked }
  let s := s.count R.PAIR_COUNTS F.PAIR_COUNTS_TAKEOVERS 1
  let gap := match s.pair.relSince with
    | some t => (s.now - t) * 2048 / 1000000
    | none => 0
  let s := s.setF R.PAIR_GAP F.PAIR_GAP_GAP (min 0xFFFF gap)
  let s := { s with pair := { s.pair with relSince := none, guard := false } }
  let s := ((s.fillPolicers.darkPorts.showPorts).loopsAtCommit fun x => s.cfgW x 0).tapLight was
  let s := forUp (fun k s => if s.mode_ (64 + k) = 4 then s.bringStart (64 + k) 1 else s) 32 0 s
  s.showTx

/-- The member gives up ACTIVE at the commit tick of an exchange (R454). -/
def State.giveUp (s : State) (r : ModeReq) : State :=
  let was := s.litConns
  let s := ((s.leaveLimp false).setRole 2).setMode .shadow r.path
  let s := (s.parkAll.ingressStop.releaseLine.darkPorts.showPorts).tapLight was
  { s.showTx with pair := { s.pair with gaveUp := true } }

/-- To Dormant (R436, R437): attenuators parked, ingress stopped and the buffer discarded, lanes off, the line released, link down. -/
def State.goDormant (s : State) (r : ModeReq) : State :=
  let s := ((s.leaveLimp false).calInterrupt.parkAll.ingressStop.bufferClear).releaseLine
  let s := forUp (fun p s => s.portOff p (s.lanesOf p)) 96 0 s
  let s := (s.setMode .dormant r.path).ringReset.configReset.setF R.HIF_CTRL F.HIF_CTRL_READY 0
  { s with hif := { s.hif with linkUp := false }, start := { s.start with cold := false, warm := false, queue := [] } }

/-- To a warm start (R431): tw is the commit tick. A member that was ACTIVE and has released the line settles its role again. -/
def State.goWarm (s : State) (r : ModeReq) : State :=
  let safe := s.mode == .safe
  let dest : Target := if s.role = 2 then .shadow else if s.mode = .limp then .limp else .serve
  let s := if s.role = 1 ∧ !s.flag R.PAIR_STATUS F.PAIR_STATUS_HOLD_DRIVEN then s.setF R.PAIR_STATUS F.PAIR_STATUS_ROLE 3 else s
  ((s.leaveLimp false).setStart fun k =>
    { k with warm := true, ended := 0, warmTo := dest, warmSafe := safe, safeCold := false, t0 := s.now, readyAt := none }).setMode .start r.path

/-- What the units apply. -/
def State.modeApply (s : State) (r : ModeReq) : State :=
  if r.src = .takeOver then s.takeOver r
  else match r.target with
    | .limp => (s.setMode .limp r.path).setStart fun k => { k with throttleOnly := decide (r.src = .throttle) }
    | .serve => (s.setMode .serve r.path).leaveLimp true
    | .shadow => s.giveUp r
    | .dormant => s.goDormant r
    | .warm => s.goWarm r
    | .cold => s.coldStart

/-- Attention class MODE (R320): a change that no request on a ring asked for; exch: a PAIR_CMD waits for it. -/
def ModeReq.notes (r : ModeReq) (exch : Bool) : Bool :=
  r.req.isNone && !(r.src == .takeOver && exch) && r.target != .cold && r.target != .dormant

/-- MODE_CHANGE_COMMIT_TICK (R434): the change is applied in every participating unit; late: units that fail to apply. The safe state that
waited for it follows from the new mode (R17). -/
def execModeChangeCommitTick (late : BitVec 23) (s : State) : Out :=
  .next (match s.start.change with
  | some run =>
    if !run.window then s
    else
      let s := s.toTick
      let r := run.r
      let before := s.mode
      let due := s.start.safeDue
      let exch := s.pair.exch.isSome
      let mask := (late.toNat &&& run.units) &&& (0x7FFFFF ^^^ s.fab.isoBlocks.toNat)
      let s := (s.setStart fun k => { k with change := none, safeDue := none }).modeApply r
      let s := (if r.notes exch then s.attn 4 else s).logNote 2 0 0 [run.units]
      let s := if mask = 0 then s else (s.wr R.FAB_RACK_SKEWED (BitVec.ofNat 32 mask)).raiseD 226 0 mask 0 0 []
      let s := s.modeOutcome r (if mask = 0 then 0 else 0x0A07) mask before
      match due with
      | some latch => if s.mode = .dormant then s.showFaults else s.broadcast latch
      | none => s.showFaults
  | none => s)

end Sys2Proof.Machine
end

