-- ==== Sys2Proof/Machine/Image.lean ====
section
/-! DEFINITION. Image requests and the NOR operations behind them, what the NOR window lets resume, and the restart of processors
(15_management.md R327, R328, R335 to R348). -/

namespace Sys2Proof.Machine

/-! ### Image operations -/

/-- An image operation ends. -/
def State.imageEnd (s : State) (r : Req) (result : Nat) (words : List Word) : State :=
  { s with mgmt := { s.mgmt with imageOp := none } }.finish r result words 0 false

def State.imageJob (s : State) (r : Req) (slot : Nat) (j : ImageJob) : State :=
  { s with mgmt := { s.mgmt with imageOp := some ⟨r, slot, j⟩ } }

/-- Words of an IMAGE_COMMIT (R346): SEQUENCE and FLOOR of the slot, and its STATE. -/
def State.slotWords (s : State) (k : Nat) : List Word :=
  [s.rd (R.MGT_SLOT_SEQ k), BitVec.ofNat 32 (s.fld (R.MGT_SLOT k) F.MGT_SLOT_FLOOR), BitVec.ofNat 32 (s.slotState k)]

/-- A new image begins in slot k (R345): its commit flag is invalidated first, and its sectors are to be erased. -/
def State.beginImage (s : State) (k : Nat) : State :=
  let s := { s.setSlotFlag k false with mgmt := { (s.setSlotFlag k false).mgmt with
      sectorsClean := Tab.clear (512 * k) 512 s.mgmt.sectorsClean } }
  ((s.setSlotState k 2).showSlot k).recordBoot

/-- A part of an image goes to its slot at an offset. -/
def State.beginPart (s : State) (r : Req) (k off : Nat) (data : List Byte) : State :=
  if off ≠ 0 ∧ s.slotState k ≠ 2 then s.imageEnd r 0x090A [0]
  else (if off = 0 then s.beginImage k else s).imageJob r k (.pages off data 0)

/-- IMAGE_WRITE (R345, R347). -/
def execImageWrite (sq : Fin 32) (d : Desc) (buf : Buf) (s : State) : Out :=
  .next (s.launch sq d (d.opcode == 0x0C) true buf.ok fun r s =>
    let k := d.byte 20 % 2
    let off := d.le 24 4
    let no (c : Nat) : State := s.finish r c [0] 0 false
    if off % 256 ≠ 0 ∨ d.bufLen % 256 ≠ 0 ∨ 1048576 < d.bufLen ∨ 16777216 < off + d.bufLen then no 0x0901
    else if s.mgmt.running = k then no 0x0902
    else if !s.norWindow then no 0x0903
    else if s.mgmt.imageOp.isSome then no 0x090B
    else if s.norHeld then no 0x090D
    else
      let data := buf.data.take d.bufLen
      if s.slotState k = 1 then s.imageJob r k (.waits off data) else s.beginPart r k off data)

/-- The checks that IMAGE_COMMIT makes for every OP, in the order of R347; want: the STATE that the OP needs. -/
def State.commitRefusal (s : State) (k want : Nat) : Option Nat :=
  if !s.norWindow then some 0x0903
  else if s.slotState k ≠ want then some 0x090A
  else if s.mgmt.imageOp.isSome then some 0x090B
  else if s.norHeld then some 0x090D
  else none

/-- IMAGE_COMMIT (R346): OP 0. A verified image waits for its commit flag. -/
def execImageCommit (sq : Fin 32) (d : Desc) (s : State) : Out :=
  .next (s.launch sq d (d.opcode == 0x0D && d.byte 20 == 0) false true fun r s =>
    let k := d.byte 21 % 2
    match s.commitRefusal k 2 with
    | some c => s.finish r c (s.slotWords k) 0 false
    | none => match s.imageFault k with
      | some c => s.finish r c (s.slotWords k) 0 false
      | none => s.imageJob r k .flag)

/-- IMAGE_CONFIRM (R346): OP 1, on the running slot; the floor is fused. -/
def execImageConfirm (sq : Fin 32) (d : Desc) (s : State) : Out :=
  .next (s.launch sq d (d.opcode == 0x0D && d.byte 20 == 1) false true fun r s =>
    let k := s.mgmt.running
    match s.commitRefusal k 3 with
    | some c => s.finish r c (s.slotWords k) 0 false
    | none =>
      let s := (s.setSlotState k 4).recordBoot
      let s := s.setF R.MGT_OTP F.MGT_OTP_FLOOR (max (s.fld R.MGT_OTP F.MGT_OTP_FLOOR) (s.slotLe k 12 1))
      s.finish r 0 (s.slotWords k) 0 false)

/-- IMAGE_SELECT (R346): OP 2. -/
def execImageSelect (sq : Fin 32) (d : Desc) (s : State) : Out :=
  .next (s.launch sq d (d.opcode == 0x0D && d.byte 20 == 2) false true fun r s =>
    let k := d.byte 21 % 2
    match s.commitRefusal k 4 with
    | some c => s.finish r c (s.slotWords k) 0 false
    | none =>
      let s := (s.setF R.MGT_BOOT_STATUS F.MGT_BOOT_STATUS_PREFERRED k).recordBoot
      s.finish r 0 (s.slotWords k) 0 false)

/-! ### NOR operations (R335, R337, R348) -/

/-- The sector of an offset in slot k is erased. -/
def State.sectorClean (s : State) (k off : Nat) : Bool := Tab.get (fun _ => false) s.mgmt.sectorsClean (512 * k + off / 65536)

/-- The sector of an offset in slot k has been erased. -/
def State.eraseSector (s : State) (k off : Nat) : State :=
  let s := s.setSlotTab k (Tab.clear (off / 65536 * 65536) 65536 (s.slotTab k))
  { s with mgmt := { s.mgmt with sectorsClean := Tab.set (fun _ => false) s.mgmt.sectorsClean (512 * k + off / 65536) true } }

/-- The result that a NOR outside its window, or held, gives to an image operation (R337, R338). -/
def State.norStop (s : State) : Option Nat := if !s.norWindow then some 0x0903 else if s.norHeld then some 0x090D else none

/-- The commit flag of slot k is written (R346). In recovery the cold start begins again (R344). -/
def State.flagWritten (s : State) (r : Req) (k : Nat) : State :=
  let s := (s.setSlotFlag k true).setSlotState k 3
  let s := ((s.setTries k 3).setF R.MGT_BOOT_STATUS F.MGT_BOOT_STATUS_PREFERRED k).showSlot k
  let s := s.recordBoot
  let s := s.imageEnd r 0 (s.slotWords k)
  if s.inRecovery then s.coldStart else s

/-- NOR_PAGE_PROGRAM_DONE (R335 to R337): the page in progress of an image operation completes; ok: it is good. -/
def execNorPageProgramDone (ok : Bool) (s : State) : Out :=
  .next (match s.mgmt.imageOp with
  | some ⟨r, k, .pages off data done⟩ =>
    if !s.sectorClean k off then s
    else if !ok then (s.raise 479 0).imageEnd r 0x0904 [BitVec.ofNat 32 done]
    else
      let s := s.setSlotTab k (Tab.setList erased (s.slotTab k) off (data.take 256))
      let n := done + 256
      let rest := data.drop 256
      let w : List Word := [BitVec.ofNat 32 n]
      if rest.isEmpty then s.imageEnd r 0 w
      else match s.norStop with
        | some c => s.imageEnd r c w
        | none => s.imageJob r k (.pages (off + 256) rest n)
  | some ⟨r, k, .flag⟩ => if ok then s.flagWritten r k else (s.raise 479 0).imageEnd r 0x0904 (s.slotWords k)
  | _ => s)

/-- The slot that Vintner erases in the background. -/
def State.erasingSlot (s : State) : Option Nat := [0, 1].find? fun k => s.slotState k == 1
def State.eraseLeft (s : State) : Nat := s.fld R.MGT_NOR_STATUS F.MGT_NOR_STATUS_ERASE_LEFT

/-- NOR_ERASE_DONE (R335, R348): the sector erase in progress completes, of the part being written, or of the slot in ERASING. -/
def execNorEraseDone (ok : Bool) (s : State) : Out :=
  let background (s : State) : State := match s.erasingSlot with
    | some k =>
      if s.eraseLeft = 0 ∨ !s.norUsable then s
      else if !ok then s.raise 479 0
      else (s.eraseSector k (65536 * (512 - s.eraseLeft))).setF R.MGT_NOR_STATUS F.MGT_NOR_STATUS_ERASE_LEFT (s.eraseLeft - 1)
    | none => s
  .next (match s.mgmt.imageOp with
  | some ⟨r, k, .pages off _ done⟩ =>
    if s.sectorClean k off then background s
    else if !ok then (s.raise 479 0).imageEnd r 0x0904 [BitVec.ofNat 32 done]
    else s.eraseSector k off
  | _ => background s)

/-- SLOT_ERASE_DONE (R348): every sector of the slot in ERASING is erased; it is EMPTY, and a write that waited begins (R345). -/
def execSlotEraseDone (s : State) : Out :=
  .next (match s.erasingSlot with
  | some k =>
    if s.eraseLeft ≠ 0 then s
    else
      let s := ((s.setSlotState k 0).showSlot k).recordBoot
      match s.mgmt.imageOp with
      | some ⟨r, j, .waits off data⟩ => if j = k then s.beginPart r k off data else s
      | _ => s
  | none => s)

/-! ### The NOR window (R337, R338) -/

/-- What the NOR does after a change of its temperature or of PFAIL_N: an operation with no page in progress ends outside the window, and a
boot record that waits is written inside it. -/
def State.norFollow (s : State) : State :=
  let stop (s : State) (r : Req) (done : Nat) : State := match s.norStop with
    | some c => s.imageEnd r c [BitVec.ofNat 32 done]
    | none => s
  let s := match s.mgmt.imageOp with
    | some ⟨r, k, .pages off _ done⟩ => if s.sectorClean k off then s else stop s r done
    | some ⟨r, _, .waits _ _⟩ => stop s r 0
    | _ => s
  match s.mgmt.bootWaits with
  | some b => if s.norUsable then s.writeBoot b else s
  | none => s

/-- SENSOR_SWEEP (R405 to R411): the readings of all 80 sensors in 0.1 °C, none where the self-check of a diode fails. -/
def execSensorSweep (readings : Vector (Option (BitVec 16)) 80) (s : State) : Out := .next (s.sensorSweep readings).norFollow

/-- NOR_TEMP_CONVERSION (R411). -/
def execNorTempConversion (t45 t46 t47 : Option (BitVec 16)) (s : State) : Out := .next (s.norConversion t45 t46 t47).norFollow

/-- PFAIL_ASSERT (R419, R338): VIN and VHOLD in mV. -/
def execPfailAssert (vin vhold : Nat) (s : State) : Out := .next (s.pfailAssert vin vhold).norFollow

/-- PFAIL_RELEASE (R419, R338). -/
def execPfailRelease (vin vhold : Nat) (s : State) : Out := .next (s.pfailRelease vin vhold).norFollow

/-! ### Processors (R327, R328) -/

/-- Instance of MGT_WDOG and MGT_PROC_LOST of a processor. -/
def procSource (k : Nat) : Nat := k - 1

/-- The effect of the restart of a processor, as it begins (R328). -/
def State.procStops (s : State) (k : Nat) : State :=
  if k = 0 then
    let s := (s.ringReset).dropImageOp
    match s.start.change with
    | some run =>
      if run.window then s
      else
        let s := s.setStart fun c => { c with change := none }
        let s := if run.r.src = .takeOver then s.releaseLine else s
        s.modeOutcome run.r 0x0A05 (run.units ^^^ (run.units &&& run.ready)) s.mode
    | none => s
  else if k = 2 then { s with cal := { s.cal with tries := [] } }
  else { s with mgmt := { s.mgmt with learnHeld := true } }

/-- WATCHDOG_EXPIRY (R327): the watchdog of a running processor expires; lockstep: for the safety monitor, a lockstep mismatch instead. A
third expiry within 1 s also raises MGT_PROC_LOST. -/
def execWatchdogExpiry (k : Fin 4) (lockstep : Bool) (s : State) : Out :=
  let o := R.MGT_PROC_STATUS k
  .next (if s.fld o F.MGT_PROC_STATUS_STATE ≠ 1 ∨ s.mode = .dormant then s
  else if k = 1 then s.collect ⟨if lockstep then 476 else 475, 0, 0, 0, 0, false, [], 0⟩
  else
    let recent := ((k.val, s.now) :: s.mgmt.expiries).filter fun e => decide (s.now < e.2 + 1000000000)
    let s := { s with mgmt := { s.mgmt with expiries := recent } }
    let s := ((s.setF o F.MGT_PROC_STATUS_STATE 2).count o F.MGT_PROC_STATUS_RESTARTS 1).raise (469 + procSource k) 0
    let s := if 3 ≤ (recent.filter fun e => e.1 == k.val).length then s.raise (472 + procSource k) 0 else s
    s.procStops k)

/-- PROCESSOR_RESTART_DONE (R327): the code region of a restarting processor passes its check, and it serves again; or it fails, and the
processor stays stopped. -/
def execProcessorRestartDone (k : Fin 4) (ok : Bool) (s : State) : Out :=
  let o := R.MGT_PROC_STATUS k
  .next (if !s.restarting k then s
  else if !ok then (s.setF o F.MGT_PROC_STATUS_STATE 0).raise (472 + procSource k) 0
  else
    let s := s.setF o F.MGT_PROC_STATUS_STATE 1
    if k = 3 then { s with mgmt := { s.mgmt with learnHeld := false } }
    else if k = 2 then s.solveNext else s)

end Sys2Proof.Machine
end

