-- ==== Sys2Proof/Machine/Pair.lean ====
section
/-! DEFINITION. The redundant pair: the Graft link, the mirror and its resync, the hold line and the take-over, role exchanges and drills
(20_redundant_pair.md R440 to R456). -/

namespace Sys2Proof.Machine

def State.setPair (s : State) (f : PairSt → PairSt) : State := { s with pair := f s.pair }

/-- Nanoseconds of k cycles of the always-on clock of 2.048 MHz, rounded up. -/
def aonNs (k : Nat) : Nat := cdiv (k * 1000000) 2048

/-! ### The Graft link (R443, R444) -/

/-- The link changes: event source 252 and attention class PAIR. -/
def State.linkEvent (s : State) : State := (s.fire 252).attn 5

/-- The link comes up with the peer's version and identifier: the floor of both versions, and whether they run together (R444). -/
def State.graftUp (s : State) (ver : BitVec 16) (id : BitVec 64) : State :=
  let own := s.fld R.PAIR_VERSION F.PAIR_VERSION_OWN_VERSION
  let changed : Bool := s.fld R.PAIR_VERSION F.PAIR_VERSION_PEER_VERSION != ver.toNat
  let s := (s.setF R.PAIR_VERSION F.PAIR_VERSION_PEER_VERSION ver.toNat).setF R.PAIR_FEATURE F.PAIR_FEATURE_FLOOR (min own ver.toNat)
  let s := (s.wr R.PAIR_PEER_ID_LO (BitVec.ofNat 32 id.toNat)).wr R.PAIR_PEER_ID_HI (BitVec.ofNat 32 (id.toNat >>> 32))
  let o := R.PAIR_STATUS
  let s := s.setF o F.PAIR_STATUS_INCOMPATIBLE (bnat (decide (own + 1 < ver.toNat ∨ ver.toNat + 1 < own)))
  let s := (s.setF o F.PAIR_STATUS_LINK 1).linkEvent
  let s := if changed then s.attn 5 else s
  if s.mode = .start then s else s.startResync

/-- GRAFT_LINK_UP (R443, R444): a Graft lane comes up; with the first one the link is up, the members exchange versions and identifiers, and
a resync starts. role, pref: what the peer reports of itself. -/
def execGraftLinkUp (lane : Fin 2) (ver : BitVec 16) (id : BitVec 64) (role : Fin 4) (pref : Bool) (s : State) : Out :=
  let o := R.PAIR_STATUS
  .next (if !s.flag o F.PAIR_STATUS_PAIR_EN || !s.eventsOn then s
  else
    let was := s.flag o F.PAIR_STATUS_LINK
    let s := s.setF o F.PAIR_STATUS_LANES (s.fld o F.PAIR_STATUS_LANES ||| 2 ^ lane.val)
    let s := s.setPair fun p => { p with peer := role.val, peerPref := pref, lost := false }
    if was then s else s.graftUp ver id)

/-- GRAFT_LANE_DOWN (R443): a Graft lane goes down; with the last one the link is lost, and the mirror with it. -/
def execGraftLaneDown (lane : Fin 2) (ns : Fin 1000) (s : State) : Out :=
  let o := R.PAIR_STATUS
  let s := s.at_ ns
  .next (if !bitOf (s.fld o F.PAIR_STATUS_LANES) lane then s
  else
    let s := s.setF o F.PAIR_STATUS_LANES (s.fld o F.PAIR_STATUS_LANES - 2 ^ lane.val)
    if s.flag o F.PAIR_STATUS_LANES then s
    else
      let s := s.setPair fun p => { p with downSince := s.now, resync := false }
      ((s.setF o F.PAIR_STATUS_LINK 0).setF o F.PAIR_STATUS_SYNC 0).linkEvent)

/-- PAIR_LINK_LOST (R443): both lanes have been down for 100 µs while PAIR_EN is high. -/
def execPairLinkLost (s : State) : Out :=
  let o := R.PAIR_STATUS
  .next (if s.flag o F.PAIR_STATUS_PAIR_EN && s.eventsOn && !s.flag o F.PAIR_STATUS_LANES && !s.pair.lost &&
      decide (s.pair.downSince + 100000 ≤ s.now) then
    (s.setPair fun p => { p with lost := true }).raise 467 0
  else s)

/-! ### The mirror (R445 to R450) -/

/-- This member is the standby, in Shadow, and the mirror reaches it. -/
def State.mirrored (s : State) : Bool :=
  s.mode == .shadow && s.role == 2 && s.flag R.PAIR_STATUS F.PAIR_STATUS_LINK && !s.flag R.PAIR_STATUS F.PAIR_STATUS_INCOMPATIBLE

/-- A mirror rack waits or is in progress. -/
def State.mirrorRacks (s : State) : Bool :=
  let is (t : Trig) : Bool := t.src == .mirror
  s.rack.arrived.any is || (match s.rack.pendingTrig with | some t => is t | none => false) ||
  (match s.rack.run with | some r => is r.trig | none => false)

/-- A mirrored set takes the place of both shadow sets (R445, R446). -/
def State.takeSet (s : State) (regs rackSeq cls sch : Tab Word) : State :=
  let ws := fabricWindows ++ packetWindows
  let s := ws.foldl (fun s w => s.resetRange w.2.1 w.2.2) s
  let s := regs.foldl (fun s e => if ws.any fun w => decide (w.2.1 ≤ e.1 ∧ e.1 < w.2.1 + w.2.2) then s.wr e.1 e.2 else s) s
  let s := { s with
    seq := { s.seq with rackShadow := Tab.setAll (fun _ => (0 : Word)) 0 (rackSeq.filter fun e => decide (e.1 < 12294)) [] },
    pk := { s.pk with clsShadow := Tab.setAll (fun _ => (0 : Word)) 0 cls [], schShadow := Tab.setAll schReset 0 sch [] } }
  s.setF R.FAB_PKT_SHADOW F.FAB_PKT_SHADOW_SEALED 1

/-- The trigger of a mirror rack (R446): both domains, timing set 0. -/
def mirrorTrig (f p : Nat) : Trig :=
  { src := .mirror, req := none, domains := 3, tset := 0, expect := none, vint := some (f, p), path := [], at_ := 0 }

/-- The standby solves a mirrored set against its own image and failed set, and triggers the mirror rack (R446). -/
def State.mirrorRack (s : State) (f p : Nat) : State :=
  let t := mirrorTrig f p
  let map := s.shadowMap
  let cs := Solver.conns map
  let bad (code : Nat) (s : State) : State := s.refuseTrig t code
  match Solver.firstBadEntry 0 map, Solver.firstConflict cs with
  | some _, _ => bad 0x0101 s
  | none, some _ => bad 0x0102 s
  | none, none =>
    let g := s.given
    match g.solve cs true with
    | .noRoute _ => bad 0x0103 s
    | .image img omits moved =>
      match Solver.check img g.failed (cs.filter fun c => !omits.contains c.inp) with
      | some (q, c) => bad 0x0104 ((s.checkFailed q c).raiseD 225 q c 0 0 [])
      | none => ((s.holdImage img omits moved map).writePorts R.FAB_UNROUTED (Solver.portMask omits)).trigger t

/-- A standby's stash that reaches 49 entries starts a rehash of its own (R450). -/
def State.ownRehash (s : State) (n : Nat) : State :=
  if 49 ≤ (s.stash n).length ∧ (s.rehashOf n).isNone then s.rehashStart n (s.nextSeed n) none else s

/-- A forwarding entry is applied by its key, seen now. -/
def State.mirrorFdb (s : State) (n : Nat) (e : FEntry) : State := ((s.putAll n { e with seen := s.ageClock }).1).ownRehash n

/-- A register that the mirror carries as received (R445). -/
def mirrorReg (off : Nat) : Bool :=
  off == R.TBL_CTRL || (decide (R.TBL_PORT_LEARN 0 ≤ off ∧ off < R.TBL_PORT_LEARN 96) && off % 4 == 0) ||
  (decide (R.TBL_FLOOD 0 0 ≤ off ∧ off < R.TBL_FLOOD 4096 0) && off % 4 == 0 && off % 16 != 12)

/-- One record is applied. A set that comes after a missed record is refused with MIRROR_GAP (R446). -/
def State.mirrorApply (s : State) (missed : Bool) : MirrorRec → State
  | .fdb n e => if n < 4 then s.mirrorFdb n e else s
  | .fdbGone n vid mac => if n < 4 then (s.removeAll n vid mac).1 else s
  | .lpm n v6 pre len act => if n < 4 then (s.lpmPut n v6 pre len act).1 else s
  | .lpmGone n v6 pre len => if n < 4 then (s.lpmCutOut n v6 pre len).1 else s
  | .reg off v =>
    if mirrorReg off then s.wr off (v &&& BitVec.ofNat 32 (((findReg off).map fun e => e.1.rw).getD 0)) else s
  | .set regs rackSeq cls sch f p =>
    if missed then s.refuseTrig (mirrorTrig f p) 0x0242
    else
      let s := (s.wr R.PAIR_VINTAGE_FABRIC (BitVec.ofNat 32 f)).wr R.PAIR_VINTAGE_PACKET (BitVec.ofNat 32 p)
      (s.takeSet regs rackSeq cls sch).mirrorRack f p
  | .exchange _ => s

/-- A record that must wait: a set while a mirror rack is not over. -/
def State.mirrorHolds (s : State) : MirrorRec → Bool
  | .set _ _ _ _ _ _ => s.mirrorRacks
  | _ => false

/-- MIRROR_RECORD (R445, R446, R448): the standby applies a record; missed: one before it was lost, and a resync starts (R449); age: of the
oldest change not yet applied, in µs. -/
def execMirrorRecord (rec_ : MirrorRec) (missed : Bool) (age : BitVec 16) (s : State) : Out :=
  .next (if !s.mirrored || s.mirrorHolds rec_ then s
  else
    let s := s.setPair fun p => { p with peer := 1 }
    let s := (s.mirrorApply missed rec_).setF R.PAIR_STATUS F.PAIR_STATUS_MIRROR_AGE age.toNat
    if missed then s.startResync else s)

/-- RESYNC_COMPLETE (R449): the last record of the resync is applied. -/
def execResyncComplete (s : State) : Out :=
  let o := R.PAIR_STATUS
  .next (if !s.pair.resync || !s.flag o F.PAIR_STATUS_LINK || s.mode == .start then s
  else
    let s := (s.setF o F.PAIR_STATUS_SYNC 1).setF o F.PAIR_STATUS_MIRROR_AGE 0
    let q := s.pair.resyncReq
    let s := s.setPair fun p => { p with resync := false, resyncReq := none }
    match q with
    | some (r, b) => s.finish r 0 (s.pairWords b) 0 false
    | none => s)

/-- GRAFT_TIME_SAMPLE (R447): an offset sample (ns × 2^16) from the link for a time base that follows the active in Shadow. -/
def execGraftTimeSample (n : Fin 4) (theta : BitVec 48) (ns : Fin 1000) (s : State) : Out :=
  let s := s.at_ ns
  .next (if s.tbFollows n && s.flag R.PAIR_STATUS F.PAIR_STATUS_LINK then s.servoSample n true theta.toInt else s)

/-! ### The hold line and take-over (R451, R452) -/

/-- A take-over is asked for and not over. -/
def State.takingOver (s : State) : Bool :=
  let is (r : ModeReq) : Bool := r.src == .takeOver
  s.start.queue.any is || (match s.start.change with | some k => is k.r | none => false)

/-- HOLD_RELEASE_SEEN (R452): a standby in Shadow reads PAIR_HOLD_N released for the 8th always-on cycle in a row, and its guard starts. low: the
line has read low since this member drove it last; one that gave up ACTIVE waits for that (R454). -/
def execHoldReleaseSeen (low : Bool) (ns : Fin 1000) (s : State) : Out :=
  let s := s.at_ ns
  .next (if s.mode ≠ .shadow ∨ s.role ≠ 2 ∨ s.pair.guard ∨ s.takingOver ∨ (s.pair.gaveUp ∧ !low) then s
  else
    let s := s.setF R.PAIR_STATUS F.PAIR_STATUS_LINE_LOW 0
    s.setPair fun p => { p with relSince := some (s.now - 7 * 1000000 / 2048), guard := true, gaveUp := false })

/-- GUARD of PAIR_CFG, in cycles. -/
def State.guardCycles (s : State) : Nat := clampNat 16 1000 (s.fld R.PAIR_CFG F.PAIR_CFG_GUARD)

/-- TAKEOVER_GUARD_END (R452): the guard ends, and the standby asks for its take-over. low: the line has read low during the guard, which
rejects the release as a glitch. -/
def execTakeoverGuardEnd (low : Bool) (s : State) : Out :=
  .next (match s.pair.guard, s.pair.relSince with
  | true, some t =>
    if low ∨ s.mode ≠ .shadow then
      (s.setPair fun p => { p with guard := false, relSince := none }).setF R.PAIR_STATUS F.PAIR_STATUS_LINE_LOW (bnat low)
    else
      let s := { s with now := max s.now (t + aonNs (7 + s.guardCycles)) }
      (s.setPair fun p => { p with guard := false }).askMode ⟨.serve, .takeOver, none, [], 0⟩
  | _, _ => s)

/-- PAIR_HOLD_MISMATCH (R451): a member driving the line low reads it high for 8 always-on cycles (high), or is ACTIVE while the link reports
the peer ACTIVE. -/
def execPairHoldMismatch (high : Bool) (s : State) : Out :=
  let o := R.PAIR_STATUS
  .next (if high then
    if s.flag o F.PAIR_STATUS_HOLD_DRIVEN then (s.setF o F.PAIR_STATUS_LINE_LOW 0).raise 468 0 else s
  else if s.role = 1 ∧ s.flag o F.PAIR_STATUS_LINK then (s.setPair fun p => { p with peer := 1 }).raise 468 0 else s)

/-! ### Exchanges, resyncs and drills (R454, R455) -/

/-- Start, Safe and Dormant refuse a PAIR_CMD. -/
def State.pairRefused (s : State) : Bool := s.mode == .start || s.mode == .safe || s.mode == .latched || s.mode == .dormant

/-- A PAIR_CMD of one OP with the checks of R455, in the order of its table; ready: the pair can carry it out. -/
def State.pairCmd (s : State) (sq : Fin 32) (d : Desc) (op mask21 : Nat) (ready : State → Bool) (k : Req → State → State) : State :=
  s.launch sq d (d.opcode == 0x0F && d.byte 20 == op) false true fun r s =>
    let bad (c : Nat) : State := s.finish r c (s.pairWords s.mode.code) 0 false
    if d.byte 21 &&& mask21 ≠ d.byte 21 ∨ (upFrom 22 42).any (fun i => d.byte i != 0) then bad 0x0B01
    else if !s.flag R.PAIR_STATUS F.PAIR_STATUS_PAIR_EN then bad 0x0B02
    else if !ready s then bad 0x0B03
    else if s.pairRefused then bad 0x0B04
    else if s.pair.exch.isSome || s.pair.resync then bad 0x0B05
    else k r s

/-- The conditions of R454; standby: what the link reports of the peer, whether it is a standby in Shadow. -/
def State.peerReady (s : State) (standby : Bool) : Bool :=
  let o := R.PAIR_STATUS
  s.flag o F.PAIR_STATUS_LINK && s.flag o F.PAIR_STATUS_SYNC && !s.flag o F.PAIR_STATUS_INCOMPATIBLE &&
  if s.role = 2 then s.mode == .shadow else standby

/-- PAIR_EXCHANGE (R454): at the ACTIVE member a mode change to Shadow; at the STANDBY member relayed to the active, and completed when its own
take-over commits. -/
def execPairExchange (sq : Fin 32) (d : Desc) (standby : Bool) (s : State) : Out :=
  .next (s.pairCmd sq d 0 1 (fun s => bitOf (d.byte 21) 0 || s.peerReady standby) fun r s =>
    let s := s.setPair fun p => { p with exch := some (some r, s.mode.code) }
    if s.role = 2 then (if s.flag R.PAIR_STATUS F.PAIR_STATUS_LINK then s.graft (.exchange (bitOf (d.byte 21) 0)) else s)
    else s.askMode ⟨.shadow, .pairCmd, some r, [], 0⟩)

/-- EXCHANGE_RELAYED (R454): the active member carries out an EXCHANGE that the standby relayed. -/
def execExchangeRelayed (s : State) : Out :=
  .next (if s.role = 1 && !s.pairRefused && s.pair.exch.isNone && s.flag R.PAIR_STATUS F.PAIR_STATUS_LINK then
    (s.setPair fun p => { p with exch := some (none, s.mode.code) }).askMode ⟨.shadow, .pairCmd, none, [], 0⟩
  else s)

/-- PAIR_RESYNC (R449, R455): a resync of the whole mirrored content; completed when its last record is applied. -/
def execPairResync (sq : Fin 32) (d : Desc) (s : State) : Out :=
  .next (s.pairCmd sq d 1 0 (fun s => s.flag R.PAIR_STATUS F.PAIR_STATUS_LINK && !s.flag R.PAIR_STATUS F.PAIR_STATUS_INCOMPATIBLE) fun r s =>
    (s.setPair fun p => { p with resyncReq := some (r, s.mode.code) }).startResync)

/-- DRILL_HOUR (R454): another hour since the last change of role. -/
def execDrillHour (s : State) : Out :=
  let h := s.fld R.PAIR_DRILL F.PAIR_DRILL_HOURS
  .next (if s.pair.roleSince + (h + 1) * 3600000000000 ≤ s.now then
    (s.count R.PAIR_DRILL F.PAIR_DRILL_HOURS 1).showDrill
  else s)

end Sys2Proof.Machine
end

