-- ==== Sys2Proof/Machine/RegAccess.lean ====
section
/-! DEFINITION. Register accesses that have no row of their own, register values that the device computes when they are read, and the
status beacon (00_scope.md R4, R5; 14_host_interface.md R303, R322, R323, R325; 22_register_index.md R474 to R476). -/

namespace Sys2Proof.Machine

/-! ### Values computed when they are read -/

/-- Word n of a set of cells. -/
def cellsAt (m : CellSet) (n : Nat) : Word := BitVec.ofNat 32 (m.toNat >>> (32 * n))

/-- The E-lane x uses its domain: its port has a MODE, or a PRBS test runs; through a warm start only with WARM_KEEP (R415). -/
def State.laneDomain (s : State) (x : Nat) : Bool :=
  let prbs := s.flag (R.LANE_PRBS x) F.LANE_PRBS_GEN || s.flag (R.LANE_PRBS x) F.LANE_PRBS_CHK
  let port := s.mode_ (s.portOfLane x) != 0
  if s.start.warm then port && s.flag (R.LANE_CFG x) F.LANE_CFG_WARM_KEEP else port || prbs

/-- Power domain k is on (R415, R425). -/
def State.domainOn (s : State) (k : Nat) : Bool :=
  let st := s.start
  let up := s.eventsOn
  if k = 0 then !st.noPower
  else if k ≤ 64 then up && s.laneDomain (k - 1)
  else if k ≤ 96 then up && s.mode_ (k - 1) == 4
  else if k ≤ 98 then up && s.flag R.PAIR_STATUS F.PAIR_STATUS_PAIR_EN
  else if 102 ≤ k ∧ k ≤ 113 then
    up && (if st.cold then bitOf st.ended 11 else if st.warm then !bitOf st.ended 2 || bitOf st.ended 6 else true)
  else if 114 ≤ k ∧ k ≤ 129 then up && s.blkUp (k - 114)
  else if k = 134 then up && (List.range 16).any fun u => s.huRuns u
  else up && decide (k < 136)

/-- Word w of PWR_DOM_ON. -/
def State.domainsOn (s : State) (w : Nat) : Word :=
  (List.range 32).foldl (fun v k => if s.domainOn (32 * w + k) then v ||| BitVec.ofNat 32 (2 ^ k) else v) 0

/-- Bit k of CAL_NOMINAL: an active value of KIND k is nominal (R162). KINDs 0 and 1 are the curves of cells and of attenuators. -/
def State.nominalKind (s : State) (k : Nat) : Bool :=
  let nom (o : Nat) : Bool := (s.rd o).getLsbD 31
  let els := List.range 9216
  match k with
  | 0 => els.any fun x => elemKind x != .attenuator && nom (R.CAL_CURVE x 0)
  | 1 => els.any fun x => elemKind x == .attenuator && nom (R.CAL_CURVE x 0)
  | 2 => els.any fun x => [0, 1, 2].any fun r => nom (R.CAL_DAC x r)
  | 3 => (List.range 48).any fun n => (List.range 25).any fun p => nom (R.CAL_SLICE n p)
  | 4 => (List.range 8).any fun m => nom (R.CAL_HK m)
  | 5 => els.any fun x => nom (R.CAL_CH_SKEW x)
  | 6 => (List.range 32).any fun k => nom (R.CAL_TAP k)
  | 7 => (List.range 64).any fun x => nom (R.LANE_EQ_CTRL x)
  | _ => nom R.CAL_OSC

def State.nominals (s : State) : Word :=
  (List.range 9).foldl (fun v k => if s.nominalKind k then v ||| BitVec.ofNat 32 (2 ^ k) else v) 0

/-- Registers of the protected set (R397). -/
def State.protRegs (s : State) : List Nat :=
  [R.FLT_CTRL, R.FLT_INJ, R.EVT_MODE_TASK, R.FAB_SOLVE_CTRL] ++ ((List.range 80).map fun n => R.THM_SENSOR_OVR n) ++
  ((List.range 1024).map fun n => R.FLT_SEV n) ++
  (List.range 64).flatMap fun c => R.EVT_CH_OWN c :: if s.secure c then [R.EVT_CH_CFG c, R.EVT_CH_TASKS c] else []

/-- The value that the safety monitor refers to (R397). -/
def State.refOf (s : State) (o : Nat) : Word := (Tab.get (fun _ => none) s.flt.refs o).getD (s.rd o &&& s.protMask o)

/-- MGT_NOR_STATUS (R337, R338, R353). -/
def State.norStatus (s : State) : Word :=
  let op : Nat := match s.mgmt.imageOp with
    | some k => (match k.job with
      | .pages _ _ _ => 1
      | .waits _ _ => 2
      | .flag => 1)
    | none => if (List.range 2).any (fun k => s.slotState k == 1) then 2 else if s.mgmt.bootWaits.isSome then 1 else 0
  let f := F.MGT_NOR_STATUS_IN_WINDOW.set (s.rd R.MGT_NOR_STATUS) (bnat s.norWindow)
  F.MGT_NOR_STATUS_OP.set (F.MGT_NOR_STATUS_PFAIL.set f (s.fld R.PWR_STATUS F.PWR_STATUS_PFAIL)) op

/-- LOOP_BLK_STATUS_b with the estimates of R114. -/
def State.blkStatus (s : State) (b : Nat) : Word :=
  F.LOOP_BLK_STATUS_EST_ACTIVE.set (F.LOOP_BLK_STATUS_EST_SHADOW.set (s.rd (R.LOOP_BLK_STATUS b)) (s.shownEstimate b (s.estShadow b)))
    (s.shownEstimate b (s.estActive b))

/-- The value held at an offset, as an owner reads it. -/
def State.heldAt (s : State) (o : Owner) (off : Nat) : Word :=
  let n (base : Nat) : Nat := (off - base) / 4
  let within (base len : Nat) : Bool := decide (base ≤ off ∧ off < base + len) && off % 4 == 0
  if within 0x102000 544 then cellsAt s.fab.failed (n 0x102000)
  else if within 0x103000 544 then cellsAt s.fab.active (n 0x103000)
  else if within 0x103400 544 then cellsAt s.fab.activeLive (n 0x103400)
  else if within 0x103800 544 then cellsAt s.fab.shadow (n 0x103800)
  else if within 0x103C00 544 then cellsAt s.fab.shadowLive (n 0x103C00)
  else if within (R.PWR_DOM_ON 0) 20 then s.domainsOn (n (R.PWR_DOM_ON 0))
  else if within (R.LOOP_BLK_STATUS 0) 64 then s.blkStatus (n (R.LOOP_BLK_STATUS 0))
  else if off = R.CAL_NOMINAL then s.nominals
  else if off = R.TBL_AGE_CLOCK then BitVec.ofNat 32 s.ageClock
  else if off = R.MGT_NOR_STATUS then s.norStatus
  else if off = R.FLT_CRC_REF then Config.crcRef (s.protRegs.map fun p => (p, s.refOf p))
  else
    let k := (off - 0x60114) / 128
    if o ≠ .host ∧ within (R.TIM_SNAP 0 0) 512 ∧ (off - 0x60114) % 128 < 16 then
      Tab.get (fun _ => (0 : Word)) s.tim.snapM (4 * k + (off - 0x60114) % 128 / 4)
    else s.rd off

/-! ### Reads (R4, R5, R323, R475) -/

/-- The _LO halves of the 64-bit registers of R323. -/
def pairLo (off : Nat) : Bool :=
  off == R.GLB_UNIQUE_ID_LO || off == R.HIF_DB_BASE_LO || off == R.HIF_BEACON_BASE_LO || off == R.FAB_RACK_STAMP_LO ||
  off == R.PAIR_PEER_ID_LO ||
  (List.range 32).any fun n => off == R.HIF_SQ_BASE_LO n || off == R.HIF_CQ_BASE_LO n

/-- The snapshots of a requester: the host's, or those of the management masters. -/
def State.snaps (s : State) (o : Owner) : Tab (Option Word) := if o = .host then s.hif.snapHost else s.hif.snapMgmt
def State.setSnap (s : State) (o : Owner) (off : Nat) (v : Option Word) : State :=
  let t := Tab.set (fun _ => none) (s.snaps o) off v
  { s with hif := if o = .host then { s.hif with snapHost := t } else { s.hif with snapMgmt := t } }

/-- A 32-bit read: the word, and what the read leaves. snap: a read of a _LO register snapshots its pair. -/
def State.readWord (s : State) (o : Owner) (off : Nat) (snap : Bool) : Word × State :=
  match findReg off with
  | none => (0, s)
  | some (d, _) =>
    let v := s.heldAt o off
    let t := if d.rc = 0 then s else s.wr off (d.afterRead (s.rd off))
    if pairLo off then (d.readable v, if snap then t.setSnap o off (some (s.heldAt o (off + 4))) else t)
    else if 4 ≤ off ∧ pairLo (off - 4) then
      match Tab.get (fun _ => none) (s.snaps o) (off - 4) with
      | some w => if snap then (w, t.setSnap o (off - 4) none) else (d.readable v, t)
      | none => (d.readable v, t)
    else (d.readable v, t)

/-- Reads of k registers from an aligned offset, ascending: their words, lowest first. -/
def State.readWords (o : Owner) (snap : Bool) : Nat → Nat → State → List Word × State
  | 0, _, s => ([], s)
  | k + 1, off, s =>
    let (w, s) := s.readWord o off snap
    let (ws, s) := State.readWords o snap k (off + 4) s
    (w :: ws, s)

/-- The host reaches registers while its interface is on (R15). -/
def State.reaches (s : State) (o : Owner) : Bool := o != .host || s.mode != .dormant

/-- A read of n bytes, at most 8, at an offset (R475): every register touched is read, and the bytes asked for are returned. An 8-byte read at a
_LO offset leaves the snapshots alone (R323). -/
def State.busRead (s : State) (o : Owner) (off n : Nat) : State :=
  let first := off / 4 * 4
  let k := (off + n + 3) / 4 - off / 4
  let (ws, s) := State.readWords o (!(n == 8 && pairLo off)) k first s
  let v := ofLe (((ws.flatMap wordBytes).drop (off - first)).take n)
  { s with hif := { s.hif with rdata := BitVec.ofNat 64 v } }

/-- Offsets whose reads have rows of their own: SEQ_MEM_DATA_q, words 0 and 3 of TIM_TSQ_n. -/
def ownRead (off : Nat) : Bool :=
  (List.range 16).any (fun q => off == R.SEQ_MEM_DATA q) || (List.range 4).any fun n => off == R.TIM_TSQ n 0 || off == R.TIM_TSQ n 3

/-- Registers that a read of n bytes touches. -/
def touched (off n : Nat) : List Nat := (List.range ((off + n + 3) / 4 - off / 4)).map fun k => off / 4 * 4 + 4 * k

/-- READ_CLEAR (R4, R475, R476): a read of 1 to 8 bytes, which clears the RC fields of every register it touches. -/
def execReadClear (o : Owner) (off : BitVec 24) (n : Fin 9) (s : State) : Out :=
  .next (if n.val = 0 || !s.reaches o || (touched off.toNat n).any ownRead || pairLo (off.toNat / 4 * 4) then s else s.busRead o off.toNat n)

/-- SNAPSHOT_READ_LO (R323): a read of 1 to 8 bytes that begins in a _LO register. -/
def execSnapshotReadLo (o : Owner) (off : BitVec 24) (n : Fin 9) (s : State) : Out :=
  .next (if n.val = 0 || !s.reaches o || !pairLo (off.toNat / 4 * 4) then s else s.busRead o off.toNat n)

/-! ### Writes (R4, R5, R14, R325, R475, R476) -/

/-- Registers whose writes have rows of their own: element drive and range, lane settings and tests, sample words, SCH_IND_SEL,
TARGET_HI, channels, FLT_TEST_INJ, MGT_REMAP. -/
def ownWrite (off : Nat) : Bool :=
  decide (0x210000 ≤ off ∧ off < 0x230000) || decide (R.LANE_CFG 0 ≤ off ∧ off < R.LANE_CFG 66) ||
  decide (R.LANE_PRBS 0 ≤ off ∧ off < R.LANE_PRBS 66) || (List.range 16).any (fun q => off == R.SEQ_MEM_DATA q) ||
  off == R.SCH_IND_SEL || (decide (0x61000 ≤ off ∧ off < 0x61800) && off % 16 == 8) || (channelAt off).isSome ||
  off == R.FLT_TEST_INJ || off == R.MGT_REMAP

/-- Set-up of an enabled ring (R325): its base and size registers, and the ring's configuration register. -/
def ringSetup (off : Nat) : Option Nat :=
  if 0x10100 ≤ off ∧ off < 0x10500 ∧ off % 16 < 12 then some (off / 16 * 16 + 8) else none

/-- A ring leaves service: nothing more is fetched, and what its completion ring holds is discarded (R325). -/
def State.ringOff (s : State) (cfg : Nat) : State :=
  let s := s.wr cfg (s.rd cfg &&& 0x7FFFFFFF#32)
  if cfg < 0x10300 then s.setSq ((cfg - 0x10108) / 16) { s.sqRing ((cfg - 0x10108) / 16) with fetched := [] }
  else (s.setCq ((cfg - 0x10308) / 16) { s.cqRing ((cfg - 0x10308) / 16) with held := [] }).cqFullBits ((cfg - 0x10308) / 16)

/-- A write of ring set-up (R325): while EN is 1 only EN itself counts; EN from 0 to 1 has a row of its own. -/
def State.ringWrite (s : State) (d : RegDesc) (off cfg : Nat) (v : Word) : State :=
  let on := (s.rd cfg).getLsbD 31
  if on then (if off = cfg ∧ !v.getLsbD 31 then s.ringOff cfg else s)
  else if off = cfg then (if v.getLsbD 31 then s else s.wr off (d.written .host (s.rd off) v))
  else s.wr off (d.written .host (s.rd off) v)

/-- FAB_RACK_TS_n.VALID (R77). -/
def tsetValid (v : Word) : Bool :=
  decide (64 * F.FAB_RACK_TS_BLANK.get v + 7 * F.FAB_RACK_TS_GROUP_GAP.get v + 64 * F.FAB_RACK_TS_F_SETTLE.get v +
    64 * F.FAB_RACK_TS_UNBLANK.get v ≤ 1856)

/-- SEQ_STREAM_BASE_q outside the stream area (R161, R207). -/
def baseRefused (v : Word) : Bool :=
  let b := v.toNat % 2 ^ 23
  (decide (0 < b ∧ b < 0x15000)) || decide (0x18000 ≤ b)

/-- The flags LIMIT and OPEN that a write clears leave the counts of their block (R95). -/
def State.flagsCleared (s : State) (x : Nat) (old new : Word) : State :=
  let o := R.DRV_BLK_STATUS (blockOf x)
  let drop (f : Fld) (i : Nat) (s : State) : State := if old.getLsbD i && !new.getLsbD i then s.setF o f (s.fld o f - 1) else s
  drop F.DRV_BLK_STATUS_OPEN_CH 1 (drop F.DRV_BLK_STATUS_LIMIT_CH 0 s)

/-- An enable bit goes from 0 to 1, or from 1 to 0. -/
def rises (old new : Word) (i : Nat) : Bool := !old.getLsbD i && new.getLsbD i
def falls (old new : Word) (i : Nat) : Bool := old.getLsbD i && !new.getLsbD i

/-- What follows from a register having taken a new value. -/
def State.written (s : State) (off : Nat) (old new : Word) : State :=
  if off = R.HIF_BEACON_CTRL then
    (if rises old new 31 then
      { s with hif := { s.hif with beaconSeq := 0, beaconLast := s.now, beaconDue := false, beaconStopped := false } } else s)
  else if off = R.HIF_CTRL then (if falls old new 31 then { s with hif := { s.hif with readDue := false } } else s)
  else if off = R.PAIR_DRILL then s.showDrill
  else if off = R.TIM_OSC_COMP_CTRL then (if falls old new 31 then s.setOsc 0 else s)
  else if decide (R.FAB_RACK_TS 0 ≤ off ∧ off < R.FAB_RACK_TS 4) then s.setF off F.FAB_RACK_TS_VALID (bnat (tsetValid new))
  else if decide (0x230000 ≤ off ∧ off < 0x239000) then s.flagsCleared ((off - 0x230000) / 4) old new
  else if decide (0x60124 ≤ off ∧ off < 0x60324) && (off - 0x60100) % 128 == 0x24 then s.retune ((off - 0x60100) / 128)
  else if decide (0x60128 ≤ off ∧ off < 0x60328) && (off - 0x60100) % 128 == 0x28 then
    let n := (off - 0x60100) / 128
    if rises old new 31 then
      (s.setServoX n { s.servoX n with first := true, last := s.now }).setF (R.TIM_SERVO_STATUS n) F.TIM_SERVO_STATUS_STATE 1
    else if falls old new 31 then s.setF (R.TIM_SERVO_STATUS n) F.TIM_SERVO_STATUS_STATE 0 else s
  else if decide (0x60144 ≤ off ∧ off < 0x60344) && (off - 0x60100) % 128 == 0x44 then
    let n := (off - 0x60100) / 128
    if rises old new 31 then s.setPps n { s.pps n with since := s.now, edge := false, lost := false } else s
  else if decide (0x61000 ≤ off ∧ off < 0x61800) && off % 16 == 0 then
    let n := (off - 0x61000) / 512
    let c := (off - 0x61000) % 512 / 16
    if rises old new 31 ∧ 0 ≤ s.cmpDiff n c then s.cmpFire n c true else s
  else if mirrorReg off then s.mirrorOut (.reg off new)
  else s

/-- A 32-bit write by an owner to the register at an offset. -/
def State.writeWord (s : State) (o : Owner) (off : Nat) (v : Word) : State :=
  match findReg off with
  | none => s
  | some (d, i) =>
    let q := nth 0 i 0
    let refusedSeq (s : State) : State := s.setF (R.SEQ_STATUS q) F.SEQ_STATUS_WRITE_REFUSED 1
    if ownWrite off then s
    else if s.mode = .shadow ∧ o = .host ∧ mirrorReg off then s.count R.PAIR_COUNTS F.PAIR_COUNTS_HOST_IGNORED 1
    else if d.lk ≠ 0 ∧ o = .safety then s.safetyWrite off v
    else
      let s := if d.lkIgnored o then s.lkDirect else s
      match ringSetup off with
      | some cfg => s.ringWrite d off cfg v
      | none =>
        if 0xA00000 ≤ off ∧ off < 0xA01000 then s.hrvWrite ((off - 0xA00000) / 256) (off % 256) v
        else if decide (0x820000 ≤ off ∧ off < 0x8A0000) && s.seqState q != 0 then refusedSeq s
        else if decide (R.SEQ_STREAM_BASE 0 ≤ off ∧ off < R.SEQ_STREAM_BASE 16) && off % 64 == 0x1C && baseRefused v then refusedSeq s
        else if decide (0xD00100 ≤ off ∧ off < 0xD00200) && off % 64 == 0x18 && !s.lpmEmpty q then s
        else
          let old := s.rd off
          let new := d.written .host old v
          (s.wr off (if off = R.HIF_CTRL ∧ rises old new 31 then new &&& 0x7FFFFFFF#32 else new)).written off old new

/-- REGISTER_WRITE (R4, R5, R475): a write of n bytes at an offset; one of fewer than 4 bytes, or that crosses a register boundary, is ignored,
and one of 8 bytes acts as two of 4, the lower offset first. -/
def execRegisterWrite (o : Owner) (off : BitVec 24) (n : Fin 9) (v : BitVec 64) (s : State) : Out :=
  .next (if !s.reaches o || off.toNat % 4 != 0 then s
  else if n.val = 4 then s.writeWord o off.toNat (BitVec.ofNat 32 v.toNat)
  else if n.val = 8 then
    (s.writeWord o off.toNat (BitVec.ofNat 32 v.toNat)).writeWord o (off.toNat + 4) (BitVec.ofNat 32 (v.toNat >>> 32))
  else s)

/-! ### The status beacon (R321, R322) -/

/-- Rings in error, as bit n for SQn or CQn. -/
def State.ringErrs (s : State) : Nat :=
  (List.range 32).foldl (fun m n =>
    if s.flag (R.HIF_SQ_STATUS n) F.HIF_SQ_STATUS_ERR || s.flag (R.HIF_CQ_STATUS n) F.HIF_CQ_STATUS_ERR then m ||| 2 ^ n else m) 0

/-- The 64 bytes of a beacon with sequence number q. -/
def State.beaconBytes (s : State) (q : Nat) : List Byte :=
  let tb := s.tbNow 0
  wordBytes (s.statusWord 0) ++ leBytes 4 q ++ leBytes 4 (s.fld R.HIF_ATTN F.HIF_ATTN_PENDING) ++
  wordBytes (s.rd R.FAB_VINTAGE_FABRIC) ++ wordBytes (s.rd R.FAB_VINTAGE_PACKET) ++ wordBytes (s.rd R.FAB_RACK_STATUS) ++
  leBytes 4 (tbSec tb % 2 ^ 32) ++ leBytes 4 (tbNs tb) ++ leBytes 2 (s.fld R.THM_STATUS F.THM_STATUS_REPORTED) ++
  leBytes 2 s.openRecs.length ++ wordBytes (s.rd R.HIF_CQ_FULL) ++ leBytes 4 s.ringErrs ++ leBytes 16 0 ++ leBytes 4 q

/-- BEACON_WRITE (R322): a beacon is due by PERIOD, or by a change of ATTN_SEQ or of the mode. -/
def execBeaconWrite (s : State) : Out :=
  let o := R.HIF_BEACON_CTRL
  let period := 10000 * clampNat 1 1000 (s.fld o F.HIF_BEACON_CTRL_PERIOD)
  .next (if !s.flag o F.HIF_BEACON_CTRL_EN || !s.busMaster || s.hif.beaconStopped ||
      !(s.hif.beaconDue || decide (s.hif.beaconLast + period ≤ s.now)) then s
  else
    let q := if s.hif.beaconSeq = 0xFFFFFFFF then 1 else s.hif.beaconSeq + 1
    let s := s.post (s.baseAt R.HIF_BEACON_BASE_LO) (s.beaconBytes q)
    { s with hif := { s.hif with beaconSeq := q, beaconLast := s.now, beaconDue := false } })

end Sys2Proof.Machine
end

