-- ==== Sys2Proof/Machine/Dispatch.lean ====
section
/-! DEFINITION. Which meaning each command has: one arm per constructor of Instr. -/

namespace Sys2Proof.Machine

def exec (i : Instr) (s : State) : Host.Outcome State Fault Refusal :=
  match i with
  | .registerWrite o off n v => Sys2Proof.Machine.execRegisterWrite o off n v s
  | .readClear o off n => Sys2Proof.Machine.execReadClear o off n s
  | .snapshotReadLo o off n => Sys2Proof.Machine.execSnapshotReadLo o off n s
  | .nop sq d => Sys2Proof.Machine.execNop sq d s
  | .shadowWriteFabMap sq d buf => Sys2Proof.Machine.execShadowWriteFabMap sq d buf s
  | .shadowWriteFabCells sq d buf => Sys2Proof.Machine.execShadowWriteFabCells sq d buf s
  | .shadowWriteLoopCfg sq d buf => Sys2Proof.Machine.execShadowWriteLoopCfg sq d buf s
  | .shadowWriteRackSeq sq d buf => Sys2Proof.Machine.execShadowWriteRackSeq sq d buf s
  | .shadowWritePipeGraph sq d buf => Sys2Proof.Machine.execShadowWritePipeGraph sq d buf s
  | .shadowWritePipeTmpl sq d buf => Sys2Proof.Machine.execShadowWritePipeTmpl sq d buf s
  | .shadowWritePipePort sq d buf => Sys2Proof.Machine.execShadowWritePipePort sq d buf s
  | .shadowWritePipeClass sq d buf => Sys2Proof.Machine.execShadowWritePipeClass sq d buf s
  | .shadowWriteSch sq d buf => Sys2Proof.Machine.execShadowWriteSch sq d buf s
  | .shadowWriteLanePort sq d buf => Sys2Proof.Machine.execShadowWriteLanePort sq d buf s
  | .pktSeal sq d => Sys2Proof.Machine.execPktSeal sq d s
  | .timOffset sq d => Sys2Proof.Machine.execTimOffset sq d s
  | .solve sq d => Sys2Proof.Machine.execSolve sq d s
  | .checkOnly sq d => Sys2Proof.Machine.execCheckOnly sq d s
  | .solveRackAfterAccept => Sys2Proof.Machine.execSolveRackAfterAccept s
  | .solveResultHeld forced => Sys2Proof.Machine.execSolveResultHeld forced s
  | .solveAbort => Sys2Proof.Machine.execSolveAbort s
  | .failedCellMark cell => Sys2Proof.Machine.execFailedCellMark cell s
  | .failedCellClear cell => Sys2Proof.Machine.execFailedCellClear cell s
  | .faultResolveStart => Sys2Proof.Machine.execFaultResolveStart s
  | .faultResolveResult forced => Sys2Proof.Machine.execFaultResolveResult forced s
  | .rack sq d => Sys2Proof.Machine.execRack sq d s
  | .rackWithdraw sq d => Sys2Proof.Machine.execRackWithdraw sq d s
  | .withdrawWrite => Sys2Proof.Machine.execWithdrawWrite s
  | .rackTriggerTick => Sys2Proof.Machine.execRackTriggerTick s
  | .unitPrepareReport u => Sys2Proof.Machine.execUnitPrepareReport u s
  | .readyCollection => Sys2Proof.Machine.execReadyCollection s
  | .commitBroadcast => Sys2Proof.Machine.execCommitBroadcast s
  | .commitTick late => Sys2Proof.Machine.execCommitTick late s
  | .commitSkew => Sys2Proof.Machine.execCommitSkew s
  | .prepareTimeout => Sys2Proof.Machine.execPrepareTimeout s
  | .pendingTriggerJudged => Sys2Proof.Machine.execPendingTriggerJudged s
  | .limpDeferralEnd => Sys2Proof.Machine.execLimpDeferralEnd s
  | .fdbInsert sq d => Sys2Proof.Machine.execFdbInsert sq d s
  | .fdbRemove sq d => Sys2Proof.Machine.execFdbRemove sq d s
  | .fdbRead sq d buf => Sys2Proof.Machine.execFdbRead sq d buf s
  | .fdbFlush sq d => Sys2Proof.Machine.execFdbFlush sq d s
  | .rehash sq d => Sys2Proof.Machine.execRehash sq d s
  | .fdbDump sq d buf => Sys2Proof.Machine.execFdbDump sq d buf s
  | .lpmInsert sq d => Sys2Proof.Machine.execLpmInsert sq d s
  | .lpmRemove sq d => Sys2Proof.Machine.execLpmRemove sq d s
  | .streamWrite sq d buf => Sys2Proof.Machine.execStreamWrite sq d buf s
  | .rehashSwap n => Sys2Proof.Machine.execRehashSwap n s
  | .counterDump sq d buf => Sys2Proof.Machine.execCounterDump sq d buf s
  | .calRun sq d ref10m => Sys2Proof.Machine.execCalRun sq d ref10m s
  | .calRunAbort sq d => Sys2Proof.Machine.execCalRunAbort sq d s
  | .calSave sq d buf => Sys2Proof.Machine.execCalSave sq d buf s
  | .calRestore sq d buf => Sys2Proof.Machine.execCalRestore sq d buf s
  | .harvestArm sq d => Sys2Proof.Machine.execHarvestArm sq d s
  | .harvestStop sq d => Sys2Proof.Machine.execHarvestStop sq d s
  | .harvestForce sq d => Sys2Proof.Machine.execHarvestForce sq d s
  | .harvestRead sq d buf bad => Sys2Proof.Machine.execHarvestRead sq d buf bad s
  | .logRead sq d buf => Sys2Proof.Machine.execLogRead sq d buf s
  | .imageWrite sq d buf => Sys2Proof.Machine.execImageWrite sq d buf s
  | .imageCommit sq d => Sys2Proof.Machine.execImageCommit sq d s
  | .imageConfirm sq d => Sys2Proof.Machine.execImageConfirm sq d s
  | .imageSelect sq d => Sys2Proof.Machine.execImageSelect sq d s
  | .modeSetLimp sq d => Sys2Proof.Machine.execModeSetLimp sq d s
  | .modeSetServe sq d => Sys2Proof.Machine.execModeSetServe sq d s
  | .modeSetDormant sq d => Sys2Proof.Machine.execModeSetDormant sq d s
  | .modeSetWarmStart sq d => Sys2Proof.Machine.execModeSetWarmStart sq d s
  | .modeSetColdStart sq d => Sys2Proof.Machine.execModeSetColdStart sq d s
  | .pairExchange sq d standby => Sys2Proof.Machine.execPairExchange sq d standby s
  | .pairResync sq d => Sys2Proof.Machine.execPairResync sq d s
  | .faultAck sq d => Sys2Proof.Machine.execFaultAck sq d s
  | .faultRelease sq d checkOk => Sys2Proof.Machine.execFaultRelease sq d checkOk s
  | .faultAckUpTo sq d => Sys2Proof.Machine.execFaultAckUpTo sq d s
  | .doorbellPoll arr => Sys2Proof.Machine.execDoorbellPoll arr s
  | .hifNudge => Sys2Proof.Machine.execHifNudge s
  | .descriptorFetch n d => Sys2Proof.Machine.execDescriptorFetch n d s
  | .completionWrite c => Sys2Proof.Machine.execCompletionWrite c s
  | .beaconWrite => Sys2Proof.Machine.execBeaconWrite s
  | .hostMemoryError e => Sys2Proof.Machine.execHostMemoryError e s
  | .attnAck v => Sys2Proof.Machine.execAttnAck v s
  | .hifEnable => Sys2Proof.Machine.execHifEnable s
  | .sqEnable n v => Sys2Proof.Machine.execSqEnable n v s
  | .cqEnable n v => Sys2Proof.Machine.execCqEnable n v s
  | .busMasterDisable => Sys2Proof.Machine.execBusMasterDisable s
  | .softReset => Sys2Proof.Machine.execSoftReset s
  | .functionLevelReset => Sys2Proof.Machine.execFunctionLevelReset s
  | .hotReset => Sys2Proof.Machine.execHotReset s
  | .pcieLinkLoss => Sys2Proof.Machine.execPcieLinkLoss s
  | .perstNAssert => Sys2Proof.Machine.execPerstNAssert s
  | .d3hotEntry => Sys2Proof.Machine.execD3hotEntry s
  | .hostDirectDrive x code => Sys2Proof.Machine.execHostDirectDrive x code s
  | .rangeChange x range => Sys2Proof.Machine.execRangeChange x range s
  | .rangeBreakEnd x => Sys2Proof.Machine.execRangeBreakEnd x s
  | .drvLimitDetect x engaged => Sys2Proof.Machine.execDrvLimitDetect x engaged s
  | .drvOpenDetect x => Sys2Proof.Machine.execDrvOpenDetect x s
  | .monitorConversionDone n a k code => Sys2Proof.Machine.execMonitorConversionDone n a k code s
  | .spareSwap n => Sys2Proof.Machine.execSpareSwap n s
  | .hkTimerTrigger m => Sys2Proof.Machine.execHkTimerTrigger m s
  | .hkConverterEdge m => Sys2Proof.Machine.execHkConverterEdge m s
  | .hkConversionDone m code => Sys2Proof.Machine.execHkConversionDone m code s
  | .injectedConversionDone j code => Sys2Proof.Machine.execInjectedConversionDone j code s
  | .loopFrameStart => Sys2Proof.Machine.execLoopFrameStart s
  | .ffStale b => Sys2Proof.Machine.execFfStale b s
  | .loopGroupWindow b k stall => Sys2Proof.Machine.execLoopGroupWindow b k stall s
  | .acqTimeout x => Sys2Proof.Machine.execAcqTimeout x s
  | .loopLaneLost b xs => Sys2Proof.Machine.execLoopLaneLost b xs s
  | .loopCmdReacquire element => Sys2Proof.Machine.execLoopCmdReacquire element s
  | .seqCmdStart q first => Sys2Proof.Machine.execSeqCmdStart q first s
  | .seqCmdStop q => Sys2Proof.Machine.execSeqCmdStop q s
  | .seqCmdJump q => Sys2Proof.Machine.execSeqCmdJump q s
  | .seqStartTick q => Sys2Proof.Machine.execSeqStartTick q s
  | .seqPassEnd q => Sys2Proof.Machine.execSeqPassEnd q s
  | .seqStreamDataArrival q n bad ns => Sys2Proof.Machine.execSeqStreamDataArrival q n bad ns s
  | .seqStarveAbort q => Sys2Proof.Machine.execSeqStarveAbort q s
  | .seqSyncLost q => Sys2Proof.Machine.execSeqSyncLost q s
  | .seqMemDataAccess q v => Sys2Proof.Machine.execSeqMemDataAccess q v s
  | .tastingMeasurementDone kind index slice m1 m2 quality => Sys2Proof.Machine.execTastingMeasurementDone kind index slice m1 m2 quality s
  | .stagedValueInForce item => Sys2Proof.Machine.execStagedValueInForce item s
  | .hkSelfTasting m m1 m2 quality => Sys2Proof.Machine.execHkSelfTasting m m1 m2 quality s
  | .frameIngress p data ns lat => Sys2Proof.Machine.execFrameIngress p data ns lat s
  | .frameEnd p how ns => Sys2Proof.Machine.execFrameEnd p how ns s
  | .cellarReadAnswer id ns => Sys2Proof.Machine.execCellarReadAnswer id ns s
  | .readLimitExpiry id ns => Sys2Proof.Machine.execReadLimitExpiry id ns s
  | .ingressFailAfterCommit p sent ns => Sys2Proof.Machine.execIngressFailAfterCommit p sent ns s
  | .learnNoticeApply n => Sys2Proof.Machine.execLearnNoticeApply n s
  | .stashPlacement n => Sys2Proof.Machine.execStashPlacement n s
  | .ageSweep n => Sys2Proof.Machine.execAgeSweep n s
  | .hitWriteback => Sys2Proof.Machine.execHitWriteback s
  | .egressSelect p ns => Sys2Proof.Machine.execEgressSelect p ns s
  | .gateEntryStart p ns => Sys2Proof.Machine.execGateEntryStart p ns s
  | .counterFold pair => Sys2Proof.Machine.execCounterFold pair s
  | .schIndSelWrite v => Sys2Proof.Machine.execSchIndSelWrite v s
  | .timSet n ns => Sys2Proof.Machine.execTimSet n ns s
  | .timAdd n ns => Sys2Proof.Machine.execTimAdd n ns s
  | .timClearInt n => Sys2Proof.Machine.execTimClearInt n s
  | .timSnapCmd o mask ns => Sys2Proof.Machine.execTimSnapCmd o mask ns s
  | .ppsInputEdge n rising ns => Sys2Proof.Machine.execPpsInputEdge n rising ns s
  | .ppsLost n => Sys2Proof.Machine.execPpsLost n s
  | .servoHoldover n => Sys2Proof.Machine.execServoHoldover n s
  | .compareFire n c ns => Sys2Proof.Machine.execCompareFire n c ns s
  | .ppsoFall n ns => Sys2Proof.Machine.execPpsoFall n ns s
  | .compareTargetHiWrite n c v => Sys2Proof.Machine.execCompareTargetHiWrite n c v s
  | .tsqHeadLatch n => Sys2Proof.Machine.execTsqHeadLatch n s
  | .tsqRecordRemove n => Sys2Proof.Machine.execTsqRecordRemove n s
  | .oscCompUpdate => Sys2Proof.Machine.execOscCompUpdate s
  | .bringupStepDone p f => Sys2Proof.Machine.execBringupStepDone p f s
  | .bringupStepLimit p => Sys2Proof.Machine.execBringupStepLimit p s
  | .linkDown p los => Sys2Proof.Machine.execLinkDown p los s
  | .laneCfgWrite x v => Sys2Proof.Machine.execLaneCfgWrite x v s
  | .lanePrbsWrite x v => Sys2Proof.Machine.execLanePrbsWrite x v s
  | .lpiTxEnter p => Sys2Proof.Machine.execLpiTxEnter p s
  | .lpiTxWake p => Sys2Proof.Machine.execLpiTxWake p s
  | .lpiRxSleep p => Sys2Proof.Machine.execLpiRxSleep p s
  | .lpiRxWake p => Sys2Proof.Machine.execLpiRxWake p s
  | .tapLos k => Sys2Proof.Machine.execTapLos k s
  | .tapLaserLow n power => Sys2Proof.Machine.execTapLaserLow n power s
  | .tapLaserRestore n power => Sys2Proof.Machine.execTapLaserRestore n power s
  | .tapTxFault k => Sys2Proof.Machine.execTapTxFault k s
  | .lanePllUnlock k => Sys2Proof.Machine.execLanePllUnlock k s
  | .eviEdge n rising stable ns => Sys2Proof.Machine.execEviEdge n rising stable ns s
  | .evtSwPulse v => Sys2Proof.Machine.execEvtSwPulse v s
  | .eventActivation => Sys2Proof.Machine.execEventActivation s
  | .evoPulseEnd k => Sys2Proof.Machine.execEvoPulseEnd k s
  | .evtChOwnWrite o c v => Sys2Proof.Machine.execEvtChOwnWrite o c v s
  | .evtChCfgWrite o c tasks v => Sys2Proof.Machine.execEvtChCfgWrite o c tasks v s
  | .hrvPretriggerFull u => Sys2Proof.Machine.execHrvPretriggerFull u s
  | .hrvTrigger u => Sys2Proof.Machine.execHrvTrigger u s
  | .hrvRecordComplete u => Sys2Proof.Machine.execHrvRecordComplete u s
  | .hrvRearmEnd u => Sys2Proof.Machine.execHrvRearmEnd u s
  | .hrvGap u n => Sys2Proof.Machine.execHrvGap u n s
  | .hrvConfigWrite u w v => Sys2Proof.Machine.execHrvConfigWrite u w v s
  | .faultReport r => Sys2Proof.Machine.execFaultReport r s
  | .faultClassification => Sys2Proof.Machine.execFaultClassification s
  | .safeReadback open_ others => Sys2Proof.Machine.execSafeReadback open_ others s
  | .checkerInjection src loc => Sys2Proof.Machine.execCheckerInjection src loc s
  | .checkerDead => Sys2Proof.Machine.execCheckerDead s
  | .fltTestInjWrite v => Sys2Proof.Machine.execFltTestInjWrite v s
  | .configScrub upset copy => Sys2Proof.Machine.execConfigScrub upset copy s
  | .lkPropose => Sys2Proof.Machine.execLkPropose s
  | .lkConfirm check => Sys2Proof.Machine.execLkConfirm check s
  | .lightPathCheck => Sys2Proof.Machine.execLightPathCheck s
  | .referenceLossMeasure m => Sys2Proof.Machine.execReferenceLossMeasure m s
  | .portPowerUpdate => Sys2Proof.Machine.execPortPowerUpdate s
  | .supplyMonitorSample mv => Sys2Proof.Machine.execSupplyMonitorSample mv s
  | .clockMonitorWindow ppm => Sys2Proof.Machine.execClockMonitorWindow ppm s
  | .latchFlagClear => Sys2Proof.Machine.execLatchFlagClear s
  | .watchdogExpiry k lockstep => Sys2Proof.Machine.execWatchdogExpiry k lockstep s
  | .processorRestartDone k ok => Sys2Proof.Machine.execProcessorRestartDone k ok s
  | .busDefaultAccess master rights write addr => Sys2Proof.Machine.execBusDefaultAccess master rights write addr s
  | .mgtRemapWrite v => Sys2Proof.Machine.execMgtRemapWrite v s
  | .norPageProgramDone ok => Sys2Proof.Machine.execNorPageProgramDone ok s
  | .norEraseDone ok => Sys2Proof.Machine.execNorEraseDone ok s
  | .logRecordWrite ok => Sys2Proof.Machine.execLogRecordWrite ok s
  | .slotEraseDone => Sys2Proof.Machine.execSlotEraseDone s
  | .sensorSweep readings => Sys2Proof.Machine.execSensorSweep readings s
  | .norTempConversion t45 t46 t47 => Sys2Proof.Machine.execNorTempConversion t45 t46 t47 s
  | .powerOn => Sys2Proof.Machine.execPowerOn s
  | .coldResetInput samples => Sys2Proof.Machine.execColdResetInput samples s
  | .evi0Wake falling => Sys2Proof.Machine.execEvi0Wake falling s
  | .testPortReset => Sys2Proof.Machine.execTestPortReset s
  | .pfailAssert vin vhold => Sys2Proof.Machine.execPfailAssert vin vhold s
  | .pfailRelease vin vhold => Sys2Proof.Machine.execPfailRelease vin vhold s
  | .holdupExhausted => Sys2Proof.Machine.execHoldupExhausted s
  | .coldStart k => Sys2Proof.Machine.execColdStart k s
  | .acqImageAdvance => Sys2Proof.Machine.execAcqImageAdvance s
  | .warmStart k => Sys2Proof.Machine.execWarmStart k s
  | .startCommit late line => Sys2Proof.Machine.execStartCommit late line s
  | .negotiateTimeout line => Sys2Proof.Machine.execNegotiateTimeout line s
  | .modeChangeTriggerTick => Sys2Proof.Machine.execModeChangeTriggerTick s
  | .modeChangeCommitTick late => Sys2Proof.Machine.execModeChangeCommitTick late s
  | .dormantPowerDown => Sys2Proof.Machine.execDormantPowerDown s
  | .holdReleaseSeen low ns => Sys2Proof.Machine.execHoldReleaseSeen low ns s
  | .takeoverGuardEnd low => Sys2Proof.Machine.execTakeoverGuardEnd low s
  | .pairHoldMismatch high => Sys2Proof.Machine.execPairHoldMismatch high s
  | .pairLinkLost => Sys2Proof.Machine.execPairLinkLost s
  | .graftLinkUp lane ver id role pref => Sys2Proof.Machine.execGraftLinkUp lane ver id role pref s
  | .mirrorRecord rec_ missed age => Sys2Proof.Machine.execMirrorRecord rec_ missed age s
  | .resyncComplete => Sys2Proof.Machine.execResyncComplete s
  | .graftTimeSample n theta ns => Sys2Proof.Machine.execGraftTimeSample n theta ns s
  | .drillHour => Sys2Proof.Machine.execDrillHour s
  | .busMasterEnable => Sys2Proof.Machine.execBusMasterEnable s
  | .perstNRelease => Sys2Proof.Machine.execPerstNRelease s
  | .pcieLinkUp => Sys2Proof.Machine.execPcieLinkUp s
  | .remoteFault p on => Sys2Proof.Machine.execRemoteFault p on s
  | .graftLaneDown lane ns => Sys2Proof.Machine.execGraftLaneDown lane ns s
  | .exchangeRelayed => Sys2Proof.Machine.execExchangeRelayed s
  | .toneUpdate => Sys2Proof.Machine.execToneUpdate s
  | .sequenceSample q ns => Sys2Proof.Machine.execSequenceSample q ns s

end Sys2Proof.Machine
end

