-- ==== Sys2Proof/Machine/Parts.lean ====
section
/-! DEFINITION. The parts of the state, and which of them each command may write. -/

namespace Sys2Proof.Machine

/-- The parts of the state; each is one field of State (the queue of waiting commands is apart). -/
inductive Part where
  /-- The machine's clock. -/
  | clock
  /-- The register file. -/
  | registers
  /-- The working mode. -/
  | mode
  /-- The count of free values drawn. -/
  | freeValues
  /-- Host interface, its rings and buffers. -/
  | hostInterface
  /-- The light fabric and its cells. -/
  | fabric
  /-- The racking unit. -/
  | rack
  /-- Management: images, non-volatile memory, logs. -/
  | management
  /-- Faults, safe state and locks. -/
  | faults
  /-- Start-up and clocks. -/
  | startup
  /-- Drive and sense. -/
  | drive
  /-- The loops. -/
  | loops
  /-- The sequencers. -/
  | sequencers
  /-- Events and capture. -/
  | events
  /-- The harvest records. -/
  | harvest
  /-- Network time. -/
  | netTime
  /-- Temperatures. -/
  | thermal
  /-- The lanes. -/
  | lanes
  /-- Calibration. -/
  | calibration
  /-- The frame pipeline, its tables and the scheduler. -/
  | pipeline
  /-- The redundant pair. -/
  | pair
  /-- Cellar's bytes. -/
  | cellar
  deriving DecidableEq, Repr

/-- The part holds in t what it held in s. -/
def Part.kept (p : Part) (s t : State) : Prop :=
  match p with
  | .clock => t.now = s.now
  | .registers => t.regs = s.regs
  | .mode => t.mode = s.mode
  | .freeValues => t.freeCtr = s.freeCtr
  | .hostInterface => t.hif = s.hif
  | .fabric => t.fab = s.fab
  | .rack => t.rack = s.rack
  | .management => t.mgmt = s.mgmt
  | .faults => t.flt = s.flt
  | .startup => t.start = s.start
  | .drive => t.drive = s.drive
  | .loops => t.loop = s.loop
  | .sequencers => t.seq = s.seq
  | .events => t.evt = s.evt
  | .harvest => t.hrv = s.hrv
  | .netTime => t.tim = s.tim
  | .thermal => t.thm = s.thm
  | .lanes => t.lane = s.lane
  | .calibration => t.cal = s.cal
  | .pipeline => t.pk = s.pk
  | .pair => t.pair = s.pair
  | .cellar => t.cellar = s.cellar

/-- The place of a part among State's fields. -/
def Part.bit (p : Part) : Nat :=
  match p with
  | .clock => 0
  | .registers => 1
  | .mode => 2
  | .freeValues => 3
  | .hostInterface => 4
  | .fabric => 5
  | .rack => 6
  | .management => 7
  | .faults => 8
  | .startup => 9
  | .drive => 10
  | .loops => 11
  | .sequencers => 12
  | .events => 13
  | .harvest => 14
  | .netTime => 15
  | .thermal => 16
  | .lanes => 17
  | .calibration => 18
  | .pipeline => 19
  | .pair => 20
  | .cellar => 21

/-- Every part a cold start puts back: all but the clock, the free values' count and Cellar's bytes. -/
def Part.returned : List Part :=
  [.registers, .mode, .hostInterface, .fabric, .rack, .management, .faults, .startup, .drive, .loops, .sequencers, .events, .harvest, .netTime, .thermal, .lanes, .calibration, .pipeline, .pair]

/-- The parts a command may write. What is not in the list the command leaves as it was, whatever the state. -/
def mayWrite (i : Instr) : List Part :=
  match i with
  | .registerWrite .. => [.registers, .hostInterface, .faults, .events, .netTime, .pair]
  | .readClear .. | .snapshotReadLo .. | .nop .. | .fdbRead .. | .fdbDump .. | .calSave .. | .logRead .. | .doorbellPoll .. |
      .descriptorFetch .. | .completionWrite .. | .hostMemoryError .. | .hifEnable .. | .sqEnable .. | .cqEnable .. | .softReset .. |
      .functionLevelReset .. | .hotReset .. | .pcieLinkLoss .. | .perstNAssert .. | .d3hotEntry .. | .tsqHeadLatch .. | .pcieLinkUp ..
      => [.registers, .hostInterface]
  | .shadowWriteFabMap .. | .shadowWriteFabCells .. | .shadowWriteLoopCfg .. | .shadowWriteRackSeq .. | .shadowWritePipeGraph .. |
      .shadowWritePipeTmpl .. | .shadowWritePipePort .. | .shadowWritePipeClass .. | .shadowWriteSch .. | .shadowWriteLanePort .. |
      .pktSeal .. | .timOffset .. => [.registers, .hostInterface, .fabric, .rack, .faults, .sequencers, .events, .netTime, .pipeline]
  | .solve .. | .checkOnly .. => [.registers, .hostInterface, .fabric, .rack]
  | .solveRackAfterAccept .. => [.clock, .registers, .fabric]
  | .solveResultHeld .. => [.registers, .hostInterface, .fabric, .rack, .faults, .events]
  | .solveAbort .. => [.registers, .hostInterface, .fabric]
  | .failedCellMark .. => [.fabric]
  | .failedCellClear .. => [.registers, .fabric]
  | .faultResolveStart .. | .rackWithdraw .. | .withdrawWrite .. => [.registers, .hostInterface, .fabric, .rack, .faults, .drive,
      .loops, .sequencers, .events, .pipeline]
  | .faultResolveResult .. => [.registers, .fabric, .rack, .faults, .drive, .events]
  | .rack .. => [.registers, .hostInterface, .rack]
  | .rackTriggerTick .. | .pendingTriggerJudged .. | .limpDeferralEnd .. => [.clock, .registers, .hostInterface, .fabric, .rack,
      .faults, .drive, .events]
  | .unitPrepareReport .. => [.registers, .hostInterface, .fabric, .rack, .faults, .startup, .drive, .loops, .sequencers, .events,
      .pipeline]
  | .readyCollection .. => [.clock, .registers, .rack, .startup, .drive, .loops]
  | .commitBroadcast .. => [.clock, .registers, .hostInterface, .rack, .faults, .startup, .drive, .loops, .sequencers, .events]
  | .commitTick .. => [.clock, .registers, .freeValues, .hostInterface, .fabric, .rack, .faults, .drive, .loops, .sequencers, .events,
      .lanes, .calibration, .pipeline, .pair, .cellar]
  | .commitSkew .. => [.registers, .hostInterface, .fabric, .rack, .faults, .drive, .events]
  | .prepareTimeout .. => [.registers, .hostInterface, .fabric, .rack, .management, .faults, .startup, .drive, .loops, .sequencers,
      .events, .pipeline, .pair]
  | .fdbInsert .. | .fdbRemove .. | .fdbFlush .. | .rehashSwap .. | .learnNoticeApply .. | .ageSweep .. => [.registers, .freeValues,
      .hostInterface, .pipeline, .pair, .cellar]
  | .rehash .. | .stashPlacement .. => [.registers, .freeValues, .hostInterface, .pipeline, .cellar]
  | .lpmInsert .. | .lpmRemove .. => [.registers, .hostInterface, .pipeline, .pair]
  | .streamWrite .. => [.registers, .hostInterface, .cellar]
  | .counterDump .. => [.registers, .hostInterface, .pipeline, .cellar]
  | .calRun .. | .calRunAbort .. | .calRestore .. => [.registers, .hostInterface, .calibration]
  | .harvestArm .. | .harvestStop .. | .harvestForce .. => [.registers, .hostInterface, .harvest]
  | .harvestRead .. => [.registers, .hostInterface, .faults, .events]
  | .imageWrite .. | .imageCommit .. | .imageConfirm .. | .imageSelect .. | .slotEraseDone .. | .pfailRelease .. => [.registers,
      .hostInterface, .management]
  | .modeSetLimp .. | .modeSetServe .. | .modeSetDormant .. | .modeSetWarmStart .. | .modeSetColdStart .. => [.registers,
      .hostInterface, .startup]
  | .pairExchange .. | .exchangeRelayed .. => [.registers, .hostInterface, .startup, .pair]
  | .pairResync .. | .resyncComplete .. => [.registers, .hostInterface, .pair]
  | .faultAck .. | .faultAckUpTo .. => [.registers, .hostInterface, .faults]
  | .faultRelease .. => [.registers, .hostInterface, .fabric, .rack, .faults, .drive, .events, .lanes, .calibration]
  | .hifNudge .. | .beaconWrite .. | .busMasterDisable .. | .busMasterEnable .. | .perstNRelease .. => [.hostInterface]
  | .attnAck .. | .monitorConversionDone .. | .seqCmdJump .. | .schIndSelWrite .. | .lanePrbsWrite .. | .lpiTxEnter .. | .lpiTxWake ..
      | .lpiRxSleep .. | .lpiRxWake .. | .tapLaserRestore .. | .hrvConfigWrite .. | .portPowerUpdate .. | .drillHour .. | .remoteFault
      .. => [.registers]
  | .hostDirectDrive .. | .rangeChange .. | .rangeBreakEnd .. | .spareSwap .. | .hkTimerTrigger .. | .hkConverterEdge .. =>
      [.registers, .drive]
  | .drvLimitDetect .. | .drvOpenDetect .. | .servoHoldover .. | .tapLaserLow .. | .tapTxFault .. | .configScrub .. | .busDefaultAccess
      .. => [.registers, .faults, .events]
  | .hkConversionDone .. => [.registers, .freeValues, .drive, .thermal]
  | .injectedConversionDone .. => [.registers, .freeValues, .drive, .events, .thermal]
  | .loopFrameStart .. => [.registers, .drive, .loops, .sequencers, .thermal]
  | .ffStale .. => [.faults, .loops, .events]
  | .loopGroupWindow .. => [.registers, .faults, .drive, .loops, .events]
  | .acqTimeout .. | .loopLaneLost .. => [.registers, .faults, .loops, .events]
  | .loopCmdReacquire .. => [.registers, .loops]
  | .seqCmdStart .. => [.registers, .sequencers]
  | .seqCmdStop .. | .seqStartTick .. | .seqPassEnd .. | .seqStarveAbort .. => [.registers, .faults, .loops, .sequencers, .events]
  | .seqStreamDataArrival .. => [.clock, .registers, .faults, .drive, .sequencers, .events]
  | .seqSyncLost .. | .lanePllUnlock .. | .lightPathCheck .. | .supplyMonitorSample .. | .clockMonitorWindow .. => [.faults, .events]
  | .seqMemDataAccess .. => [.registers, .hostInterface, .sequencers]
  | .tastingMeasurementDone .. | .hkSelfTasting .. => [.registers, .hostInterface, .faults, .drive, .events, .calibration]
  | .stagedValueInForce .. => [.registers, .calibration]
  | .frameIngress .. => [.clock, .registers, .freeValues, .netTime, .thermal, .pipeline, .cellar]
  | .frameEnd .. | .cellarReadAnswer .. | .egressSelect .. => [.clock, .registers, .freeValues, .netTime, .pipeline, .cellar]
  | .readLimitExpiry .. => [.clock, .registers, .freeValues, .faults, .events, .netTime, .pipeline, .cellar]
  | .ingressFailAfterCommit .. => [.clock, .registers, .pipeline]
  | .hitWriteback .. | .counterFold .. => [.pipeline, .cellar]
  | .gateEntryStart .. => [.clock, .registers, .pipeline, .cellar]
  | .timSet .. | .timAdd .. | .timSnapCmd .. => [.clock, .registers, .netTime]
  | .timClearInt .. | .oscCompUpdate .. => [.registers, .netTime]
  | .ppsInputEdge .. | .graftTimeSample .. => [.clock, .registers, .faults, .events, .netTime]
  | .ppsLost .. => [.faults, .events, .netTime]
  | .compareFire .. => [.clock, .registers, .events, .netTime]
  | .ppsoFall .. => [.clock, .netTime]
  | .compareTargetHiWrite .. => [.registers, .events, .netTime]
  | .tsqRecordRemove .. => [.registers, .hostInterface, .netTime]
  | .bringupStepDone .. => [.registers, .events, .lanes]
  | .bringupStepLimit .. => [.registers, .lanes, .calibration]
  | .linkDown .. | .laneCfgWrite .. | .tapLos .. => [.registers, .faults, .events, .lanes, .calibration]
  | .eviEdge .. | .evoPulseEnd .. => [.clock, .registers, .events]
  | .evtSwPulse .. => [.events]
  | .eventActivation .. => [.clock, .registers, .freeValues, .hostInterface, .rack, .faults, .startup, .drive, .sequencers, .events,
      .harvest]
  | .evtChOwnWrite .. | .evtChCfgWrite .. | .checkerInjection .. | .fltTestInjWrite .. | .lkPropose .. | .latchFlagClear .. =>
      [.registers, .faults]
  | .hrvPretriggerFull .. | .hrvRearmEnd .. => [.registers, .harvest]
  | .hrvTrigger .. => [.registers, .events, .harvest, .cellar]
  | .hrvRecordComplete .. => [.registers, .hostInterface, .events, .harvest]
  | .hrvGap .. => [.faults, .events, .harvest]
  | .faultReport .. | .watchdogExpiry .. => [.registers, .mode, .freeValues, .hostInterface, .fabric, .rack, .management, .faults,
      .startup, .drive, .loops, .sequencers, .events, .netTime, .lanes, .calibration, .pipeline, .pair, .cellar]
  | .faultClassification .. => [.registers, .mode, .hostInterface, .fabric, .rack, .management, .faults, .startup, .drive, .loops,
      .sequencers, .events, .calibration, .pipeline, .pair]
  | .safeReadback .. | .sequenceSample .. => [.clock, .registers, .faults, .drive, .loops, .sequencers, .events]
  | .checkerDead .. => [.clock, .registers, .faults, .events]
  | .lkConfirm .. | .logRecordWrite .. => [.registers, .management, .faults, .events]
  | .referenceLossMeasure .. => [.clock, .faults]
  | .processorRestartDone .. => [.registers, .fabric, .management, .faults, .events]
  | .mgtRemapWrite .. => [.registers, .management]
  | .norPageProgramDone .. | .coldResetInput .. | .evi0Wake .. => Part.returned
  | .norEraseDone .. => [.registers, .hostInterface, .management, .faults, .events]
  | .sensorSweep .. => [.registers, .hostInterface, .management, .faults, .startup, .events, .thermal]
  | .norTempConversion .. => [.registers, .hostInterface, .management, .faults, .events, .thermal]
  | .powerOn .. | .holdupExhausted .. | .dormantPowerDown .. => [.cellar] ++ Part.returned
  | .testPortReset .. => []
  | .pfailAssert .. => [.registers, .hostInterface, .management, .events]
  | .coldStart .. => [.registers, .mode, .hostInterface, .fabric, .rack, .management, .faults, .startup, .drive, .loops, .sequencers,
      .events, .calibration, .pipeline, .pair, .cellar]
  | .acqImageAdvance .. => [.clock, .registers, .faults, .startup, .drive, .loops, .sequencers, .events]
  | .warmStart .. => [.registers, .hostInterface, .fabric, .rack, .management, .faults, .startup, .loops, .sequencers, .events,
      .harvest, .lanes, .calibration, .pipeline, .pair, .cellar]
  | .startCommit .. => [.clock, .registers, .mode, .hostInterface, .fabric, .management, .faults, .startup, .drive, .events, .lanes,
      .calibration, .pair]
  | .negotiateTimeout .. | .graftLaneDown .. => [.clock, .registers, .hostInterface, .events, .pair]
  | .modeChangeTriggerTick .. => [.clock, .registers, .hostInterface, .management, .faults, .startup, .events, .pair]
  | .modeChangeCommitTick .. => [.clock] ++ Part.returned
  | .holdReleaseSeen .. => [.clock, .registers, .pair]
  | .takeoverGuardEnd .. => [.clock, .registers, .hostInterface, .startup, .pair]
  | .pairHoldMismatch .. => [.registers, .faults, .events, .pair]
  | .pairLinkLost .. => [.faults, .events, .pair]
  | .graftLinkUp .. => [.registers, .hostInterface, .events, .pair]
  | .mirrorRecord .. => [.registers, .freeValues, .hostInterface, .fabric, .rack, .faults, .drive, .sequencers, .events, .pipeline,
      .pair, .cellar]
  | .toneUpdate .. => [.clock, .sequencers]

end Sys2Proof.Machine
end

