-- ==== Sys2Proof/Safety.lean ====
section
/-! DEFINITION. What the claims call tidy, safe, offered and done. -/

namespace Sys2Proof

open Sys2Proof.Machine

/-- The register file is in its canonical form: offsets strictly rising, none listed at its reset value. -/
def Machine.State.regsTidy (s : State) : Bool := Tab.wf resetOf s.regs

/-- Cellar is in its canonical form: addresses strictly rising, none listed at 0. -/
def Machine.State.cellarTidy (s : State) : Bool := Tab.wf (fun _ => (0 : Byte)) s.cellar

/-- The device is in Safe, recoverable or latched. -/
def Machine.State.isSafe (s : State) : Bool := s.mode == .safe || s.mode == .latched

/-- A safe run: every step answers a next state, so that no command stops the machine. -/
def safeRun : Nat → State → Prop
  | 0, _ => True
  | n + 1, s => ∃ t, Machine.step s = .next t ∧ safeRun n t

/-- Descriptor d is the next of ring n, the ring may start it (14_host_interface.md R302, R306 to R309, R312), it selects a row of the table,
and none of the results that every opcode shares (R314; 15_management.md R344) refuses it. needsBuf: the request has a buffer; bufOk: the
accesses to the buffer succeed. -/
def Machine.State.offers (s : State) (n : Nat) (d : Desc) (needsBuf bufOk : Bool) : Bool :=
  s.canStart n && (s.sqRing n).fetched.head? == some d && (s.rowless d).isNone && !(d.opcode == 4 && s.restarting 3) &&
  (s.headerResult d needsBuf bufOk).isNone

/-- The state in which the request of descriptor d runs: ring n has started it. -/
def Machine.State.begun (s : State) (n : Nat) (d : Desc) : State := (s.startedDesc n d).2

/-- The request that ring n starts next. -/
def Machine.State.nextReq (s : State) (n : Nat) : Req := ⟨n, s.hif.job⟩

/-- The newest completion held for the completion ring of ring n: its ring, tag, result and words. -/
def Machine.State.lastDone (s : State) (n : Nat) : Option (Nat × Nat × Nat × List Word) :=
  (s.cqRing (s.boundCq n)).held.getLast?.map fun k => (k.sq, k.tag, k.result, k.words)

/-- The registers outside a list of offsets read as before. -/
def Machine.State.regsKept (s t : State) (l : List Nat) : Prop := ∀ o, o ∉ l → t.rd o = s.rd o

/-- A register that a write changes and that has no other effect: no row of its own takes its writes (14_host_interface.md R325 and the rows
of opcode_table.json), it is no ring's set-up, no register that guards its own write, and nothing follows from its new value. -/
def Machine.plainReg (off : Nat) : Bool :=
  !ownWrite off && (ringSetup off).isNone && !mirrorReg off && off != R.HIF_CTRL && off != R.HIF_BEACON_CTRL && off != R.PAIR_DRILL &&
  !decide (0x60000 ≤ off ∧ off < 0x70000) && !decide (0x100140 ≤ off ∧ off < 0x100150) && !decide (0x230000 ≤ off ∧ off < 0x239000) &&
  !decide (0x800000 ≤ off ∧ off < 0x900000) && !decide (0xA00000 ≤ off ∧ off < 0xC00000) && !decide (0xD00100 ≤ off ∧ off < 0xD00200)

end Sys2Proof
end

