-- ==== Sys2Proof/Certificates/Slice0/Obligations.lean ====
section
/-! DEFINITION. The statements for the provers, one definition each: what the commands do by the rules of spec/, chapter by chapter. -/

open Sys2Proof Sys2Proof.Machine

/-- For every command c and every state s whose queue of waiting commands begins with c, a step of s is exec of c on s with the queue's rest. (01_architecture.md.) -/
def Obligations.StepRunsFrontCommand : Prop :=
∀ (c : Instr) (rest : List Instr) (s : State), s.pending = c :: rest → step s = exec c { s with pending := rest }

/-- From every state in which the register file (offsets strictly rising, none listed at its reset value) and Cellar (addresses strictly rising, none listed at 0) are in canonical form, whichever command a step runs, both are in canonical form in the next state. (The form is the model's own: equal registers and equal memory are equal data.) (10_tables.md, 22_register_index.md.) -/
def Obligations.EveryStepKeepsCanonicalForms : Prop :=
∀ s t : State, s.regsTidy = true → s.cellarTidy = true → step s = .next t → t.regsTidy = true ∧ t.cellarTidy = true

/-- The register file and Cellar of State.reset are in canonical form, its queue is empty and every offset reads as the reset value of its register. (10_tables.md, 22_register_index.md.) -/
def Obligations.ResetIsCanonical : Prop :=
State.reset.regsTidy = true ∧ State.reset.cellarTidy = true ∧ State.reset.pending = [] ∧ ∀ o, State.reset.rd o = resetOf o

/-- Whichever command a step runs, from every state: the queue after it is the queue before it without its front command (an empty queue stays empty), no step stops the machine, the clock never runs backwards, and no open value is drawn twice. (The queue, the drawn values and the clock in nanoseconds are the model's own: log entry 21.) (01_architecture.md, 12_network_time.md.) -/
def Obligations.EveryStepTakesOneCommandAndTimeGoesOn : Prop :=
∀ s : State, ∃ t, step s = .next t ∧ t.pending = s.pending.tail ∧ s.now ≤ t.now ∧ s.freeCtr ≤ t.freeCtr

/-- After PORT_POWER_UPDATE each port power register whose monitor has no reading shows VALID 0. Each other one shows VALID 1, UNDER for a monitor sample below 112, OVER for a level above 20.00 dBm, and within those limits the level: for an output the waveguide power of its attenuator's monitor, in 0.01 dBm, for an input that plus the calibrated minimum loss, or plus 45.00 dB with BOUND 1 where its attenuator is parked. No other register and nothing else changes. (R36, R28, R32, R101.) -/
def Obligations.PortPowers : Prop :=
∀ s : State, ∃ t, exec .portPowerUpdate s = .next t ∧ t = { s with regs := t.regs } ∧
    (∀ o, (∀ n < 256, o ≠ R.FAB_IN_POWER n ∧ o ≠ R.FAB_OUT_POWER n) → t.rd o = s.rd o) ∧
    ∀ n < 256,
      ∀ e ∈ [(R.FAB_IN_POWER n, elemVI n, s.flag (R.DRV_CH_CODE (elemVI n)) F.DRV_CH_CODE_PARKED,
            s.wavePower (elemVI n) + (if s.flag (R.DRV_CH_CODE (elemVI n)) F.DRV_CH_CODE_PARKED then 4500
              else ((bits (s.rd (R.CAL_CURVE (elemVI n) 2)).toNat 16 16 : Nat) : Int))),
          (R.FAB_OUT_POWER n, elemVO n, false, s.wavePower (elemVO n))],
        (s.monValid e.2.1 = false → t.fld e.1 F.FAB_IN_POWER_VALID = 0) ∧
        (s.monValid e.2.1 = true → t.fld e.1 F.FAB_IN_POWER_VALID = 1 ∧ t.fld e.1 F.FAB_IN_POWER_BOUND = bnat e.2.2.1 ∧
          t.fld e.1 F.FAB_IN_POWER_UNDER = bnat (decide (s.fld (R.DRV_MON e.2.1) F.DRV_MON_SAMPLE < 112)) ∧
          t.fld e.1 F.FAB_IN_POWER_OVER = bnat (decide (2000 < e.2.2.2)) ∧
          (112 ≤ s.fld (R.DRV_MON e.2.1) F.DRV_MON_SAMPLE → e.2.2.2 ≤ 2000 →
            signedOf 16 (t.fld e.1 F.FAB_IN_POWER_LEVEL) = signedOf 16 (unsignedOf 16 e.2.2.2)))

/-- Outside Shadow, once the device admits SOLVE, with no rack of the fabric domain in progress, a free solver and nothing queued: a SOLVE (MODE 0) or CHECK_ONLY (MODE 1) with RACK_AFTER 0 that its ring offers is taken at once, clears SOLVED and shows STATE 1 or 3, the active image and map unchanged; with RACK_AFTER 1 it waits in the queue until SOLVE_RACK_AFTER_ACCEPT, 488 ns into a boundary cycle (512 ns before the next tick), takes it. With four queued it ends with 0x0107 (BUSY), and in Shadow with 0x0108 (MODE_REFUSED), the solver, its queue, the shadow image and SOLVED unchanged. (R55, R56, R57, R64, R66.) -/
def Obligations.SolveRequests : Prop :=
∀ (s : State) (sq : Fin 32) (d : Desc), s.offers sq d false true = true → d.opcode = 2 → s.restarting 2 = false →
    ∀ c ∈ [(Instr.solve sq d, 0, 1), (.checkOnly sq d, 1, 3)], d.byte 20 = c.2.1 →
    (s.mode ≠ .shadow → s.admitted 8 = true → s.racking 1 = false → s.fab.resolve = none → s.fab.solving = none → s.fab.solveQ = [] →
      ∃ t, exec c.1 s = .next t ∧ t.fab.active = s.fab.active ∧ t.fab.shadow = s.fab.shadow ∧
        (if bitOf (d.byte 21) 1 then
          t.fab.solving = none ∧ t.fab.solveQ = [d.solveReq (s.nextReq sq)] ∧ t.fld R.FAB_SOLVE_STATUS F.FAB_SOLVE_STATUS_QUEUED = 1
        else
          t.fab.solving = some (d.solveReq (s.nextReq sq)) ∧ t.fab.solveQ = [] ∧
          t.fld R.FAB_SOLVE_STATUS F.FAB_SOLVE_STATUS_SOLVED = 0 ∧ t.fld R.FAB_SOLVE_STATUS F.FAB_SOLVE_STATUS_STATE = c.2.2)) ∧
    (s.mode ≠ .shadow → s.admitted 8 = true → s.racking 1 = false → s.cqUp (s.boundCq sq) = true → 4 ≤ s.fab.solveQ.length →
      ∃ t, exec c.1 s = .next t ∧ t.fab = s.fab ∧ t.rd R.FAB_SOLVE_STATUS = s.rd R.FAB_SOLVE_STATUS ∧
        t.lastDone sq = some (sq.val, d.tag, 0x0107, s.opWords 2)) ∧
    (s.mode = .shadow → s.cqUp (s.boundCq sq) = true →
      ∃ t, exec c.1 s = .next t ∧ t.fab = s.fab ∧ t.rd R.FAB_SOLVE_STATUS = s.rd R.FAB_SOLVE_STATUS ∧
        t.lastDone sq = some (sq.val, d.tag, 0x0108, s.opWords 2))

/-- SOLVE_RACK_AFTER_ACCEPT, before 488 ns into the boundary cycle and with a free solver, takes the waiting request with RACK_AFTER 1, at that instant, and clears SOLVED. SOLVE_ABORT ends the running request with 0x0106 in LAST_RESULT and in its completion, and the solver is free where nothing waits; with none running it changes nothing. SOLVE_RESULT_HELD of a request with MODE 0 and RACK_AFTER 0, whose map has no bad entry and no conflict, and for which the solver gives an image with no omission that the checker passes, holds that image in the shadow with SOLVED 1, BASE_VINTAGE the fabric vintage, LAST_RESULT 0 and the count of moved connections; the active image stays. (R54, R55, R56, R58, R64.) -/
def Obligations.SolverTakesAndEnds : Prop :=
(∀ (s : State) (r : SolveReq) (q : List SolveReq), s.now ≤ s.tick + 488 → s.fab.solving = none → s.fab.resolve = none →
    s.fab.solveQ = r :: q → r.rackAfter = true →
    ∃ t, exec .solveRackAfterAccept s = .next t ∧ t.now = s.tick + 488 ∧ t.fab.solving = some r ∧ t.fab.solveQ = q ∧
      t.fld R.FAB_SOLVE_STATUS F.FAB_SOLVE_STATUS_SOLVED = 0 ∧ s.regsKept t [R.FAB_SOLVE_STATUS]) ∧
  (∀ (s : State) (r : SolveReq) (d : Desc), s.fab.solving = some r → s.fab.solveQ = [] → s.fab.resolve = none → r.req.sq < 32 →
    (s.sqRing r.req.sq).exec = some (r.req.job, d) → s.cqUp (s.boundCq r.req.sq) = true →
    ∃ t, exec .solveAbort s = .next t ∧ t.fab.solving = none ∧ t.fab.shadow = s.fab.shadow ∧
      t.fld R.FAB_SOLVE_STATUS F.FAB_SOLVE_STATUS_LAST_RESULT = 0x0106 ∧
      t.fld R.FAB_SOLVE_STATUS F.FAB_SOLVE_STATUS_STATE = 0 ∧
      (t.lastDone r.req.sq).map (fun k => (k.1, k.2.1, k.2.2.1)) = some (r.req.sq, d.tag, 0x0106)) ∧
  (∀ s : State, s.fab.solving = none → exec .solveAbort s = .next s) ∧
  (∀ (s : State) (r : SolveReq) (img moved : Nat), s.fab.solving = some r → r.checkOnly = false → r.rackAfter = false →
    s.fab.solveQ = [] → s.fab.resolve = none → s.racking 1 = false → (∀ k ∈ s.rack.arrived, k.src ≠ .fault) → r.req.sq < 32 →
    Solver.firstBadEntry 0 s.shadowMap = none → Solver.firstConflict (Solver.conns s.shadowMap) = none →
    s.given.solve (Solver.conns s.shadowMap) r.partialOk = .image img [] moved →
    Solver.check img s.fab.failed.toNat (Solver.conns s.shadowMap) = none →
    ∃ t, exec (.solveResultHeld none) s = .next t ∧ t.fab.shadow = BitVec.ofNat 4352 img ∧ t.fab.active = s.fab.active ∧
      t.fab.solving = none ∧ t.fld R.FAB_SOLVE_STATUS F.FAB_SOLVE_STATUS_SOLVED = 1 ∧
      t.fld R.FAB_SOLVE_STATUS F.FAB_SOLVE_STATUS_LAST_RESULT = 0 ∧ t.rd R.FAB_SOLVE_BASE = s.rd R.FAB_VINTAGE_FABRIC ∧
      t.fld R.FAB_SOLVE_STATS F.FAB_SOLVE_STATS_MOVED = moved % 2 ^ F.FAB_SOLVE_STATS_MOVED.w)

/-- FAB_FAILED_n reads bits 32n to 32n + 31 of the failed set. FAULT_CLASSIFICATION of a CONTAIN report of an element of a cell, with no record open, puts that cell in the set, marked by the open record it makes. FAILED_CELL_MARK of a cell index below 4,352 puts exactly that cell in the failed set that the next solve works from; the live and shadow images stay, so a live cell stays live, and no register changes. FAILED_CELL_CLEAR removes exactly that cell, unless an open fault record marked it: then the clear is ignored and EDIT_REFUSED is set; FAULT_ACK of that record makes it open no longer. An index of 4,352 or more has no effect. (R47.) -/
def Obligations.FailedSetEdits : Prop :=
∀ s : State,
    (∀ n < 136, ∀ b < 32, (s.heldAt .host (R.FAB_FAILED n)).getLsbD b = s.fab.failed.getLsbD (32 * n + b)) ∧
    (∀ (r : Report) (l : List (Report × Nat)) (i : Nat), s.flt.latched = (r, 2) :: l → s.flt.monitorUp = true → s.flt.recs = [] →
      s.mgmt.logQ.length < 256 → r.src < 32 ∨ (48 ≤ r.src ∧ r.src < 96) → elemOf r.loc = .cell i → i < 4352 →
      ∃ t, exec .faultClassification s = .next t ∧ (∀ j < 4352, t.fab.failed.getLsbD j = (s.fab.failed.getLsbD j || j == i)) ∧
        ∃ e ∈ t.fab.recCells, e.1 = i ∧ t.recOpen e.2 = true) ∧
    (∀ cell : BitVec 13,
      (cell.toNat < 4352 →
        (∃ t, exec (.failedCellMark cell) s = .next t ∧
          (∀ i < 4352, t.fab.failed.getLsbD i = (s.fab.failed.getLsbD i || i == cell.toNat)) ∧
          (∀ i < 4352, t.given.failed.testBit i = t.fab.failed.getLsbD i) ∧
          t = { s with fab := { s.fab with failed := t.fab.failed } }) ∧
        ((∃ e ∈ s.fab.recCells, e.1 = cell.toNat ∧ s.recOpen e.2 = true) →
          ∃ t, exec (.failedCellClear cell) s = .next t ∧ t.fab = s.fab ∧
            t.fld R.FAB_SOLVE_STATUS F.FAB_SOLVE_STATUS_EDIT_REFUSED = 1 ∧ s.regsKept t [R.FAB_SOLVE_STATUS]) ∧
        ((∀ e ∈ s.fab.recCells, e.1 = cell.toNat → s.recOpen e.2 = false) →
          ∃ t, exec (.failedCellClear cell) s = .next t ∧
            (∀ i < 4352, t.fab.failed.getLsbD i = (s.fab.failed.getLsbD i && i != cell.toNat)) ∧
            t = { s with fab := { s.fab with failed := t.fab.failed, recCells := t.fab.recCells } })) ∧
      (4352 ≤ cell.toNat → exec (.failedCellMark cell) s = .next s ∧ exec (.failedCellClear cell) s = .next s)) ∧
    (∀ (sq : Fin 32) (d : Desc) (p : Nat) (k : FRec), s.offers sq d false true = true → d.opcode = 0x10 → d.byte 20 = 0 →
      s.flt.recs = [(p, some k)] → k.opened = true → d.le 24 4 = k.seq →
      ∃ t, exec (.faultAck sq d) s = .next t ∧ t.recOpen k.seq = false ∧ t.fab = s.fab)

/-- A RACK with OP 0 that its ring offers brings a trigger of the domains, timing set and expected vintages it names. In Serve, with no mode change in progress or waiting, RACK_TRIGGER_TICK with one trigger that is no fault or mirror trigger takes it at the first boundary tick after its arrival: with no rack in progress the rack starts, unprepared, over the units of its domains, PHASE 1; or the trigger ends with the first of 0x0209, 0x0201 (image not solved), 0x0202 (solved from another vintage), 0x0203, 0x0204 (not sealed), 0x0205 that applies, in LAST_RESULT; behind a rack it becomes pending, and where one is pending it ends with 0x0207. PENDING_TRIGGER_JUDGED and LIMP_DEFERRAL_END judge likewise at the tick after the rack's end, and 100,000 ns after the previous commit tick; before that instant a trigger in Limp is deferred, PHASE 4. (R62, R63, R65, R67, R82, R85, R59, R77.) -/
def Obligations.RackTriggers : Prop :=
(∀ (s : State) (sq : Fin 32) (d : Desc), s.offers sq d false true = true → d.opcode = 3 → d.byte 20 = 0 →
    ∃ t, exec (.rack sq d) s = .next t ∧ t.rack = { s.rack with arrived := s.rack.arrived ++ [⟨.rack, some (s.nextReq sq),
        d.byte 21, d.byte 22, if bitOf (d.byte 23) 0 then some (d.le 24 4, d.le 28 4) else none, none, [], s.now⟩] } ∧
      s.regsKept t [R.HIF_SQ_STATUS sq] ∧ t = { s with regs := t.regs, hif := t.hif, rack := t.rack }) ∧
  (∀ (s : State) (k : Trig), s.start.change = none → s.start.queue = [] → k.src ≠ .fault → k.src ≠ .mirror →
    let first : Option Nat :=
      if k.domains = 0 ∨ 3 < k.domains ∨ 3 < k.tset then some 0x0209
      else if k.domains % 2 = 1 ∧ s.flag R.FAB_SOLVE_STATUS F.FAB_SOLVE_STATUS_SOLVED = false then some 0x0201
      else if k.domains % 2 = 1 ∧ s.rd R.FAB_SOLVE_BASE ≠ s.rd R.FAB_VINTAGE_FABRIC then some 0x0202
      else if k.expect.any (fun e => (k.domains % 2 == 1 && e.1 != (s.rd R.FAB_VINTAGE_FABRIC).toNat) ||
        (decide (2 ≤ k.domains) && e.2 != (s.rd R.FAB_VINTAGE_PACKET).toNat)) then some 0x0203
      else if 2 ≤ k.domains ∧ s.flag R.FAB_PKT_SHADOW F.FAB_PKT_SHADOW_SEALED = false then some 0x0204
      else if s.flag (R.FAB_RACK_TS k.tset) F.FAB_RACK_TS_VALID = false then some 0x0205 else none
    let started := fun t : State =>
      t.rack.run.map (fun r => (r.trig, r.t0, r.ready, r.go, r.window)) = some (k, t.now, 0, false, false) ∧
      t.rack.run.map RackRun.units = some (s.rackUnits k.domains) ∧ t.fld R.FAB_RACK_STATUS F.FAB_RACK_STATUS_PHASE = 1 ∧ t.fab = s.fab
    let ended := fun (t : State) (c : Nat) =>
      t.rack.run = s.rack.run ∧ t.fld R.FAB_RACK_STATUS F.FAB_RACK_STATUS_LAST_RESULT = c ∧ t.fab = s.fab
    (s.rack.arrived = [k] → s.rack.deferred = none → s.mode = .serve →
      ∃ t, exec .rackTriggerTick s = .next t ∧ t.rack.arrived = [] ∧
        t.now = max ((k.at_ / 1000 + 1) * 1000) ((s.now + 999) / 1000 * 1000) ∧
        (s.rack.run = none → s.rack.pendingTrig = none → (match first with | none => started t | some c => ended t c)) ∧
        (s.rack.run ≠ none → first ≠ some 0x0209 →
          (s.rack.pendingTrig = none → t.rack = { s.rack with arrived := [], pendingTrig := some k } ∧
            t.fld R.FAB_RACK_STATUS F.FAB_RACK_STATUS_PENDING = 1) ∧
          (s.rack.pendingTrig ≠ none → ended t 0x0207))) ∧
    (s.rack.arrived = [k] → s.rack.deferred = none → s.mode = .limp → s.rack.run = none → s.rack.pendingTrig = none → first ≠ some 0x0209 →
      ∀ c, s.rack.lastCommit = some c → max ((k.at_ / 1000 + 1) * 1000) ((s.now + 999) / 1000 * 1000) < c + 100000 →
      ∃ t, exec .rackTriggerTick s = .next t ∧ t.rack = { s.rack with arrived := [], deferred := some (k, c + 100000) } ∧
        t.fld R.FAB_RACK_STATUS F.FAB_RACK_STATUS_PHASE = 4) ∧
    (s.rack.run = none → s.rack.pendingTrig = some k → s.rack.deferred = none → s.mode = .serve →
      ∃ t, exec .pendingTriggerJudged s = .next t ∧ t.rack.pendingTrig = none ∧
        (match first with | none => started t | some c => ended t c)) ∧
    (∀ at_, s.rack.deferred = some (k, at_) → s.rack.run = none → s.mode = .limp → (∀ c, s.rack.lastCommit = some c → c + 100000 ≤ at_) →
      ∃ t, exec .limpDeferralEnd s = .next t ∧ t.rack.deferred = none ∧ at_ ≤ t.now ∧
        (match first with | none => started t | some c => ended t c)))

/-- With no trigger pending or deferred: RACK_WITHDRAW that its ring offers ends with 0x0232 where no host or event rack is in progress and with 0x0231 where it is past its commit point, and changes nothing outside the rings; WITHDRAW_WRITE changes nothing in both cases. Before the commit point of an event rack with nothing waiting behind it, both end the rack: none is in progress, LAST_RESULT is 0x0221, the pending and deferred places stay empty. A deferred event trigger ends with 0x0221 likewise. The active image and the shadow image stay. (R83, R82.) -/
def Obligations.RackWithdrawals : Prop :=
∀ s : State, s.rack.pendingTrig = none →
    (s.rack.deferred = none →
      (∀ (sq : Fin 32) (d : Desc), s.offers sq d false true = true → d.opcode = 3 → d.byte 20 = 1 → s.cqUp (s.boundCq sq) = true →
        ∀ c, (match s.rack.run with | none => c = 0x0232 | some r => r.window = true ∧ r.trig.src ≠ .fault ∧ r.trig.src ≠ .mirror ∧ c = 0x0231) →
        ∃ t, exec (.rackWithdraw sq d) s = .next t ∧ (t.lastDone sq).map (fun k => (k.1, k.2.1, k.2.2.1)) = some (sq.val, d.tag, c) ∧
          t = { s with regs := t.regs, hif := t.hif } ∧ exec .withdrawWrite s = .next s) ∧
      (∀ r : RackRun, s.rack.run = some r → r.window = false → r.trig.src = .event → s.rack.waiting = [] →
        (∃ t, exec .withdrawWrite s = .next t ∧ t.rack.run = none ∧ t.rack.pendingTrig = none ∧ t.rack.deferred = none ∧
          t.fld R.FAB_RACK_STATUS F.FAB_RACK_STATUS_LAST_RESULT = 0x0221 ∧ t.fab = s.fab) ∧
        (∀ (sq : Fin 32) (d : Desc), s.offers sq d false true = true → d.opcode = 3 → d.byte 20 = 1 →
          ∃ t, exec (.rackWithdraw sq d) s = .next t ∧ t.rack.run = none ∧
            t.fld R.FAB_RACK_STATUS F.FAB_RACK_STATUS_LAST_RESULT = 0x0221 ∧ t.fab = s.fab))) ∧
    (∀ (k : Trig) (at_ : Nat), s.rack.run = none → s.rack.deferred = some (k, at_) → k.src = .event →
      ∃ t, exec .withdrawWrite s = .next t ∧ t.rack = { s.rack with deferred := none } ∧
        t.fld R.FAB_RACK_STATUS F.FAB_RACK_STATUS_LAST_RESULT = 0x0221 ∧ t.fab = s.fab)

/-- For a rack before its commit point that has nothing waiting behind it and no pre-bias: the report of a loop block of its mask that has not reported and is within its heater budget adds its ready bit; one beyond its budget ends a host, event or mirror rack with 0x0212 and its bit in FAB_RACK_UNPREPARED. READY_COLLECTION, 640 ns after a tick (360 ns before the next), with the fabric processor running: with every report in, the rack may go; with one missing it may not, TRIES counts, PHASE is 2. COMMIT_BROADCAST, 704 ns after a tick, then passes the commit point, PHASE 3. PREPARE_TIMEOUT before DEADLINE ticks (at least 2) of the trigger tick changes nothing; from then on it ends the rack with 0x0222 and the missing units in FAB_RACK_UNPREPARED. (R69, R70, R74, R126, R82.) -/
def Obligations.RackPrepares : Prop :=
∀ (s : State) (r : RackRun), s.rack.run = some r → r.window = false → r.prebiased = false → s.rack.waiting = [] → s.restarting 2 = false →
    (∀ u : Fin 23, u.val < 16 → bitOf r.units u = true → bitOf r.ready u = false →
      (s.overBudget u = false → ∃ t, exec (.unitPrepareReport u) s = .next t ∧
        t = { s with rack := { s.rack with run := some { r with ready := r.ready ||| 2 ^ u.val } } }) ∧
      (s.overBudget u = true → r.trig.src ≠ .fault → ∃ t, exec (.unitPrepareReport u) s = .next t ∧ t.rack.run = none ∧
        t.fld R.FAB_RACK_STATUS F.FAB_RACK_STATUS_LAST_RESULT = 0x0212 ∧ (t.rd R.FAB_RACK_UNPREPARED).toNat = 2 ^ u.val)) ∧
    (r.t0 ≤ s.now →
      (r.units &&& r.ready = r.units → ∃ t, exec .readyCollection s = .next t ∧ t.now = max s.now (s.tick + 640) ∧
        t = { s with now := t.now, rack := { s.rack with run := some { r with go := true } } }) ∧
      (r.units &&& r.ready ≠ r.units → ∃ t, exec .readyCollection s = .next t ∧ t.now = max s.now (s.tick + 640) ∧
        t.rack = { s.rack with run := some { r with go := false, missed := true, prebiased := false } } ∧
        t.fld R.FAB_RACK_STATUS F.FAB_RACK_STATUS_PHASE = 2 ∧
        t.fld R.FAB_RACK_STATUS F.FAB_RACK_STATUS_TRIES =
          min (s.fld R.FAB_RACK_STATUS F.FAB_RACK_STATUS_TRIES + 1) (2 ^ F.FAB_RACK_STATUS_TRIES.w - 1) ∧
        s.regsKept t [R.FAB_RACK_STATUS])) ∧
    (r.go = true → ∃ t, exec .commitBroadcast s = .next t ∧ t.now = max s.now (s.tick + 704) ∧
      t.rack = { s.rack with run := some { r with window := true } } ∧ t.fld R.FAB_RACK_STATUS F.FAB_RACK_STATUS_PHASE = 3 ∧ t.fab = s.fab) ∧
    (r.go = false → exec .commitBroadcast s = .next s) ∧
    (s.now < r.t0 + 1000 * max 2 (s.fld R.FAB_RACK_CTRL F.FAB_RACK_CTRL_DEADLINE) → exec .prepareTimeout s = .next s) ∧
    (r.t0 + 1000 * max 2 (s.fld R.FAB_RACK_CTRL F.FAB_RACK_CTRL_DEADLINE) ≤ s.now → r.units < 2 ^ 23 →
      ∃ t, exec .prepareTimeout s = .next t ∧ t.rack.run = none ∧
        t.fld R.FAB_RACK_STATUS F.FAB_RACK_STATUS_LAST_RESULT = 0x0222 ∧
        ∀ u < 23, (t.rd R.FAB_RACK_UNPREPARED).getLsbD u = (bitOf r.units u && !bitOf r.ready u))

/-- COMMIT_TICK of a fabric rack past its commit point, nothing waiting behind it and no solve queued: at the boundary tick the rack ends and is the last commit. A rack that is no fault rack swaps the active and the shadow image, live cells and omitted inputs, and no connection stays dark; a fault rack puts its repair image into force and leaves the shadow. A late unit of the mask, not isolated, is remembered as not confirmed; COMMIT_SKEW then shows it in FAB_RACK_SKEWED, with LAST_RESULT 0x0224 and fault 226 raised. FAULT_RESOLVE_START in Serve, with records waiting, no re-solve and no rack, starts one for them. FAULT_RESOLVE_RESULT whose image passes the checker holds it as the repair image and brings a trigger of source FAULT. (R61, R71, R72, R81, R48.) -/
def Obligations.RackCommits : Prop :=
(∀ (s : State) (r : RackRun) (late : BitVec 23), s.rack.run = some r → r.window = true → r.trig.domains % 2 = 1 → s.rack.waiting = [] →
    s.fab.solveQ = [] →
    ∃ t, exec (.commitTick late) s = .next t ∧ t.now = (s.now + 999) / 1000 * 1000 ∧ t.rack.run = none ∧
      t.rack.lastCommit = some t.now ∧ t.rack.endedAt = t.now ∧
      (if r.trig.src = .fault then t.fab.active = s.fab.repair ∧ t.fab.activeLive = s.fab.repairLive ∧
          t.fab.activeOmit = s.fab.repairOmit ∧ t.fab.shadow = s.fab.shadow
        else t.fab.active = s.fab.shadow ∧ t.fab.shadow = s.fab.active ∧ t.fab.activeLive = s.fab.shadowLive ∧
          t.fab.shadowLive = s.fab.activeLive ∧ t.fab.activeOmit = s.fab.shadowOmit ∧ t.fab.shadowOmit = s.fab.activeOmit ∧
          t.fab.activeDark = 0) ∧
      t.rack.confirmed = (let mask := (late.toNat &&& r.units) &&& (0x7FFFFF ^^^ s.fab.isoBlocks.toNat)
        if mask = 0 then none else some (r.trig, mask))) ∧
  (∀ (s : State) (k : Trig) (mask : Nat), s.rack.confirmed = some (k, mask) → mask < 2 ^ 23 → k.src ≠ .fault →
    ∃ t, exec .commitSkew s = .next t ∧ t.rack = { s.rack with confirmed := none } ∧ (t.rd R.FAB_RACK_SKEWED).toNat = mask ∧
      t.fld R.FAB_RACK_STATUS F.FAB_RACK_STATUS_LAST_RESULT = 0x0224 ∧
      (t.flt.raised.getLast?).map (fun e => (e.src, e.d0)) = some (226, mask)) ∧
  (∀ s : State, s.fab.resolveDue ≠ [] → s.fab.resolve = none → s.mode = .serve → s.restarting 2 = false → s.rack.run = none →
    (∀ k ∈ s.rack.arrived, k.src ≠ .fault) →
    ∃ t, exec .faultResolveStart s = .next t ∧ t.fab = { s.fab with resolve := some ⟨s.fab.resolveDue⟩, resolveDue := [] } ∧
      t = { s with regs := t.regs, fab := t.fab }) ∧
  (∀ (s : State) (k : Resolve), s.fab.resolve = some k →
    Solver.check s.given.resolve.1 s.given.failed (s.carriedConns.filter fun c => !s.given.resolve.2.contains c.inp) = none →
    ∃ t, exec (.faultResolveResult none) s = .next t ∧ t.fab.resolve = none ∧ t.fab.repair = BitVec.ofNat 4352 s.given.resolve.1 ∧
      t.fab.served = s.fab.served ++ k.seqs ∧ t.fab.active = s.fab.active ∧ t.fab.shadow = s.fab.shadow ∧
      t.rack = { s.rack with arrived := s.rack.arrived ++ [⟨.fault, none, 1,
        s.fld R.FAB_RACK_CTRL F.FAB_RACK_CTRL_FAULT_TSET, none, none, [], s.now⟩] })

/-- HOST_DIRECT_DRIVE with HOST_DRIVE set for the block, the loop Off, an H or F element of an idle cell and no park hold: the code is applied with SOURCE host and the channel is no longer parked; during a range break it is counted in DISCARDS instead. With any of these conditions missing only HOST_REFUSED is set. RANGE_CHANGE to 3 or to the range in force or being connected changes nothing; to another one with the loop Off it parks the output and starts (or restarts) a break of 2,000 ns; with the loop not Off only RANGE_REFUSED is set. RANGE_BREAK_END before the end changes nothing; from then on the new range is connected at code 0. Nothing else changes. (R91, R93, R94.) -/
def Obligations.DriveWritesAndRanges : Prop :=
∀ (s : State) (x : Fin 9216),
    (∀ code : BitVec 14,
      let ok := s.flag (R.DRV_BLK_CTRL (x / 576)) F.DRV_BLK_CTRL_HOST_DRIVE = true ∧ s.loopState x = 0 ∧ x.val % 576 < 544 ∧
        (∀ i, elemOf x = .cell i → s.liveCell i = false) ∧ s.hold x = 0
      (ok → s.rangeBreak x = none → ∃ t, exec (.hostDirectDrive x code) s = .next t ∧
        t.fld (R.DRV_CH_CODE x) F.DRV_CH_CODE_CODE = code.toNat ∧ t.fld (R.DRV_CH_CODE x) F.DRV_CH_CODE_SOURCE = 1 ∧
        t.fld (R.DRV_CH_CODE x) F.DRV_CH_CODE_PARKED = 0 ∧ t.initPark x = false ∧
        s.regsKept t [R.DRV_CH_CODE x, R.LOOP_ST x] ∧ t = { s with regs := t.regs, drive := t.drive }) ∧
      (ok → s.rangeBreak x ≠ none → ∃ t, exec (.hostDirectDrive x code) s = .next t ∧ t = { s with regs := t.regs } ∧
        t.fld (R.DRV_CH_FLAG x) F.DRV_CH_FLAG_DISCARDS = min (s.fld (R.DRV_CH_FLAG x) F.DRV_CH_FLAG_DISCARDS + 1) 65535 ∧
        s.regsKept t [R.DRV_CH_FLAG x]) ∧
      (¬ ok → ∃ t, exec (.hostDirectDrive x code) s = .next t ∧ t = { s with regs := t.regs } ∧
        t.fld (R.DRV_CH_FLAG x) F.DRV_CH_FLAG_HOST_REFUSED = 1 ∧ s.regsKept t [R.DRV_CH_FLAG x])) ∧
    (∀ range : BitVec 2,
      let cur := (s.rangeBreak x).elim (s.fld (R.DRV_CH_CFG x) F.DRV_CH_CFG_RANGE) Prod.snd
      (range.toNat = 3 ∨ range.toNat = cur → exec (.rangeChange x range) s = .next s) ∧
      (range.toNat ≠ 3 → range.toNat ≠ cur →
        (s.loopState x = 0 → ∃ t, exec (.rangeChange x range) s = .next t ∧ t.rangeBreak x = some (s.now + 2000, range.toNat) ∧
          t.initPark x = true ∧ t.fld (R.DRV_CH_CODE x) F.DRV_CH_CODE_PARKED = 1 ∧
          t.fld (R.DRV_CH_CODE x) F.DRV_CH_CODE_CODE = s.fld (R.DRV_CH_CODE x) F.DRV_CH_CODE_CODE ∧
          s.regsKept t [R.DRV_CH_CODE x, R.LOOP_ST x] ∧ t = { s with regs := t.regs, drive := t.drive }) ∧
        (s.loopState x ≠ 0 → ∃ t, exec (.rangeChange x range) s = .next t ∧ t = { s with regs := t.regs } ∧
          t.fld (R.DRV_CH_FLAG x) F.DRV_CH_FLAG_RANGE_REFUSED = 1 ∧ s.regsKept t [R.DRV_CH_FLAG x]))) ∧
    (∀ e r, s.rangeBreak x = some (e, r) →
      (s.now < e → exec (.rangeBreakEnd x) s = .next s) ∧
      (e ≤ s.now → ∃ t, exec (.rangeBreakEnd x) s = .next t ∧ t.rangeBreak x = none ∧
        t.fld (R.DRV_CH_CFG x) F.DRV_CH_CFG_RANGE = r % 4 ∧ t.fld (R.DRV_CH_CODE x) F.DRV_CH_CODE_CODE = 0 ∧
        s.regsKept t [R.DRV_CH_CFG x, R.DRV_CH_CODE x] ∧ t = { s with regs := t.regs, drive := t.drive }))

/-- DRV_LIMIT_DETECT engaged sets LIMIT_NOW and LIMIT, and in ranges 1 and 2 raises DRV_OUTPUT of the element's block with the element as location; a LIMIT not set before counts the channel in LIMIT_CH. Not engaged, it clears LIMIT_NOW and nothing else. DRV_OPEN_DETECT in ranges 1 and 2 with a code of 64 or more sets OPEN likewise, counted in OPEN_CH, and raises DRV_OUTPUT; in range 0, or below 64, it changes nothing. SPARE_SWAP of a due swap, with a spare, none of its conversions left and no injection waiting: the spare OUT_SLICE serves logical slice NEXT_POS, the slice that served it is the spare, NEXT_POS advances from 0 to 23 and back to 0, SWAPS counts, and SWAP_DUE is clear. (R95, R96, R103.) -/
def Obligations.OutputProtectionAndSwaps : Prop :=
∀ s : State,
    (∀ x : Fin 9216,
      let raised := if s.fld (R.DRV_CH_CFG x) F.DRV_CH_CFG_RANGE = 0 then s.flt.raised
        else s.flt.raised ++ [⟨x / 576, x, 0, 0, 0, false, [], 0⟩]
      let blk := fun (t : State) (f g : Fld) => t.fld (R.DRV_BLK_STATUS (x / 576)) g =
        if s.flag (R.DRV_CH_FLAG x) f then s.fld (R.DRV_BLK_STATUS (x / 576)) g else (s.fld (R.DRV_BLK_STATUS (x / 576)) g + 1) % 1024
      (∃ t, exec (.drvLimitDetect x true) s = .next t ∧ t.fld (R.DRV_CH_FLAG x) F.DRV_CH_FLAG_LIMIT_NOW = 1 ∧
        t.fld (R.DRV_CH_FLAG x) F.DRV_CH_FLAG_LIMIT = 1 ∧ blk t F.DRV_CH_FLAG_LIMIT F.DRV_BLK_STATUS_LIMIT_CH ∧
        s.regsKept t [R.DRV_CH_FLAG x, R.DRV_BLK_STATUS (x / 576)] ∧ t = { s with regs := t.regs, flt := { s.flt with raised := raised } }) ∧
      (∃ t, exec (.drvLimitDetect x false) s = .next t ∧ t.fld (R.DRV_CH_FLAG x) F.DRV_CH_FLAG_LIMIT_NOW = 0 ∧
        t.fld (R.DRV_CH_FLAG x) F.DRV_CH_FLAG_LIMIT = s.fld (R.DRV_CH_FLAG x) F.DRV_CH_FLAG_LIMIT ∧
        s.regsKept t [R.DRV_CH_FLAG x] ∧ t = { s with regs := t.regs }) ∧
      (s.fld (R.DRV_CH_CFG x) F.DRV_CH_CFG_RANGE ≠ 0 → 64 ≤ s.fld (R.DRV_CH_CODE x) F.DRV_CH_CODE_CODE →
        ∃ t, exec (.drvOpenDetect x) s = .next t ∧ t.fld (R.DRV_CH_FLAG x) F.DRV_CH_FLAG_OPEN = 1 ∧
          blk t F.DRV_CH_FLAG_OPEN F.DRV_BLK_STATUS_OPEN_CH ∧ s.regsKept t [R.DRV_CH_FLAG x, R.DRV_BLK_STATUS (x / 576)] ∧
          t = { s with regs := t.regs, flt := { s.flt with raised := raised } }) ∧
      (s.fld (R.DRV_CH_CFG x) F.DRV_CH_CFG_RANGE = 0 ∨ s.fld (R.DRV_CH_CODE x) F.DRV_CH_CODE_CODE < 64 →
        exec (.drvOpenDetect x) s = .next s)) ∧
    (∀ n : Fin 48, s.flag (R.DRV_BANK_STATUS n) F.DRV_BANK_STATUS_SWAP_DUE = true →
      s.flag (R.DRV_BANK_STATUS n) F.DRV_BANK_STATUS_NO_SPARE = false → (s.bank n).inj = none → (s.bank n).first = [] →
      (∀ i < 16, s.injWaiting i = true → s.injAt i ≠ .bank n) →
      let pos := s.fld (R.DRV_BANK_STATUS n) F.DRV_BANK_STATUS_NEXT_POS
      ∃ t, exec (.spareSwap n) s = .next t ∧
        (t.bank n).map = setNth (s.bank n).map pos (s.fld (R.DRV_BANK_STATUS n) F.DRV_BANK_STATUS_OUT_SLICE) ∧
        t.fld (R.DRV_BANK_STATUS n) F.DRV_BANK_STATUS_OUT_SLICE = nth 0 (s.bank n).map pos % 32 ∧
        t.fld (R.DRV_BANK_STATUS n) F.DRV_BANK_STATUS_NEXT_POS = (pos + 1) % 24 ∧
        t.fld (R.DRV_BANK_STATUS n) F.DRV_BANK_STATUS_SWAPS = (s.fld (R.DRV_BANK_STATUS n) F.DRV_BANK_STATUS_SWAPS + 1) % 2 ^ F.DRV_BANK_STATUS_SWAPS.w ∧
        t.flag (R.DRV_BANK_STATUS n) F.DRV_BANK_STATUS_SWAP_DUE = false ∧ s.regsKept t [R.DRV_BANK_STATUS n] ∧
        (∀ m : Fin 48, m ≠ n → t.bank m = s.bank m) ∧ t = { s with regs := t.regs, drive := t.drive })

/-- Element x with local index j = x mod 576 is converted at input j mod 8 of logical slice (j mod 192) div 8 of bank c = j div 192 of its block (global bank 3b + c): MONITOR_CONVERSION_DONE of that input, in a powered block with the slice in service, puts the code into DRV_MON_x.SAMPLE and changes no other register. The H and F elements of one fabric cell share a slice: they lie at the same bank and slice. (R99.) -/
def Obligations.MonitorInputs : Prop :=
(∀ (s : State) (x : Fin 9216) (n : Fin 48) (a : Fin 24) (k : Fin 8) (code : BitVec 12),
    n.val = 3 * (x.val / 576) + x.val % 576 / 192 → a.val = x.val % 576 % 192 / 8 → k.val = x.val % 576 % 8 →
    s.blkUp (x.val / 576) = true → nth 0 (s.bank n).map a ∉ (s.bank n).retired →
    ∃ t, exec (.monitorConversionDone n a k code) s = .next t ∧ t.fld (R.DRV_MON x) F.DRV_MON_SAMPLE = code.toNat ∧
      s.regsKept t [R.DRV_MON x] ∧ t = { s with regs := t.regs }) ∧
  (∀ i < 4352, cellF i / 576 = cellH i / 576 ∧ cellF i % 576 / 192 = cellH i % 576 / 192 ∧
    cellF i % 576 % 192 / 8 = cellH i % 576 % 192 / 8 ∧ cellF i % 8 ≠ cellH i % 8)

/-- HK_TIMER_TRIGGER with TRIG 1 and HK_CONVERTER_EDGE with TRIG 2 start the slice's idle sequence at its first channel; while it runs the trigger becomes pending, and with one pending it is dropped and counted in MISSED; with another TRIG they do nothing. HK_CONVERSION_DONE of a running sequence holds the code, the slice, the cause and NEW for its channel, counts COUNT, and goes on to the next channel, or at the last one to the pending trigger or to rest. INJECTED_CONVERSION_DONE of the conversion in progress for slot i holds the code in DRV_INJ_RESULT_i with NEW and fires event source 212 + i where the event fabric runs; with no slot waiting for the spare it is then idle, INJ_BUSY 0; of a slot whose conversion is not in progress it changes nothing. (R106, R107, R108, R109, R105.) -/
def Obligations.HousekeepingAndInjections : Prop :=
∀ s : State,
    (∀ (m : Fin 8), ∀ e ∈ [(Instr.hkTimerTrigger m, 1, 0), (.hkConverterEdge m, 2, 1)],
      (s.fld (R.DRV_HK_CFG m) F.DRV_HK_CFG_TRIG ≠ e.2.1 → exec e.1 s = .next s) ∧
      (s.fld (R.DRV_HK_CFG m) F.DRV_HK_CFG_TRIG = e.2.1 → ∃ t, exec e.1 s = .next t ∧
        ((s.hkSlice m).pos = none → t.hkSlice m = { s.hkSlice m with pos := some 0, cause := e.2.2 } ∧ t.regs = s.regs) ∧
        ((s.hkSlice m).pos ≠ none → (s.hkSlice m).pendingTrig = false →
          t.hkSlice m = { s.hkSlice m with pendingTrig := true } ∧ t.regs = s.regs) ∧
        ((s.hkSlice m).pos ≠ none → (s.hkSlice m).pendingTrig = true → t = { s with regs := t.regs } ∧
          t.fld R.DRV_HK_STATUS ⟨4 * m, 4⟩ = min (s.fld R.DRV_HK_STATUS ⟨4 * m, 4⟩ + 1) 15 ∧ s.regsKept t [R.DRV_HK_STATUS]))) ∧
    (∀ (m : Fin 8) (code : BitVec 12) (p : Nat), (s.hkSlice m).pos = some p → p < 4 → (s.hkSlice m).inj = none →
      let c := s.fld (R.DRV_HK_SEQ m) ⟨4 * p, 4⟩
      ∃ t, exec (.hkConversionDone m code) s = .next t ∧ t.fld (R.DRV_HK_RESULT c) F.DRV_HK_RESULT_RESULT = code.toNat ∧
        t.fld (R.DRV_HK_RESULT c) F.DRV_HK_RESULT_SLICE = m.val ∧ t.fld (R.DRV_HK_RESULT c) F.DRV_HK_RESULT_NEW = 1 ∧
        t.fld (R.DRV_HK_RESULT c) F.DRV_HK_RESULT_CAUSE = (s.hkSlice m).cause % 4 ∧
        t.fld (R.DRV_HK_RESULT c) F.DRV_HK_RESULT_COUNT = (s.fld (R.DRV_HK_RESULT c) F.DRV_HK_RESULT_COUNT + 1) % 2 ^ F.DRV_HK_RESULT_COUNT.w ∧
        (t.hkSlice m).pos = (if p < s.fld (R.DRV_HK_SEQ m) F.DRV_HK_SEQ_LEN then some (p + 1)
          else if (s.hkSlice m).pendingTrig then some 0 else none) ∧
        s.regsKept t [R.DRV_HK_RESULT c, R.PWR_INPUT] ∧ (∀ k : Fin 8, k ≠ m → t.hkSlice k = s.hkSlice k)) ∧
    (∀ (i : Fin 16) (code : BitVec 12),
      let busy := match s.injAt i with | .bank n => (s.bank n).inj | .hk m => (s.hkSlice m).inj | .bad => none
      (busy ≠ some i.val → exec (.injectedConversionDone i code) s = .next s) ∧
      (busy = some i.val → ∃ t, exec (.injectedConversionDone i code) s = .next t ∧
        t.fld (R.DRV_INJ_RESULT i) F.DRV_INJ_RESULT_RESULT = code.toNat ∧ t.fld (R.DRV_INJ_RESULT i) F.DRV_INJ_RESULT_NEW = 1 ∧
        (s.eventsOn = true → t.evt.fired.map Fire.src = s.evt.fired.map Fire.src ++ [212 + i.val]) ∧
        (∀ j : Fin 16, j ≠ i → t.rd (R.DRV_INJ_RESULT j) = s.rd (R.DRV_INJ_RESULT j)) ∧
        (∀ n < 48, s.injAt i = .bank n → (s.bank n).first = [] → (∀ j < 16, s.injWaiting j = true → s.injAt j ≠ .bank n) →
          (t.bank n).inj = none ∧ t.fld (R.DRV_BANK_STATUS n) F.DRV_BANK_STATUS_INJ_BUSY = 0) ∧
        (∀ m, s.injAt i = .hk m → t.fld (R.DRV_HK_RESULT (s.fld (R.DRV_INJ_CFG i) F.DRV_INJ_CFG_TARGET)) F.DRV_HK_RESULT_CAUSE = 2)))

/-- LOOP_FRAME_START at a tick whose count is no multiple of 8, at one already started, or in Dormant changes nothing. Otherwise every powered block's frame count advances by one and, while the thermal model runs, for each node b: marked valid, LOOP_FF_STATUS.VALID bit b is 1 and dT is its temperature less LOOP_FF_TREF_b, saturated; not valid, the bit is 0, dT keeps its value, its difference is 0 and its held frames count, up to 125. With the model not running no register changes. FF_STALE of a node held for exactly 125 frames raises source 112 + b, once; of any other it changes nothing. (R112, R122, R123, R137.) -/
def Obligations.LoopFramesAndFeedForward : Prop :=
∀ s : State,
    (s.tickCount % 8 ≠ 0 ∨ (s.loop.started = true ∧ s.loop.frame = s.tickCount) ∨ s.mode = .dormant → exec .loopFrameStart s = .next s) ∧
    (s.tickCount % 8 = 0 → (s.loop.started = false ∨ s.loop.frame ≠ s.tickCount) → s.mode ≠ .dormant →
      ∃ t, exec .loopFrameStart s = .next t ∧ t.loop.frame = s.tickCount ∧
        (∀ b < 16, Tab.get (fun _ => 0) t.drive.blkFrames b = Tab.get (fun _ => 0) s.drive.blkFrames b + (if s.blkUp b then 1 else 0)) ∧
        (s.thermalOn = false → t.regs = s.regs) ∧
        (s.thermalOn = true → ∀ b < 16,
          (t.flag (R.THM_NODE b) F.THM_NODE_VALID = true → t.fld R.LOOP_FF_STATUS ⟨b, 1⟩ = 1 ∧
            t.ffDt b = sat32 (t.nodeTM b - signedOf 32 (s.rd (R.LOOP_FF_TREF b)).toNat) ∧ Tab.get (fun _ => 0) t.loop.held b = 0) ∧
          (t.flag (R.THM_NODE b) F.THM_NODE_VALID = false → t.fld R.LOOP_FF_STATUS ⟨b, 1⟩ = 0 ∧
            t.rd (R.LOOP_FF_DT b) = s.rd (R.LOOP_FF_DT b) ∧ t.ffDiff b = 0 ∧
            (Tab.get (fun _ => 0) s.loop.held b < 125 → Tab.get (fun _ => 0) t.loop.held b = Tab.get (fun _ => 0) s.loop.held b + 1)))) ∧
    (∀ b : Fin 16,
      (Tab.get (fun _ => 0) s.loop.held b ≠ 125 → exec (.ffStale b) s = .next s) ∧
      (Tab.get (fun _ => 0) s.loop.held b = 125 → ∃ t, exec (.ffStale b) s = .next t ∧
        t.flt.raised = s.flt.raised ++ [⟨112 + b, b, 0, 0, 0, false, [], 0⟩] ∧ t.regs = s.regs ∧
        exec (.ffStale b) t = .next t))

/-- At the output tick of group k of a powered block with at least five lanes, none of its elements lost, LOOP_GROUP_WINDOW (once per tick): every element of the group in Hold outside hand-over, not parked and in no range break, with MEAS POWER or RATIO, has its observer advanced to A·x̂ + B·u + L·e, u its base code and e = y − C·x̂ for a valid sample of the frame that sees light, else 0; its base code becomes −K·x̂ + N·SETPOINT + ff from the new x̂, rounded, within U_MIN and U_MAX; NO_LIGHT follows a valid sample. No element outside the group changes its code or its observer, and no overrun is counted. At another tick, or a second time at one tick, or with the block unpowered, nothing changes. (R112, R116, R117, R118, R119, R111.) -/
def Obligations.LoopLawInHold : Prop :=
∀ (s : State) (b : Fin 16) (k : Fin 8),
    (∀ stall, s.tickCount % 8 ≠ (k.val + 2) % 8 ∨ s.blkUp b = false ∨ Tab.get (fun _ => 0) s.loop.win b = s.tickCount →
      exec (.loopGroupWindow b k stall) s = .next s) ∧
    (s.tickCount % 8 = (k.val + 2) % 8 → s.blkUp b = true → Tab.get (fun _ => 0) s.loop.win b ≠ s.tickCount → 5 ≤ s.lanes b → s.loop.lost = [] →
      ∃ t, exec (.loopGroupWindow b k 0) s = .next t ∧ Tab.get (fun _ => 0) t.loop.win b = s.tickCount ∧
        t.rd (R.LOOP_BLK_COUNTS b) = s.rd (R.LOOP_BLK_COUNTS b) ∧
        (∀ x < 9216, x / 576 ≠ b.val ∨ x % 8 ≠ k.val → t.rd (R.DRV_CH_CODE x) = s.rd (R.DRV_CH_CODE x) ∧ ∀ i < 4, t.xhat x i = s.xhat x i) ∧
        ∀ x < 9216, x / 576 = b.val → x % 8 = k.val → s.loopState x = 2 → (s.lx x).ho = none → s.hold x = 0 → s.rangeBreak x = none →
          cfgMeas (s.cfgW x 0) ≠ 2 →
          let n := cfgOrder (s.cfgW x 0)
          let ok := s.sampleOk (s.win b k) x && decide ((s.lx x).since ≤ (s.win b k).at_)
          let e := if ok && !s.dark x [] then (s.residual x (s.measure x []).1).1 else 0
          let ff := (s.feedForward (s.win b k) x).1
          (ok = true → t.fld (R.LOOP_ST x) F.LOOP_ST_NO_LIGHT = bnat (s.dark x [])) ∧
          (ok = false ∨ s.dark x [] = true ∨ t.rd (R.LOOP_RESID x) = BitVec.ofNat 32 (unsignedOf 32 e)) ∧
          (∀ i < n, t.xhat x i = (fit (s.dot x (4 + 4 * i) n + s.coef x (20 + i) * ((s.baseCode x : Int) * 1024) + s.coef x (24 + i) * e)).1) ∧
          (t.baseCode x : Int) = clampInt (cfgLimits (s.cfgW x 1)).1 (cfgLimits (s.cfgW x 1)).2
            (roundAway (fit (- t.dot x 32 n + s.coef x 36 * s.setPoint x + ff * 2 ^ 20)).1 10))

/-- LOOP_LANE_LOST in a powered block with lanes left lowers LANES by one, marks the elements named as lost in the window, raises source 128 + b, and where fewer than four lanes remain source 144 + b; with no lane left or no power it changes nothing. ACQ_TIMEOUT of an element that searches and has searched for the limit raises source 96 + b and starts the search again from ACQ_SEED with step ACQ_STEP; before that, without a slot, with limit 0, or in another state it changes nothing. LOOP_CMD_REACQUIRE of an element in Hold whose cell is idle, or that is an attenuator of a dark port, makes its loop Acquire, waiting, at its last applied code; of any other it sets CMD_REFUSED and moves nothing. Both show LAST_ELEMENT. (R115, R125, R131.) -/
def Obligations.LoopLanesAndSearches : Prop :=
∀ s : State,
    (∀ (b : Fin 16) (xs : List (Fin 576)),
      (s.lanes b = 0 ∨ s.blkUp b = false → exec (.loopLaneLost b xs) s = .next s) ∧
      (0 < s.lanes b → s.blkUp b = true → ∃ t, exec (.loopLaneLost b xs) s = .next t ∧ t.lanes b = s.lanes b - 1 ∧
        t.loop.lost = s.loop.lost ++ xs.map (fun (j : Fin 576) => 576 * b.val + j.val) ∧ s.regsKept t [R.LOOP_BLK_STATUS b] ∧
        t.flt.raised.map (fun k => (k.src, k.loc)) = s.flt.raised.map (fun k => (k.src, k.loc)) ++
          (if s.lanes b - 1 < 4 then [(128 + b.val, b.val), (144 + b.val, b.val)] else [(128 + b.val, b.val)]))) ∧
    (∀ x : Fin 9216,
      let lim := s.fld R.LOOP_ENGINE_CTRL F.LOOP_ENGINE_CTRL_ACQ_TIMEOUT
      let out := s.loopState x = 1 ∧ (s.lx x).slot = true ∧ lim ≠ 0 ∧ lim * 1250 ≤ (s.lx x).searched
      (¬ out → exec (.acqTimeout x) s = .next s) ∧
      (out → ∃ t, exec (.acqTimeout x) s = .next t ∧ t.fld (R.LOOP_ST x) F.LOOP_ST_ACQ_PHASE = 2 ∧ t.loopState x = 1 ∧
        (t.lx x).base = cfgSeed (s.cfgW x 47) ∧ (t.lx x).step = cfgStep (s.cfgW x 47) ∧ (t.lx x).searched = 0 ∧ (t.lx x).confirm = 0 ∧
        t.flt.raised = s.flt.raised ++ [⟨96 + x.val / 576, x, 0, 0, 0, false, [], 0⟩] ∧ s.regsKept t [R.LOOP_ST x])) ∧
    (∀ e : BitVec 14,
      let x := e.toNat
      let may := x < 9216 ∧ s.loopState x = 2 ∧ (match elemOf x with | .cell i => s.liveCell i = false | _ => 544 ≤ x % 576 ∧ (s.hold x).testBit 0 = true)
      (may → ∃ t, exec (.loopCmdReacquire e) s = .next t ∧ t.loopState x = 1 ∧ t.fld (R.LOOP_ST x) F.LOOP_ST_ACQ_PHASE = 0 ∧
        (t.lx x).slot = false ∧ (t.lx x).base = s.baseCode x ∧ (t.lx x).fromSeed = false ∧
        t.fld R.LOOP_CMD_STATUS F.LOOP_CMD_STATUS_LAST_ELEMENT = x ∧
        t.fld R.LOOP_CMD_STATUS F.LOOP_CMD_STATUS_CMD_REFUSED = s.fld R.LOOP_CMD_STATUS F.LOOP_CMD_STATUS_CMD_REFUSED) ∧
      (¬ may → ∃ t, exec (.loopCmdReacquire e) s = .next t ∧ t = { s with regs := t.regs } ∧
        t.fld R.LOOP_CMD_STATUS F.LOOP_CMD_STATUS_CMD_REFUSED = 1 ∧ t.fld R.LOOP_CMD_STATUS F.LOOP_CMD_STATUS_LAST_ELEMENT = x ∧
        s.regsKept t [R.LOOP_CMD_STATUS]))

/-- SEQ_CMD_START of an idle sequencer whose targets are idle, not isolated H or F elements of its powered, not isolated block, with no slot shared, arms it; otherwise LAST_REFUSAL takes the first code of 0x10 to 0x14 that applies and nothing else changes. SEQ_START_TICK of an armed one runs its first segment, every target Sequenced under it; a segment not allowed ends it, LAST_END 6. SEQ_CMD_JUMP sets JUMP_PENDING, is merged behind a pending one, or dropped with none running. SEQ_PASS_END after the last sample: the pending jump of JMP_MODE 2, else the next pass, else the next segment by JMP_MODE, or the end, LAST_END 1. SEQ_CMD_STOP cancels an armed start and ends a starved sequence, LAST_END 2; a running one ends with its sample. SEQ_STARVE_ABORT past STARVE_LIMIT ends it, LAST_END 5, and raises 160 + q. (R143, R144, R145, R150, R141.) -/
def Obligations.SequenceStartsAndEnds : Prop :=
∀ (s : State) (q : Fin 16),
    let r := s.seqSt q
    let o := R.SEQ_STATUS q
    let i := s.fld o F.SEQ_STATUS_SEGMENT
    let ended := fun (t : State) (c : Nat) => t.seqState q = 0 ∧ t.fld (R.SEQ_RESULT q) F.SEQ_RESULT_LAST_END = c ∧
      t.fld (R.SEQ_RESULT q) F.SEQ_RESULT_LAST_SEGMENT = i ∧ (t.seqSt q).targets = [] ∧ (t.seqSt q).armed = none ∧
      t.fld o F.SEQ_STATUS_JUMP_PENDING = 0 ∧ (s.eventsOn = true → (t.evt.fired.map Fire.src).contains (160 + q.val) = true)
    let bad := fun x => 9216 ≤ x ∨ x / 576 ≠ q.val ∨ 544 ≤ x % 576 ∨ s.liveElem x = true ∨ s.elemIso x = true
    (∀ (first : BitVec 12) (c : Nat),
      ((s.seqState q ≠ 0 ∧ c = 0x10) ∨
       (s.seqState q = 0 ∧ (∃ x ∈ s.seqTargets q, bad x) ∧ c = 0x11) ∨
       (s.seqState q = 0 ∧ s.seqTargets q = [] ∧ c = 0x12) ∨
       (s.seqState q = 0 ∧ s.seqTargets q ≠ [] ∧ (∀ x ∈ s.seqTargets q, ¬ bad x) ∧ s.slotShared q (s.seqTargets q) = true ∧ c = 0x13) ∨
       (s.seqState q = 0 ∧ s.seqTargets q ≠ [] ∧ (∀ x ∈ s.seqTargets q, ¬ bad x) ∧ s.slotShared q (s.seqTargets q) = false ∧
        (s.blkUp q = false ∨ s.fab.isoBlocks.getLsbD q = true) ∧ c = 0x14) →
        ∃ t, exec (.seqCmdStart q first) s = .next t ∧ t = { s with regs := t.regs } ∧
          t.fld (R.SEQ_RESULT q) F.SEQ_RESULT_LAST_REFUSAL = c ∧ s.regsKept t [R.SEQ_RESULT q]) ∧
      (s.seqState q = 0 → s.seqTargets q ≠ [] → (∀ x ∈ s.seqTargets q, ¬ bad x) → s.slotShared q (s.seqTargets q) = false →
        s.blkUp q = true → s.fab.isoBlocks.getLsbD q = false →
        ∃ t, exec (.seqCmdStart q first) s = .next t ∧ t.seqState q = 1 ∧ (t.seqSt q).armed = some first.toNat ∧ s.regsKept t [o])) ∧
    (∀ first, s.seqState q = 1 → r.armed = some first → (∀ x ∈ s.seqTargets q, x < 9216) → first < 4096 →
      (s.badSegment q first (s.seqTargets q).length = false → ∃ t, exec (.seqStartTick q) s = .next t ∧ t.seqState q = 2 ∧
        (t.seqSt q).targets = s.seqTargets q ∧ t.fld o F.SEQ_STATUS_SEGMENT = first ∧ t.fld o F.SEQ_STATUS_PASS = 0 ∧
        ∀ x ∈ s.seqTargets q, t.loopState x = 3 ∧ (t.lx x).owner = 3) ∧
      (s.badSegment q first (s.seqTargets q).length = true → ∃ t, exec (.seqStartTick q) s = .next t ∧ t.seqState q = 0 ∧
        t.fld (R.SEQ_RESULT q) F.SEQ_RESULT_LAST_END = 6 ∧ t.fld (R.SEQ_RESULT q) F.SEQ_RESULT_LAST_SEGMENT = first ∧
        (t.flt.raised.getLast?).map Report.src = some (176 + q.val))) ∧
    (∃ t, exec (.seqCmdJump q) s = .next t ∧ t = { s with regs := t.regs } ∧ s.regsKept t [o, R.SEQ_COUNTS q] ∧
      t.fld o F.SEQ_STATUS_JUMP_PENDING = (if 2 ≤ s.seqState q then 1 else s.fld o F.SEQ_STATUS_JUMP_PENDING) ∧
      t.fld (R.SEQ_COUNTS q) F.SEQ_COUNTS_JUMPS_DROPPED = (if s.seqState q < 2 then
        min (s.fld (R.SEQ_COUNTS q) F.SEQ_COUNTS_JUMPS_DROPPED + 1) (2 ^ F.SEQ_COUNTS_JUMPS_DROPPED.w - 1) else s.fld (R.SEQ_COUNTS q) F.SEQ_COUNTS_JUMPS_DROPPED) ∧
      t.fld (R.SEQ_COUNTS q) F.SEQ_COUNTS_JUMPS_MERGED = (if 2 ≤ s.seqState q ∧ s.flag o F.SEQ_STATUS_JUMP_PENDING = true then
        min (s.fld (R.SEQ_COUNTS q) F.SEQ_COUNTS_JUMPS_MERGED + 1) (2 ^ F.SEQ_COUNTS_JUMPS_MERGED.w - 1) else s.fld (R.SEQ_COUNTS q) F.SEQ_COUNTS_JUMPS_MERGED)) ∧
    (s.seqState q = 2 → r.sample = segLen (s.segWord q i 1) → r.stopAs = none →
      let w0 := s.segWord q i 0
      let entered := fun (t : State) (j : Nat) => t.fld o F.SEQ_STATUS_SEGMENT = j ∧ t.fld o F.SEQ_STATUS_PASS = 0 ∧ (t.seqSt q).sample = 0 ∧ t.seqState q = 2
      let jump := segJmp w0 = 2 ∧ s.flag o F.SEQ_STATUS_JUMP_PENDING = true
      let more := s.fld o F.SEQ_STATUS_PASS < segRepeat w0
      let after := if jump ∨ segJmp w0 = 1 then segTarget w0 else (i + 1) % 4096
      (jump ∨ (¬ more ∧ segJmp w0 ≠ 3) → s.badSegment q after r.targets.length = false →
        ∃ t, exec (.seqPassEnd q) s = .next t ∧ entered t after ∧ (jump → t.fld o F.SEQ_STATUS_JUMP_PENDING = 0)) ∧
      (¬ jump → more → ∃ t, exec (.seqPassEnd q) s = .next t ∧ t.fld o F.SEQ_STATUS_PASS = (s.fld o F.SEQ_STATUS_PASS + 1) % 4096 ∧
        t.fld o F.SEQ_STATUS_SEGMENT = i ∧ (t.seqSt q).sample = 0 ∧ t.seqState q = 2) ∧
      (¬ more → segJmp w0 = 3 → ∃ t, exec (.seqPassEnd q) s = .next t ∧ ended t 1)) ∧
    (s.seqState q = 0 → exec (.seqCmdStop q) s = .next s) ∧
    (s.seqState q = 1 ∨ s.seqState q = 3 → ∃ t, exec (.seqCmdStop q) s = .next t ∧ ended t 2) ∧
    (s.seqState q = 2 → exec (.seqCmdStop q) s = .next (s.setSeqSt q { r with stopAs := some 2 }) ∧
      (r.stopAs = some 2 → ∀ ns : Fin 1000, ∃ t, exec (.sequenceSample q ns) s = .next t ∧ ended t 2)) ∧
    (let lim := s.fld (R.SEQ_CTRL q) F.SEQ_CTRL_STARVE_LIMIT
     (s.seqState q = 3 → lim ≠ 0 → r.starvedAt + lim * 100000 < s.now → ∃ t, exec (.seqStarveAbort q) s = .next t ∧ ended t 5 ∧
       (t.flt.raised.getLast?).map Report.src = some (160 + q.val)) ∧
     (s.seqState q ≠ 3 ∨ lim = 0 ∨ s.now ≤ r.starvedAt + lim * 100000 → exec (.seqStarveAbort q) s = .next s))

/-- SEQUENCE_SAMPLE of a running resident segment, not at its end: word k of the sample, from START + sample × targets + k, goes to target k: MODE 0 and 1 write its code, MODE 1 without tone, 2 and 3 keep it; the next sample is due. Of a streamed one with too few words buffered: STATE 3, STARVES counts, every code stays. SEQ_STREAM_DATA_ARRIVAL of one word appends the two bytes of Cellar, the lower first, at its address; a starved sequence of one target resumes and SEQ_SLIP grows by the cycles held. TONE_UPDATE 504 ns after a tick advances each accumulator of a powered block by FREQ of its entry in use; the references move back one. SEQ_MEM_DATA reads the word at SEQ_MEM_ADDR, writes it only while idle, else sets WRITE_REFUSED; the address increments. SEQ_SYNC_LOST raises 192 + q. (R142, R147, R149, R152, R153, R159, R161.) -/
def Obligations.SamplesStreamsAndTones : Prop :=
∀ s : State,
    (∀ (q : Fin 16) (ns : Fin 1000),
      let r := s.seqSt q
      let i := s.fld (R.SEQ_STATUS q) F.SEQ_STATUS_SEGMENT
      let w1 := s.segWord q i 1
      let nt := r.targets.length
      (s.seqState q = 2 → r.stopAs = none → r.mute = false → r.sample < segLen w1 → (∀ x ∈ r.targets, x < 9216) →
        (segSource (s.segWord q i 0) = 0 → r.targets.Nodup → ∃ t, exec (.sequenceSample q ns) s = .next t ∧
          t.now = max s.now (s.tick + ns.val) ∧ (t.seqSt q).sample = r.sample + 1 ∧ t.seqState q = 2 ∧
          ∀ k x, r.targets[k]? = some x → s.chanOwner x = 3 → s.hold x = 0 → s.rangeBreak x = none →
            let w := (Tab.get (fun _ => (0 : BitVec 16)) s.seq.mem (32768 * q.val + (segStart w1 + r.sample * nt) + k)).toNat
            (w < 32768 → t.baseCode x = w % 16384 ∧ Tab.get (fun _ => false) t.seq.noTone x = decide (16384 ≤ w)) ∧
            (32768 ≤ w → t.rd (R.DRV_CH_CODE x) = s.rd (R.DRV_CH_CODE x))) ∧
        (segSource (s.segWord q i 0) = 1 → r.stream.length < nt → ∃ t, exec (.sequenceSample q ns) s = .next t ∧ t.seqState q = 3 ∧
          t.fld (R.SEQ_COUNTS q) F.SEQ_COUNTS_STARVES = min (s.fld (R.SEQ_COUNTS q) F.SEQ_COUNTS_STARVES + 1) (2 ^ F.SEQ_COUNTS_STARVES.w - 1) ∧
          (t.seqSt q).starvedAt = t.now ∧ (t.seqSt q).sample = r.sample ∧ s.regsKept t [R.SEQ_STATUS q, R.SEQ_COUNTS q])) ∧
      (∀ j p k, 2 ≤ s.seqState q → r.stream.length < 8192 → r.fetch = (j, p, k) → segSource (s.segWord q j 0) = 1 →
        k < segLen (s.segWord q j 1) * nt →
        let a := s.streamAddr q (s.segWord q j 1) + 2 * k
        let w := (s.cByte a).toNat + 256 * (s.cByte (a + 1)).toNat
        (s.seqState q = 2 → ∃ t, exec (.seqStreamDataArrival q 1 false ns) s = .next t ∧ t.regs = s.regs ∧
          t.seqSt q = { r with stream := r.stream ++ [w], fetch := (j, p, k + 1) }) ∧
        (s.seqState q = 3 → nt = 1 → (∀ x ∈ r.targets, x < 9216) → r.stream = [] → r.sample < segLen w1 → segSource (s.segWord q i 0) = 1 →
          ∃ t, exec (.seqStreamDataArrival q 1 false ns) s = .next t ∧ t.seqState q = 2 ∧ (t.seqSt q).sample = r.sample + 1 ∧
            t.fld (R.SEQ_SLIP q) F.SEQ_SLIP_VAL = min (s.fld (R.SEQ_SLIP q) F.SEQ_SLIP_VAL + (t.now - r.starvedAt + 7) / 8) (2 ^ 32 - 1)))) ∧
    (∃ t, exec .toneUpdate s = .next t ∧ t.now = max s.now (s.tick + 504) ∧ t.regs = s.regs ∧ t.seq.refPrev = s.seq.ref ∧
      t.seq.refPrev2 = s.seq.refPrev ∧
      ∀ k < 512, let old := Tab.get (fun _ => (0 : Word)) s.seq.acc k
        let acc := Tab.get (fun _ => (0 : Word)) t.seq.acc k
        acc = (if s.blkUp (k / 32) then old + s.rd (R.SEQ_GEN_FREQ (k / 32) (k % 32) (s.toneEntry (k / 32) (k % 32))) else old) ∧
        Tab.get (fun _ => 0) t.seq.ref k = sinQ ((acc.toNat / 65536 + s.fld (R.SEQ_GEN_PHAMP (k / 32) (k % 32) (s.toneEntry (k / 32) (k % 32))) F.SEQ_GEN_PHAMP_PHASE) % 65536)) ∧
    (∀ q : Fin 17, ∃ t, exec (.seqSyncLost q) s = .next t ∧ t = { s with flt := t.flt } ∧
      t.flt.raised = s.flt.raised ++ [⟨192 + q, 0, 0, 0, 0, false, [], 0⟩]) ∧
    (∀ (q : Fin 16) (v : BitVec 16),
      let a := s.fld (R.SEQ_MEM_ADDR q) F.SEQ_MEM_ADDR_ADDR
      let word := fun (t : State) (p : Fin 16) (b : Nat) => Tab.get (fun _ => (0 : BitVec 16)) t.seq.mem (32768 * p.val + b)
      (∃ t, exec (.seqMemDataAccess q none) s = .next t ∧ t.hif.rdata.toNat = (word s q a).toNat ∧ t.seq = s.seq ∧
        t.fld (R.SEQ_MEM_ADDR q) F.SEQ_MEM_ADDR_ADDR = (a + 1) % 32768 ∧ s.regsKept t [R.SEQ_MEM_ADDR q]) ∧
      (s.seqState q = 0 → ∃ t, exec (.seqMemDataAccess q (some v)) s = .next t ∧
        (∀ (p : Fin 16) (b : Nat), b < 32768 → word t p b = if p = q ∧ b = a then v else word s p b) ∧
        t.fld (R.SEQ_MEM_ADDR q) F.SEQ_MEM_ADDR_ADDR = (a + 1) % 32768 ∧ s.regsKept t [R.SEQ_MEM_ADDR q]) ∧
      (s.seqState q ≠ 0 → ∃ t, exec (.seqMemDataAccess q (some v)) s = .next t ∧ t.seq = s.seq ∧
        t.fld (R.SEQ_STATUS q) F.SEQ_STATUS_WRITE_REFUSED = 1 ∧ t.fld (R.SEQ_MEM_ADDR q) F.SEQ_MEM_ADDR_ADDR = (a + 1) % 32768 ∧
        s.regsKept t [R.SEQ_STATUS q, R.SEQ_MEM_ADDR q]))

/-- A CAL_RUN that its ring offers ends with 0x0301 while a run is in progress, else with 0x0302 for a KIND, FIRST or COUNT not allowed, 0x0306 in a mode other than Serve, Limp and Shadow, and 0x0303 where no item of a kind is eligible, the result also in CAL_STATUS.LAST_RESULT. Otherwise, for a single KIND, the run starts over exactly the eligible items of its range, with the sweep counts 0 and KIND in CAL_STATUS. CAL_RUN_ABORT of another ring's run ends it with 0x0304 in LAST_RESULT and no run is in progress; with none in progress it ends with 0x0307. No active calibration value changes. (R175, R176, R177.) -/
def Obligations.CalibrationRuns : Prop :=
∀ (s : State) (sq : Fin 32) (d : Desc) (ref10m : Bool), s.offers sq d false true = true → d.opcode = 6 → s.cqUp (s.boundCq sq) = true →
    let k := d.byte 21
    let items := (if d.count = 0 then runItems k 0 (calCount k) else runItems k d.first d.count).filter ((s.begun sq d).calEligible ref10m)
    let res := fun (t : State) => (t.lastDone sq).map fun k => (k.1, k.2.1, k.2.2.1)
    (d.byte 20 = 0 →
      (∀ c, (if s.cal.run ≠ none then c = 0x0301 else if d.calBad = true then c = 0x0302
          else if s.mode ≠ .serve ∧ s.mode ≠ .limp ∧ s.mode ≠ .shadow then c = 0x0306 else k ≠ 15 ∧ items = [] ∧ c = 0x0303) →
        ∃ t, exec (.calRun sq d ref10m) s = .next t ∧ t.cal = s.cal ∧ res t = some (sq.val, d.tag, c) ∧
          t.fld R.CAL_STATUS F.CAL_STATUS_LAST_RESULT = c ∧
          s.regsKept t [R.CAL_STATUS, R.HIF_SQ_STATUS sq, R.HIF_CQ_STATUS (s.boundCq sq), R.HIF_CQ_FULL]) ∧
      (s.cal.run = none → d.calBad = false → s.mode = .serve ∨ s.mode = .limp ∨ s.mode = .shadow → k ≠ 15 → items ≠ [] →
        ∃ t, exec (.calRun sq d ref10m) s = .next t ∧
          t.cal.run.map (fun r => (r.req, r.kind, r.items)) = some (s.nextReq sq, k, items) ∧ t.rd R.CAL_SWEEP_DONE = 0 ∧
          t.rd R.CAL_SWEEP_SKIPS = 0 ∧ t.fld R.CAL_STATUS F.CAL_STATUS_KIND = k ∧
          s.regsKept t [R.CAL_STATUS, R.CAL_SWEEP_DONE, R.CAL_SWEEP_SKIPS, R.HIF_SQ_STATUS sq])) ∧
    (d.byte 20 = 1 →
      (∀ r, s.cal.run = some r → r.req.sq ≠ sq.val → ∃ t, exec (.calRunAbort sq d) s = .next t ∧ t.cal.run = none ∧
        t.fld R.CAL_STATUS F.CAL_STATUS_LAST_RESULT = 0x0304 ∧ t.fld R.CAL_STATUS F.CAL_STATUS_KIND = 15 ∧
        (∀ o, 0x20000 ≤ o → o ≠ R.CAL_STATUS → t.rd o = s.rd o)) ∧
      (s.cal.run = none → ∃ t, exec (.calRunAbort sq d) s = .next t ∧ t.cal = s.cal ∧ res t = some (sq.val, d.tag, 0x0307)))

/-- TASTING_MEASUREMENT_DONE of the oscillator, an item of the run in progress among others: measurements that differ by more than AGREE are only counted, while fewer than RETRIES tries were made; ones that agree, with a quality within ACCEPT, stage their mean, bit 30 of CAL_OSC set, its value unchanged, one more item done; a last try without agreement raises fault 227 and counts a failed item, staging nothing. HK_SELF_TASTING of an idle housekeeping slice whose measurements agree stages its value, bit 29 of CAL_HK set. STAGED_VALUE_IN_FORCE puts a staged oscillator value into CAL_OSC at a boundary tick, a housekeeping value at the first place of a sequence, a sequencer skew at a tick while no sequencer runs and no rack is past its commit point; before that instant nothing changes. (R163, R164, R171, R172, R173.) -/
def Obligations.CalibrationValues : Prop :=
(∀ (s : State) (r : CalRun) (p : Fin 25) (a b : Int) (q : Nat) (x : Nat × Nat) (l : List (Nat × Nat)),
    s.cal.run = some r → r.items = (8, 0) :: x :: l → x ≠ (8, 0) →
    ((s.fld (R.CAL_TOL 8) F.CAL_TOL_AGREE < (a - b).natAbs →
      (s.triesOf (8, 0) < s.fld R.CAL_CTRL F.CAL_CTRL_RETRIES → ∃ t, exec (.tastingMeasurementDone 8 0 p [a] [b] q) s = .next t ∧
        t.triesOf (8, 0) = s.triesOf (8, 0) + 1 ∧ t = { s with cal := { s.cal with tries := t.cal.tries } }) ∧
      (s.fld R.CAL_CTRL F.CAL_CTRL_RETRIES ≤ s.triesOf (8, 0) → ∃ t, exec (.tastingMeasurementDone 8 0 p [a] [b] q) s = .next t ∧
        t.cal.osc = s.cal.osc ∧ (t.flt.raised.getLast?).map (fun e => e.src) = some 227 ∧
        t.fld R.CAL_SWEEP_DONE ⟨16, 16⟩ = min (s.fld R.CAL_SWEEP_DONE ⟨16, 16⟩ + 1) 65535 ∧ (8, 0) ∉ ((t.cal.run.map CalRun.items).getD []))) ∧
    ((a - b).natAbs ≤ s.fld (R.CAL_TOL 8) F.CAL_TOL_AGREE → q ≤ s.fld (R.CAL_TOL 8) F.CAL_TOL_ACCEPT →
      ∃ t, exec (.tastingMeasurementDone 8 0 p [a] [b] q) s = .next t ∧
        t.cal.osc = some (BitVec.ofNat 32 (unsignedOf 24 (divRound (a + b) 2))) ∧ t.rd R.CAL_OSC = s.rd R.CAL_OSC ||| 0x40000000#32 ∧
        t.fld R.CAL_SWEEP_DONE ⟨0, 16⟩ = min (s.fld R.CAL_SWEEP_DONE ⟨0, 16⟩ + 1) 65535 ∧ (8, 0) ∉ ((t.cal.run.map CalRun.items).getD [])))) ∧
  (∀ (s : State) (m : Fin 8) (g1 o1 g2 o2 : Int) (q : Nat), (s.hkSlice m).pos = none → (s.hkSlice m).pendingTrig = false →
    (s.hkSlice m).inj = none → s.nextInj (.hk m) = none → (∀ r, s.cal.run = some r → (4, m.val) ∉ r.items) →
    (o1 - o2).natAbs ≤ s.fld (R.CAL_TOL 4) F.CAL_TOL_AGREE → (g1 - g2).natAbs ≤ s.fld (R.CAL_TOL 4) F.CAL_TOL_AGREE →
    q ≤ s.fld (R.CAL_TOL 4) F.CAL_TOL_ACCEPT →
    ∃ t, exec (.hkSelfTasting m [o1, g1] [o2, g2] q) s = .next t ∧
      Tab.get (fun _ => none) t.cal.hk m.val = some (BitVec.ofNat 32 (min q 255 * 65536 + unsignedOf 8 (divRound (g1 + g2) 4) * 256 +
        unsignedOf 8 (divRound (o1 + o2) 4))) ∧
      t.rd (R.CAL_HK m) = s.rd (R.CAL_HK m) ||| 0x20000000#32 ∧ s.regsKept t [R.CAL_HK m]) ∧
  (∀ (s : State) (w : Word),
    (s.cal.osc = some w → (s.now % 1000 = 0 → exec (.stagedValueInForce .osc) s =
        .next { s.wr R.CAL_OSC w with cal := { s.cal with osc := none } }) ∧
      (s.now % 1000 ≠ 0 → exec (.stagedValueInForce .osc) s = .next s)) ∧
    (∀ m : Fin 8, Tab.get (fun _ => none) s.cal.hk m.val = some w →
      ((s.hkSlice m).pos = some 0 → ∃ t, exec (.stagedValueInForce (.hk m)) s = .next t ∧ t.rd (R.CAL_HK m) = w ∧
        Tab.get (fun _ => none) t.cal.hk m.val = none ∧ s.regsKept t [R.CAL_HK m]) ∧
      ((s.hkSlice m).pos ≠ some 0 → exec (.stagedValueInForce (.hk m)) s = .next s)) ∧
    (∀ q : Fin 17, Tab.get (fun _ => none) s.cal.seqSkew q.val = some w → s.now % 1000 = 0 → (∀ k < 16, s.seqState k = 0) →
      (∀ r, s.rack.run = some r → r.window = false) → ∃ t, exec (.stagedValueInForce (.seqSkew q)) s = .next t ∧ t.rd (R.SEQ_SKEW q) = w ∧
        Tab.get (fun _ => none) t.cal.seqSkew q.val = none ∧ s.regsKept t [R.SEQ_SKEW q]))

/-- For every KIND_MASK and every list of records of known kind, index in range and the width of their kind, whose image is at most 655,360 bytes: the check of R180 over the image of R179, in a buffer that holds it, with or without FORCE, accepts it and gives back exactly those records, words and all. An image with a byte of its MAGIC or VERSION changed is refused with 0x0321. (R179, R180.) -/
def Obligations.CalibrationImagesRestore : Prop :=
(∀ (mask : Nat) (recs : List CalRec) (force : Bool) (more : List Byte), mask < 512 → recs.all CalRec.ok = true →
    (calImage mask recs).length ≤ 655360 →
    calParse force ((calImage mask recs).length + more.length) (calImage mask recs ++ more) = .inr recs) ∧
  (∀ (mask : Nat) (recs : List CalRec) (force : Bool) (i : Nat) (b : Byte), i < 6 → mask < 512 → nth 0 (calImage mask recs) i ≠ b →
    calParse force (calImage mask recs).length (setNth (calImage mask recs) i b) = .inl 0x0321)

/-- For requests that their ring offers: with a run in progress, or before the device admits them, both end with 0x0301. CAL_SAVE writes the image of the records its mask asks for to its buffer, its length in the words, or ends with 0x0311 into a short buffer; no register outside the rings and no staged value changes. CAL_RESTORE of a refused image ends with the refusal and stages nothing; of an accepted one it stages each record in turn, their number in the words, and no active value of the oscillator, of a sequencer or of a curve's words 1 to 7 changes. (R179, R180.) -/
def Obligations.CalibrationSaveAndRestore : Prop :=
∀ (s : State) (sq : Fin 32) (d : Desc) (buf : Buf), s.offers sq d true buf.ok = true → buf.ok = true → s.cqUp (s.boundCq sq) = true →
    (d.opcode = 7 →
      (s.calBusy = true → ∃ t, exec (.calSave sq d buf) s = .next t ∧ t.lastDone sq = some (sq.val, d.tag, 0x0301, [0, 0, 0, 0]) ∧
        t = { s with regs := t.regs, hif := t.hif }) ∧
      (s.calBusy = false →
        let img := calImage (d.le 24 4 % 512) (s.calRecs (d.le 24 4 % 512))
        let w := [BitVec.ofNat 32 img.length, 0, 0, 0]
        ∃ t, exec (.calSave sq d buf) s = .next t ∧ t = { s with regs := t.regs, hif := t.hif } ∧
          (∀ o, 0x20000 ≤ o → t.rd o = s.rd o) ∧
          (if d.bufLen < img.length then t.lastDone sq = some (sq.val, d.tag, 0x0311, w) ∧ t.hif.posted = s.hif.posted
          else t.lastDone sq = some (sq.val, d.tag, 0, w) ∧ t.hif.posted = s.hif.posted ++ [⟨d.bufAddr, img⟩]))) ∧
    (d.opcode = 8 →
      (s.calBusy = true → ∃ t, exec (.calRestore sq d buf) s = .next t ∧ t.lastDone sq = some (sq.val, d.tag, 0x0301, [0, 0, 0, 0]) ∧
        t.cal = s.cal) ∧
      (∀ c, s.calBusy = false → calParse (bitOf (d.byte 20) 0) d.bufLen buf.data = .inl c →
        ∃ t, exec (.calRestore sq d buf) s = .next t ∧ t.lastDone sq = some (sq.val, d.tag, c, [0, 0, 0, 0]) ∧
          t = { s with regs := t.regs, hif := t.hif } ∧ (∀ o, 0x20000 ≤ o → t.rd o = s.rd o)) ∧
      (∀ rs, s.calBusy = false → calParse (bitOf (d.byte 20) 0) d.bufLen buf.data = .inr rs →
        ∃ t, exec (.calRestore sq d buf) s = .next t ∧ t.lastDone sq = some (sq.val, d.tag, 0, [BitVec.ofNat 32 rs.length, 0, 0, 0]) ∧
          t.cal = (rs.foldl State.restoreRec (s.begun sq d)).cal ∧
          (t.rd R.CAL_OSC) &&& 0xBFFFFFFF#32 = (s.rd R.CAL_OSC) &&& 0xBFFFFFFF#32 ∧ (∀ q < 17, t.rd (R.SEQ_SKEW q) = s.rd (R.SEQ_SKEW q)) ∧
          (∀ x < 9216, ∀ w < 8, 0 < w → t.rd (R.CAL_CURVE x w) = s.rd (R.CAL_CURVE x w))))

/-- FRAME_INGRESS at a port that does not receive moves nothing but time. Into an empty pipeline with no classification entry and no prefix: a frame whose destination has a cache line for another, enabled port, and whose port neither cuts through nor is at its learning limit, is decided for that port in its priority's class; one that misses is parked with a read issued; PARSE_COUNT of its status counts. CELLAR_READ_ANSWER fills the cache line of the key and lets the parked frame go on with the entry found, or as unknown; READ_LIMIT_EXPIRY past READ_LIMIT takes it as unknown, counts READ_LATE and raises 260 + n. FRAME_END with a passing FCS puts a decided frame that fits into its port's queue, or counts ADMIT; a failed FCS discards it. INGRESS_FAIL_AFTER_COMMIT ends a cut-through frame after the bytes sent with the inverse of their CRC and counts STOMPED. (R184, R191, R193, R198, R200, R201, R205, R211, R212, R189.) -/
def Obligations.FramesThroughThePipelines : Prop :=
(∀ (s : State) (p : Fin 96) (data : List Byte) (ns : Fin 1000) (lat : Nat),
    let n := pipeOf p
    (s.receives p = false → exec (.frameIngress p data ns lat) s = .next (s.at_ ns)) ∧
    (s.receives p = true → s.portEnabled p = true → s.pk.frames = [] → clsUsed s.pk.cls n = [] → s.lpmSlots n false = [] → s.lpmSlots n true = [] →
      s.atLimit p = false → s.flag (R.PIPE_PORT_ACTIVE p) F.PIPE_PORT_ACTIVE_CUT_THROUGH = false →
      ∃ t f, exec (.frameIngress p data ns lat) s = .next t ∧ t.pk.frames = [f] ∧ t.now = max s.now (s.tick + ns.val) ∧
        f.port = p.val ∧ f.data = data ∧ f.t0 = t.now ∧ f.fcs = none ∧ f.id = s.pk.nextId ∧
        f.dst = (s.parse data).be 0 0 6 ∧ f.src = (s.parse data).be 1 0 6 ∧ t.pk.sent = s.pk.sent ∧ t.pk.queues = s.pk.queues ∧
        (let c := R.PIPE_PARSE_COUNT n (s.parse data).status
         t.rd c = BitVec.ofNat 32 (min ((s.rd c).toNat + 1) (2 ^ 32 - 1))) ∧
        (isGroup f.dst = false → ∀ l, s.probe n f.vid f.dst = some l → l.neg = false → l.disc = false → l.port ≠ p.val → s.portEnabled l.port = true →
          f.stage = .decided ∧ f.out = ⟨false, [l.port], f.pcp.getD (s.fld (R.PIPE_PORT_ACTIVE p) F.PIPE_PORT_ACTIVE_DEF_CLASS), 0, [], none⟩ ∧
          t.pk.reads = s.pk.reads) ∧
        (isGroup f.dst = false → s.probe n f.vid f.dst = none → f.stage = .parked ∧
          t.pk.reads = s.pk.reads ++ [⟨f.id, n, [(f.vid, f.dst)], t.now, false⟩] ∧
          t.fld (R.PIPE_STATUS n) F.PIPE_STATUS_PARKED = 1))) ∧
  (∀ (s : State) (f : Fr) (ns : Fin 1000) (k : Nat × Nat) (n : Fin 4) (at_ : Nat), s.pk.frames = [f] → f.stage = .parked → f.fcs = none →
    f.fwd = none → f.srcOk = some true → pipeOf f.port = n.val →
    (∀ late, s.pk.reads = [⟨f.id, n, [k], at_, late⟩] → ∃ t, exec (.cellarReadAnswer f.id ns) s = .next t ∧ t.pk.reads = [] ∧
      t.fld (R.PIPE_STATUS n) F.PIPE_STATUS_PARKED = 0 ∧
      (∀ g ∈ t.pk.frames, g.id = f.id ∧ g.stage ≠ .parked ∧
        g.fwd = some (match s.tableRead n k.1 k.2 with | some e => .to e.port e.disc | none => .unknown)) ∧
      t.probe n k.1 k.2 = some (match s.tableRead n k.1 k.2 with
        | some e => ⟨k.1, k.2, false, e.port, e.disc, false⟩ | none => ⟨k.1, k.2, true, 0, false, false⟩)) ∧
    (s.pk.reads = [⟨f.id, n, [k], at_, false⟩] →
      let due := at_ + max 1 (s.fld R.PIPE_CTRL F.PIPE_CTRL_READ_LIMIT) * 100
      (max s.now (s.tick + ns.val) < due → exec (.readLimitExpiry f.id ns) s = .next (s.at_ ns)) ∧
      (due ≤ max s.now (s.tick + ns.val) → ∃ t, exec (.readLimitExpiry f.id ns) s = .next t ∧
        (∀ g ∈ t.pk.frames, g.id = f.id ∧ g.stage ≠ .parked ∧ g.fwd = some .unknown) ∧
        t.pk.reads = [⟨f.id, n, [k], at_, true⟩] ∧
        t.fld (R.PIPE_COUNT_ERR n) F.PIPE_COUNT_ERR_READ_LATE =
          min (s.fld (R.PIPE_COUNT_ERR n) F.PIPE_COUNT_ERR_READ_LATE + 1) (2 ^ F.PIPE_COUNT_ERR_READ_LATE.w - 1) ∧
        t.flt.raised = s.flt.raised ++ [⟨260 + n, n, 0, 0, 0, false, [], 0⟩]))) ∧
  (∀ (s : State) (f : Fr) (p : Fin 96) (ns : Fin 1000), s.pk.frames = [f] → f.port = p.val → f.fcs = none →
    (∀ e < 96, f.stage = .decided → f.out.ports = [e] → f.out.drop = false → f.out.pairs = [] → f.out.debit = none →
      (∀ m < 8, s.flag (R.SCH_MIRROR_CFG m) F.SCH_MIRROR_CFG_ENABLE = false) → s.gateOn e = false →
      let q := s.queueFor e f.vid f.out.cls
      (s.fits e q f.copy = true → ∃ t, exec (.frameEnd p .pass ns) s = .next t ∧ t.pk.frames = [] ∧ t.queue q = s.queue q ++ [f.copy] ∧
        ∀ x, x ≠ q → t.queue x = s.queue x) ∧
      (s.fits e q f.copy = false → ∃ t, exec (.frameEnd p .pass ns) s = .next t ∧ t.pk.frames = [] ∧ t.pk.queues = s.pk.queues ∧
        t.fld (R.SCH_PORT_DROPS e) F.SCH_PORT_DROPS_ADMIT =
          min (s.fld (R.SCH_PORT_DROPS e) F.SCH_PORT_DROPS_ADMIT + 1) (2 ^ F.SCH_PORT_DROPS_ADMIT.w - 1)) ∧
      (∃ t, exec (.frameEnd p .fcs ns) s = .next t ∧ t.pk.frames = [] ∧ t.pk.queues = s.pk.queues ∧ t.pk.notices = s.pk.notices ∧
        Tab.get (fun _ => 0) t.pk.fcsErr p = Tab.get (fun _ => 0) s.pk.fcsErr p + 1)) ∧
    (∀ (n : Nat) (x : Sent), f.stage = .cut → s.pk.sent = [x] → x.fid = f.id →
      ∃ t, exec (.ingressFailAfterCommit p n ns) s = .next t ∧ t.pk.frames = [] ∧
        t.pk.sent = [{ x with data := x.data.take n, fcs := 0xFFFFFFFF ^^^ crc32 (x.data.take n) }] ∧
        t.fld (R.PIPE_COUNT_ERR (pipeOf p)) F.PIPE_COUNT_ERR_STOMPED =
          min (s.fld (R.PIPE_COUNT_ERR (pipeOf p)) F.PIPE_COUNT_ERR_STOMPED + 1) (2 ^ F.PIPE_COUNT_ERR_STOMPED.w - 1)) ∧
    (f.stage ≠ .cut → ∀ n, exec (.ingressFailAfterCommit p n ns) s = .next (s.at_ ns)))

/-- For a TABLE_OP that its ring offers and the mode admits, its mask naming one pipeline n that runs no rehash, with no frame in the pipelines: FDB_INSERT (port at most 95) overwrites an entry in place as STATIC, keeping its LAST_SEEN and moves, and writes a new one in the lowest free slot of its two buckets, its LAST_SEEN an open value, below 65,536 STATIC entries; from there on it ends with 0x0407, changing no table. FDB_REMOVE clears the slot of its key, or ends with 0x0401. FDB_FLUSH whose filter matches one entry, in a slot, clears it. FDB_READ returns the 32 bytes of the entry, or 0x0401; FDB_DUMP returns all entries of the table, or 0x0408 into a short buffer; both leave tables and memory. Results go to the completion. (R215, R219, R232, R233, R209, R221, R222.) -/
def Obligations.TableEntryOperations : Prop :=
∀ (s : State) (sq : Fin 32) (d : Desc) (n : Fin 4), d.opcode = 4 → d.tblMask = 2 ^ n.val → s.tblAdmitted = true → s.cqUp (s.boundCq sq) = true →
    s.rehashOf n = none → s.pk.frames = [] →
    let res := fun (t : State) => (t.lastDone sq).map fun k => (k.1, k.2.1, k.2.2.1)
    (s.offers sq d false true = true → d.byte 20 = 0 → d.byte 23 ≤ 95 →
      (s.fld (R.TBL_STATIC n) F.TBL_STATIC_STATIC < 65536 →
        (∀ a e, s.findSide n .cur d.tblVid d.tblMac = some (some a, e) → ∃ t, exec (.fdbInsert sq d) s = .next t ∧
          t.cellar = (s.setEntry a { e with stat := true, disc := d.tblFlag 0, port := d.byte 23 }).cellar ∧ res t = some (sq.val, d.tag, 0)) ∧
        (∀ a, s.findSide n .cur d.tblVid d.tblMac = none → freeSlot s [] n (s.curRegion n)
            [bucketOf (s.curSeed n) 0 d.tblVid d.tblMac, bucketOf (s.curSeed n) 1 d.tblVid d.tblMac] = some a →
          ∃ t, exec (.fdbInsert sq d) s = .next t ∧
            t.cellar = (s.setEntry a ⟨true, d.tblFlag 0, d.tblVid, d.tblMac, d.byte 23, s.freeVal 32, 0⟩).cellar ∧
            res t = some (sq.val, d.tag, 0))) ∧
      (65536 ≤ s.fld (R.TBL_STATIC n) F.TBL_STATIC_STATIC → s.tableHas n d.tblVid d.tblMac = none →
        ∃ t, exec (.fdbInsert sq d) s = .next t ∧ t.pk = s.pk ∧ t.cellar = s.cellar ∧ res t = some (sq.val, d.tag, 0x0407))) ∧
    (s.offers sq d false true = true → d.byte 20 = 1 →
      (∀ a e, s.findSide n .cur d.tblVid d.tblMac = some (some a, e) → ∃ t, exec (.fdbRemove sq d) s = .next t ∧
        t.cellar = (s.clearEntry a).cellar ∧ res t = some (sq.val, d.tag, 0)) ∧
      (s.findSide n .cur d.tblVid d.tblMac = none → ∃ t, exec (.fdbRemove sq d) s = .next t ∧
        t.cellar = s.cellar ∧ t.pk = s.pk ∧ res t = some (sq.val, d.tag, 0x0401))) ∧
    (s.offers sq d false true = true → d.byte 20 = 3 → (d.tblFlag 2 = true ∨ d.byte 23 ≤ 95) →
      ∀ a e, (s.allEntries n).filter (fun e => (d.tblFlag 2 || e.port == d.byte 23) && (d.tblFlag 3 || e.vid == d.tblVid) &&
          (d.tblFlag 1 || !e.stat)) = [e] → s.findSide n .cur e.vid e.mac = some (some a, e) →
        ∃ t, exec (.fdbFlush sq d) s = .next t ∧ t.cellar = (s.clearEntry a).cellar ∧ res t = some (sq.val, d.tag, 0)) ∧
    (∀ l : List Byte, s.offers sq d true true = true → d.byte 20 = 2 → 32 ≤ d.bufLen →
      (∀ a e, s.findSide n .cur d.tblVid d.tblMac = some (some a, e) → ∃ t, exec (.fdbRead sq d ⟨true, l⟩) s = .next t ∧
        t.hif.posted = s.hif.posted ++ [⟨d.bufAddr, e.bytes⟩] ∧ t.cellar = s.cellar ∧ t.pk = s.pk ∧ res t = some (sq.val, d.tag, 0)) ∧
      (s.findSide n .cur d.tblVid d.tblMac = none → ∃ t, exec (.fdbRead sq d ⟨true, l⟩) s = .next t ∧
        t.hif.posted = s.hif.posted ∧ t.cellar = s.cellar ∧ t.pk = s.pk ∧ res t = some (sq.val, d.tag, 0x0401))) ∧
    (∀ l : List Byte, s.offers sq d true true = true → d.byte 20 = 5 →
      ∃ t, exec (.fdbDump sq d ⟨true, l⟩) s = .next t ∧ t.cellar = s.cellar ∧ t.pk = s.pk ∧
        (if d.bufLen < ((s.entries n).flatMap FEntry.bytes).length then t.hif.posted = s.hif.posted ∧ res t = some (sq.val, d.tag, 0x0408)
        else res t = some (sq.val, d.tag, 0) ∧ t.hif.posted = s.hif.posted ++
          (if s.entries n = [] then [] else [⟨d.bufAddr, (s.entries n).flatMap FEntry.bytes⟩])))

/-- With the table keeper up, no rehash of pipeline n and no frame in the pipelines: LEARN_NOTICE_APPLY takes the oldest notice; an absent key goes to the lowest free slot of its buckets as a dynamic entry seen now; a STATIC entry is only counted; an entry on the same port in a slot is seen now. AGE_SWEEP clears the one entry, in a slot, not seen for AGE_TIME; with AGE_TIME 0 or in Shadow nothing. HIT_WRITEBACK leaves no HIT mark. STASH_PLACEMENT of one stash entry whose chain ends writes it and empties the stash. REHASH of an empty table starts with its seed (0: the current one plus 0x9E3779B9). REHASH_SWAP of one not failed makes the new seed and region current; of one failed, it keeps them. (R216, R218, R219, R220, R225, R388.) -/
def Obligations.TableKeeper : Prop :=
∀ (s : State) (n : Fin 4), s.pk.frames = [] →
    (s.rehashOf n = none → s.keeperUp = true →
      (∀ k rest, Tab.get (fun _ => []) s.pk.notices n.val = k :: rest →
        (∀ a, s.tableHas n k.vid k.mac = none → freeSlot s [] n (s.curRegion n)
            [bucketOf (s.curSeed n) 0 k.vid k.mac, bucketOf (s.curSeed n) 1 k.vid k.mac] = some a →
          ∃ t, exec (.learnNoticeApply n) s = .next t ∧ Tab.get (fun _ => []) t.pk.notices n.val = rest ∧
            t.cellar = (s.setEntry a ⟨false, false, k.vid, k.mac, k.port, s.ageClock, 0⟩).cellar) ∧
        (∀ e, s.tableHas n k.vid k.mac = some e → e.stat = true →
          ∃ t, exec (.learnNoticeApply n) s = .next t ∧ Tab.get (fun _ => []) t.pk.notices n.val = rest ∧ t.cellar = s.cellar ∧
            t.fld (R.TBL_LEARN_STATS n) F.TBL_LEARN_STATS_STATIC_BLOCKED =
              min (s.fld (R.TBL_LEARN_STATS n) F.TBL_LEARN_STATS_STATIC_BLOCKED + 1) (2 ^ F.TBL_LEARN_STATS_STATIC_BLOCKED.w - 1) ∧
            s.regsKept t [R.TBL_LEARN_STATS n]) ∧
        (∀ a e, s.findSide n .cur k.vid k.mac = some (some a, e) → e.stat = false → e.port = k.port →
          ∃ t, exec (.learnNoticeApply n) s = .next t ∧ Tab.get (fun _ => []) t.pk.notices n.val = rest ∧
            t.cellar = (s.setEntry a { e with seen := s.ageClock }).cellar ∧ t.regs = s.regs)) ∧
      (∀ a e, s.mode ≠ .shadow → 0 < s.fld R.TBL_CTRL F.TBL_CTRL_AGE_TIME →
        (s.allEntries n).filter (fun e => !e.stat && decide (s.fld R.TBL_CTRL F.TBL_CTRL_AGE_TIME ≤ s.ageClock - e.seen)) = [e] →
        s.findSide n .cur e.vid e.mac = some (some a, e) →
        ∃ t, exec (.ageSweep n) s = .next t ∧ t.cellar = (s.clearEntry a).cellar)) ∧
    (s.fld R.TBL_CTRL F.TBL_CTRL_AGE_TIME = 0 ∨ s.mode = .shadow → exec (.ageSweep n) s = .next s) ∧
    (s.keeperUp = true → ∃ t, exec .hitWriteback s = .next t ∧ (∀ i, ∀ l ∈ t.cacheLines i, l.hit = false) ∧ t.regs = s.regs) ∧
    (∀ e w, s.rehashOf n = none → s.stash n = [e] → chainFor s n (s.curRegion n) (s.curSeed n) e = (w, none) →
      ∃ t, exec (.stashPlacement n) s = .next t ∧ t.stash n = [] ∧ t.cellar = (s.writeChain n w).cellar ∧
        t.fld (R.TBL_STATUS n) F.TBL_STATUS_STASH = 0) ∧
    (∀ (sq : Fin 32) (d : Desc), s.offers sq d false true = true → d.opcode = 4 → d.byte 20 = 4 → d.tblMask = 2 ^ n.val →
      s.tblAdmitted = true → s.rehashOf n = none → s.entries n = [] →
      ∃ t, exec (.rehash sq d) s = .next t ∧ t.rehashOf n = some ⟨some (s.nextReq sq), [], false⟩ ∧
        (t.rd (R.TBL_SEED_NEW n)).toNat = (if d.le 24 4 = 0 then (s.curSeed n + 0x9E3779B9) % 2 ^ 32 else d.le 24 4) ∧
        t.curRegion n = s.curRegion n ∧ t.curSeed n = s.curSeed n) ∧
    (∀ r, s.rehashOf n = some r →
      ∃ t, exec (.rehashSwap n) s = .next t ∧ t.rehashOf n = none ∧ t.newSeed n = 0 ∧
        t.fld (R.TBL_STATUS n) F.TBL_STATUS_ACTIVITY = 0 ∧
        (if r.failed then t.curSeed n = s.curSeed n ∧ t.curRegion n = s.curRegion n
        else t.curSeed n = s.newSeed n ∧ t.curRegion n = 1 - s.curRegion n))

/-- For requests that their ring offers and the mode admits, on one pipeline n: LPM_INSERT of a prefix held replaces its action in place; one absent, where its length has a hole, fills the first such hole; without a hole or a free row it ends with 0x0405, changing nothing. LPM_REMOVE leaves a hole where the prefix stood, or ends with 0x0401. STREAM_WRITE, at 0x1500_0000 or above and within Cellar, writes exactly its bytes. COUNTER_FOLD of a line past 2^15 frames, 2^28 bytes or FLUSH_MS adds it to its pair in Cellar and drops it. COUNTER_DUMP with no line accumulated returns 16 bytes for each pair of its range and, with CLEAR, zeroes exactly them; past the last pair it ends with 0x0501, into a short buffer with 0x0502. (R207, R229, R230, R232, R233, R255, R256, R257.) -/
def Obligations.PrefixesStreamsAndCounters : Prop :=
(∀ (s : State) (i : BitVec 20) (l : AccLine), s.pk.acc = [l] → l.pair = i.toNat →
      (2 ^ 15 < l.pkts ∨ 2 ^ 28 < l.bytes ∨ l.at_ + max 1 (s.fld R.SCH_CTRL F.SCH_CTRL_FLUSH_MS) * 1000000 ≤ s.now) →
      ∃ t, exec (.counterFold i) s = .next t ∧ t.pk.acc = [] ∧ t.regs = s.regs ∧
        t.pairIn i.toNat = (((s.pairIn i.toNat).1 + l.pkts) % 2 ^ 64, ((s.pairIn i.toNat).2 + l.bytes) % 2 ^ 64) ∧
        (∀ a, a < pairAddr i.toNat ∨ pairAddr i.toNat + 16 ≤ a → t.cByte a = s.cByte a)) ∧
  ∀ (s : State) (sq : Fin 32) (d : Desc), s.cqUp (s.boundCq sq) = true →
    let res := fun (t : State) => (t.lastDone sq).map fun k => (k.1, k.2.1, k.2.2.1)
    (∀ n : Fin 4, d.opcode = 4 → d.tblMask = 2 ^ n.val → s.tblAdmitted = true → d.lpmBad = false → s.offers sq d false true = true →
      let l := s.lpmSlots n d.lpmV6
      let new : LpmSlot := ⟨d.byte 48, some (d.lpmPrefix, d.le 56 8)⟩
      (d.byte 20 = 6 → bits (d.le 56 8) 55 7 ≤ 95 →
        ((∃ x ∈ l, x.is d.lpmV6 (d.byte 48) d.lpmPrefix = true) → ∃ t, exec (.lpmInsert sq d) s = .next t ∧
          t.lpmSlots n d.lpmV6 = l.map (fun x => if x.is d.lpmV6 (d.byte 48) d.lpmPrefix then new else x) ∧ res t = some (sq.val, d.tag, 0)) ∧
        (∀ a b x, l = a ++ x :: b → x.len = d.byte 48 → x.ent = none → (∀ y ∈ a, y.len = d.byte 48 → y.ent ≠ none) →
          (∀ y ∈ l, y.is d.lpmV6 (d.byte 48) d.lpmPrefix = false) → ∃ t, exec (.lpmInsert sq d) s = .next t ∧
          t.lpmSlots n d.lpmV6 = a ++ new :: b ∧ res t = some (sq.val, d.tag, 0)) ∧
        ((∀ y ∈ l, y.is d.lpmV6 (d.byte 48) d.lpmPrefix = false ∧ y.ent ≠ none) → s.lpmPart n d.lpmV6 < (l.length + 1) * lpmRows d.lpmV6 →
          0 < l.length → ∃ t, exec (.lpmInsert sq d) s = .next t ∧ t.pk = s.pk ∧ res t = some (sq.val, d.tag, 0x0405))) ∧
      (d.byte 20 = 7 →
        ((∃ x ∈ l, x.is d.lpmV6 (d.byte 48) d.lpmPrefix = true) → ∃ t, exec (.lpmRemove sq d) s = .next t ∧
          t.lpmSlots n d.lpmV6 = l.map (fun x => if x.is d.lpmV6 (d.byte 48) d.lpmPrefix then { x with ent := none } else x) ∧
          res t = some (sq.val, d.tag, 0)) ∧
        ((∀ y ∈ l, y.is d.lpmV6 (d.byte 48) d.lpmPrefix = false) → ∃ t, exec (.lpmRemove sq d) s = .next t ∧ t.pk = s.pk ∧
          res t = some (sq.val, d.tag, 0x0401)))) ∧
    (∀ buf : Buf, s.offers sq d true true = true → buf.ok = true → d.opcode = 4 → d.byte 20 = 8 → s.tblAdmitted = true → d.bufLen % 4 = 0 →
      buf.data.length = d.bufLen → 0x15000000 ≤ d.le 32 8 → d.le 32 8 + d.bufLen ≤ s.cellarSize →
      ∃ t, exec (.streamWrite sq d buf) s = .next t ∧ res t = some (sq.val, d.tag, 0) ∧
        (∀ a, t.cByte a = if d.le 32 8 ≤ a ∧ a < d.le 32 8 + d.bufLen then nth 0 buf.data (a - d.le 32 8) else s.cByte a)) ∧
    (∀ buf : Buf, s.offers sq d true true = true → buf.ok = true → d.opcode = 5 → (s.mode = .start → s.admitted 10 = true) →
      let first := d.le 24 4
      let count := if d.le 28 4 = 0 then 1048576 - first else d.le 28 4
      (1048576 < first + count → ∃ t, exec (.counterDump sq d buf) s = .next t ∧ t.cellar = s.cellar ∧ res t = some (sq.val, d.tag, 0x0501)) ∧
      (first + count ≤ 1048576 → d.bufLen < 16 * count → ∃ t, exec (.counterDump sq d buf) s = .next t ∧ t.cellar = s.cellar ∧
        res t = some (sq.val, d.tag, 0x0502)) ∧
      (first + count ≤ 1048576 → 16 * count ≤ d.bufLen → 0 < count → s.pk.acc = [] → ∃ t, exec (.counterDump sq d buf) s = .next t ∧
        t.hif.posted = s.hif.posted ++ [⟨d.bufAddr, (upFrom (pairAddr first) (16 * count)).map s.cByte⟩] ∧ res t = some (sq.val, d.tag, 0) ∧
        (∀ a, t.cByte a = if d.byte 20 % 2 = 1 ∧ pairAddr first ≤ a ∧ a < pairAddr (first + count) then 0 else s.cByte a)))

/-- EGRESS_SELECT of a port that may not send, or is still sending, moves nothing but time. Otherwise, without gates or mirror sessions, with the queues of one subscriber waiting (one only, or all STRICT) and every node above them within its peak: the head of the highest class leaves, whole, with its CRC, the port is busy for its wire time, and both buckets of its subscriber, service and port fall by its wire length. GATE_ENTRY_START shows whether the port's list is enabled and the gates of the entry in force at the time base's value (all open without a list). LPI_TX_ENTER of an idle port with LPI enabled sets TX_LPI of its lanes after LPI_IDLE µs, LPI_TX_WAKE with a frame waiting clears it; otherwise both change nothing. SCH_IND_SEL_WRITE loads the record selected, padded with 0, or sets BAD and loads 0. (R239, R240, R242, R243, R244, R291, R260.) -/
def Obligations.EgressAndGates : Prop :=
(∀ (s : State) (p : Fin 96) (ns : Fin 1000),
    let now := max s.now (s.tick + ns.val)
    (s.sends p = false ∨ now < s.txEnd p → exec (.egressSelect p ns) s = .next (s.at_ ns)) ∧
    (s.sends p = true → s.txEnd p ≤ now → s.gateOn p = false → (∀ m < 8, s.flag (R.SCH_MIRROR_CFG m) F.SCH_MIRROR_CFG_ENABLE = false) →
      ∀ (l : List Nat) (q : Nat) (c : Copy) (rest : List Copy), s.portQueues p = l ++ [q] → (∀ x ∈ l, x < q ∧ x / 8 = q / 8) →
        (∀ x ∈ l ++ [q], s.queue x ≠ []) → (l = [] ∨ ∀ x ∈ l ++ [q], bitOf (s.profile x) 31 = true) →
        s.queue q = c :: rest → c.ptp = none → c.mirror = none →
        let nodes := [1120 + q / 8, 96 + subParent s.pk.sch (q / 8), p.val]
        (∀ x ∈ nodes, (s.at_ ns).peakOk x = true) →
        ∃ t, exec (.egressSelect p ns) s = .next t ∧ t.now = now ∧ t.queue q = rest ∧ (∀ x, x ≠ q → t.queue x = s.queue x) ∧
          t.pk.sent = s.pk.sent ++ [⟨c.fid, p, c.data, crc32 c.data, now⟩] ∧ t.txEnd p = now + s.wireNs p (s.wireLen p c) ∧
          ∀ x ∈ nodes, ∀ k < 2, (Tab.get (fun _ => Bucket.zero) t.pk.node (2 * x + k)).lvl =
            (s.at_ ns).nodeLevel x k - ((s.wireLen p c * 1000000000 : Nat) : Int)) ∧
    (∃ t, exec (.gateEntryStart p ns) s = .next t ∧ t.now = now ∧ t.fld (R.SCH_PORT_STATUS p) F.SCH_PORT_STATUS_GATE_ACTIVE = bnat (s.gateOn p) ∧
      (s.gateOn p = false → t.fld (R.SCH_PORT_STATUS p) F.SCH_PORT_STATUS_GATES = 255) ∧
      (s.gateOn p = true → ∀ a e b, gateList s.pk.sch p = a ++ e :: b →
        let v : Int := ((t.tbNow (bits (s.sch 2 p 0) 29 2) / nsUnit / 8 * 8 : Nat) : Int)
        let base : Int := (((s.sch 2 p 2 + 2 ^ 32 * s.sch 2 p 3) * 1000000000 + bits (s.sch 2 p 1) 0 30 : Nat) : Int)
        let pos := ((v - base) % ((gateCycle (gateList s.pk.sch p) : Nat) : Int)).toNat
        gateCycle a ≤ pos → pos < gateCycle a + e.2 → t.fld (R.SCH_PORT_STATUS p) F.SCH_PORT_STATUS_GATES = e.1))) ∧
  (∀ (s : State) (p : Fin 64),
    let may := s.lpiOn p = true ∧ s.gateOn p = false ∧ s.portQueues p = [] ∧
      s.txEnd p + max 1 (s.fld (R.LANE_PORT_ACTIVE p) F.LANE_PORT_ACTIVE_LPI_IDLE) * 1000 ≤ s.now
    let wake := s.flag (R.LANE_STATE p) F.LANE_STATE_TX_LPI = true ∧ s.portQueues p ≠ []
    let lanes := (s.lanesOf p).map fun x => R.LANE_STATE x
    (may → ∃ t, exec (.lpiTxEnter p) s = .next t ∧ t = { s with regs := t.regs } ∧ s.regsKept t lanes ∧
      ∀ o ∈ lanes, t.fld o F.LANE_STATE_TX_LPI = 1) ∧
    (¬ may → exec (.lpiTxEnter p) s = .next s) ∧
    (wake → ∃ t, exec (.lpiTxWake p) s = .next t ∧ t = { s with regs := t.regs } ∧ s.regsKept t lanes ∧
      ∀ o ∈ lanes, t.fld o F.LANE_STATE_TX_LPI = 0) ∧
    (¬ wake → exec (.lpiTxWake p) s = .next s)) ∧
  (∀ (s : State) (v : Word),
    let tab := F.SCH_IND_SEL_TABLE.get v
    let r := F.SCH_IND_SEL_INDEX.get v
    let set := if F.SCH_IND_SEL_SHADOW.get v = 0 then s.pk.sch else s.pk.schShadow
    let okay := (tab = 7 ∧ r < 131072) ∨ (tab < 7 ∧ r < schRecs tab)
    ∃ t, exec (.schIndSelWrite v) s = .next t ∧ t = { s with regs := t.regs } ∧
      (∀ o, o ≠ R.SCH_IND_SEL → (∀ w < 16, o ≠ R.SCH_IND_DATA w) → t.rd o = s.rd o) ∧
      t.fld R.SCH_IND_SEL F.SCH_IND_SEL_TABLE = tab ∧ t.fld R.SCH_IND_SEL F.SCH_IND_SEL_INDEX = r ∧
      (okay → t.fld R.SCH_IND_SEL F.SCH_IND_SEL_BAD = 0) ∧ (¬ okay → t.fld R.SCH_IND_SEL F.SCH_IND_SEL_BAD = 1) ∧
      ∀ w < 16, (t.rd (R.SCH_IND_DATA w)).toNat =
        if ¬ okay then 0
        else if tab = 7 then (if w = 0 then s.queueCells r % 2 ^ 32 else if w = 1 then (s.queue r).length % 2 ^ 32 else 0)
        else if w < schWidth tab then schWord set tab r w else 0)

/-- A time base advances by its increment at every 2 ns cycle, modulo its span. TIM_SET makes TBn read its operand, TIM_ADD moves it by the signed operand; both count a step and leave the other bases. TIM_CLEAR_INT makes the servo's integral 0. TIM_SNAP_CMD latches seconds, nanoseconds and sub-nanoseconds of exactly the bases of its MASK into the requester's copy. SERVO_HOLDOVER of an enabled servo not in holdover and without a sample for HOLD_MS sets STATE 2 and raises 441 + n; otherwise it changes nothing. OSC_COMP_UPDATE with EN and a TCXO temperature sets OSC_PPB by the polynomial, and each base goes on from its value with the increment of its rate and that compensation; otherwise it changes nothing. (R261, R263, R264, R265, R268, R279.) -/
def Obligations.TimeBasesAndTheirServos : Prop :=
∀ s : State,
    (∀ (n : Fin 4) (c k : Nat), (s.tb n).at_ (c + k) = ((s.tb n).at_ c + k * (s.tb n).inc) % tbSpan) ∧
    (∀ (n : Fin 4) (ns : Fin 1000),
      let now := max s.now (s.tick + ns.val)
      let steps := min (s.fld (R.TIM_SERVO_STATUS n) F.TIM_SERVO_STATUS_STEPS + 1) (2 ^ F.TIM_SERVO_STATUS_STEPS.w - 1)
      let op : Nat := (((s.rd (R.TIM_TB_OPND_SEC_HI n)).toNat * 2 ^ 32 + (s.rd (R.TIM_TB_OPND_SEC_LO n)).toNat) * 1000000000 +
        s.fld (R.TIM_TB_OPND_NS n) F.TIM_TB_OPND_NS_NS) * 2 ^ 48 + s.fld (R.TIM_TB_OPND_SUB n) F.TIM_TB_OPND_SUB_SUB * 2 ^ 32
      ∀ e ∈ [(Instr.timSet n ns, op % tbSpan),
          (.timAdd n ns, (((s.tbAt n now : Int) + (if s.flag (R.TIM_TB_OPND_NS n) F.TIM_TB_OPND_NS_NEG then - (op : Int) else (op : Int))) %
            (tbSpan : Int)).toNat)],
        ∃ t, exec e.1 s = .next t ∧ t.now = now ∧ t.tbNow n = e.2 ∧ t.fld (R.TIM_SERVO_STATUS n) F.TIM_SERVO_STATUS_STEPS = steps ∧
          (t.tb n).inc = (s.tb n).inc ∧ (∀ m : Fin 4, m ≠ n → t.tb m = s.tb m) ∧ s.regsKept t [R.TIM_SERVO_STATUS n] ∧
          t = { s with now := t.now, regs := t.regs, tim := t.tim }) ∧
    (∀ n : Fin 4, ∃ t, exec (.timClearInt n) s = .next t ∧ (t.servoX n) = { s.servoX n with i := 0 } ∧ t.rd (R.TIM_SERVO_INT n) = 0 ∧
      s.regsKept t [R.TIM_SERVO_INT n] ∧ t.tim.bases = s.tim.bases) ∧
    (∀ (mask : BitVec 4) (ns : Fin 1000),
      let word := fun (t : State) (n w : Nat) => nth 0 [BitVec.ofNat 32 (tbSec (t.tbNow n) / 2 ^ 32), BitVec.ofNat 32 (tbSec (t.tbNow n)),
        BitVec.ofNat 32 (tbNs (t.tbNow n)), BitVec.ofNat 32 (tbSub (t.tbNow n))] w
      (∃ t, exec (.timSnapCmd .host mask ns) s = .next t ∧ t.now = max s.now (s.tick + ns.val) ∧ t.tim = s.tim ∧
        (∀ n < 4, ∀ w < 4, t.rd (R.TIM_SNAP n w) = if mask.getLsbD n then word t n w else s.rd (R.TIM_SNAP n w)) ∧
        (∀ o, (∀ n < 4, ∀ w < 4, o ≠ R.TIM_SNAP n w) → t.rd o = s.rd o)) ∧
      (∃ t, exec (.timSnapCmd .mgmt mask ns) s = .next t ∧ t.regs = s.regs ∧
        ∀ n < 4, ∀ w < 4, Tab.get (fun _ => (0 : Word)) t.tim.snapM (4 * n + w) =
          if mask.getLsbD n then word t n w else Tab.get (fun _ => (0 : Word)) s.tim.snapM (4 * n + w))) ∧
    (∀ n : Fin 4,
      let out := s.flag (R.TIM_SERVO_CFG n) F.TIM_SERVO_CFG_EN = true ∧ s.fld (R.TIM_SERVO_STATUS n) F.TIM_SERVO_STATUS_STATE ≠ 2 ∧
        (s.servoX n).last + max 1 (s.fld (R.TIM_SERVO_CFG n) F.TIM_SERVO_CFG_HOLD_MS) * 100000000 ≤ s.now
      (¬ out → exec (.servoHoldover n) s = .next s) ∧
      (out → ∃ t, exec (.servoHoldover n) s = .next t ∧ t.fld (R.TIM_SERVO_STATUS n) F.TIM_SERVO_STATUS_STATE = 2 ∧
        t.flt.raised = s.flt.raised ++ [⟨441 + n, n, 0, 0, 0, false, [], 0⟩] ∧ s.regsKept t [R.TIM_SERVO_STATUS n] ∧ t.tim = s.tim)) ∧
    (let c := fun k => signedOf 32 (s.rd (R.TIM_OSC_COMP_C k)).toNat
     let d := signedOf 16 (s.fld R.THM_DERIVED F.THM_DERIVED_TCXO) - 250
     let q := oscPpb (signedOf 24 (s.rd R.CAL_OSC).toNat) (c 0) (c 1) (c 2) (c 3) d
     let run := s.flag R.TIM_OSC_COMP_CTRL F.TIM_OSC_COMP_CTRL_EN = true ∧ s.thm.tcxoOk = true
     (¬ run → exec .oscCompUpdate s = .next s) ∧
     (run → ∃ t, exec .oscCompUpdate s = .next t ∧ signedOf 24 (t.fld R.TIM_OSC_COMP_CTRL F.TIM_OSC_COMP_CTRL_OSC_PPB) = q ∧
       s.regsKept t [R.TIM_OSC_COMP_CTRL] ∧
       ∀ n < 4, t.tbNow n = s.tbNow n ∧ (t.tb n).inc = tbInc (signedOf 32 (s.rd (R.TIM_RATE n)).toNat) q))

/-- PPS_INPUT_EDGE of the selected polarity on an enabled input: within 500 ms of the accepted edge before it is counted in GLITCHES; else it latches seconds and nanoseconds, fires 232 + n and, where SRC selects it and the servo is enabled, corrects TBn: a step of −θ with STEP_EN at or above TIM_SERVO_STEP, the first sample or in holdover, raising 445 + n, else the rate −(KP·θ + I) with I := I + KI·θ, both clamped; not selected or not enabled it counts IGNORED. PPS_LOST after 1.5 s raises 437 + n. COMPARE_FIRE of an enabled unit at or past TARGET: FIRED, event 16 + 32 n + c; PERIOD 0 disarms it, else the target moves past the time by whole periods, those skipped in MISSED. COMPARE_TARGET_HI_WRITE puts TARGET in force, and fires at once with LATE where it is reached. PPSO_FALL ends a pulse. TSQ_HEAD_LATCH shows the head record, TSQ_RECORD_REMOVE drops it. (R266, R267, R269, R270, R272, R273, R275.) -/
def Obligations.PulsesComparesAndStamps : Prop :=
∀ (s : State) (n : Fin 4) (ns : Fin 1000),
    let now := max s.now (s.tick + ns.val)
    let p := s.pps n
    let events := fun (t : State) (l : List Nat) => s.eventsOn = true → t.evt.fired.map Fire.src = s.evt.fired.map Fire.src ++ l
    (∀ rising : Bool, s.flag (R.TIM_PPS_CFG n) F.TIM_PPS_CFG_IN_EN = false ∨ s.flag (R.TIM_PPS_CFG n) F.TIM_PPS_CFG_EDGE = rising →
      exec (.ppsInputEdge n rising ns) s = .next (s.at_ ns)) ∧
    (s.flag (R.TIM_PPS_CFG n) F.TIM_PPS_CFG_IN_EN = true →
      let rising := !s.flag (R.TIM_PPS_CFG n) F.TIM_PPS_CFG_EDGE
      let v := s.tbAt n now
      let θ := ppsTheta (tbNs v) (signedOf 32 (s.rd (R.TIM_PPS_DELAY n)).toNat) * 65536
      let x := s.servoX n
      let chosen := s.flag (R.TIM_SERVO_CFG n) F.TIM_SERVO_CFG_SRC = true ∧ s.tbFollows n = false ∧ s.flag (R.TIM_SERVO_CFG n) F.TIM_SERVO_CFG_EN = true
      let stepping := s.flag (R.TIM_SERVO_CFG n) F.TIM_SERVO_CFG_STEP_EN = true ∧ ((((s.rd (R.TIM_SERVO_STEP n)).toNat : Int) * 65536 ≤ θ ∨
        θ ≤ -(((s.rd (R.TIM_SERVO_STEP n)).toNat : Int) * 65536)) ∨ x.first = true ∨ s.fld (R.TIM_SERVO_STATUS n) F.TIM_SERVO_STATUS_STATE = 2)
      (p.edge = true → now < p.since + 500000000 → ∃ t, exec (.ppsInputEdge n rising ns) s = .next t ∧ t.tim = s.tim ∧ t.evt = s.evt ∧
        t.fld (R.TIM_PPS_CFG n) F.TIM_PPS_CFG_GLITCHES =
          min (s.fld (R.TIM_PPS_CFG n) F.TIM_PPS_CFG_GLITCHES + 1) (2 ^ F.TIM_PPS_CFG_GLITCHES.w - 1) ∧ s.regsKept t [R.TIM_PPS_CFG n]) ∧
      (p.edge = false ∨ p.since + 500000000 ≤ now → ∃ t, exec (.ppsInputEdge n rising ns) s = .next t ∧ t.now = now ∧
        t.rd (R.TIM_PPS_SEC n) = BitVec.ofNat 32 (tbSec v) ∧ t.rd (R.TIM_PPS_NS n) = BitVec.ofNat 32 (tbNs v) ∧ events t [232 + n.val] ∧
        t.pps n = { p with since := now, edge := true, lost := false } ∧
        (¬ chosen → t.tim.bases = s.tim.bases ∧ t.fld (R.TIM_SERVO_STATUS n) F.TIM_SERVO_STATUS_IGNORED =
          min (s.fld (R.TIM_SERVO_STATUS n) F.TIM_SERVO_STATUS_IGNORED + 1) (2 ^ F.TIM_SERVO_STATUS_IGNORED.w - 1)) ∧
        (chosen → t.fld (R.TIM_SERVO_STATUS n) F.TIM_SERVO_STATUS_STATE = 1 ∧ (t.servoX n).first = false ∧ (t.servoX n).last = now ∧
          (stepping → (t.tbNow n : Int) = ((v : Int) - θ * 2 ^ 32) % (tbSpan : Int) ∧ t.rd (R.TIM_RATE n) = s.rd (R.TIM_RATE n) ∧
            (t.flt.raised.getLast?).map Report.src = some (445 + n.val)) ∧
          (¬ stepping →
            let lim : Int := 32768 * 2 ^ 40
            let i := clampInt (-lim) lim (x.i + signedOf 32 (s.rd (R.TIM_SERVO_KI n)).toNat * θ)
            let r := clampInt (-lim) lim (-(signedOf 32 (s.rd (R.TIM_SERVO_KP n)).toNat * θ + i))
            (t.servoX n).i = i ∧ t.tbNow n = v ∧ t.flt = s.flt ∧
              signedOf 32 (t.rd (R.TIM_RATE n)).toNat = min (roundAway r 24) (2 ^ 31 - 1))))) ∧
    (let lost := s.flag (R.TIM_PPS_CFG n) F.TIM_PPS_CFG_IN_EN = true ∧ p.lost = false ∧ p.since + 1500000000 ≤ s.now
     (¬ lost → exec (.ppsLost n) s = .next s) ∧
     (lost → ∃ t, exec (.ppsLost n) s = .next t ∧ t.flt.raised = s.flt.raised ++ [⟨437 + n, n, 0, 0, 0, false, [], 0⟩] ∧
       t.pps n = { p with lost := true } ∧ t.regs = s.regs)) ∧
    (∀ c : Fin 32,
      let o := R.TIM_CMP_CTRL n c
      let period := (s.rd (R.TIM_CMP_PERIOD n c)).toNat
      let fired := fun (t : State) (tg : Nat) (d : Int) => t.fld o F.TIM_CMP_CTRL_FIRED = 1 ∧ events t [16 + 32 * n.val + c.val] ∧
        (period = 0 → t.fld o F.TIM_CMP_CTRL_ENABLE = 0 ∧ t.cmpTarget n c = tg) ∧
        (period ≠ 0 → t.fld o F.TIM_CMP_CTRL_ENABLE = 1 ∧ t.cmpTarget n c = (tg + (d.toNat / period + 1) * period) % 2 ^ 64 ∧ t.cmpDiff n c < 0 ∧
          t.fld o F.TIM_CMP_CTRL_MISSED = min (s.fld o F.TIM_CMP_CTRL_MISSED + d.toNat / period) (2 ^ F.TIM_CMP_CTRL_MISSED.w - 1))
      (s.flag o F.TIM_CMP_CTRL_ENABLE = false ∨ (s.at_ ns).cmpDiff n c < 0 → exec (.compareFire n c ns) s = .next (s.at_ ns)) ∧
      (s.flag o F.TIM_CMP_CTRL_ENABLE = true → 0 ≤ (s.at_ ns).cmpDiff n c → ∃ t, exec (.compareFire n c ns) s = .next t ∧
        fired t (s.cmpTarget n c) ((s.at_ ns).cmpDiff n c) ∧ t.fld o F.TIM_CMP_CTRL_LATE = s.fld o F.TIM_CMP_CTRL_LATE) ∧
      (∀ v : Word,
        let tg := v.toNat * 2 ^ 32 + (s.rd (R.TIM_CMP_TARGET_LO n c)).toNat
        let d := signedOf 64 (tbN (s.tbNow n) + 2 ^ 64 - tg)
        (s.flag o F.TIM_CMP_CTRL_ENABLE = false ∨ d < 0 → ∃ t, exec (.compareTargetHiWrite n c v) s = .next t ∧ t.cmpTarget n c = tg ∧
          t.rd (R.TIM_CMP_TARGET_HI n c) = v ∧ s.regsKept t [R.TIM_CMP_TARGET_HI n c] ∧ t.evt = s.evt) ∧
        (s.flag o F.TIM_CMP_CTRL_ENABLE = true → 0 ≤ d → ∃ t, exec (.compareTargetHiWrite n c v) s = .next t ∧ fired t tg d ∧
          t.fld o F.TIM_CMP_CTRL_LATE = 1))) ∧
    (∀ e, p.falls = some e →
      (now < e → exec (.ppsoFall n ns) s = .next (s.at_ ns)) ∧
      (e ≤ now → ∃ t, exec (.ppsoFall n ns) s = .next t ∧ t.pps n = { p with falls := none } ∧ t.regs = s.regs)) ∧
    (∀ r rest, s.tsq n = r :: rest →
      (∃ t, exec (.tsqHeadLatch n) s = .next t ∧ (∀ w < 4, t.rd (R.TIM_TSQ n w) = nth 0 r w) ∧ t.hif.rdata.toNat = (nth 0 r 0).toNat ∧ t.tim = s.tim) ∧
      (∃ t, exec (.tsqRecordRemove n) s = .next t ∧ t.tsq n = rest ∧ t.hif.rdata.toNat = (s.rd (R.TIM_TSQ n 3)).toNat ∧
        t.fld (R.TIM_TSQ_STATUS n) F.TIM_TSQ_STATUS_HELD = rest.length % 2 ^ F.TIM_TSQ_STATUS_HELD.w ∧ s.regsKept t [R.TIM_TSQ_STATUS n])) ∧
    (s.tsq n = [] → ∃ t, exec (.tsqHeadLatch n) s = .next t ∧ t.hif.rdata = 0 ∧ t.rd (R.TIM_TSQ n 0) = 0)

/-- BRINGUP_STEP_DONE of a port at step n of 1 to 8, its quad not isolated, whose step may complete (skew at most 200 ns at 7, FOM at or above FOM_MIN at 8, light at a tap port's 2) takes it to the next step, 4 only for polarity detection, 6 and 7 only for four lanes; step 9 sets LINK and fires 228 + pipeline; steps 6, 7 and 8 record lane map, skew and FOM; otherwise nothing changes. BRINGUP_STEP_LIMIT at a step with a limit counts RETRIES of its lanes and returns to step 2. LINK_DOWN of a port that is up: step 2, LINK 0, LINK_DOWNS counts, 280 + p is raised. REMOTE_FAULT shows the bit, and a port that receives it sends no frame. LANE_CFG_WRITE keeps the writable bits; a changed RX_POL or LOOPBACK restarts a port past step 2 at step 2. LANE_PRBS_WRITE of GEN or CHK on a lane in use is refused; else it takes GEN, CHK and RATE. (R284, R285, R286, R287, R288, R299.) -/
def Obligations.PortsComeUpAndGoDown : Prop :=
∀ s : State,
    (∀ (p : Fin 96) (f : StepFound),
      let n := s.portStep p
      let lanes := (s.lanesOf p).map fun x => R.LANE_STATE x
      let o := R.LANE_PORT_STATUS p
      let pol := s.fld (R.LANE_CFG p) F.LANE_CFG_RX_POL
      let next := if n = 3 ∧ (64 ≤ p.val ∨ pol = 1 ∨ pol = 2) then 5 else if n = 5 then (if s.mode_ p = 3 then 6 else 8) else n + 1
      let may := 1 ≤ n ∧ n ≤ 8 ∧ s.portIso p = false ∧ (n = 7 → f.skew.toNat ≤ 200) ∧
        (n = 8 → s.fld R.LANE_CTRL F.LANE_CTRL_FOM_MIN ≤ f.fom.toNat) ∧
        (n = 2 → 64 ≤ p.val → s.fld (R.FAB_OUT_STATE (224 + (p.val - 64))) F.FAB_OUT_STATE_STATE ≠ 0)
      (¬ may → exec (.bringupStepDone p f) s = .next s) ∧
      (may → ∃ t, exec (.bringupStepDone p f) s = .next t ∧ t.portStep p = next ∧ t.fld o F.LANE_PORT_STATUS_LINK = (if next = 9 then 1 else 0) ∧
        (∀ l ∈ lanes, t.fld l F.LANE_STATE_STEP = next) ∧
        (n = 6 → t.fld o F.LANE_PORT_STATUS_LANE_MAP = f.map.toNat) ∧ (n = 7 → t.fld o F.LANE_PORT_STATUS_SKEW_NS = f.skew.toNat) ∧
        (n = 8 → ∀ l ∈ lanes, t.fld l F.LANE_STATE_FOM = f.fom.toNat) ∧
        (s.eventsOn = true → t.evt.fired.map Fire.src = s.evt.fired.map Fire.src ++ if next = 9 then [228 + pipeOf p] else []) ∧
        (∀ q : Fin 96, q ≠ p → t.portStep q = s.portStep q)) ∧
      (n = 0 ∨ n = 2 ∨ 9 ≤ n → exec (.bringupStepLimit p) s = .next s) ∧
      (n = 1 ∨ (3 ≤ n ∧ n ≤ 8) → ∃ t, exec (.bringupStepLimit p) s = .next t ∧ t.portStep p = 2 ∧
        ∀ l ∈ lanes, t.fld l F.LANE_STATE_RETRIES = min (s.fld l F.LANE_STATE_RETRIES + 1) 255 ∧ t.fld l F.LANE_STATE_STEP = 2) ∧
      (∀ los : Bool,
        (n ≠ 9 → exec (.linkDown p los) s = .next s) ∧
        (n = 9 → ∃ t, exec (.linkDown p los) s = .next t ∧ t.portStep p = 2 ∧ t.fld o F.LANE_PORT_STATUS_LINK = 0 ∧
          t.fld o F.LANE_PORT_STATUS_LINK_DOWNS = min (s.fld o F.LANE_PORT_STATUS_LINK_DOWNS + 1) 255 ∧
          (los = true → t.fld o F.LANE_PORT_STATUS_LOS = 1) ∧ t.flt.raised = s.flt.raised ++ [⟨280 + p, p, 0, 0, 0, false, [], 0⟩] ∧
          (s.eventsOn = true → t.evt.fired.map Fire.src = s.evt.fired.map Fire.src ++ [228 + pipeOf p]))) ∧
      (∀ on : Bool,
        (n = 0 → exec (.remoteFault p on) s = .next s) ∧
        (0 < n → ∃ t, exec (.remoteFault p on) s = .next t ∧ t = { s with regs := t.regs } ∧ s.regsKept t [o] ∧
          t.fld o F.LANE_PORT_STATUS_REMOTE_FAULT = bnat on ∧ (on = true → t.sends p = false)))) ∧
    (∀ (x : Fin 66) (v : Word), ∃ t, exec (.laneCfgWrite x v) s = .next t ∧ t.rd (R.LANE_CFG x) = v &&& 0xFE1F7F3F#32 ∧
      (let port := s.portOfLane x
       let changed := x.val < 64 ∧ (F.LANE_CFG_RX_POL.get (s.rd (R.LANE_CFG x)) ≠ F.LANE_CFG_RX_POL.get v ∨
         F.LANE_CFG_LOOPBACK.get (s.rd (R.LANE_CFG x)) ≠ F.LANE_CFG_LOOPBACK.get v)
       (changed → 2 < s.portStep port → t.portStep port = 2) ∧ (¬ (changed ∧ 2 < s.portStep port) → t.lane.step = s.lane.step) ∧
       (∀ y : Fin 66, y ≠ x → t.rd (R.LANE_CFG y) = s.rd (R.LANE_CFG y)))) ∧
    (∀ (x : Fin 66) (v : Word),
      let bad := (F.LANE_PRBS_GEN.get v ≠ 0 ∨ F.LANE_PRBS_CHK.get v ≠ 0) ∧
        (if x.val < 64 then s.mode_ (s.portOfLane x) ≠ 0 else s.flag R.PAIR_STATUS F.PAIR_STATUS_PAIR_EN = true)
      (bad → ∃ t, exec (.lanePrbsWrite x v) s = .next t ∧ t = { s with regs := t.regs } ∧ s.regsKept t [R.LANE_PRBS x] ∧
        ∀ b < 32, (t.rd (R.LANE_PRBS x)).getLsbD b = (b == 27 || (s.rd (R.LANE_PRBS x)).getLsbD b)) ∧
      (¬ bad → ∃ t, exec (.lanePrbsWrite x v) s = .next t ∧ t = { s with regs := t.regs } ∧ s.regsKept t [R.LANE_PRBS x] ∧
        ∀ b < 32, (t.rd (R.LANE_PRBS x)).getLsbD b =
          if 28 ≤ b then v.getLsbD b else if b = 27 then (s.rd (R.LANE_PRBS x)).getLsbD 27 && !v.getLsbD 27 else (s.rd (R.LANE_PRBS x)).getLsbD b))

/-- LPI_RX_SLEEP of an E-lane port that is up with LPI_EN sets RX_LPI of its lanes, LPI_RX_WAKE clears it. TAP_LOS of a tap port under MODE 4 clears RX_SIG and shows LOS, with cause dark where its output is dark; a port that was up restarts at step 2, counts LINK_DOWNS and raises its link fault; under another mode it changes nothing. TAP_LASER_LOW with a power below LOW_THRESH, not shown before, sets LOW, turns off its eight tap transmitters with LOS_CAUSE 2, fires 254 and raises 401 + n. TAP_LASER_RESTORE above LOW_THRESH + 0.50 dB clears LOW and turns on those under MODE 4 that nothing else holds off. Otherwise both change nothing. TAP_TX_FAULT sets the flag and raises 405 + k; LANE_PLL_UNLOCK raises 376 + quad. (R291, R293, R294, R295, R298.) -/
def Obligations.TapsQuadsAndLowPowerIdle : Prop :=
∀ s : State,
    (∀ p : Fin 64,
      let lanes := (s.lanesOf p).map fun x => R.LANE_STATE x
      let on := s.flag (R.LANE_PORT_ACTIVE p) F.LANE_PORT_ACTIVE_LPI_EN = true ∧ s.portStep p = 9
      (¬ on → exec (.lpiRxSleep p) s = .next s) ∧
      (on → ∃ t, exec (.lpiRxSleep p) s = .next t ∧ t = { s with regs := t.regs } ∧ s.regsKept t lanes ∧ ∀ l ∈ lanes, t.fld l F.LANE_STATE_RX_LPI = 1) ∧
      (∃ t, exec (.lpiRxWake p) s = .next t ∧ t = { s with regs := t.regs } ∧ s.regsKept t lanes ∧ ∀ l ∈ lanes, t.fld l F.LANE_STATE_RX_LPI = 0)) ∧
    (∀ k : Fin 32,
      let p := 64 + k.val
      let o := R.LANE_PORT_STATUS p
      let dark := s.fld (R.FAB_OUT_STATE (224 + k)) F.FAB_OUT_STATE_STATE = 0
      (s.mode_ p ≠ 4 → exec (.tapLos k) s = .next s) ∧
      (s.mode_ p = 4 → ∃ t, exec (.tapLos k) s = .next t ∧ t.fld (R.LANE_TAP k) F.LANE_TAP_RX_SIG = 0 ∧ t.fld o F.LANE_PORT_STATUS_LOS = 1 ∧
        t.fld o F.LANE_PORT_STATUS_LOS_CAUSE = (if dark then 1 else 0) ∧
        (s.portStep p = 9 → t.portStep p = 2 ∧ t.fld o F.LANE_PORT_STATUS_LINK_DOWNS = min (s.fld o F.LANE_PORT_STATUS_LINK_DOWNS + 1) 255 ∧
          t.flt.raised = s.flt.raised ++ [⟨280 + p, p, 0, 0, 0, false, [], 0⟩]) ∧
        (s.portStep p ≠ 9 → t = { s with regs := t.regs })) ∧
      (∃ t, exec (.tapTxFault k) s = .next t ∧ t.fld (R.LANE_TAP k) F.LANE_TAP_TX_FAULT = 1 ∧ s.regsKept t [R.LANE_TAP k] ∧
        t = { s with regs := t.regs, flt := { s.flt with raised := s.flt.raised ++ [⟨405 + k, k, 0, 0, 0, false, [], 0⟩] } })) ∧
    (∀ (n : Fin 4) (w : BitVec 16),
      let thr := signedOf 16 (s.fld R.LANE_LASER_CFG F.LANE_LASER_CFG_LOW_THRESH)
      let low := s.flag (R.LANE_LASER n) F.LANE_LASER_LOW
      (thr ≤ w.toInt ∨ low = true → exec (.tapLaserLow n w) s = .next s) ∧
      (w.toInt < thr → low = false → ∃ t, exec (.tapLaserLow n w) s = .next t ∧ t.fld (R.LANE_LASER n) F.LANE_LASER_LOW = 1 ∧
        t.fld (R.LANE_LASER n) F.LANE_LASER_POWER = w.toNat ∧ t.flt.raised = s.flt.raised ++ [⟨401 + n, n, 0, 0, 0, false, [], 0⟩] ∧
        (s.eventsOn = true → t.evt.fired.map Fire.src = s.evt.fired.map Fire.src ++ [254]) ∧
        ∀ k < 32, k / 8 = n.val → t.fld (R.LANE_TAP k) F.LANE_TAP_TX_ON = 0 ∧ t.fld (R.LANE_PORT_STATUS (64 + k)) F.LANE_PORT_STATUS_LOS_CAUSE = 2) ∧
      (w.toInt ≤ thr + 50 ∨ low = false → exec (.tapLaserRestore n w) s = .next s) ∧
      (thr + 50 < w.toInt → low = true → ∃ t, exec (.tapLaserRestore n w) s = .next t ∧ t.fld (R.LANE_LASER n) F.LANE_LASER_LOW = 0 ∧
        t.fld (R.LANE_LASER n) F.LANE_LASER_POWER = w.toNat ∧ t = { s with regs := t.regs } ∧
        ∀ k < 32, k / 8 = n.val → t.fld (R.LANE_TAP k) F.LANE_TAP_TX_ON = bnat ((s.mode_ (64 + k) == 4 || s.acquiring) &&
          !s.lane.isoTap.getLsbD k && !s.lane.isoQuad.getLsbD (16 + k / 4) && !s.safeHeld))) ∧
    (∀ i : Fin 25, ∃ t, exec (.lanePllUnlock i) s = .next t ∧ t = { s with flt := { s.flt with raised := s.flt.raised ++ [⟨376 + i, i, 0, 0, 0, false, [], 0⟩] } })

/-- SOFT_RESET, FUNCTION_LEVEL_RESET, HOT_RESET, PCIE_LINK_LOSS, PERST_N_ASSERT and D3HOT_ENTRY each return every HIF register to its reset value but HIF_ATTN and HIF_CTRL.READY, empty every ring and leave all else; Bus Master Enable is kept by SOFT_RESET and PCIE_LINK_LOSS only; the link is down after PCIE_LINK_LOSS and PERST_N_ASSERT. HIF_ENABLE with EN 0 sets EN and makes a read of the doorbell array due, and HIF_NUDGE with EN 1 makes one due. SQ_ENABLE of a ring with EN 0 by a write with EN 1 sets EN, the CQ and SIZE_LOG2 written, HEAD 0, ERR clear, nothing fetched; CQ_ENABLE likewise sets EN and SIZE_LOG2, TAIL 0, PHASE 1, ERR clear, nothing held. BUS_MASTER_DISABLE leaves Bus Master Enable 0, BUS_MASTER_ENABLE leaves it 1 in D0; PERST_N_RELEASE leaves PERST_N high; PCIE_LINK_UP, where the link may train and is down, leaves it up. None of them changes a register outside those named. (R306, R325, R302, R324, R462.) -/
def Obligations.RingSetUp : Prop :=
∀ s : State,
    (∀ (c : Instr),
      c ∈ [Instr.softReset, .functionLevelReset, .hotReset, .pcieLinkLoss, .perstNAssert, .d3hotEntry] →
      ∃ t, exec c s = .next t ∧
        (∀ o, 0x10000 ≤ o → o < 0x20000 → o ≠ R.HIF_ATTN → o ≠ R.HIF_CTRL → t.rd o = resetOf o) ∧
        t.rd R.HIF_ATTN = s.rd R.HIF_ATTN ∧ t.fld R.HIF_CTRL F.HIF_CTRL_EN = 0 ∧
        t.fld R.HIF_CTRL F.HIF_CTRL_READY = s.fld R.HIF_CTRL F.HIF_CTRL_READY ∧
        (∀ o, o < 0x10000 ∨ 0x20000 ≤ o → t.rd o = s.rd o) ∧
        (∀ n, t.sqRing n = SqRing.zero ∧ t.cqRing n = CqRing.zero) ∧
        t.hif.bme = (if c = .softReset ∨ c = .pcieLinkLoss then s.hif.bme else false) ∧
        t.hif.linkUp = (if c = .pcieLinkLoss ∨ c = .perstNAssert then false else s.hif.linkUp) ∧
        t = { s with regs := t.regs, hif := t.hif }) ∧
    (s.fld R.HIF_CTRL F.HIF_CTRL_EN = 0 → ∃ t, exec .hifEnable s = .next t ∧ t.fld R.HIF_CTRL F.HIF_CTRL_EN = 1 ∧ t.hif.readDue = true ∧
      s.regsKept t [R.HIF_CTRL]) ∧
    (s.fld R.HIF_CTRL F.HIF_CTRL_EN = 1 → ∃ t, exec .hifNudge s = .next t ∧ t.hif.readDue = true ∧ t.regs = s.regs) ∧
    (∀ (n : Fin 32) (v : Word), s.fld (R.HIF_SQ_CFG n) F.HIF_SQ_CFG_EN = 0 → F.HIF_SQ_CFG_EN.get v = 1 →
      ∃ t, exec (.sqEnable n v) s = .next t ∧ t.fld (R.HIF_SQ_CFG n) F.HIF_SQ_CFG_EN = 1 ∧
        t.fld (R.HIF_SQ_CFG n) F.HIF_SQ_CFG_CQ = F.HIF_SQ_CFG_CQ.get v ∧
        t.fld (R.HIF_SQ_CFG n) F.HIF_SQ_CFG_SIZE_LOG2 = F.HIF_SQ_CFG_SIZE_LOG2.get v ∧
        t.fld (R.HIF_SQ_STATUS n) F.HIF_SQ_STATUS_HEAD = 0 ∧ t.fld (R.HIF_SQ_STATUS n) F.HIF_SQ_STATUS_ERR = 0 ∧
        (t.sqRing n).fetched = [] ∧ s.regsKept t [R.HIF_SQ_CFG n, R.HIF_SQ_STATUS n]) ∧
    (∀ (n : Fin 32) (v : Word), s.fld (R.HIF_CQ_CFG n) F.HIF_CQ_CFG_EN = 0 → F.HIF_CQ_CFG_EN.get v = 1 →
      ∃ t, exec (.cqEnable n v) s = .next t ∧ t.fld (R.HIF_CQ_CFG n) F.HIF_CQ_CFG_EN = 1 ∧
        t.fld (R.HIF_CQ_CFG n) F.HIF_CQ_CFG_SIZE_LOG2 = F.HIF_CQ_CFG_SIZE_LOG2.get v ∧
        t.fld (R.HIF_CQ_STATUS n) F.HIF_CQ_STATUS_TAIL = 0 ∧ t.fld (R.HIF_CQ_STATUS n) F.HIF_CQ_STATUS_PHASE = 1 ∧
        t.fld (R.HIF_CQ_STATUS n) F.HIF_CQ_STATUS_ERR = 0 ∧ (t.cqRing n).held = [] ∧
        s.regsKept t [R.HIF_CQ_CFG n, R.HIF_CQ_STATUS n, R.HIF_CQ_FULL]) ∧
    (∃ t, exec .busMasterDisable s = .next t ∧ t.hif.bme = false ∧ t.regs = s.regs) ∧
    (∃ t, exec .busMasterEnable s = .next t ∧ t.hif.bme = true ∧ t.hif.d3hot = false ∧ t.regs = s.regs) ∧
    (∃ t, exec .perstNRelease s = .next t ∧ t.hif.perstLow = false ∧ t.regs = s.regs) ∧
    (s.linkMayTrain = true → s.hif.linkUp = false → ∃ t, exec .pcieLinkUp s = .next t ∧ t.hif.linkUp = true ∧
      ∀ o, o < 0x10000 ∨ 0x20000 ≤ o → t.rd o = s.rd o)

/-- A NOP that its ring offers ends with RESULT 0 and bytes 32 to 47 of its descriptor as the words of the newest completion held; HEAD has passed the descriptor, nothing is in execution there, and no other register, unit or mode changes. While the ring engine runs: DOORBELL_POLL with no descriptor held anywhere learns, for every enabled ring without ERR whose 16-bit tail (or head) in the array is below the ring's size, that tail (or head), and no read is due then; DESCRIPTOR_FETCH on a ring that is up, with fewer than 16 descriptors held and one not yet fetched, holds d behind the others where the ring's next one has a row or may not start; COMPLETION_WRITE on an enabled ring without ERR, with space, writes the 32 bytes of the oldest completion at the ring's base plus 32 times TAIL, holds it no more and advances TAIL modulo the size. BEACON_WRITE, while the beacon is enabled, not stopped and due and Bus Master Enable lets it, writes the 64 bytes of the beacon at HIF_BEACON_BASE with the next sequence number, and restarts the period. (R305, R306, R307, R308, R311, R313, R321, R322.) -/
def Obligations.RingTraffic : Prop :=
∀ s : State,
    (∀ (sq : Fin 32) (d : Desc), s.offers sq d false true = true → d.opcode = 0 → s.cqUp (s.boundCq sq) = true →
      ∃ t, exec (.nop sq d) s = .next t ∧ t.lastDone sq = some (sq.val, d.tag, 0, toWords 4 (d.bytes 32 16)) ∧
        (t.sqRing sq).exec = none ∧
        t.fld (R.HIF_SQ_STATUS sq) F.HIF_SQ_STATUS_HEAD = (s.fld (R.HIF_SQ_STATUS sq) F.HIF_SQ_STATUS_HEAD + 1) % s.sqSize sq ∧
        s.regsKept t [R.HIF_SQ_STATUS sq, R.HIF_CQ_STATUS (s.boundCq sq), R.HIF_CQ_FULL] ∧
        t = { s with regs := t.regs, hif := t.hif }) ∧
    (∀ arr : BitVec 2048, s.ringsOn = true → (∀ n, (s.sqRing n).fetched = []) →
      (∀ n : Fin 32, arr.toNat / 2 ^ (32 * n.val) % 65536 < s.sqSize n ∧ arr.toNat / 2 ^ (32 * (32 + n.val)) % 65536 < s.cqSize n) →
      ∃ t, exec (.doorbellPoll arr) s = .next t ∧ t.hif.readDue = false ∧ t.hif.lastRead = s.now ∧
        ∀ n : Fin 32,
          (s.flag (R.HIF_SQ_CFG n) F.HIF_SQ_CFG_EN = true → s.flag (R.HIF_SQ_STATUS n) F.HIF_SQ_STATUS_ERR = false →
            (t.sqRing n).tail = arr.toNat / 2 ^ (32 * n.val) % 65536) ∧
          (s.cqUp n = true → (t.cqRing n).head = arr.toNat / 2 ^ (32 * (32 + n.val)) % 65536)) ∧
    (∀ (n : Fin 32) (d : Desc), s.ringsOn = true → s.sqUp n = true → (s.sqRing n).fetched.length < 16 → 0 < s.unfetched n →
      (∀ e ∈ ((s.sqRing n).fetched ++ [d]).head?, s.rowless e = none ∨ s.canStart n = false) →
      ∃ t, exec (.descriptorFetch n d) s = .next t ∧ (t.sqRing n).fetched = (s.sqRing n).fetched ++ [d] ∧ t.regs = s.regs) ∧
    (∀ (c : Fin 32) (k : Completion) (rest : List Completion), (s.cqRing c).held = k :: rest → s.ringsOn = true → s.cqUp c = true →
      s.cqSpace c = true → (s.sqRing k.sq).fetched = [] →
      ∃ t, exec (.completionWrite c) s = .next t ∧
        t.hif.posted = s.hif.posted ++
          [⟨s.baseAt (R.HIF_CQ_BASE_LO c) + 32 * s.fld (R.HIF_CQ_STATUS c) F.HIF_CQ_STATUS_TAIL, s.completionBytes c k⟩] ∧
        (t.cqRing c).held = rest ∧
        t.fld (R.HIF_CQ_STATUS c) F.HIF_CQ_STATUS_TAIL = (s.fld (R.HIF_CQ_STATUS c) F.HIF_CQ_STATUS_TAIL + 1) % s.cqSize c ∧
        s.regsKept t [R.HIF_CQ_STATUS c, R.HIF_CQ_FULL]) ∧
    (s.flag R.HIF_BEACON_CTRL F.HIF_BEACON_CTRL_EN = true → s.busMaster = true → s.hif.beaconStopped = false →
      s.hif.beaconDue = true → s.hif.beaconSeq < 0xFFFFFFFF →
      ∃ t, exec .beaconWrite s = .next t ∧
        t.hif.posted = s.hif.posted ++ [⟨s.baseAt R.HIF_BEACON_BASE_LO, s.beaconBytes (s.hif.beaconSeq + 1)⟩] ∧
        t.hif.beaconSeq = s.hif.beaconSeq + 1 ∧ t.hif.beaconLast = s.now ∧ t.hif.beaconDue = false ∧ t.regs = s.regs)

/-- HOST_MEMORY_ERROR of a descriptor read or of a tail out of range sets ERR of an enabled submission ring, of a completion write or a head out of range sets ERR of an enabled completion ring, of the beacon stops the beacon; each records its SOURCE (2, 6, 4, 6, 5), counts COUNT, which saturates, and the class RING (9) is pending. ATTN_ACK with bit 8 only clears class 8 where it is pending and leaves every other class pending or not as it was. (R309, R320, R321.) -/
def Obligations.HostMemoryErrors : Prop :=
∀ (s : State) (n : Fin 32),
    let counted := fun (t : State) => t.fld R.HIF_ERR F.HIF_ERR_COUNT = min (s.fld R.HIF_ERR F.HIF_ERR_COUNT + 1) 65535
    (s.flag (R.HIF_SQ_CFG n) F.HIF_SQ_CFG_EN = true → ∀ e ∈ [(HostErr.desc n, 2), (.rangeSq n, 6)],
      ∃ t, exec (.hostMemoryError e.1) s = .next t ∧ counted t ∧ t.fld (R.HIF_SQ_STATUS n) F.HIF_SQ_STATUS_ERR = 1 ∧ (t.sqRing n).fetched = [] ∧
        t.fld R.HIF_ERR F.HIF_ERR_SOURCE = e.2 ∧ t.fld R.HIF_ERR F.HIF_ERR_RING = n.val ∧
        bitOf (t.fld R.HIF_ATTN F.HIF_ATTN_PENDING) 9 = true ∧
        s.regsKept t [R.HIF_SQ_STATUS n, R.HIF_ERR, R.HIF_ATTN]) ∧
    (s.flag (R.HIF_CQ_CFG n) F.HIF_CQ_CFG_EN = true → ∀ e ∈ [(HostErr.completion n, 4), (.rangeCq n, 6)],
      ∃ t, exec (.hostMemoryError e.1) s = .next t ∧ counted t ∧ t.fld (R.HIF_CQ_STATUS n) F.HIF_CQ_STATUS_ERR = 1 ∧ (t.cqRing n).held = [] ∧
        t.fld R.HIF_ERR F.HIF_ERR_SOURCE = e.2 ∧ t.fld R.HIF_ERR F.HIF_ERR_RING = n.val ∧
        bitOf (t.fld R.HIF_ATTN F.HIF_ATTN_PENDING) 9 = true ∧
        s.regsKept t [R.HIF_CQ_STATUS n, R.HIF_CQ_FULL, R.HIF_ERR, R.HIF_ATTN]) ∧
    (∃ t, exec (.hostMemoryError .beacon) s = .next t ∧ counted t ∧ t.hif.beaconStopped = true ∧ t.fld R.HIF_ERR F.HIF_ERR_SOURCE = 5 ∧
      bitOf (t.fld R.HIF_ATTN F.HIF_ATTN_PENDING) 9 = true ∧ s.regsKept t [R.HIF_ERR, R.HIF_ATTN]) ∧
    (∃ t, exec (.attnAck 0x100) s = .next t ∧
      (∀ k < 16, bitOf (t.fld R.HIF_ATTN F.HIF_ATTN_PENDING) k = (k != 8 && bitOf (s.fld R.HIF_ATTN F.HIF_ATTN_PENDING) k)) ∧
      s.regsKept t [R.HIF_ATTN])

/-- With Bus Master Enable 0: a read of the doorbell array, a descriptor fetch, a completion write and a beacon write leave the state as it was; every descriptor that a ring could start (its opcode rows of SHADOW_WRITE, SOLVE, RACK, TABLE_OP, COUNTER_DUMP, CAL_RUN, CAL_SAVE, CAL_RESTORE, HARVEST_ARM, HARVEST_READ, LOG_READ, IMAGE_WRITE, IMAGE_COMMIT, MODE_SET, PAIR_CMD, FAULT_ACK and NOP) leaves the state as it was, so completions that are due stay held. BUS_MASTER_DISABLE changes Bus Master Enable and nothing else. D3HOT_ENTRY leaves what FUNCTION_LEVEL_RESET leaves, but that the function is in D3hot. (R302.) -/
def Obligations.NothingCrossesWithoutBusMaster : Prop :=
(∀ s : State, s.hif.bme = false →
    (∀ arr n d c, exec (.doorbellPoll arr) s = .next s ∧ exec (.descriptorFetch n d) s = .next s ∧
      exec (.completionWrite c) s = .next s ∧ exec .beaconWrite s = .next s) ∧
    (∀ (sq : Fin 32) (d : Desc) (buf : Buf) (b : Bool), ∀ c ∈ [Instr.nop sq d, .shadowWriteFabMap sq d buf, .shadowWriteFabCells sq d buf,
        .shadowWriteLoopCfg sq d buf, .shadowWriteRackSeq sq d buf, .shadowWritePipeGraph sq d buf, .shadowWritePipeTmpl sq d buf,
        .shadowWritePipePort sq d buf, .shadowWritePipeClass sq d buf, .shadowWriteSch sq d buf, .shadowWriteLanePort sq d buf,
        .pktSeal sq d, .timOffset sq d, .solve sq d, .checkOnly sq d, .rack sq d, .rackWithdraw sq d, .fdbInsert sq d,
        .fdbRemove sq d, .fdbRead sq d buf, .fdbFlush sq d, .rehash sq d, .fdbDump sq d buf, .lpmInsert sq d, .lpmRemove sq d,
        .streamWrite sq d buf, .counterDump sq d buf, .calRun sq d b, .calRunAbort sq d, .calSave sq d buf, .calRestore sq d buf,
        .harvestArm sq d, .harvestStop sq d, .harvestForce sq d, .harvestRead sq d buf b, .logRead sq d buf, .imageWrite sq d buf,
        .imageCommit sq d, .imageConfirm sq d, .imageSelect sq d, .modeSetLimp sq d, .modeSetServe sq d, .modeSetDormant sq d,
        .modeSetWarmStart sq d, .modeSetColdStart sq d, .pairExchange sq d b, .pairResync sq d, .faultAck sq d,
        .faultRelease sq d b, .faultAckUpTo sq d], exec c s = .next s)) ∧
  (∀ s : State, exec .busMasterDisable s = .next { s with hif := { s.hif with bme := false } }) ∧
  (∀ s t u : State, exec .functionLevelReset s = .next t → exec .d3hotEntry s = .next u → u = { t with hif := { t.hif with d3hot := true } })

/-- A SHADOW_WRITE that its ring offers, that R319 does not refuse and that no rack of its domain holds back, for the targets FAB_MAP (with no solve running), LOOP_CFG, PIPE_GRAPH, PIPE_TMPL, PIPE_PORT and LANE_PORT: word k of the data goes to word FIRST + k of the target's space, every other word of the space stays, and the request ends with result 0. Reserved bits are 0; a LOOP_CFG coefficient (words 4 to 46 of an element) is kept sign-extended from 24 bits, and words 1 and 2 of an element that is no trim heater stay. The active map stays; SOLVED is cleared by FAB_MAP and SEALED by a packet target. (R317, R318, R54, R121, R138, R185, R189, R206, R283, R59.) -/
def Obligations.ShadowWriteRegisterWords : Prop :=
∀ (s : State) (sq : Fin 32) (d : Desc) (buf : Buf), s.offers sq d d.needsBuf buf.ok = true → d.opcode = 1 → s.shadowRefusal d = none →
    s.racking d.domain = false → (d.target ≤ 2 → s.fab.solving = none) → s.cqUp (s.boundCq sq) = true →
    ∀ e ∈ ([(.shadowWriteFabMap sq d buf, 1, fun n => R.FAB_SHADOW_MAP n, fun _ _ v => v &&& 0xF0FF00FF#32),
        (.shadowWriteLoopCfg sq d buf, 3, fun n => R.LOOP_SHADOW_CFG (n / 48) (n % 48), fun n old v =>
          if (n % 48 = 1 ∨ n % 48 = 2) ∧ elemKind (n / 48) ≠ .heater then old
          else if 4 ≤ n % 48 ∧ n % 48 ≤ 46 then (v.truncate 24).signExtend 32
          else if n % 48 = 0 then v &&& 0xFFFF03FF#32 else if n % 48 = 1 ∨ n % 48 = 47 then v &&& 0x3FFF3FFF#32 else v),
        (.shadowWritePipeGraph sq d buf, 5, fun n => R.PIPE_GRAPH_SHADOW (n / 20) (n % 20), fun n _ v => v &&& BitVec.ofNat 32 (graphMask (n % 20))),
        (.shadowWritePipeTmpl sq d buf, 6, fun n => R.PIPE_TMPL_SHADOW (n / 16) (n % 16), fun _ _ v => v &&& 0x9F00000F#32),
        (.shadowWritePipePort sq d buf, 7, fun n => R.PIPE_PORT_SHADOW n, fun _ _ v => v),
        (.shadowWriteLanePort sq d buf, 10, fun n => R.LANE_PORT_SHADOW n, fun _ _ v => v &&& 0xF800FFFF#32)] :
        List (Instr × Nat × (Nat → Nat) × (Nat → Word → Word → Word))), d.target = e.2.1 →
      ∃ t, exec e.1 s = .next t ∧
        (∀ n < d.space, t.rd (e.2.2.1 n) = if d.first ≤ n ∧ n < d.first + d.count then
            e.2.2.2 n (s.rd (e.2.2.1 n)) (nth 0 (d.data buf) (n - d.first)) else s.rd (e.2.2.1 n)) ∧
        (∀ k < 256, t.rd (R.FAB_ACTIVE_MAP k) = s.rd (R.FAB_ACTIVE_MAP k)) ∧
        (d.target = 1 → t.fld R.FAB_SOLVE_STATUS F.FAB_SOLVE_STATUS_SOLVED = 0) ∧
        (5 ≤ d.target → t.fld R.FAB_PKT_SHADOW F.FAB_PKT_SHADOW_SEALED = 0) ∧
        t.lastDone sq = some (sq.val, d.tag, 0, [0, 0, 0, 0])

/-- Under the same conditions, for FAB_CELLS (with no solve running), RACK_SEQ, PIPE_CLASS and SCH: word k of the data becomes word FIRST + k: 32 cell states of the shadow image; a segment or sample whole, a kind's bits 31 and 11:0; the entry word in every pipeline of the mask; the record word of the scheduler table with its reserved bits 0. Every other bit, word and pipeline of the shadow stays, the active side of each stays, and the request ends with result 0. (R317, R318, R54, R158, R226, R260, R59.) -/
def Obligations.ShadowWriteStores : Prop :=
∀ (s : State) (sq : Fin 32) (d : Desc) (buf : Buf), s.offers sq d d.needsBuf buf.ok = true → d.opcode = 1 → s.shadowRefusal d = none →
    s.racking d.domain = false → (d.target ≤ 2 → s.fab.solving = none) → s.cqUp (s.boundCq sq) = true →
    let inside := fun n => decide (d.first ≤ n ∧ n < d.first + d.count)
    let w := fun n => nth (0 : Word) (d.data buf) (n - d.first)
    (d.target = 2 → ∃ t, exec (.shadowWriteFabCells sq d buf) s = .next t ∧ t.fab.active = s.fab.active ∧
      (∀ i < 4352, t.fab.shadow.getLsbD i = if inside (i / 32) then (w (i / 32)).getLsbD (i % 32) else s.fab.shadow.getLsbD i) ∧
      t.fld R.FAB_SOLVE_STATUS F.FAB_SOLVE_STATUS_SOLVED = 0 ∧ t.lastDone sq = some (sq.val, d.tag, 0, [0, 0, 0, 0])) ∧
    (d.target = 4 → ∃ t, exec (.shadowWriteRackSeq sq d buf) s = .next t ∧
      (∀ n < 12294, Tab.get (fun _ => (0 : Word)) t.seq.rackShadow n = if inside n then
        (if 12288 ≤ n then w n &&& 0x80000FFF#32 else w n) else Tab.get (fun _ => (0 : Word)) s.seq.rackShadow n) ∧
      t.seq = { s.seq with rackShadow := t.seq.rackShadow } ∧ t.lastDone sq = some (sq.val, d.tag, 0, [0, 0, 0, 0])) ∧
    (d.target = 8 → ∃ t, exec (.shadowWritePipeClass sq d buf) s = .next t ∧
      (∀ p < 4, ∀ n < 303104, Tab.get (fun _ => (0 : Word)) t.pk.clsShadow (clsSpan * p + n) =
        if bitOf d.pipeMask p && inside n then w n else Tab.get (fun _ => (0 : Word)) s.pk.clsShadow (clsSpan * p + n)) ∧
      t.pk = { s.pk with clsShadow := t.pk.clsShadow } ∧ t.fld R.FAB_PKT_SHADOW F.FAB_PKT_SHADOW_SEALED = 0 ∧
      t.lastDone sq = some (sq.val, d.tag, 0, [0, 0, 0, 0])) ∧
    (d.target = 9 → ∃ t, exec (.shadowWriteSch sq d buf) s = .next t ∧
      (∀ n < d.space, Tab.get schReset t.pk.schShadow (schBase d.table + n) =
        if inside n then w n &&& BitVec.ofNat 32 (schMask d.table (n % schWidth d.table)) else Tab.get schReset s.pk.schShadow (schBase d.table + n)) ∧
      t.pk = { s.pk with schShadow := t.pk.schShadow } ∧ t.fld R.FAB_PKT_SHADOW F.FAB_PKT_SHADOW_SEALED = 0 ∧
      t.lastDone sq = some (sq.val, d.tag, 0, [0, 0, 0, 0]))

/-- A refused SHADOW_WRITE of any target ends with the first that applies of 0x0602 (no words, or words beyond the space), 0x0603 (more than 8 words inline, or a buffer too short) and 0x0604 (a target of a domain, in Shadow or Dormant or before the device admits it), and writes nothing outside the rings. One whose domain has a rack in progress waits behind it, writing nothing. A FAB_MAP write ends a running solve with 0x0105. PKT_SEAL sets SEALED. TIM_OFFSET on a time base whose servo is off is counted in IGNORED; with the servo on, stepping off, its source the host and no Graft in charge, TIM_SERVO_LAST shows the offset of bytes 32 to 39 in ns, rounded and saturated, and the servo is locked (STATE 1). (R319, R318, R54, R58, R59, R66, R267.) -/
def Obligations.ShadowWriteHeldBack : Prop :=
∀ (s : State) (sq : Fin 32) (d : Desc) (buf : Buf), d.opcode = 1 → s.cqUp (s.boundCq sq) = true →
    (s.offers sq d d.needsBuf buf.ok = true →
      ∀ e ∈ [(Instr.shadowWriteFabMap sq d buf, 1), (.shadowWriteFabCells sq d buf, 2), (.shadowWriteLoopCfg sq d buf, 3),
        (.shadowWriteRackSeq sq d buf, 4), (.shadowWritePipeGraph sq d buf, 5), (.shadowWritePipeTmpl sq d buf, 6),
        (.shadowWritePipePort sq d buf, 7), (.shadowWritePipeClass sq d buf, 8), (.shadowWriteSch sq d buf, 9),
        (.shadowWriteLanePort sq d buf, 10)], d.target = e.2 →
      (∀ c, (if d.count = 0 ∨ d.space < d.first + d.count ∨ (d.target = 9 ∧ 6 < d.table) ∨ (d.target = 8 ∧ d.pipeMask = 0) then some 0x0602
          else if (d.inline_ = true ∧ 8 < d.count) ∨ (d.inline_ = false ∧ d.bufLen < 4 * d.count) then some 0x0603
          else if s.mode = .shadow ∨ s.mode = .dormant ∨ s.admitted 8 = false then some 0x0604 else none) = some c →
        ∃ t, exec e.1 s = .next t ∧ t.lastDone sq = some (sq.val, d.tag, c, [0, 0, 0, 0]) ∧
          s.regsKept t [R.HIF_SQ_STATUS sq, R.HIF_CQ_STATUS (s.boundCq sq), R.HIF_CQ_FULL] ∧ t = { s with regs := t.regs, hif := t.hif }) ∧
      (s.shadowRefusal d = none → s.racking d.domain = true →
        ∃ t, exec e.1 s = .next t ∧ t.rack = { s.rack with waiting := s.rack.waiting ++ [.shadow (s.nextReq sq) d buf] } ∧
          s.regsKept t [R.HIF_SQ_STATUS sq] ∧ t = { s with regs := t.regs, hif := t.hif, rack := t.rack })) ∧
    (s.offers sq d d.needsBuf buf.ok = true → d.target = 1 → s.shadowRefusal d = none → s.racking 1 = false → s.fab.solving ≠ none →
      s.fab.solveQ = [] → ∃ t, exec (.shadowWriteFabMap sq d buf) s = .next t ∧ t.fab.solving = none ∧
        t.fld R.FAB_SOLVE_STATUS F.FAB_SOLVE_STATUS_LAST_RESULT = 0x0105) ∧
    (s.offers sq d false true = true → d.target = 11 → s.shadowRefusal d = none → s.racking 2 = false →
      ∃ t, exec (.pktSeal sq d) s = .next t ∧ t.fld R.FAB_PKT_SHADOW F.FAB_PKT_SHADOW_SEALED = 1 ∧
        t.lastDone sq = some (sq.val, d.tag, 0, [0, 0, 0, 0])) ∧
    (s.offers sq d false true = true → d.target = 12 → s.shadowRefusal d = none →
      (s.flag (R.TIM_SERVO_CFG d.first) F.TIM_SERVO_CFG_EN = false →
        ∃ t, exec (.timOffset sq d) s = .next t ∧
          t.fld (R.TIM_SERVO_STATUS d.first) F.TIM_SERVO_STATUS_IGNORED =
            min (s.fld (R.TIM_SERVO_STATUS d.first) F.TIM_SERVO_STATUS_IGNORED + 1) (2 ^ F.TIM_SERVO_STATUS_IGNORED.w - 1) ∧
          t.tim = s.tim ∧ t.lastDone sq = some (sq.val, d.tag, 0, [0, 0, 0, 0])) ∧
      (s.flag (R.TIM_SERVO_CFG d.first) F.TIM_SERVO_CFG_EN = true → s.flag (R.TIM_SERVO_CFG d.first) F.TIM_SERVO_CFG_SRC = false →
        s.tbFollows d.first = false → s.flag (R.TIM_SERVO_CFG d.first) F.TIM_SERVO_CFG_STEP_EN = false →
        ∃ t, exec (.timOffset sq d) s = .next t ∧
          t.rd (R.TIM_SERVO_LAST d.first) = BitVec.ofInt 32 (clampInt (1 - 2 ^ 31) (2 ^ 31 - 1) (roundAway (signedOf 64 (d.le 32 8)) 16)) ∧
          t.fld (R.TIM_SERVO_STATUS d.first) F.TIM_SERVO_STATUS_STATE = 1 ∧ t.lastDone sq = some (sq.val, d.tag, 0, [0, 0, 0, 0])))

/-- EVI_EDGE of the selected polarity, stable and past HOLDOFF, makes a source event of its pin after 8 ns plus FILTER cycles; unstable or held off it counts IGNORED. EVT_SW_PULSE fires 244 + k for each bit. EVENT_ACTIVATION with one event waiting: no channel takes it, nothing more happens. One enabled channel c with one valid task takes it: it counts CH_COUNT, the task counts ACTIVATIONS; event counter k increments, EVOk rises for WIDTH cycles or toggles, the external fault raises 450 with its channel. With c in its path, or 8 channels, it is cut: LOOP_CUT or HOP_CUT, DISCARDS counts, 449 is raised, no task is reached. A secure task of a channel that is not secure is refused, KIND 1, and not activated. EVO_PULSE_END drops the pin. (R354, R355, R356, R358, R359, R360, R361, R363.) -/
def Obligations.EventsThroughTheFabric : Prop :=
∀ s : State,
    (∀ (n : Fin 16) (rising stable : Bool) (ns : Fin 1000),
      let te := max s.now (s.tick + ns.val)
      let e := s.fld (R.EVT_PIN_CFG n) F.EVT_PIN_CFG_EDGE
      let held := ∃ x, Tab.get (fun _ => none) s.evt.lastEdge n.val = some x ∧ te < x + 1000 * s.fld (R.EVT_PIN_CFG n) F.EVT_PIN_CFG_HOLDOFF
      s.eventsOn = true → (e = 2 ∨ (e = 0 ∧ rising = true) ∨ (e = 1 ∧ rising = false)) →
      ∃ t, exec (.eviEdge n rising stable ns) s = .next t ∧ s.regsKept t [R.EVT_PIN_STAT n] ∧
        (stable = true → t.fld (R.EVT_PIN_STAT n) F.EVT_PIN_STAT_LEVEL = bnat rising) ∧
        (stable = false ∨ held → t.evt = s.evt ∧ t.fld (R.EVT_PIN_STAT n) F.EVT_PIN_STAT_IGNORED =
          min (s.fld (R.EVT_PIN_STAT n) F.EVT_PIN_STAT_IGNORED + 1) 65535) ∧
        (stable = true → ¬ held → t.evt.fired = s.evt.fired ++ [⟨n, [], te + 8 + 4 * s.fld (R.EVT_PIN_CFG n) F.EVT_PIN_CFG_FILTER, some te⟩] ∧
          Tab.get (fun _ => none) t.evt.lastEdge n.val = some te)) ∧
    (s.eventsOn = true → ∀ v : BitVec 8, ∃ t, exec (.evtSwPulse v) s = .next t ∧ t = { s with evt := { s.evt with fired := t.evt.fired } } ∧
      t.evt.fired.map Fire.src = s.evt.fired.map Fire.src ++ ((List.range 8).filter fun k => v.getLsbD k).map fun k => 244 + k) ∧
    (∀ f : Fire, s.evt.fired = [f] → f.src < 255 →
      ((∀ c < 64, s.flag (R.EVT_CH_CFG c) F.EVT_CH_CFG_ENABLE = false ∨ s.fld (R.EVT_CH_CFG c) F.EVT_CH_CFG_SOURCE ≠ f.src) →
        exec .eventActivation s = .next { s with evt := { s.evt with fired := [] } }) ∧
      (∀ c < 64, s.flag (R.EVT_CH_CFG c) F.EVT_CH_CFG_ENABLE = true → s.fld (R.EVT_CH_CFG c) F.EVT_CH_CFG_SOURCE = f.src →
        (∀ b < 64, b ≠ c → s.flag (R.EVT_CH_CFG b) F.EVT_CH_CFG_ENABLE = false ∨ s.fld (R.EVT_CH_CFG b) F.EVT_CH_CFG_SOURCE ≠ f.src) →
        (c ∈ f.path ∨ 8 ≤ f.path.length → ∃ t, exec .eventActivation s = .next t ∧ t.evt.fired = [] ∧
          t.fld R.EVT_LOOP_STATUS (if c ∈ f.path then F.EVT_LOOP_STATUS_LOOP_CUT else F.EVT_LOOP_STATUS_HOP_CUT) = 1 ∧
          t.fld R.EVT_LOOP_STATUS F.EVT_LOOP_STATUS_LAST = c ∧
          t.fld R.EVT_LOOP_STATUS F.EVT_LOOP_STATUS_DISCARDS = min (s.fld R.EVT_LOOP_STATUS F.EVT_LOOP_STATUS_DISCARDS + 1) 65535 ∧
          t.flt.raised = s.flt.raised ++ [⟨449, 0, 0, 0, 0, false, [], 0⟩] ∧ s.regsKept t [R.EVT_LOOP_STATUS]) ∧
        (c ∉ f.path → f.path.length < 8 → ∀ k : Nat, (s.rd (R.EVT_CH_TASKS c)).toNat &&& 0x808080FF = 128 + k → k < 128 →
          let passed := fun (t : State) => t.fld (R.EVT_CH_COUNT c) F.EVT_CH_COUNT_VAL = min (s.fld (R.EVT_CH_COUNT c) F.EVT_CH_COUNT_VAL + 1) (2 ^ 32 - 1) ∧
            t.fld (R.EVT_TASK_STAT k) F.EVT_TASK_STAT_ACTIVATIONS = min (s.fld (R.EVT_TASK_STAT k) F.EVT_TASK_STAT_ACTIVATIONS + 1) 65535 ∧
            t.fld (R.EVT_TASK_STAT k) F.EVT_TASK_STAT_MERGED = s.fld (R.EVT_TASK_STAT k) F.EVT_TASK_STAT_MERGED ∧ t.evt.fired = []
          (∀ i < 16, k = 96 + i → ∃ t, exec .eventActivation s = .next t ∧ passed t ∧
            t.rd (R.EVT_CNT i) = s.rd (R.EVT_CNT i) + 1 ∧ s.regsKept t [R.EVT_CH_COUNT c, R.EVT_TASK_STAT k, R.EVT_CNT i]) ∧
          (∀ i < 8, k = 84 + i → ∃ t, exec .eventActivation s = .next t ∧ passed t ∧
            s.regsKept t [R.EVT_CH_COUNT c, R.EVT_TASK_STAT k, R.EVT_EVO_CFG i] ∧
            (if s.fld (R.EVT_EVO_CFG i) F.EVT_EVO_CFG_MODE = 1 then
              t.fld (R.EVT_EVO_CFG i) F.EVT_EVO_CFG_LEVEL = 1 - s.fld (R.EVT_EVO_CFG i) F.EVT_EVO_CFG_LEVEL ∧ t.evt.evoEnd = s.evt.evoEnd
            else t.fld (R.EVT_EVO_CFG i) F.EVT_EVO_CFG_LEVEL = 1 ∧
              Tab.get (fun _ => none) t.evt.evoEnd i = some (t.now + 4 * max 1 (s.fld (R.EVT_EVO_CFG i) F.EVT_EVO_CFG_WIDTH)))) ∧
          (k = 2 → s.fld (R.EVT_CH_OWN c) F.EVT_CH_OWN_SECURE = 1 → ∃ t, exec .eventActivation s = .next t ∧ passed t ∧
            t.flt.raised = s.flt.raised ++ [⟨450, 0, c, 0, 0, false, (c :: f.path).eraseDups, 0⟩]) ∧
          (k = 1 ∨ k = 2 → s.fld (R.EVT_CH_OWN c) F.EVT_CH_OWN_SECURE = 0 → ∃ t, exec .eventActivation s = .next t ∧ t.evt.fired = [] ∧
            t.fld R.EVT_REFUSED F.EVT_REFUSED_VALID = 1 ∧ t.fld R.EVT_REFUSED F.EVT_REFUSED_KIND = 1 ∧ t.fld R.EVT_REFUSED F.EVT_REFUSED_CHANNEL = c ∧
            t.fld R.EVT_REFUSED F.EVT_REFUSED_OWNER = s.fld (R.EVT_CH_OWN c) F.EVT_CH_OWN_OWNER ∧
            t.fld R.EVT_REFUSED F.EVT_REFUSED_COUNT = min (s.fld R.EVT_REFUSED F.EVT_REFUSED_COUNT + 1) 65535 ∧
            s.regsKept t [R.EVT_REFUSED, R.EVT_CH_COUNT c] ∧ t.flt = s.flt ∧ t.start = s.start)))) ∧
    (∀ (k : Fin 8) (e : Nat), Tab.get (fun _ => none) s.evt.evoEnd k.val = some e → ∃ t, exec (.evoPulseEnd k) s = .next t ∧ t.now = max s.now e ∧
      t.fld (R.EVT_EVO_CFG k) F.EVT_EVO_CFG_LEVEL = 0 ∧ s.regsKept t [R.EVT_EVO_CFG k] ∧ Tab.get (fun _ => none) t.evt.evoEnd k.val = none)

/-- A write of EVT_CH_OWN_c by an owner other than SAFETY: with a SECURE bit that differs from the one held it is refused whole and counted in DIRECT; naming itself on an unclaimed channel that is not secure, it claims it; by the owner with CLAIMED 0, it releases it, which disables the channel and clears its tasks; any other is refused. A write of EVT_CH_CFG_c or EVT_CH_TASKS_c is taken from SAFETY, or from the owner of a claimed channel that is not secure; of a secure one, or by another owner, it is refused. A refusal changes no register but EVT_REFUSED (KIND 0, the writer, the channel, COUNT) and DIRECT. SAFETY's writes of the owner register are taken, and one that clears CLAIMED releases. (R362, R14, R398.) -/
def Obligations.ChannelOwners : Prop :=
∀ (s : State) (o : Owner) (c : Fin 64) (v : Word),
    let r := R.EVT_CH_OWN c
    let claimed := s.fld r F.EVT_CH_OWN_CLAIMED
    let secure := s.fld r F.EVT_CH_OWN_SECURE
    let refused := fun (t : State) => t = { s with regs := t.regs } ∧ s.regsKept t [R.EVT_REFUSED, R.FLT_LK_STATUS] ∧
      t.fld R.EVT_REFUSED F.EVT_REFUSED_VALID = 1 ∧ t.fld R.EVT_REFUSED F.EVT_REFUSED_KIND = 0 ∧
      t.fld R.EVT_REFUSED F.EVT_REFUSED_CHANNEL = c.val ∧ t.fld R.EVT_REFUSED F.EVT_REFUSED_OWNER = o.code ∧
      t.fld R.EVT_REFUSED F.EVT_REFUSED_COUNT = min (s.fld R.EVT_REFUSED F.EVT_REFUSED_COUNT + 1) 65535
    let direct := fun (t : State) (n : Nat) => t.fld R.FLT_LK_STATUS F.FLT_LK_STATUS_DIRECT =
      min (s.fld R.FLT_LK_STATUS F.FLT_LK_STATUS_DIRECT + n) (2 ^ F.FLT_LK_STATUS_DIRECT.w - 1)
    let released := fun (t : State) => t.fld (R.EVT_CH_CFG c) F.EVT_CH_CFG_ENABLE = 0 ∧ t.rd (R.EVT_CH_TASKS c) = 0
    let nc := F.EVT_CH_OWN_CLAIMED.get v
    let claims := claimed = 0 ∧ secure = 0 ∧ nc = 1 ∧ F.EVT_CH_OWN_OWNER.get v = o.code
    let frees := claimed = 1 ∧ s.fld r F.EVT_CH_OWN_OWNER = o.code ∧ nc = 0
    (o ≠ .safety →
      (F.EVT_CH_OWN_SECURE.get v ≠ secure → ∃ t, exec (.evtChOwnWrite o c v) s = .next t ∧ refused t ∧ direct t 1) ∧
      (F.EVT_CH_OWN_SECURE.get v = secure →
        (claims → ∃ t, exec (.evtChOwnWrite o c v) s = .next t ∧ t.fld r F.EVT_CH_OWN_CLAIMED = 1 ∧ t.fld r F.EVT_CH_OWN_OWNER = o.code ∧
          t.fld r F.EVT_CH_OWN_SECURE = 0 ∧ s.regsKept t [r]) ∧
        (frees → ∃ t, exec (.evtChOwnWrite o c v) s = .next t ∧ t.fld r F.EVT_CH_OWN_CLAIMED = 0 ∧ released t ∧
          t.fld r F.EVT_CH_OWN_SECURE = secure ∧ s.regsKept t [r, R.EVT_CH_CFG c, R.EVT_CH_TASKS c]) ∧
        (¬ claims → ¬ frees → ∃ t, exec (.evtChOwnWrite o c v) s = .next t ∧ refused t ∧ direct t 0))) ∧
    (o = .safety → ∃ t, exec (.evtChOwnWrite o c v) s = .next t ∧ t.rd r = v &&& 0xF0000000#32 ∧ (claimed = 1 → nc = 0 → released t) ∧
      s.regsKept t [r, R.EVT_CH_CFG c, R.EVT_CH_TASKS c]) ∧
    (∀ tasks : Bool,
      let reg := if tasks then R.EVT_CH_TASKS c else R.EVT_CH_CFG c
      let may := o = .safety ∨ (secure = 0 ∧ claimed = 1 ∧ s.fld r F.EVT_CH_OWN_OWNER = o.code)
      (may → ∃ t, exec (.evtChCfgWrite o c tasks v) s = .next t ∧ t.rd reg = (if tasks then v else v &&& 0x800000FF#32) ∧ s.regsKept t [reg]) ∧
      (¬ may → ∃ t, exec (.evtChCfgWrite o c tasks v) s = .next t ∧ refused t ∧ direct t (if secure = 1 then 1 else 0)))

/-- A HARVEST_ARM that its ring offers ends with 0x0709 while the start does not admit captures; OP 0 with 0x0703 on a running unit, 0x0702 on a configuration not allowed, 0x070A on a region that meets another unit's, and else with 0: the unit is FILLING in its next slot, nothing stored, its counts of early and missed triggers 0. OP 1 and 2 end with 0x0704 on a unit that is not running; OP 1 makes a running one IDLE, its record in progress kept as stopped; OP 2 forces a trigger at the next sample, with result 0x0708 in FILLING and REARM. The words are HRV_STATUS and the slot length. A refusal changes nothing outside the rings. (R368, R372, R374.) -/
def Obligations.HarvestRequests : Prop :=
∀ (s : State) (sq : Fin 32) (d : Desc), s.offers sq d false true = true → d.opcode = 9 → s.cqUp (s.boundCq sq) = true →
    let u := d.unit
    let res := fun (t : State) => (t.lastDone sq).map fun k => (k.1, k.2.1, k.2.2.1)
    (∀ e ∈ [(Instr.harvestArm sq d, 0), (.harvestStop sq d, 1), (.harvestForce sq d, 2)], d.byte 21 = e.2 →
      ∀ c, (if s.captureRefused = true then c = 0x0709
        else if e.2 = 0 then (if s.huRuns u = true then c = 0x0703 else if s.badCapture u = true then c = 0x0702
          else s.huOverlap u (fun _ => true) = true ∧ c = 0x070A)
        else s.huRuns u = false ∧ c = 0x0704) →
      ∃ t, exec e.1 s = .next t ∧ t = { s with regs := t.regs, hif := t.hif } ∧
        t.lastDone sq = some (sq.val, d.tag, c, [s.rd (R.HRV_STATUS u), BitVec.ofNat 32 (s.huSlotLen u), 0, 0]) ∧
        (∀ o, 0x20000 ≤ o → t.rd o = s.rd o)) ∧
    (s.captureRefused = false →
      (d.byte 21 = 0 → s.huRuns u = false → s.badCapture u = false → s.huOverlap u (fun _ => true) = false →
        ∃ t, exec (.harvestArm sq d) s = .next t ∧ res t = some (sq.val, d.tag, 0) ∧ t.huState u = 1 ∧ (t.hu u).slot = s.nextSlot u ∧
          (t.hu u).rows = 0 ∧ (t.hu u).posted = 0 ∧ (t.hu u).cur = none ∧ t.fld (R.HRV_COUNTS u) F.HRV_COUNTS_EARLY = 0 ∧
          t.fld (R.HRV_COUNTS u) F.HRV_COUNTS_REARM_MISS = 0 ∧
          (∀ o, 0x20000 ≤ o → o ≠ R.HRV_COUNTS u → o ≠ R.HRV_STATUS u → t.rd o = s.rd o)) ∧
      (s.huRuns u = true →
        (d.byte 21 = 1 → ∃ t, exec (.harvestStop sq d) s = .next t ∧ res t = some (sq.val, d.tag, 0) ∧ t.huState u = 0 ∧
          (t.hu u).cur = none ∧ (t.hu u).due = [] ∧
          (∀ r, (s.hu u).cur = some r → (t.hu u).recs.map HrvRec.seq = (s.hu u).recs.map HrvRec.seq ++ [r.seq] ∧
            ((t.hu u).recs.getLast?).map HrvRec.stopped = some true)) ∧
        (d.byte 21 = 2 → ∃ t, exec (.harvestForce sq d) s = .next t ∧ (t.hu u).force = true ∧ t.huState u = s.huState u ∧
          res t = some (sq.val, d.tag, if s.huState u = 1 ∨ s.huState u = 4 then 0x0708 else 0))))

/-- HRV_PRETRIGGER_FULL, when due, makes a unit ARMED. HRV_TRIGGER, when due: in ARMED it begins the record with the causes and place of the trigger, LAST_CAUSE, state TRIGGERED; in FILLING it counts EARLY, in REARM a missed trigger, the state staying. HRV_RECORD_COMPLETE, when due, keeps the record as full with its rows, shows its number in REC_SEQ, makes the unit REARM with CONTINUOUS and else DONE, and raises class HARVEST. HRV_REARM_END makes a unit in REARM FILLING in its next slot. HRV_GAP of a storing unit makes it lose n more samples and raises its fault 451 + unit. HRV_CONFIG_WRITE of a running unit, or of a base below the capture area, is refused and flagged; else the register takes its value. (R367, R368, R370, R371, R373.) -/
def Obligations.HarvestCapture : Prop :=
∀ (s : State) (u : Fin 16),
    (∀ l, (s.hu u).due = .preFull :: l → ∃ t, exec (.hrvPretriggerFull u) s = .next t ∧ t.huState u = 2 ∧ (t.hu u).due = l ∧
      s.regsKept t [R.HRV_STATUS u] ∧ t = { s with regs := t.regs, hrv := t.hrv }) ∧
    (∀ cause pos t0 vals path l, (s.hu u).due = .trigger cause pos t0 vals path :: l → cause < 32 →
      (s.huState u = 2 → ∃ t, exec (.hrvTrigger u) s = .next t ∧ t.huState u = 3 ∧
        t.fld (R.HRV_STATUS u) F.HRV_STATUS_LAST_CAUSE = cause ∧
        (t.hu u).cur.map (fun r => (r.seq, r.cause, r.pos256, r.addr, r.preLen, r.postLen)) =
          some ((s.hu u).nextSeq, cause, pos, s.huAddr u, s.huPre u, s.huPost u)) ∧
      (∀ e ∈ [(1, F.HRV_COUNTS_EARLY), (4, F.HRV_COUNTS_REARM_MISS)], s.huState u = e.1 → ∃ t, exec (.hrvTrigger u) s = .next t ∧
        t.huState u = e.1 ∧ t.fld (R.HRV_COUNTS u) e.2 = min (s.fld (R.HRV_COUNTS u) e.2 + 1) (2 ^ e.2.w - 1) ∧ (t.hu u).cur = (s.hu u).cur)) ∧
    (∀ l r, (s.hu u).due = .complete :: l → (s.hu u).cur = some r → ∃ t, exec (.hrvRecordComplete u) s = .next t ∧
      t.huState u = (if s.flag (R.HRV_CTRL u) F.HRV_CTRL_CONTINUOUS then 4 else 5) ∧
      (t.hu u).recs = (s.hu u).recs ++ [{ r with rows := r.preLen + (s.hu u).posted, lost := (s.hu u).lost, gap := decide (0 < (s.hu u).lost), stopped := false, full := true }] ∧
      (t.hu u).cur = none ∧ (t.hu u).nextSeq = (s.hu u).nextSeq + 1 ∧
      t.fld (R.HRV_STATUS u) F.HRV_STATUS_REC_SEQ = (s.hu u).nextSeq % 2 ^ F.HRV_STATUS_REC_SEQ.w ∧
      bitOf (t.fld R.HIF_ATTN F.HIF_ATTN_PENDING) 8 = true) ∧
    (s.huState u = 4 → ∃ t, exec (.hrvRearmEnd u) s = .next t ∧ t.huState u = 1 ∧ (t.hu u).slot = s.nextSlot u ∧ (t.hu u).rows = 0 ∧
      s.regsKept t [R.HRV_STATUS u]) ∧
    (∀ n, 0 < n → 1 ≤ s.huState u → s.huState u ≤ 3 → ∃ t, exec (.hrvGap u n) s = .next t ∧ (t.hu u).lose = (s.hu u).lose + n ∧
      t.flt.raised.map Report.src = s.flt.raised.map Report.src ++ [451 + u.val] ∧ t.regs = s.regs) ∧
    (∀ (w : Fin 64) (v : Word) (d : RegDesc) (i : List Nat), w.val < 32 → findReg (0xA00000 + 256 * u.val + 4 * w.val) = some (d, i) →
      (s.huRuns u = true → ∃ t, exec (.hrvConfigWrite u w v) s = .next t ∧ t.fld (R.HRV_STATUS u) F.HRV_STATUS_WRITE_REFUSED = 1 ∧
        s.regsKept t [R.HRV_STATUS u]) ∧
      (s.huRuns u = false → w.val = 1 → F.HRV_BASE_BASE.get v ≠ 0 → F.HRV_BASE_BASE.get v ≤ 0x17FFF →
        ∃ t, exec (.hrvConfigWrite u w v) s = .next t ∧ t.fld (R.HRV_STATUS u) F.HRV_STATUS_BASE_REFUSED = 1 ∧
          s.regsKept t [R.HRV_STATUS u]) ∧
      (s.huRuns u = false → w.val ≠ 1 → w.val ≠ 2 → w.val ≠ 3 → ∃ t, exec (.hrvConfigWrite u w v) s = .next t ∧
        t = s.wr (0xA00000 + 256 * u.val + 4 * w.val) (d.written .host (s.rd (0xA00000 + 256 * u.val + 4 * w.val)) v)))

/-- A HARVEST_READ that its ring offers, with captures admitted: a record that the unit does not hold ends with 0x0706 where its number is below the next one and else with 0x0705; a buffer without room for the header and one row with 0x0707; a first row past the last with 0x0701; nothing is written to the host then. Otherwise the host gets the 64-byte header and the rows asked for that fit and exist, from the first on, in record order; the words are their number, the record, the newest one and the next row. No register outside the rings, no record and no byte of Cellar changes. (R373, R374.) -/
def Obligations.HarvestReads : Prop :=
∀ (s : State) (sq : Fin 32) (d : Desc) (l : List Byte), s.offers sq d true true = true → d.opcode = 10 → s.cqUp (s.boundCq sq) = true →
    s.captureRefused = false → d.le 24 4 ≠ 0xFFFFFFFF →
    let u := d.unit
    let q := d.le 24 4
    let newest := BitVec.ofNat 32 ((s.newestRecord u).getD 0)
    ∃ t, exec (.harvestRead sq d ⟨true, l⟩ false) s = .next t ∧ t = { s with regs := t.regs, hif := t.hif } ∧
      (∀ o, 0x20000 ≤ o → t.rd o = s.rd o) ∧
      match (s.readable u).find? (fun h => h.seq == q) with
      | none => t.hif.posted = s.hif.posted ∧ t.lastDone sq = some (sq.val, d.tag, if q < (s.hu u).nextSeq then 0x0706 else 0x0705,
          [0, BitVec.ofNat 32 q, newest, BitVec.ofNat 32 (d.le 28 4)])
      | some h =>
        let n := 4 * rowWords h.nch h.k
        if d.bufLen < 64 + n then t.hif.posted = s.hif.posted ∧ t.lastDone sq = some (sq.val, d.tag, 0x0707,
          [0, BitVec.ofNat 32 q, newest, BitVec.ofNat 32 (d.le 28 4)])
        else if h.rows ≤ d.le 28 4 then t.hif.posted = s.hif.posted ∧ t.lastDone sq = some (sq.val, d.tag, 0x0701,
          [0, BitVec.ofNat 32 q, newest, BitVec.ofNat 32 (d.le 28 4)])
        else
          let k := min (if d.le 32 4 = 0 then (d.bufLen - 64) / n else min ((d.bufLen - 64) / n) (d.le 32 4)) (h.rows - d.le 28 4)
          t.hif.posted = s.hif.posted ++ [⟨d.bufAddr, h.header u ++ (upFrom (d.le 28 4) k).flatMap (s.recordRow h)⟩] ∧
          t.lastDone sq = some (sq.val, d.tag, 0, [BitVec.ofNat 32 k, BitVec.ofNat 32 q, newest, BitVec.ofNat 32 (d.le 28 4 + k)])

/-- FAULT_REPORT of an undefined source, of an impossible location or in Dormant changes nothing. An error that a unit raised leaves that unit and is latched with the collector's severity, CONTAIN without a target as NOTIFY; below CONTAIN nothing else changes. CONTAIN at an element isolates its cell or attenuator: marked, parked and held, its loops Off. With the monitor down, SAFE or LATCH forces Safe. The report of the monitor's injection counts PASSED and is not latched; one of the host's is latched as injected. FAULT_CLASSIFICATION with the monitor down or nothing latched changes nothing; else it takes the oldest report and counts its source. With no record open, LOG queues a record; NOTIFY also opens one at place 0, shown in FLT_OPEN_0 and OPEN, pends class 2 and fires 242; SAFE or LATCH in Serve ends in Safe. An error at the source and location of an open record merges into it: no new record. (R13, R16, R378, R379, R380, R383, R384, R385, R387, R395, R396, R477.) -/
def Obligations.FaultReportsAndRecords : Prop :=
∀ s : State,
    (∀ r : Report, s.mode = .dormant ∨ sevOf r.src = none ∨ locOk r.src r.loc = false → exec (.faultReport r) s = .next s) ∧
    (∀ r k : Report, s.mode ≠ .dormant → sevOf r.src ≠ none → locOk r.src r.loc = true →
      s.flt.raised.find? (fun e => e.src == r.src && e.loc == r.loc) = some k →
      let sev := (Tab.get (fun _ => none) s.flt.copies r.src).getD (s.fld (R.FLT_SEV r.src) F.FLT_SEV_SEVERITY)
      (sev < 2 ∨ (sev = 2 ∧ targetOf r.src r.loc = none) → r.src ≠ 475 → r.src ≠ 476 →
        ∃ t, exec (.faultReport r) s = .next t ∧ t = { s with flt := t.flt } ∧ t.flt.raised = s.flt.raised.erase k ∧
          t.flt.latched = s.flt.latched ++ [(k, min sev 1)] ∧ t.flt.recs = s.flt.recs ∧ t.flt.copies = s.flt.copies) ∧
      (sev = 2 → r.src < 32 ∨ (48 ≤ r.src ∧ r.src < 96) →
        ∃ t, exec (.faultReport r) s = .next t ∧ t.flt.latched = s.flt.latched ++ [(k, 2)] ∧ t.mode = s.mode ∧
          (∀ i, elemOf r.loc = .cell i → t.fab.isoCells = s.fab.isoCells ||| BitVec.ofNat 4352 (2 ^ i)) ∧
          (∀ n, elemOf r.loc = .vi n → t.fab.isoIn = s.fab.isoIn ||| BitVec.ofNat 256 (2 ^ n)) ∧
          (∀ n, elemOf r.loc = .vo n → t.fab.isoOut = s.fab.isoOut ||| BitVec.ofNat 256 (2 ^ n)) ∧
          bitOf (t.hold r.loc) 2 = true ∧ t.fld (R.DRV_CH_CODE r.loc) F.DRV_CH_CODE_PARKED = 1 ∧ t.loopState r.loc = 0) ∧
      (3 ≤ sev → sev ≤ 4 → s.flt.monitorUp = false → s.mode = .serve → s.start.change = none →
        ∃ t, exec (.faultReport r) s = .next t ∧ t.mode = (if sev = 4 then .latched else .safe) ∧ t.flt.safeAt = some s.now ∧
          t.flt.latched = s.flt.latched ++ [(k, sev)])) ∧
    (∀ (r : Report) (k : Inject), s.mode ≠ .dormant → sevOf r.src ≠ none → locOk r.src r.loc = true →
      s.flt.raised.find? (fun e => e.src == r.src && e.loc == r.loc) = none →
      s.flt.inject.find? (fun e => e.src == r.src && (!namesElem r.src || e.loc == r.loc) && decide (s.now ≤ e.due)) = some k →
      (k.host = false → ∃ t, exec (.faultReport r) s = .next t ∧ t.flt.inject = s.flt.inject.erase k ∧ t.flt.latched = s.flt.latched ∧
        t.fld R.FLT_INJ_STATUS F.FLT_INJ_STATUS_PASSED = min (s.fld R.FLT_INJ_STATUS F.FLT_INJ_STATUS_PASSED + 1) 65535 ∧
        s.regsKept t [R.FLT_INJ_STATUS]) ∧
      (k.host = true → s.fld (R.FLT_SEV r.src) F.FLT_SEV_SEVERITY < 2 → s.flt.copies = [] → r.src ≠ 475 → r.src ≠ 476 →
        ∃ t, exec (.faultReport r) s = .next t ∧ t.flt.inject = s.flt.inject.erase k ∧ t.regs = s.regs ∧
          t.flt.latched = s.flt.latched ++ [({ r with injected := true }, s.fld (R.FLT_SEV r.src) F.FLT_SEV_SEVERITY)])) ∧
    (s.flt.monitorUp = false ∨ s.flt.latched = [] → exec .faultClassification s = .next s) ∧
    (∀ (r : Report) (sev : Nat) (l : List (Report × Nat)), s.flt.latched = (r, sev) :: l → s.flt.monitorUp = true → r.src < 614 →
      let counted := fun (t : State) => t.flt.latched = l ∧ t.fld (R.FLT_SRC_COUNT r.src) F.FLT_SRC_COUNT_VAL =
        min (s.fld (R.FLT_SRC_COUNT r.src) F.FLT_SRC_COUNT_VAL + 1) (2 ^ 32 - 1)
      let opened := fun (t : State) => ∃ k, Tab.get (fun _ => none) t.flt.recs 0 = some k ∧ k.seq = s.mgmt.logSeq + 1 ∧ k.sev = sev ∧
        k.src = r.src ∧ k.loc = r.loc ∧ k.opened = true
      (s.flt.recs = [] → s.mgmt.logQ.length < 256 →
        (sev < 2 → ∃ t, exec .faultClassification s = .next t ∧ counted t ∧ t.mode = s.mode ∧ t.mgmt.logSeq = s.mgmt.logSeq + 1 ∧
          (∃ x, t.mgmt.logQ = s.mgmt.logQ ++ [x] ∧ x.seq = s.mgmt.logSeq + 1 ∧ x.typ = 1 ∧ x.sev = sev ∧ x.src = r.src ∧
            x.injected = r.injected ∧ x.d = [BitVec.ofNat 32 r.d0, BitVec.ofNat 32 r.d1, BitVec.ofNat 32 r.d2, 0, 0, 0, 0]) ∧
          (sev = 1 → opened t ∧ t.rd (R.FLT_OPEN 0) = BitVec.ofNat 32 (s.mgmt.logSeq + 1) ∧ t.fld R.FLT_STATUS F.FLT_STATUS_OPEN = 1 ∧
            bitOf (t.fld R.HIF_ATTN F.HIF_ATTN_PENDING) 2 = true ∧
            (s.eventsOn = true → t.evt.fired.map Fire.src = s.evt.fired.map Fire.src ++ [242]))) ∧
        (3 ≤ sev → sev ≤ 4 → s.mode = .serve → s.start.change = none → ∃ t, exec .faultClassification s = .next t ∧ t.flt.latched = l ∧ opened t ∧
          t.mode = (if sev = 4 then .latched else .safe) ∧ t.flt.safeAt = some s.now)) ∧
      (∀ (p : Nat) (k : FRec), s.flt.recs = [(p, some k)] → p < 64 → k.opened = true → k.src = r.src → k.loc = r.loc → 1 ≤ k.sev → sev < 2 →
        ∃ t, exec .faultClassification s = .next t ∧ counted t ∧ t.mgmt.logSeq = s.mgmt.logSeq ∧ t.fld R.FLT_STATUS F.FLT_STATUS_OPEN = 1 ∧
          (∃ m, Tab.get (fun _ => none) t.flt.recs p = some m ∧ m.seq = k.seq ∧ m.sev = k.sev ∧ m.opened = true ∧ m.iso = k.iso) ∧
          ∀ x ∈ s.mgmt.logQ, x.seq = k.seq → ∃ y ∈ t.mgmt.logQ, y.seq = x.seq ∧ y.src = x.src ∧ y.sev = k.sev ∧
            y.secCount = min 65535 (x.secCount + 1)))

/-- SAFE_READBACK 3 us after the safe state with all parked and off ends the check; otherwise VERIFY_FAIL is set and 613 raised, and the loop block of an attenuator found open is powered down, its channels parked and its loops Off; with no check due it changes nothing. WATCHDOG_EXPIRY of a processor that does not run, or in Dormant, changes nothing; of the safety monitor in Serve it is latched as 475, a lockstep mismatch as 476, and forces Safe; of another, STATE is 2, RESTARTS counts, 469, 470 or 471 is raised, at the third within 1 s also MGT_PROC_LOST, the fabric processor dropping its Tries, Vintner holding its learning. PROCESSOR_RESTART_DONE of a restarting processor makes it run again, or stops it and raises MGT_PROC_LOST. (R327, R328, R387, R389, R475, R476.) -/
def Obligations.SafeReadbackAndWatchdogs : Prop :=
∀ s : State,
    (s.flt.safeAt = none → ∀ l b, exec (.safeReadback l b) s = .next s) ∧
    (∀ a, s.flt.safeAt = some a →
      exec (.safeReadback [] false) s = .next { s with now := max s.now (a + 3000), flt := { s.flt with safeAt := none } } ∧
      (∃ t, exec (.safeReadback [] true) s = .next t ∧ t.now = max s.now (a + 3000) ∧ t.fld R.FLT_STATUS F.FLT_STATUS_VERIFY_FAIL = 1 ∧
        t.flt.raised = s.flt.raised ++ [⟨613, 0, 0, 0, 0, false, [], 0⟩] ∧ t.flt.safeAt = none ∧ s.regsKept t [R.FLT_STATUS] ∧ t.drive = s.drive) ∧
      ∀ (k : Fin 512) (b : Bool), ∃ t, exec (.safeReadback [k] b) s = .next t ∧ t.fld R.FLT_STATUS F.FLT_STATUS_VERIFY_FAIL = 1 ∧
        ⟨613, 0, 0, 0, 0, false, [], 0⟩ ∈ t.flt.raised ∧ t.fld (R.DRV_BLK_STATUS (k.val % 256 / 16)) F.DRV_BLK_STATUS_POWERED = 0 ∧
        (∀ c < 16, c ≠ k.val % 256 / 16 → t.rd (R.DRV_BLK_STATUS c) = s.rd (R.DRV_BLK_STATUS c)) ∧
        ∀ x, blockOf x = k.val % 256 / 16 → t.fld (R.DRV_CH_CODE x) F.DRV_CH_CODE_PARKED = 1 ∧ t.loopState x = 0) ∧
    (∀ (k : Fin 4) (b : Bool),
      let run := s.fld (R.MGT_PROC_STATUS k) F.MGT_PROC_STATUS_STATE = 1 ∧ s.mode ≠ .dormant
      let old := (s.mgmt.expiries.filter fun e => e.1 == k.val && decide (s.now < e.2 + 1000000000)).length
      (¬ run → exec (.watchdogExpiry k b) s = .next s) ∧
      (run → k = 1 → s.mode = .serve → s.start.change = none → ∃ t, exec (.watchdogExpiry k b) s = .next t ∧ t.isSafe = true ∧
        t.flt.latched.map (fun e => e.1.src) = s.flt.latched.map (fun e => e.1.src) ++ [if b then 476 else 475]) ∧
      (run → k ≠ 1 → (k = 0 → s.start.change = none) → ∃ t, exec (.watchdogExpiry k b) s = .next t ∧ t.fld (R.MGT_PROC_STATUS k) F.MGT_PROC_STATUS_STATE = 2 ∧
        t.fld (R.MGT_PROC_STATUS k) F.MGT_PROC_STATUS_RESTARTS = min (s.fld (R.MGT_PROC_STATUS k) F.MGT_PROC_STATUS_RESTARTS + 1) 65535 ∧
        (k ≠ 0 → s.regsKept t [R.MGT_PROC_STATUS k] ∧ t.mode = s.mode ∧ t.flt.raised = s.flt.raised ++
          [⟨469 + (k.val - 1), 0, 0, 0, 0, false, [], 0⟩] ++ if 2 ≤ old then [⟨472 + (k.val - 1), 0, 0, 0, 0, false, [], 0⟩] else []) ∧
        (k = 2 → t.cal = { s.cal with tries := [] }) ∧ (k = 3 → t.mgmt.learnHeld = true))) ∧
    (∀ (k : Fin 4) (b : Bool), s.fld (R.MGT_PROC_STATUS k) F.MGT_PROC_STATUS_STATE ≠ 2 → exec (.processorRestartDone k b) s = .next s) ∧
    (∀ k : Fin 4, s.fld (R.MGT_PROC_STATUS k) F.MGT_PROC_STATUS_STATE = 2 →
      (∃ t, exec (.processorRestartDone k true) s = .next t ∧ t.fld (R.MGT_PROC_STATUS k) F.MGT_PROC_STATUS_STATE = 1 ∧
        (k = 3 → t.mgmt = { s.mgmt with learnHeld := false } ∧ s.regsKept t [R.MGT_PROC_STATUS k]) ∧
        (k = 0 → t = { s with regs := t.regs } ∧ s.regsKept t [R.MGT_PROC_STATUS k])) ∧
      (∃ t, exec (.processorRestartDone k false) s = .next t ∧ t.fld (R.MGT_PROC_STATUS k) F.MGT_PROC_STATUS_STATE = 0 ∧
        t.flt.raised = s.flt.raised ++ [⟨472 + (k.val - 1), 0, 0, 0, 0, false, [], 0⟩] ∧ s.regsKept t [R.MGT_PROC_STATUS k]))

/-- The monitor's injection of an injectable source at a location (a loop's only where the source is no plausibility comparator) awaits its report until D plus 10 us; with INJ_CYCLE 0 or the monitor down it is not made. CHECKER_DEAD of the oldest raises 612 with its source and counts FAILED for the monitor's. FLT_TEST_INJ with GO while TEST_INJ_EN injects for the host, or sets REFUSED; else only the register is written. CONFIG_SCRUB raises 611 with the offset of a disturbed protected register or severity copy, and not while the monitor is down. LK_PROPOSE keeps address, data and time with RESULT 1; LK_CONFIRM answers 7 latched, 6 with no proposal or one older than 1 ms, 5 for a wrong CHECK, 3 for a register with no protected bits, 8 or 4 for a severity above 4 or below its floor, each writing nothing; else 2: exactly the protected bits of the register take the data, and a record is logged. (R379, R395, R396, R397, R398.) -/
def Obligations.InjectionsScrubAndLkPath : Prop :=
∀ s : State,
    let allowed := fun (src loc : Nat) => s.flag (R.FLT_SEV src) F.FLT_SEV_INJECTABLE = true ∧
      (if src < 32 ∨ (48 ≤ src ∧ src < 112) then loc < 9216 ∧ blockOf loc = src % 16 else loc = 0)
    (∀ (src : BitVec 10) (loc : BitVec 14),
      (s.flt.monitorUp = false ∨ s.fld R.FLT_CTRL F.FLT_CTRL_INJ_CYCLE = 0 ∨ ¬ allowed src.toNat loc.toNat →
        exec (.checkerInjection src loc) s = .next s) ∧
      (s.flt.monitorUp = true → s.fld R.FLT_CTRL F.FLT_CTRL_INJ_CYCLE ≠ 0 → allowed src.toNat loc.toNat →
        ∃ t, exec (.checkerInjection src loc) s = .next t ∧ s.regsKept t [R.FLT_INJ] ∧
          t.fld R.FLT_INJ F.FLT_INJ_SOURCE = src.toNat ∧ t.fld R.FLT_INJ F.FLT_INJ_LOCATION = loc.toNat ∧
          (src.toNat < 48 ∨ 64 ≤ src.toNat → t.flt = { s.flt with
            inject := s.flt.inject ++ [⟨src.toNat, loc.toNat, false, s.now + s.detectNs src.toNat loc.toNat + 10000⟩] }))) ∧
    (s.flt.inject = [] → exec .checkerDead s = .next s) ∧
    (∀ k l, s.flt.inject = k :: l → ∃ t, exec .checkerDead s = .next t ∧ t.now = max s.now k.due ∧ t.flt.inject = l ∧
      t.flt.raised = s.flt.raised ++ [⟨612, 0, 0, 0, k.src, false, [], 0⟩] ∧ s.regsKept t [R.FLT_INJ_STATUS] ∧
      t.fld R.FLT_INJ_STATUS F.FLT_INJ_STATUS_FAILED = (if k.host then s.fld R.FLT_INJ_STATUS F.FLT_INJ_STATUS_FAILED
        else min (s.fld R.FLT_INJ_STATUS F.FLT_INJ_STATUS_FAILED + 1) 255)) ∧
    (∀ v : Word,
      let src := F.FLT_TEST_INJ_SOURCE.get v
      let loc := F.FLT_TEST_INJ_LOCATION.get v
      let on := F.FLT_TEST_INJ_GO.get v = 1 ∧ s.flag R.FLT_CTRL F.FLT_CTRL_TEST_INJ_EN = true
      (¬ on → ∃ t, exec (.fltTestInjWrite v) s = .next t ∧ t = { s with regs := t.regs } ∧ t.rd R.FLT_TEST_INJ = v &&& 0xFFE03FFF#32 ∧
        s.regsKept t [R.FLT_TEST_INJ]) ∧
      (on → allowed src loc → src < 48 ∨ 64 ≤ src → ∃ t, exec (.fltTestInjWrite v) s = .next t ∧ s.regsKept t [R.FLT_TEST_INJ] ∧
        t.flt = { s.flt with inject := s.flt.inject ++ [⟨src, loc, true, s.now + s.detectNs src loc + 10000⟩] }) ∧
      (on → ¬ allowed src loc → ∃ t, exec (.fltTestInjWrite v) s = .next t ∧ t.fld R.FLT_INJ_STATUS F.FLT_INJ_STATUS_REFUSED = 1 ∧
        t.flt = s.flt ∧ s.regsKept t [R.FLT_TEST_INJ, R.FLT_INJ_STATUS])) ∧
    (s.flt.refs = [] → s.flt.copies = [] →
      exec (.configScrub none none) s = .next s ∧
      (∀ (o : BitVec 24) (w : Word), w &&& s.protMask o.toNat ≠ 0 → ∃ t, exec (.configScrub (some (o, w)) none) s = .next t ∧
        t.rd o.toNat = s.rd o.toNat ^^^ (w &&& s.protMask o.toNat) ∧ s.regsKept t [o.toNat] ∧
        t.flt.raised = s.flt.raised ++ (if s.flt.monitorUp then [⟨611, 0, 0, 0, o.toNat, false, [], 0⟩] else [])) ∧
      (∀ (n : Fin 1024) (v : Fin 8), s.fld (R.FLT_SEV n) F.FLT_SEV_SEVERITY ≠ v.val → ∃ t, exec (.configScrub none (some (n, v))) s = .next t ∧
        t.regs = s.regs ∧ Tab.get (fun _ => none) t.flt.copies n = some v.val ∧
        t.flt.raised = s.flt.raised ++ (if s.flt.monitorUp then [⟨611, 0, 0, 0, R.FLT_SEV n, false, [], 0⟩] else []))) ∧
    (let answered := fun (t : State) (k : Nat) => t.fld R.FLT_LK_STATUS F.FLT_LK_STATUS_RESULT = k
     let refused := fun (t : State) (k : Nat) => answered t k ∧ s.regsKept t [R.FLT_LK_STATUS] ∧ t = { s with regs := t.regs, flt := t.flt } ∧
       t.flt.refs = s.flt.refs ∧ t.flt.copies = s.flt.copies
     (s.mode = .latched → ∃ t, exec .lkPropose s = .next t ∧ refused t 7 ∧ t.flt = s.flt) ∧
     (s.mode ≠ .latched → ∃ t, exec .lkPropose s = .next t ∧ answered t 1 ∧ s.regsKept t [R.FLT_LK_STATUS] ∧
       t.flt = { s.flt with proposal := some (s.fld R.FLT_LK_ADDR F.FLT_LK_ADDR_ADDR, s.rd R.FLT_LK_DATA, s.now) }) ∧
     ∀ c : BitVec 16,
       (s.mode = .latched → ∃ t, exec (.lkConfirm c) s = .next t ∧ refused t 7) ∧
       (s.mode ≠ .latched → s.flt.proposal = none → ∃ t, exec (.lkConfirm c) s = .next t ∧ refused t 6) ∧
       ∀ (o : Nat) (v : Word) (a : Nat), s.mode ≠ .latched → s.flt.proposal = some (o, v, a) →
         let fresh := s.now ≤ a + 1000000
         let good := c.toNat = 0xFFFF - v.toNat % 65536
         let sevs := 0x41000 ≤ o ∧ o < 0x42000
         (¬ fresh → ∃ t, exec (.lkConfirm c) s = .next t ∧ refused t 6 ∧ t.flt.proposal = none) ∧
         (fresh → ¬ good → ∃ t, exec (.lkConfirm c) s = .next t ∧ refused t 5 ∧ t.flt.proposal = none) ∧
         (fresh → good → s.protMask o = 0 → ∃ t, exec (.lkConfirm c) s = .next t ∧ refused t 3 ∧ t.flt.proposal = none) ∧
         (fresh → good → s.protMask o ≠ 0 → sevs → (4 < v.toNat % 8 → ∃ t, exec (.lkConfirm c) s = .next t ∧ refused t 8) ∧
           (v.toNat % 8 ≤ 4 → v.toNat % 8 < s.fld o F.FLT_SEV_FLOOR → ∃ t, exec (.lkConfirm c) s = .next t ∧ refused t 4) ∧
           (v.toNat % 8 ≤ 4 → s.fld o F.FLT_SEV_FLOOR ≤ v.toNat % 8 → s.mgmt.logQ.length < 256 →
             ∃ t, exec (.lkConfirm c) s = .next t ∧ answered t 2 ∧
               t.rd o = (s.rd o &&& ~~~ s.protMask o) ||| (v &&& s.protMask o) ∧
               s.regsKept t [o, R.FLT_LK_STATUS, R.FLT_STATUS, R.HIF_ATTN, R.MGT_LOG_OLDEST, R.MGT_LOG_NEWEST, R.MGT_LOG_STATUS] ∧
               Tab.get (fun _ => none) t.flt.copies ((o - 0x41000) / 4) = none ∧ t.flt.proposal = none ∧
               ∃ x, t.mgmt.logQ = s.mgmt.logQ ++ [x] ∧ x.typ = 5 ∧ x.d.take 2 = [BitVec.ofNat 32 o, v])))

/-- LIGHT_PATH_CHECK outside Start raises 209 + g once for each group of 16 outputs with an error above LIGHT_TOL. REFERENCE_LOSS_MEASURE takes the loss of output m once due. SUPPLY_MONITOR_SAMPLE and CLOCK_MONITOR_WINDOW: two readings in a row beyond a limit raise its source, once for each departure; Dormant: nothing. LATCH_FLAG_CLEAR clears the flag. SENSOR_SWEEP: a sensor takes its reading, a failed self-check forces 150.0 degrees and raises 531 + n, a forced sensor keeps its value; SENSED is the highest of those neither excluded nor released; WARN, THROTTLE set at 95 and 105 degrees of the reported value, cleared 5 below. NOR_TEMP_CONVERSION early in a cold start reads sensor 47 as the NOR temperature. PFAIL asserts below 8.7 V or with VHOLD below 44 V, counted and fired once; it is released at 9.0 V with VHOLD at 44 V. (R391, R393, R394, R405, R406, R408, R409, R410, R411, R419.) -/
def Obligations.MonitorsSensorsAndPfail : Prop :=
∀ s : State,
    (s.mode = .start → exec .lightPathCheck s = .next s) ∧
    (s.mode ≠ .start →
      let bad := fun g => s.litConns.any fun c => c.out / 16 == g && match s.lightError c with
        | some e => decide (10 * s.fld R.FLT_CTRL F.FLT_CTRL_LIGHT_TOL < e)
        | none => false
      ∃ t, exec .lightPathCheck s = .next t ∧ t = { s with flt := { s.flt with raised := t.flt.raised } } ∧
        t.flt.raised.map Report.src = s.flt.raised.map Report.src ++ ((List.range 16).filter bad).map fun g => 209 + g) ∧
    (∀ m : Fin 256, Tab.get (fun _ => none) s.flt.lossDue m.val = none → exec (.referenceLossMeasure m) s = .next s) ∧
    (∀ (m : Fin 256) (a : Nat), Tab.get (fun _ => none) s.flt.lossDue m.val = some a → ∃ t, exec (.referenceLossMeasure m) s = .next t ∧
      t.now = max s.now a ∧ t.regs = s.regs ∧ Tab.get (fun _ => none) t.flt.lossDue m.val = none ∧
      Tab.get (fun _ => none) t.flt.commitRefLoss m.val = (s.litConns.find? fun c => c.out == m.val).bind s.lossNow) ∧
    (let next := fun (k : Nat) (beyond : Bool) => if beyond then (if k < 2 then k + 1 else k) else 0
     ∀ l : List Nat, (s.mode = .dormant → exec (.supplyMonitorSample l) s = .next s) ∧
       (s.mode ≠ .dormant → l.length = 11 →
         let lo := fun i => decide (nth 0 l i < (railLimits i).1)
         let hi := fun i => decide ((railLimits i).2 < nth 0 l i)
         let old := fun i => Tab.get (fun _ => 0) s.flt.supply i
         ∃ t, exec (.supplyMonitorSample l) s = .next t ∧ t = { s with flt := t.flt } ∧
           (∀ i < 11, Tab.get (fun _ => 0) t.flt.supply i = next (old i) (lo i) ∧
             Tab.get (fun _ => 0) t.flt.supply (11 + i) = next (old (11 + i)) (hi i)) ∧
           t.flt.raised.map Report.src = s.flt.raised.map Report.src ++ (List.range 11).flatMap fun i =>
             (if lo i && old i == 1 then [506 + i] else []) ++ if hi i && old (11 + i) == 1 then [517 + i] else [])) ∧
    (∀ l : List Int, (s.mode = .dormant → exec (.clockMonitorWindow l) s = .next s) ∧
      (s.mode ≠ .dormant → l.length = 12 →
        ∃ t, exec (.clockMonitorWindow l) s = .next t ∧ t = { s with flt := t.flt } ∧
          t.flt.raised.map Report.src = s.flt.raised.map Report.src ++ ((List.range 12).filter fun i =>
            decide (20000 < (nth 0 l i).natAbs) && Tab.get (fun _ => 0) s.flt.clock i == 1).map
              fun i => if i < 8 then 501 else if i < 11 then 494 + i else 505)) ∧
    (∃ t, exec .latchFlagClear s = .next t ∧ t.flt = { s.flt with latchFlag := false } ∧ t.fld R.FLT_STATUS F.FLT_STATUS_LATCHED = 0 ∧
      s.regsKept t [R.FLT_STATUS]) ∧
    (s.thermalOn = true → ∀ v : Vector (Option (BitVec 16)) 80, ∃ t, exec (.sensorSweep v) s = .next t ∧
      (∀ n : Fin 80,
        let was := s.flag (R.THM_SENSOR n) F.THM_SENSOR_FORCED_HOT
        (was = true → t.fld (R.THM_SENSOR n) F.THM_SENSOR_VALUE = s.fld (R.THM_SENSOR n) F.THM_SENSOR_VALUE) ∧
        (was = false → ∀ r, v[n] = some r → t.fld (R.THM_SENSOR n) F.THM_SENSOR_VALUE = r.toNat) ∧
        (was = false → v[n] = none → t.fld (R.THM_SENSOR n) F.THM_SENSOR_VALUE = 1500 ∧
          t.flag (R.THM_SENSOR n) F.THM_SENSOR_FORCED_HOT = true ∧ ⟨531 + n, n, 1500, 0, 0, false, [], 0⟩ ∈ t.flt.raised)) ∧
      t.fld R.THM_VALUES F.THM_VALUES_SENSED = temp16 t.sensed ∧
      let r := signedOf 16 (t.fld R.THM_STATUS F.THM_STATUS_REPORTED)
      ∀ e ∈ [(F.THM_STATUS_WARN, (950 : Int)), (F.THM_STATUS_THROTTLE, 1050)],
        t.flag R.THM_STATUS e.1 = if s.flag R.THM_STATUS e.1 then decide (e.2 - 50 ≤ r) else decide (e.2 ≤ r)) ∧
    (s.thermalOn = false → s.start.cold = true → s.mode ≠ .dormant → bitOf s.start.ended 3 = true →
      s.rd (R.THM_SENSOR 47) = 0 → ∀ (a b : Option (BitVec 16)) (r : BitVec 16), ∃ t, exec (.norTempConversion a b (some r)) s = .next t ∧
        t.fld (R.THM_SENSOR 47) F.THM_SENSOR_VALUE = r.toNat ∧ t.fld R.THM_DERIVED F.THM_DERIVED_NOR = r.toNat ∧ t.thm.norOk = true) ∧
    (∀ vin vhold : Nat,
      let p := R.PWR_STATUS
      let rises := (vin < 8700 ∨ vhold < 44000) ∧ s.flag p F.PWR_STATUS_PFAIL = false
      let falls := 9000 ≤ vin ∧ 44000 ≤ vhold
      (∃ t, exec (.pfailAssert vin vhold) s = .next t ∧ t.fld p F.PWR_STATUS_VHOLD_LOW = bnat (decide (vhold < 44000)) ∧
        t.fld p F.PWR_STATUS_ON_HOLDUP = (if vin < 8700 ∧ 9000 < vhold then 1 else s.fld p F.PWR_STATUS_ON_HOLDUP) ∧
        (rises → t.fld p F.PWR_STATUS_PFAIL = 1 ∧
          t.fld p F.PWR_STATUS_PFAIL_COUNT = min (s.fld p F.PWR_STATUS_PFAIL_COUNT + 1) 65535 ∧
          (s.eventsOn = true → t.evt.fired = s.evt.fired ++ [⟨243, [], s.now, none⟩])) ∧
        (¬ rises → t.fld p F.PWR_STATUS_PFAIL = s.fld p F.PWR_STATUS_PFAIL ∧
          t.fld p F.PWR_STATUS_PFAIL_COUNT = s.fld p F.PWR_STATUS_PFAIL_COUNT ∧ t.evt = s.evt)) ∧
      (∃ t, exec (.pfailRelease vin vhold) s = .next t ∧ t.fld p F.PWR_STATUS_VHOLD_LOW = bnat (decide (vhold < 44000)) ∧
        t.fld p F.PWR_STATUS_PFAIL_COUNT = s.fld p F.PWR_STATUS_PFAIL_COUNT ∧
        t.fld p F.PWR_STATUS_ON_HOLDUP = (if 9000 ≤ vin then 0 else s.fld p F.PWR_STATUS_ON_HOLDUP) ∧
        t.fld p F.PWR_STATUS_PFAIL = if falls then 0 else s.fld p F.PWR_STATUS_PFAIL))

/-- NOR_PAGE_PROGRAM_DONE of a page in an erased sector puts its 256 bytes into the slot, the other slot kept, and goes on with the next page while one is left and the NOR is usable; a failed page raises 479 and ends the request with 0x0904 and the bytes done; a commit flag written makes the slot TRIAL with 3 tries and preferred. NOR_ERASE_DONE leaves the 65,536 bytes of its sector FFH, of the part being written or of the slot in ERASING, whose ERASE_LEFT counts down. SLOT_ERASE_DONE with none left makes the slot EMPTY. LOG_RECORD_WRITE moves the oldest waiting record to the log; an unusable NOR keeps it waiting, a failure raises 479. BUS_DEFAULT_ACCESS counts, raises 477 and keeps the first address, master, kind and direction. MGT_REMAP_WRITE sets SWAP, which once 1 stays. (R333, R334, R335, R336, R345, R346, R348, R349, R350.) -/
def Obligations.NorLogAndBus : Prop :=
∀ s : State,
    (∀ (r : Req) (k : Fin 2) (off done : Nat) (data : List Byte), r.sq < 32 → s.mgmt.imageOp = some ⟨r, k, .pages off data done⟩ →
      (s.sectorClean k off = false → ∀ b, exec (.norPageProgramDone b) s = .next s) ∧
      (s.sectorClean k off = true →
        (∃ t, exec (.norPageProgramDone true) s = .next t ∧ Tab.getList erased (t.slotTab k) off (min 256 data.length) = data.take 256 ∧
          t.slotTab (1 - k.val) = s.slotTab (1 - k.val) ∧
          (256 < data.length → s.norUsable = true → t.mgmt.imageOp = some ⟨r, k, .pages (off + 256) (data.drop 256) (done + 256)⟩) ∧
          (data.length ≤ 256 → t.mgmt.imageOp = none ∧ ∀ d, (s.sqRing r.sq).exec = some (r.job, d) → s.cqUp (s.boundCq r.sq) = true →
            t.lastDone r.sq = some (r.sq, d.tag, 0, [BitVec.ofNat 32 (done + 256), 0, 0, 0]))) ∧
        (∃ t, exec (.norPageProgramDone false) s = .next t ∧ t.mgmt = { s.mgmt with imageOp := none } ∧
          t.flt.raised = s.flt.raised ++ [⟨479, 0, 0, 0, 0, false, [], 0⟩] ∧
          ∀ d, (s.sqRing r.sq).exec = some (r.job, d) → s.cqUp (s.boundCq r.sq) = true →
            t.lastDone r.sq = some (r.sq, d.tag, 0x0904, [BitVec.ofNat 32 done, 0, 0, 0]))) ∧
      (s.sectorClean k off = false → ∃ t, exec (.norEraseDone true) s = .next t ∧ t.sectorClean k off = true ∧ t.mgmt.imageOp = s.mgmt.imageOp ∧
        (∀ j, Tab.get erased (t.slotTab k) j = if j / 65536 = off / 65536 then 0xFF else Tab.get erased (s.slotTab k) j) ∧
        t.slotTab (1 - k.val) = s.slotTab (1 - k.val) ∧ t.regs = s.regs)) ∧
    (∀ (r : Req) (k : Fin 2), r.sq < 32 → s.mgmt.imageOp = some ⟨r, k, .flag⟩ → s.inRecovery = false → ∃ t, exec (.norPageProgramDone true) s = .next t ∧
      t.slotFlag k = true ∧ t.slotState k = 3 ∧ t.slotTries k = 3 ∧ t.preferred = k.val ∧ t.mgmt.imageOp = none ∧
      t.slotTab 0 = s.slotTab 0 ∧ t.slotTab 1 = s.slotTab 1 ∧ t.slotFlag (1 - k.val) = s.slotFlag (1 - k.val)) ∧
    (s.mgmt.imageOp = none → ∀ k : Fin 2, (∀ j : Fin 2, s.slotState j = 1 ↔ j = k) →
      (0 < s.eraseLeft → s.eraseLeft ≤ 512 → s.norUsable = true → ∃ t, exec (.norEraseDone true) s = .next t ∧ t.eraseLeft = s.eraseLeft - 1 ∧
        (∀ j, Tab.get erased (t.slotTab k) j = if j / 65536 = 512 - s.eraseLeft then 0xFF else Tab.get erased (s.slotTab k) j) ∧
        s.regsKept t [R.MGT_NOR_STATUS]) ∧
      (0 < s.eraseLeft → s.norUsable = true → ∃ t, exec (.norEraseDone false) s = .next t ∧ t.mgmt = s.mgmt ∧ t.regs = s.regs ∧
        t.flt.raised = s.flt.raised ++ [⟨479, 0, 0, 0, 0, false, [], 0⟩]) ∧
      (0 < s.eraseLeft → exec .slotEraseDone s = .next s) ∧
      (s.eraseLeft = 0 → ∃ t, exec .slotEraseDone s = .next t ∧ t.slotState k = 0 ∧ t.slotTab 0 = s.slotTab 0 ∧ t.slotTab 1 = s.slotTab 1)) ∧
    (s.mgmt.logQ = [] → ∀ b, exec (.logRecordWrite b) s = .next s) ∧
    (∀ r q, s.mgmt.logQ = r :: q →
      (s.norUsable = false → ∀ b, exec (.logRecordWrite b) s = .next s) ∧
      (s.norUsable = true →
        (∃ t, exec (.logRecordWrite true) s = .next t ∧ t.mgmt.logQ = q ∧ t.mgmt.logCount = s.mgmt.logCount + 1 ∧
          t.mgmt.log.getLast? = some r ∧ (s.mgmt.logCount < 255 * 1024 → s.mgmt.log.length = s.mgmt.logCount → t.mgmt.log = s.mgmt.log ++ [r]) ∧
          (q.length < 512 → t.fld R.MGT_LOG_STATUS F.MGT_LOG_STATUS_QUEUED = q.length) ∧ t.mgmt.logSeq = s.mgmt.logSeq ∧
          s.regsKept t [R.MGT_LOG_OLDEST, R.MGT_LOG_NEWEST, R.MGT_LOG_STATUS]) ∧
        (∃ t, exec (.logRecordWrite false) s = .next t ∧ t.mgmt = s.mgmt ∧ t.flt.raised = s.flt.raised ++ [⟨479, 0, 0, 0, 0, false, [], 0⟩] ∧
          t.regs = s.regs))) ∧
    (∀ (m : Fin 6) (rights write : Bool) (a : Word), ∃ t, exec (.busDefaultAccess m rights write a) s = .next t ∧
      (let o := R.MGT_BUS_ERR
       t.fld o F.MGT_BUS_ERR_VALID = 1 ∧ t.fld o F.MGT_BUS_ERR_COUNT = min (s.fld o F.MGT_BUS_ERR_COUNT + 1) 65535 ∧
       (if s.flag o F.MGT_BUS_ERR_VALID then t.rd R.MGT_BUS_ERR_ADDR = s.rd R.MGT_BUS_ERR_ADDR ∧
          t.fld o F.MGT_BUS_ERR_MASTER = s.fld o F.MGT_BUS_ERR_MASTER ∧ t.fld o F.MGT_BUS_ERR_KIND = s.fld o F.MGT_BUS_ERR_KIND ∧
          t.fld o F.MGT_BUS_ERR_WRITE = s.fld o F.MGT_BUS_ERR_WRITE
        else t.rd R.MGT_BUS_ERR_ADDR = a ∧ t.fld o F.MGT_BUS_ERR_MASTER = m.val ∧ t.fld o F.MGT_BUS_ERR_KIND = bnat rights ∧
          t.fld o F.MGT_BUS_ERR_WRITE = bnat write)) ∧
      t.flt.raised = s.flt.raised ++ [⟨477, 0, 0, 0, 0, false, [], 0⟩] ∧ s.regsKept t [R.MGT_BUS_ERR, R.MGT_BUS_ERR_ADDR]) ∧
    (∀ v, (s.mgmt.swapFixed = true → exec (.mgtRemapWrite v) s = .next s) ∧
      (s.mgmt.swapFixed = false → ∃ t, exec (.mgtRemapWrite v) s = .next t ∧ t.fld R.MGT_REMAP F.MGT_REMAP_SWAP = bnat v ∧
        t.mgmt = { s.mgmt with swapFixed := v } ∧ s.regsKept t [R.MGT_REMAP]))

/-- LOG_READ that its ring offers: MIN_SEVERITY above 4 or FIRST_SEQ past the newest record plus 1 ends with 0x0801, a buffer below 64 bytes with 0x0802; else the host gets the records asked for that fit, from FIRST_SEQ and MIN_SEVERITY on, 64 bytes each, log before queue; the words are their number, the next LOG_SEQ, the oldest and the newest, the result 1 where FIRST_SEQ is older than the oldest. IMAGE_WRITE ends at once with the first of 0x0901, 0x0902, 0x0903, 0x090B, 0x090D that applies, or 0x090A for a later part of a slot not WRITTEN; a slot in ERASING makes it wait; else its part is to be programmed; at OFFSET 0 the slot becomes WRITTEN, its commit flag falls and its sectors are to be erased. COMMIT, CONFIRM and SELECT refuse outside the window, in a STATE other than WRITTEN, TRIAL, CONFIRMED, while an image operation runs or the NOR is held, with the slot's words; COMMIT refuses an image that does not verify and else waits for its commit flag; CONFIRM makes the running slot CONFIRMED and fuses the larger floor; SELECT prefers the slot. (R345, R346, R347, R351, R340.) -/
def Obligations.LogAndImageRequests : Prop :=
∀ (s : State) (sq : Fin 32) (d : Desc), s.cqUp (s.boundCq sq) = true →
    let ends := fun (t : State) (c : Nat) (w : List Word) => t.lastDone sq = some (sq.val, d.tag, c, ((w ++ [0, 0, 0, 0]).take 4))
    let only := fun (t : State) => t = { s with regs := t.regs, hif := t.hif } ∧ (∀ o, 0x20000 ≤ o → t.rd o = s.rd o)
    (∀ l : List Byte, s.offers sq d true true = true → d.opcode = 0x0B →
      let newest := (s.rd R.MGT_LOG_NEWEST).toNat
      let oldest := (s.rd R.MGT_LOG_OLDEST).toNat
      let first := if d.le 24 4 = 0xFFFFFFFF then oldest else d.le 24 4
      ∃ t, exec (.logRead sq d ⟨true, l⟩) s = .next t ∧ only t ∧
        if 4 < d.byte 20 % 8 ∨ newest + 1 < first then
          t.hif.posted = s.hif.posted ∧ ends t 0x0801 ([0, 0, oldest, newest].map (BitVec.ofNat 32))
        else if d.bufLen < 64 then
          t.hif.posted = s.hif.posted ∧ ends t 0x0802 ([0, 0, oldest, newest].map (BitVec.ofNat 32))
        else
          let held := s.mgmt.log.map (fun r => (r, false)) ++ s.mgmt.logQ.map (fun r => (r, true))
          let asked := held.filter fun e => decide (first ≤ e.1.seq ∧ d.byte 20 % 8 ≤ e.1.sev)
          let room := if d.le 28 4 = 0 then d.bufLen / 64 else min (d.bufLen / 64) (d.le 28 4)
          let sent := asked.take room
          let next := if asked.length ≤ room then newest + 1 else (sent.getLast?.map fun e => e.1.seq + 1).getD first
          t.hif.posted = s.hif.posted ++ (if sent = [] then [] else [⟨d.bufAddr, sent.flatMap fun e => e.1.bytes e.2⟩]) ∧
          ends t (if first < oldest then 1 else 0) ([sent.length, next, oldest, newest].map (BitVec.ofNat 32))) ∧
    (∀ l : List Byte, s.offers sq d true true = true → d.opcode = 0x0C →
      let k := d.byte 20 % 2
      let off := d.le 24 4
      ∃ t, exec (.imageWrite sq d ⟨true, l⟩) s = .next t ∧
        let bad := fun (c : Nat) => only t ∧ ends t c [0]
        let job := fun (j : ImageJob) => t.mgmt.imageOp = some ⟨s.nextReq sq, k, j⟩ ∧ (t.sqRing sq).exec = some (s.hif.job, d) ∧
          t.slotTab 0 = s.slotTab 0 ∧ t.slotTab 1 = s.slotTab 1 ∧ t.slotFlag (1 - k) = s.slotFlag (1 - k)
        if off % 256 ≠ 0 ∨ d.bufLen % 256 ≠ 0 ∨ 2 ^ 20 < d.bufLen ∨ 2 ^ 24 < off + d.bufLen then bad 0x0901
        else if s.mgmt.running = k then bad 0x0902
        else if s.norWindow = false then bad 0x0903
        else if s.mgmt.imageOp ≠ none then bad 0x090B
        else if s.norHeld = true then bad 0x090D
        else if s.slotState k = 1 then job (.waits off (l.take d.bufLen)) ∧ t.slotFlag k = s.slotFlag k ∧ s.regsKept t [R.HIF_SQ_STATUS sq]
        else if off = 0 then job (.pages 0 (l.take d.bufLen) 0) ∧ t.slotState k = 2 ∧ t.slotFlag k = false ∧
          (∀ j < 2 ^ 25, t.sectorClean k j = false ∧ t.sectorClean (1 - k) j = s.sectorClean (1 - k) j)
        else if s.slotState k = 2 then job (.pages off (l.take d.bufLen) 0) ∧ t.slotFlag k = s.slotFlag k ∧
          t.mgmt.sectorsClean = s.mgmt.sectorsClean ∧ s.regsKept t [R.HIF_SQ_STATUS sq]
        else bad 0x090A) ∧
    (s.offers sq d false true = true → d.opcode = 0x0D →
      let refusal := fun (k want : Nat) => if s.norWindow = false then some 0x0903 else if s.slotState k ≠ want then some 0x090A
        else if s.mgmt.imageOp ≠ none then some 0x090B else if s.norHeld = true then some 0x090D else none
      (d.byte 20 = 0 → let k := d.byte 21 % 2
        ∃ t, exec (.imageCommit sq d) s = .next t ∧
          (∀ c, ((refusal k 2).orElse fun _ => s.imageFault k) = some c → only t ∧ ends t c (s.slotWords k)) ∧
          (refusal k 2 = none → s.imageFault k = none → t = { s with regs := t.regs, hif := t.hif, mgmt := { s.mgmt with imageOp := some ⟨s.nextReq sq, k, .flag⟩ } } ∧
            s.regsKept t [R.HIF_SQ_STATUS sq] ∧ (t.sqRing sq).exec = some (s.hif.job, d))) ∧
      (d.byte 20 = 1 → ∀ k : Fin 2, s.mgmt.running = k.val → ∃ t, exec (.imageConfirm sq d) s = .next t ∧
          (∀ c, refusal k 3 = some c → only t ∧ ends t c (s.slotWords k)) ∧
          (refusal k 3 = none → t.slotState k = 4 ∧ t.slotState (1 - k.val) = s.slotState (1 - k.val) ∧ t.preferred = s.preferred ∧
            t.fld R.MGT_OTP F.MGT_OTP_FLOOR = max (s.fld R.MGT_OTP F.MGT_OTP_FLOOR) (s.slotLe k 12 1) ∧ t.mgmt.imageOp = none ∧
            ends t 0 [s.rd (R.MGT_SLOT_SEQ k), BitVec.ofNat 32 (s.fld (R.MGT_SLOT k) F.MGT_SLOT_FLOOR), 4])) ∧
      (d.byte 20 = 2 → let k := d.byte 21 % 2
        ∃ t, exec (.imageSelect sq d) s = .next t ∧
          (∀ c, refusal k 4 = some c → only t ∧ ends t c (s.slotWords k)) ∧
          (refusal k 4 = none → t.preferred = k ∧ t.slotState 0 = s.slotState 0 ∧ t.slotState 1 = s.slotState 1 ∧
            t.rd R.MGT_OTP = s.rd R.MGT_OTP ∧ t.mgmt.imageOp = none ∧ ends t 0 (s.slotWords k))))

/-- POWER_ON from no power or Safe latched, COLD_RST_N low for 21 samples (not latched), and the EVI0 edge in Dormant come to t0: mode Start, registers at reset but straps, supply bits, pins and fuses; slots, log and latch flag kept. HOLDUP_EXHAUSTED on hold-up loses all power. DORMANT_POWER_DOWN in Dormant empties Cellar, keeping the wake set-up. The test port changes nothing. A step of COLD_START ends only when what it waits for has ended, with its effect: straps, READY, memory size, blocks powered, Cellar cleared; a memory that fails stops the start; with the latch flag step 6 ends in Safe, latched. ACQ_IMAGE_ADVANCE applies the next image once the last is done, or raises 225. A step of WARM_START likewise. START_COMMIT leaves Start two ticks on for Serve, Shadow or Limp, once the role is settled: STANDBY on a low line, else by the peer and the straps; NEGOTIATE_TIMEOUT makes it ACTIVE. (R16, R391, R418, R419, R424, R425, R428, R431, R437, R438, R441.) -/
def Obligations.ColdAndWarmStarts : Prop :=
∀ s : State,
    let fresh := fun (t : State) (e : Nat) => t.mode = .start ∧ t.now = s.now ∧ t.start = { StartSt.zero with t0 := s.now, ended := e } ∧
      (∀ o, o ∉ [R.PAIR_STATUS, R.PWR_STATUS, R.MGT_OTP] → (∀ n < 16, o ≠ R.EVT_PIN_STAT n) → t.rd o = resetOf o) ∧
      t.rd R.MGT_OTP = s.rd R.MGT_OTP ∧ t.mgmt.keyHashes = s.mgmt.keyHashes ∧ t.flt.latchFlag = s.flt.latchFlag ∧ t.mgmt.slotA = s.mgmt.slotA ∧ t.mgmt.slotB = s.mgmt.slotB ∧
      t.mgmt.log = s.mgmt.log ∧ t.hif.posted = s.hif.posted ∧ t.cellar = if s.mode = .latched ∧ s.start.noPower = false then [] else s.cellar
    let again := if s.mode = .dormant then 2 else if s.start.cold then s.start.ended &&& 14 else 14
    (s.start.noPower = true ∨ s.mode = .latched → ∃ t, exec .powerOn s = .next t ∧ fresh t 0) ∧
    (s.start.noPower = false → s.mode ≠ .latched → exec .powerOn s = .next s) ∧
    (∀ n : Nat, (n < 21 ∨ s.mode = .latched ∨ s.start.noPower = true → exec (.coldResetInput n) s = .next s) ∧
      (21 ≤ n → s.mode ≠ .latched → s.start.noPower = false → ∃ t, exec (.coldResetInput n) s = .next t ∧ fresh t again)) ∧
    (∀ falling : Bool,
      let wakes := s.mode = .dormant ∧ s.start.noPower = false ∧ s.flag R.PWR_WAKE F.PWR_WAKE_EVI0_EN = true ∧
        s.flag R.PWR_WAKE F.PWR_WAKE_EDGE = falling
      (¬ wakes → exec (.evi0Wake falling) s = .next s) ∧ (wakes → ∃ t, exec (.evi0Wake falling) s = .next t ∧ fresh t 2)) ∧
    exec .testPortReset s = .next s ∧
    (s.flag R.PWR_STATUS F.PWR_STATUS_ON_HOLDUP = false → exec .holdupExhausted s = .next s) ∧
    (s.flag R.PWR_STATUS F.PWR_STATUS_ON_HOLDUP = true → ∃ t, exec .holdupExhausted s = .next t ∧ t.mode = .dormant ∧ t.start.noPower = true ∧
      t.cellar = [] ∧ t.mgmt.logQ = [] ∧ t.mgmt.log = s.mgmt.log ∧ t.rd R.PWR_WAKE = 0 ∧ t.fld R.PWR_STATUS F.PWR_STATUS_PFAIL = 1) ∧
    (s.mode ≠ .dormant ∨ s.start.cold = true → exec .dormantPowerDown s = .next s) ∧
    (s.mode = .dormant → s.start.cold = false → ∃ t, exec .dormantPowerDown s = .next t ∧ t.mode = .dormant ∧ t.cellar = [] ∧
      t.rd R.PWR_WAKE = (s.rd R.PWR_WAKE &&& 0xC0000000#32) ∧ t.mgmt.logQ = s.mgmt.logQ) ∧
    (∀ k : ColdStep,
      let o := R.PAIR_STATUS
      (s.coldRuns k.num = false → exec (.coldStart k) s = .next s) ∧
      (s.coldRuns k.num = true →
        (k = .acquisition → s.start.acqImage ≠ 9 → exec (.coldStart k) s = .next s) ∧
        (∀ c e, k = .memory none c e → ∃ t, exec (.coldStart k) s = .next t ∧ t.start = { s.start with allowed := 0 } ∧ t.mode = s.mode) ∧
        ((∀ c e, k ≠ .memory none c e) → (k = .acquisition → s.start.acqImage = 9) → ∃ t, exec (.coldStart k) s = .next t ∧
          bitOf t.start.ended k.num = true ∧
          (k = .clocks ∨ k = .domains ∨ k = .pipelines → t = { s with start := t.start }) ∧
          (∀ en pref, k = .alwaysOn en pref → t.fld o F.PAIR_STATUS_PAIR_EN = bnat en ∧ t.fld o F.PAIR_STATUS_PREF = bnat pref ∧
            t.fld o F.PAIR_STATUS_ROLE = if en then 3 else 0) ∧
          (∀ n c e, k = .memory (some n) c e → t.pk = { s.pk with memGiB := 4 * 2 ^ n.val }) ∧
          (k = .hostUp → (s.flt.latchFlag = false → t.fld R.HIF_CTRL F.HIF_CTRL_READY = 1 ∧ t.mode = s.mode) ∧
            (s.flt.latchFlag = true → s.mode = .start → s.start.change = none → t.mode = .latched ∧ t.start.allowed = 0)) ∧
          (k = .loopBlocks → ∀ b < 16, t.fld (R.DRV_BLK_STATUS b) F.DRV_BLK_STATUS_POWERED = 1) ∧
          (k = .regionsCleared → ∀ a, Tab.get (fun _ => (0 : Byte)) t.cellar a =
            if a < 0x15000000 then 0 else Tab.get (fun _ => (0 : Byte)) s.cellar a) ∧
          (k = .cellarCleared → t.cellar = [])))) ∧
    (let n := s.start.acqImage
     let moves := s.coldRuns 9 = true ∧ (n = 0 ∨ (n < 9 ∧ s.acqDone = true))
     (¬ moves → exec .acqImageAdvance s = .next s) ∧
     (moves → ∃ t, exec .acqImageAdvance s = .next t ∧ t.start.acqImage = n + 1 ∧ t.now = cdiv s.now tickNs * tickNs ∧
       ∀ p c, n < 8 → s.acqFault n = some (p, c) → t.drive = s.drive ∧ t.flt.raised = s.flt.raised ++ [⟨225, p, c, 0, 0, false, [], 0⟩])) ∧
    (∀ k : WarmStep,
      let may := s.start.warm = true ∧ (s.mode = .start ∨ ((s.mode = .safe ∨ s.mode = .latched) ∧ k.num ≤ 5)) ∧
        s.start.done k.needs = true ∧ bitOf s.start.ended k.num = false ∧ s.inRecovery = false
      (¬ may → exec (.warmStart k) s = .next s) ∧
      (may → ∃ t, exec (.warmStart k) s = .next t ∧ bitOf t.start.ended k.num = true ∧ t.mode = s.mode ∧
        (k = .stopped → t.fld R.HIF_CTRL F.HIF_CTRL_READY = 0 ∧ t.flt.monitorUp = false ∧
          ∀ p < 4, t.fld (R.MGT_PROC_STATUS p) F.MGT_PROC_STATUS_STATE = 0) ∧
        (k = .poweredDown → t.pk.frames = []) ∧ (k = .rootstock → t.flt.proposal = none ∧ t.start.queue = []) ∧
        (k = .firmware → t.flt.monitorUp = true ∧ ∀ p < 4, t.fld (R.MGT_PROC_STATUS p) F.MGT_PROC_STATUS_STATE = 1) ∧
        (k = .hostUp → t.fld R.HIF_CTRL F.HIF_CTRL_READY = 1) ∧ (k = .pipelines → t.pk.cache = []))) ∧
    (s.startReady = false → ∀ v b, exec (.startCommit v b) s = .next s ∧ exec (.negotiateTimeout b) s = .next s) ∧
    (s.startReady = true →
      let o := R.PAIR_STATUS
      let link := s.flag o F.PAIR_STATUS_LINK
      let left := fun (t : State) => t.now = s.tick + 2000 ∧ t.start.cold = false ∧ t.start.warm = false ∧
        bitOf (t.fld R.HIF_ATTN F.HIF_ATTN_PENDING) 4 = true ∧ (t.role = 1 → t.fld o F.PAIR_STATUS_HOLD_DRIVEN = 1) ∧
        t.mode = if t.role = 2 then .shadow
          else if s.flag R.THM_STATUS F.THM_STATUS_THROTTLE ∨ s.pipeUnacked then .limp
          else if s.start.warm = true ∧ s.start.warmTo = .limp then .limp
          else if s.start.warm = true ∧ s.start.warmTo = .shadow then .shadow else .serve
      let pref := s.flag o F.PAIR_STATUS_PREF
      let peer := (s.rd R.PAIR_PEER_ID_LO).toNat + 2 ^ 32 * (s.rd R.PAIR_PEER_ID_HI).toNat
      (s.role ≠ 3 → ∀ b, exec (.negotiateTimeout b) s = .next s ∧
        ∃ t, exec (.startCommit 0 b) s = .next t ∧ left t ∧ t.role = s.role) ∧
      (s.role = 3 →
        (∃ t, exec (.startCommit 0 true) s = .next t ∧ left t ∧ t.role = 2 ∧ t.fld o F.PAIR_STATUS_CLASH = 0) ∧
        exec (.negotiateTimeout true) s = .next s ∧
        (link = false → exec (.startCommit 0 false) s = .next s ∧ ∀ a, s.start.readyAt = some a → ∃ t, exec (.negotiateTimeout false) s = .next t ∧
          t.role = 1 ∧ t.mode = .start ∧ t.now = max s.now (a + 10000000 * max 1 (s.fld R.PAIR_CFG F.PAIR_CFG_NEGOTIATE) +
            if pref then 100000000 else 0)) ∧
        (link = true → s.pair.peer = 1 → ∃ t, exec (.startCommit 0 false) s = .next t ∧ left t ∧ t.role = 2) ∧
        (link = true → s.pair.peer = 3 → ∃ t, exec (.startCommit 0 false) s = .next t ∧ left t ∧
          (pref ≠ s.pair.peerPref → t.role = (if pref then 2 else 1) ∧ t.fld o F.PAIR_STATUS_CLASH = 0) ∧
          (pref = s.pair.peerPref → t.role = (if Config.uniqueId.toNat < peer then 1 else 2) ∧ t.fld o F.PAIR_STATUS_CLASH = 1))))

/-- A MODE_SET that its ring offers, with bytes 21 to 63 zero and outside Start, joins the mode changes that wait, with the target of its opcode's TARGET (1 Limp, 2 Serve, 3 Dormant, 4 warm start, 5 cold start) and the instant at which it did; with four waiting it ends with 0x0A09 (BUSY). In Start it ends with 0x0A02, and with another byte set with 0x0A01, its words a mask of 0, MODE before and MODE now. The mode stays. (R439, R435, R17.) -/
def Obligations.ModeRequests : Prop :=
∀ (s : State) (sq : Fin 32) (d : Desc), s.offers sq d false true = true → d.opcode = 0x0E →
    ∀ e ∈ [(Instr.modeSetLimp sq d, 1, Target.limp), (.modeSetServe sq d, 2, .serve), (.modeSetDormant sq d, 3, .dormant),
        (.modeSetWarmStart sq d, 4, .warm), (.modeSetColdStart sq d, 5, .cold)], d.byte 20 = e.2.1 →
      ((upFrom 21 43).all (fun i => d.byte i == 0) = true → s.mode ≠ .start → s.start.queue.length < 4 →
        ∃ t, exec e.1 s = .next t ∧ t.start = { s.start with queue := s.start.queue ++ [⟨e.2.2, .host, some (s.nextReq sq), [], s.now⟩] } ∧
          s.regsKept t [R.HIF_SQ_STATUS sq] ∧ t = { s with regs := t.regs, hif := t.hif, start := t.start }) ∧
      (s.cqUp (s.boundCq sq) = true →
        ∀ c, (if (upFrom 21 43).any (fun i => d.byte i != 0) then c = 0x0A01 else if s.mode = .start then c = 0x0A02
          else 4 ≤ s.start.queue.length ∧ c = 0x0A09) →
        ∃ t, exec e.1 s = .next t ∧
          t.lastDone sq = some (sq.val, d.tag, c, [0, BitVec.ofNat 32 s.mode.code, BitVec.ofNat 32 s.mode.code, 0]) ∧
          t = { s with regs := t.regs, hif := t.hif })

/-- MODE_CHANGE_TRIGGER_TICK with a host request first in order, no change and no rack in progress or waiting: at the tick after its arrival a request for the present mode's own Limp or Serve ends with 1, one whose target the mode does not allow with 0x0A02 (0x0A08 in latched Safe); Limp from Serve is admitted, with the units 16 to 21 to report, the mode unchanged. Reports set ready bits; READY_COLLECTION 640 ns after a tick lets the change go once all are in; COMMIT_BROADCAST at 704 ns passes the commit point; PREPARE_TIMEOUT from DEADLINE on drops it. MODE_CHANGE_COMMIT_TICK of a change to Limp or Serve past its commit point, with no safe state due, sets MODE at the boundary tick. (R434, R435, R16, R17, R439, R68.) -/
def Obligations.ModeChanges : Prop :=
(∀ (s : State) (q : Req) (g : Target) (at_ : Nat) (l : List ModeReq), s.start.queue = ⟨g, .host, some q, [], at_⟩ :: l → s.start.change = none →
    s.rack.run = none → s.rack.arrived = [] → s.rack.pendingTrig = none →
    (g = .limp → s.mode = .serve → ∃ t, exec .modeChangeTriggerTick s = .next t ∧
      t.now = max ((at_ / 1000 + 1) * 1000) ((s.now + 999) / 1000 * 1000) ∧
      t = { s with now := t.now, start := { s.start with queue := l, change := some ⟨⟨g, .host, some q, [], at_⟩, t.now, 0x3F0000, 0, false, false⟩ } }) ∧
    (∀ d, q.sq < 32 → (s.sqRing q.sq).exec = some (q.job, d) → s.cqUp (s.boundCq q.sq) = true →
      ∀ c, (match s.mode, g with
        | .latched, _ => c = 0x0A08
        | .limp, .limp => c = 1
        | .serve, .serve => c = 1
        | .safe, .limp => c = 0x0A02
        | .shadow, .limp => c = 0x0A02
        | .safe, .serve => c = 0x0A02
        | .shadow, .serve => c = 0x0A02
        | .dormant, _ => c = 0x0A02
        | _, _ => False) →
      ∃ t, exec .modeChangeTriggerTick s = .next t ∧ t.mode = s.mode ∧ t.start = { s.start with queue := l } ∧
        t.lastDone q.sq = some (q.sq, d.tag, c, [0, BitVec.ofNat 32 s.mode.code, BitVec.ofNat 32 s.mode.code, 0]))) ∧
  (∀ (s : State) (r : ModeRun), s.start.change = some r → s.rack.run = none → s.restarting 2 = false → r.r.src = .host →
    (r.window = false →
      (∀ u : Fin 23, bitOf r.units u = true → exec (.unitPrepareReport u) s =
        .next { s with start := { s.start with change := some { r with ready := r.ready ||| 2 ^ u.val } } }) ∧
      (∃ t, exec .readyCollection s = .next t ∧ t.now = max s.now (s.tick + 640) ∧
        t = { s with now := t.now, start := { s.start with change := some { r with go := r.units &&& r.ready == r.units } } }) ∧
      (r.go = true → r.r.target = .limp ∨ r.r.target = .serve → ∃ t, exec .commitBroadcast s = .next t ∧ t.now = max s.now (s.tick + 704) ∧
        t = { s with now := t.now, start := { s.start with change := some { r with window := true } } }) ∧
      (r.t0 + 1000 * max 2 (s.fld R.FAB_RACK_CTRL F.FAB_RACK_CTRL_DEADLINE) ≤ s.now →
        ∃ t, exec .prepareTimeout s = .next t ∧ t.start.change = none ∧ t.mode = s.mode)) ∧
    (∀ late : BitVec 23, r.window = true → s.start.safeDue = none → r.r.target = .limp ∨ r.r.target = .serve →
      ∃ t, exec (.modeChangeCommitTick late) s = .next t ∧ t.now = (s.now + 999) / 1000 * 1000 ∧
        t.mode = r.r.target.mode ∧ t.start.change = none ∧ t.fab = s.fab))

/-- GRAFT_LINK_UP of the first lane sets LINK with the peer's version and identifier, the feature floor and INCOMPATIBLE (more than one apart), fires 252, and starts a resync outside Start; of a second only LANES. GRAFT_LANE_DOWN of the last clears LINK and SYNC. PAIR_LINK_LOST after 100 us raises 467 once. MIRROR_RECORD: a standby in Shadow with a compatible link writes a mirrored register as received and shows the age; a lost record starts a resync; a set waits for the mirror rack before it; another member takes none. RESYNC_COMPLETE sets SYNC and ends the PAIR_CMD that asked. HOLD_RELEASE_SEEN starts the guard; TAKEOVER_GUARD_END asks for the take-over after GUARD cycles, a low line rejects it. PAIR_HOLD_MISMATCH raises 468. EXCHANGE_RELAYED at the active asks for Shadow. DRILL_HOUR counts HOURS and shows DRILL_OVERDUE. GRAFT_TIME_SAMPLE steps or disciplines a following base only. (R440, R443, R444, R445, R446, R449, R451, R452, R454, R455.) -/
def Obligations.PairLinkMirrorAndTakeover : Prop :=
∀ s : State,
    let o := R.PAIR_STATUS
    let en := s.flag o F.PAIR_STATUS_PAIR_EN
    let link := s.flag o F.PAIR_STATUS_LINK
    let lanes := s.fld o F.PAIR_STATUS_LANES
    let compat := s.flag o F.PAIR_STATUS_INCOMPATIBLE = false
    let resynced := fun (t : State) => t.fld o F.PAIR_STATUS_SYNC = 0 ∧ t.pair.resync = true ∧
      t.fld R.PAIR_COUNTS F.PAIR_COUNTS_RESYNCS = min (s.fld R.PAIR_COUNTS F.PAIR_COUNTS_RESYNCS + 1) 255
    let class5 := fun (t : State) => bitOf (t.fld R.HIF_ATTN F.HIF_ATTN_PENDING) 5 = true ∧
      (s.eventsOn = true → t.evt.fired.map Fire.src = s.evt.fired.map Fire.src ++ [252])
    (∀ (k : Fin 2) (ver : BitVec 16) (id : BitVec 64) (role : Fin 4) (pref : Bool),
      let own := s.fld R.PAIR_VERSION F.PAIR_VERSION_OWN_VERSION
      (en = false ∨ s.eventsOn = false → exec (.graftLinkUp k ver id role pref) s = .next s) ∧
      (en = true → s.eventsOn = true → ∃ t, exec (.graftLinkUp k ver id role pref) s = .next t ∧
        t.fld o F.PAIR_STATUS_LANES = lanes ||| 2 ^ k.val ∧ t.pair.peer = role.val ∧ t.pair.peerPref = pref ∧ t.pair.lost = false ∧
        (link = true → s.regsKept t [o] ∧ t.pair = { s.pair with peer := role.val, peerPref := pref, lost := false } ∧ t.evt = s.evt) ∧
        (link = false → t.fld o F.PAIR_STATUS_LINK = 1 ∧ t.fld R.PAIR_VERSION F.PAIR_VERSION_PEER_VERSION = ver.toNat ∧
          t.fld R.PAIR_VERSION F.PAIR_VERSION_OWN_VERSION = own ∧ t.fld R.PAIR_FEATURE F.PAIR_FEATURE_FLOOR = min own ver.toNat ∧
          (t.rd R.PAIR_PEER_ID_HI).toNat * 2 ^ 32 + (t.rd R.PAIR_PEER_ID_LO).toNat = id.toNat ∧
          t.fld o F.PAIR_STATUS_INCOMPATIBLE = bnat (decide (own + 1 < ver.toNat ∨ ver.toNat + 1 < own)) ∧ class5 t ∧
          (s.mode = .start → t.pair.resync = s.pair.resync ∧ t.fld o F.PAIR_STATUS_SYNC = s.fld o F.PAIR_STATUS_SYNC) ∧
          (s.mode ≠ .start → own ≤ ver.toNat + 1 → ver.toNat ≤ own + 1 → resynced t)))) ∧
    (∀ (k : Fin 2) (ns : Fin 1000),
      let now := max s.now (s.tick + ns.val)
      (bitOf lanes k.val = false → exec (.graftLaneDown k ns) s = .next (s.at_ ns)) ∧
      (bitOf lanes k.val = true → ∃ t, exec (.graftLaneDown k ns) s = .next t ∧ t.now = now ∧ t.fld o F.PAIR_STATUS_LANES = lanes - 2 ^ k.val ∧
        (lanes ≠ 2 ^ k.val → s.regsKept t [o] ∧ t.fld o F.PAIR_STATUS_LINK = s.fld o F.PAIR_STATUS_LINK ∧ t.pair = s.pair) ∧
        (lanes = 2 ^ k.val → t.fld o F.PAIR_STATUS_LINK = 0 ∧ t.fld o F.PAIR_STATUS_SYNC = 0 ∧ class5 t ∧
          t.pair = { s.pair with downSince := now, resync := false } ∧ s.regsKept t [o, R.HIF_ATTN]))) ∧
    (let lost := en = true ∧ s.eventsOn = true ∧ lanes = 0 ∧ s.pair.lost = false ∧ s.pair.downSince + 100000 ≤ s.now
     (¬ lost → exec .pairLinkLost s = .next s) ∧
     (lost → ∃ t, exec .pairLinkLost s = .next t ∧ t.pair = { s.pair with lost := true } ∧ t.regs = s.regs ∧
       t.flt.raised = s.flt.raised ++ [⟨467, 0, 0, 0, 0, false, [], 0⟩])) ∧
    (∀ (m : MirrorRec) (missed : Bool) (age : BitVec 16),
      let standby := s.mode = .shadow ∧ s.role = 2 ∧ link = true ∧ compat
      (¬ standby → exec (.mirrorRecord m missed age) s = .next s) ∧
      (standby → ((∃ a b c d f p, m = .set a b c d f p) ∧ s.mirrorRacks = true → exec (.mirrorRecord m missed age) s = .next s) ∧
        ((∀ a b c d f p, m ≠ .set a b c d f p) → ∃ t, exec (.mirrorRecord m missed age) s = .next t ∧ t.pair.peer = 1 ∧
          t.fld o F.PAIR_STATUS_MIRROR_AGE = age.toNat ∧ (missed = true → resynced t) ∧
          (missed = false → t.pair.resync = s.pair.resync ∧ t.fld o F.PAIR_STATUS_SYNC = s.fld o F.PAIR_STATUS_SYNC) ∧
          (∀ v w, v < 4096 → w < 3 → ∀ x : Word, m = .reg (R.TBL_FLOOD v w) x → t.rd (R.TBL_FLOOD v w) = x ∧
            (missed = false → s.regsKept t [o, R.TBL_FLOOD v w]))))) ∧
    (let ends := s.pair.resync = true ∧ link = true ∧ s.mode ≠ .start
     (¬ ends → exec .resyncComplete s = .next s) ∧
     (ends → ∃ t, exec .resyncComplete s = .next t ∧ t.pair.resync = false ∧ t.pair.resyncReq = none ∧
       (s.pair.resyncReq = none → t.fld o F.PAIR_STATUS_SYNC = 1 ∧ t.fld o F.PAIR_STATUS_MIRROR_AGE = 0 ∧ s.regsKept t [o]) ∧
       ∀ r b d, s.pair.resyncReq = some (r, b) → r.sq < 32 → (s.sqRing r.sq).exec = some (r.job, d) → s.cqUp (s.boundCq r.sq) = true →
         t.fld o F.PAIR_STATUS_SYNC = 1 ∧ t.lastDone r.sq = some (r.sq, d.tag, 0,
           [t.rd o, t.rd R.PAIR_VERSION, BitVec.ofNat 32 b, BitVec.ofNat 32 s.mode.code]))) ∧
    (∀ (low : Bool) (ns : Fin 1000),
      let now := max s.now (s.tick + ns.val)
      let sees := s.mode = .shadow ∧ s.role = 2 ∧ s.pair.guard = false ∧ s.takingOver = false ∧ (s.pair.gaveUp = true → low = true)
      (¬ sees → exec (.holdReleaseSeen low ns) s = .next (s.at_ ns)) ∧
      (sees → ∃ t, exec (.holdReleaseSeen low ns) s = .next t ∧ t.now = now ∧ t.fld o F.PAIR_STATUS_LINE_LOW = 0 ∧
        t.pair = { s.pair with relSince := some (now - 3417), guard := true, gaveUp := false } ∧ s.regsKept t [o])) ∧
    (∀ low : Bool, (s.pair.guard = false ∨ s.pair.relSince = none → exec (.takeoverGuardEnd low) s = .next s) ∧
      ∀ a, s.pair.guard = true → s.pair.relSince = some a →
        (low = true ∨ s.mode ≠ .shadow → ∃ t, exec (.takeoverGuardEnd low) s = .next t ∧ s.regsKept t [o] ∧ t.start = s.start ∧
          t.pair = { s.pair with guard := false, relSince := none } ∧ t.fld o F.PAIR_STATUS_LINE_LOW = bnat low) ∧
        (low = false → s.mode = .shadow →
          let now := max s.now (a + aonNs (7 + clampNat 16 1000 (s.fld R.PAIR_CFG F.PAIR_CFG_GUARD)))
          ∃ t, exec (.takeoverGuardEnd low) s = .next t ∧ t.now = now ∧ t.pair = { s.pair with guard := false } ∧ t.regs = s.regs ∧
            t.start = { s.start with queue := s.start.queue ++ [⟨.serve, .takeOver, none, [], now⟩] })) ∧
    (∀ high : Bool,
      let driven := s.flag o F.PAIR_STATUS_HOLD_DRIVEN = true
      let seen := if high = true then driven else s.role = 1 ∧ link = true
      (¬ seen → exec (.pairHoldMismatch high) s = .next s) ∧
      (seen → ∃ t, exec (.pairHoldMismatch high) s = .next t ∧ s.regsKept t [o] ∧ (high = true → t.fld o F.PAIR_STATUS_LINE_LOW = 0) ∧
        (high = false → t.regs = s.regs ∧ t.pair.peer = 1) ∧ t.flt.raised = s.flt.raised ++ [⟨468, 0, 0, 0, 0, false, [], 0⟩])) ∧
    (let may := s.role = 1 ∧ (s.mode = .serve ∨ s.mode = .limp ∨ s.mode = .shadow) ∧ s.pair.exch = none ∧ link = true
     (¬ may → exec .exchangeRelayed s = .next s) ∧
     (may → ∃ t, exec .exchangeRelayed s = .next t ∧ t.regs = s.regs ∧ t.pair = { s.pair with exch := some (none, s.mode.code) } ∧
       t.start = { s.start with queue := s.start.queue ++ [⟨.shadow, .pairCmd, none, [], s.now⟩] })) ∧
    (let h := s.fld R.PAIR_DRILL F.PAIR_DRILL_HOURS
     let limit := s.fld R.PAIR_DRILL F.PAIR_DRILL_DRILL_H
     (s.now < s.pair.roleSince + (h + 1) * 3600000000000 → exec .drillHour s = .next s) ∧
     (s.pair.roleSince + (h + 1) * 3600000000000 ≤ s.now → ∃ t, exec .drillHour s = .next t ∧
       t.fld R.PAIR_DRILL F.PAIR_DRILL_HOURS = min (h + 1) 65535 ∧ t.fld R.PAIR_DRILL F.PAIR_DRILL_DRILL_H = limit ∧
       t.fld o F.PAIR_STATUS_DRILL_OVERDUE = bnat (decide (limit ≠ 0 ∧ limit ≤ min (h + 1) 65535)) ∧ s.regsKept t [R.PAIR_DRILL, o])) ∧
    (∀ (n : Fin 4) (θ : BitVec 48) (ns : Fin 1000),
      let now := max s.now (s.tick + ns.val)
      let follows := s.mode = .shadow ∧ bitOf (s.fld R.PAIR_CFG F.PAIR_CFG_TB_FOLLOW) n.val = true ∧ link = true
      (¬ follows → exec (.graftTimeSample n θ ns) s = .next (s.at_ ns)) ∧
      (follows → ∃ t, exec (.graftTimeSample n θ ns) s = .next t ∧ t.now = now ∧ (∀ m : Fin 4, m ≠ n → t.tb m = s.tb m) ∧
        (s.flag (R.TIM_SERVO_CFG n) F.TIM_SERVO_CFG_EN = false → t.tim = s.tim ∧ t.fld (R.TIM_SERVO_STATUS n) F.TIM_SERVO_STATUS_IGNORED =
          min (s.fld (R.TIM_SERVO_STATUS n) F.TIM_SERVO_STATUS_IGNORED + 1) (2 ^ F.TIM_SERVO_STATUS_IGNORED.w - 1)) ∧
        (s.flag (R.TIM_SERVO_CFG n) F.TIM_SERVO_CFG_EN = true → t.fld (R.TIM_SERVO_STATUS n) F.TIM_SERVO_STATUS_STATE = 1 ∧
          t.rd (R.TIM_SERVO_LAST n) = BitVec.ofNat 32 (thetaNs θ.toInt))))

/-- For every command and every state, exec answers a next state in which the queue of waiting commands and every part of the state that mayWrite does not list for the command (of: the clock, the registers, the mode, the count of open values, and the state of each unit beside its registers, such as fabric, racks, faults, loops, sequencers, events, lanes, pipeline, pair and Cellar's bytes) hold what they held. (The division of the state into parts is the model's own.) (01_architecture.md, 14_host_interface.md, 95_what_each_step_holds.md.) -/
def Obligations.CommandsKeepWhatTheyDoNotWrite : Prop :=
∀ (c : Instr) (s : State), ∃ t, exec c s = .next t ∧ t.pending = s.pending ∧ ∀ p : Part, p ∉ mayWrite c → p.kept s t

/-- PAIR_CMD that its ring offers ends at once with the first of 0x0B01 (a reserved bit or byte set), 0x0B02 (unpaired), 0x0B03 (not ready: an exchange without FORCE needs the link, SYNC, compatible versions and a standby in Shadow; a resync the link and compatible versions), 0x0B04 (Start, Safe, Dormant), 0x0B05 (exchange or resync in progress) that applies, its words PAIR_STATUS, PAIR_VERSION, the mode twice. An accepted EXCHANGE asks for a change to Shadow, or at a standby is relayed over Graft; an accepted RESYNC clears SYNC and counts RESYNCS; both stay in execution. RELEASE of no record known ends with 0x0C01, of an untracked one or one at LOG with 1, of one that isolated nothing with 0x0C04; a condition still present acknowledges the record and ends with 0x0C02, the isolation kept; else the record is gone and, where no other record isolates its target, the target's mark is cleared and the other marks kept. ACK_UP_TO acknowledges every open record up to LOG_SEQ and no other, keeps those whose isolation stands, and counts them. The words are the records acknowledged, those still open and FLT_STATUS. (R449, R454, R455, R386, R385, R380.) -/
def Obligations.PairCommandsAndReleases : Prop :=
∀ (s : State) (sq : Fin 32) (d : Desc), s.offers sq d false true = true → s.cqUp (s.boundCq sq) = true →
    let o := R.PAIR_STATUS
    let ends := fun (t : State) (c : Nat) (w : List Word) => t.lastDone sq = some (sq.val, d.tag, c, ((w ++ [0, 0, 0, 0]).take 4))
    let compat := s.flag o F.PAIR_STATUS_LINK = true ∧ s.flag o F.PAIR_STATUS_INCOMPATIBLE = false
    let refusal := fun (badBits ready : Bool) =>
      if badBits = true ∨ (upFrom 22 42).any (fun i => d.byte i != 0) = true then some 0x0B01
      else if s.flag o F.PAIR_STATUS_PAIR_EN = false then some 0x0B02
      else if ready = false then some 0x0B03
      else if s.mode = .start ∨ s.mode = .safe ∨ s.mode = .latched ∨ s.mode = .dormant then some 0x0B04
      else if s.pair.exch ≠ none ∨ s.pair.resync = true then some 0x0B05 else none
    let refused := fun (t : State) (c : Nat) => t = { s with regs := t.regs, hif := t.hif } ∧ (∀ a, 0x20000 ≤ a → t.rd a = s.rd a) ∧
      ends t c [s.rd o, s.rd R.PAIR_VERSION, BitVec.ofNat 32 s.mode.code, BitVec.ofNat 32 s.mode.code]
    (d.opcode = 0x0F → d.byte 20 = 0 → ∀ standby : Bool,
      let force := decide (d.byte 21 % 2 = 1)
      let ready := force || (decide (compat ∧ s.flag o F.PAIR_STATUS_SYNC = true) && if s.role = 2 then s.mode == .shadow else standby)
      ∃ t, exec (.pairExchange sq d standby) s = .next t ∧
        (∀ c, refusal (decide (1 < d.byte 21)) ready = some c → refused t c) ∧
        (refusal (decide (1 < d.byte 21)) ready = none → (t.sqRing sq).exec = some (s.hif.job, d) ∧ s.regsKept t [R.HIF_SQ_STATUS sq] ∧
          t.pair.exch = some (some (s.nextReq sq), s.mode.code) ∧
          (s.role = 2 → t.start = s.start ∧
            t.pair.out = s.pair.out ++ (if s.flag o F.PAIR_STATUS_LINK = true then [.exchange force] else [])) ∧
          (s.role ≠ 2 → t.pair.out = s.pair.out ∧
            t.start = { s.start with queue := s.start.queue ++ [⟨.shadow, .pairCmd, some (s.nextReq sq), [], s.now⟩] }))) ∧
    (d.opcode = 0x0F → d.byte 20 = 1 → ∃ t, exec (.pairResync sq d) s = .next t ∧
        (∀ c, refusal (decide (0 < d.byte 21)) (decide compat) = some c → refused t c) ∧
        (refusal (decide (0 < d.byte 21)) (decide compat) = none → (t.sqRing sq).exec = some (s.hif.job, d) ∧ t.pair.resyncReq = some (s.nextReq sq, s.mode.code) ∧ t.pair.resync = true ∧
          t.pair.exch = none ∧ t.fld o F.PAIR_STATUS_SYNC = 0 ∧
          t.fld R.PAIR_COUNTS F.PAIR_COUNTS_RESYNCS = min (s.fld R.PAIR_COUNTS F.PAIR_COUNTS_RESYNCS + 1) 255 ∧
          s.regsKept t [R.HIF_SQ_STATUS sq, o, R.PAIR_COUNTS] ∧ t.start = s.start)) ∧
    (d.opcode = 0x10 → Tab.wf (fun _ => none) s.flt.recs = true →
      let q := d.le 24 4
      let done := fun (t : State) (c n : Nat) => ends t c [BitVec.ofNat 32 n, BitVec.ofNat 32 t.openRecs.length, t.rd R.FLT_STATUS] ∧
        (t.fld R.FLT_STATUS F.FLT_STATUS_OPEN) = t.openRecs.length % 128 ∧ t.mode = s.mode ∧ t.mgmt = s.mgmt
      let marks := fun (t : State) => t.fab = s.fab ∧ t.rack = s.rack ∧ t.lane = s.lane ∧ ∀ b < 16, t.rd (R.DRV_BLK_STATUS b) = s.rd (R.DRV_BLK_STATUS b)
      (d.byte 20 = 1 → ∀ checkOk : Bool, ∃ t, exec (.faultRelease sq d checkOk) s = .next t ∧
        (s.recBySeq q = none → t.frecs = s.frecs ∧ marks t ∧
          done t (if s.loggedSev q = none then 0x0C01 else if s.loggedSev q = some 0 then 1 else 0x0C04) 0) ∧
        ∀ p k, s.recBySeq q = some (p, k) →
          if 64 ≤ p then t.frecs = s.frecs ∧ marks t ∧ done t 1 0
          else if k.iso = false then t.frecs = s.frecs ∧ marks t ∧ done t 0x0C04 0
          else if s.present k checkOk = true then marks t ∧ done t 0x0C02 (bnat k.opened) ∧
            (∀ e, e.1 ≠ p → (e ∈ t.frecs ↔ e ∈ s.frecs)) ∧ (∀ e ∈ t.frecs, e.1 = p → e.2 = { k with opened := false })
          else done t 0 (bnat k.opened) ∧ (∀ e, e ∈ t.frecs ↔ e ∈ s.frecs ∧ e.1 ≠ p) ∧
            t.rd (R.FLT_OPEN p) = 0xFFFFFFFF ∧
            ∀ g, targetOf k.src k.loc = some g →
              if (s.frecs.any fun e => e.1 != p && e.2.iso && decide (targetOf e.2.src e.2.loc = some g)) = true ∨
                  (s.flt.latched.any fun e => decide (2 ≤ e.2 ∧ targetOf e.1.src e.1.loc = some g)) = true then marks t
              else
                (∀ j < 4352, t.fab.isoCells.getLsbD j = (decide (g ≠ .cell j) && s.fab.isoCells.getLsbD j)) ∧
                (∀ j < 4352, t.fab.isoIn.getLsbD j = (decide (g ≠ .attIn j) && s.fab.isoIn.getLsbD j)) ∧
                (∀ j < 4352, t.fab.isoOut.getLsbD j = (decide (g ≠ .attOut j) && s.fab.isoOut.getLsbD j)) ∧
                (∀ j < 4352, t.fab.isoBlocks.getLsbD j = (decide (g ≠ .block j) && s.fab.isoBlocks.getLsbD j)) ∧
                t.rack.seqIso = (decide (g ≠ .rackSeq) && s.rack.seqIso) ∧
                (∀ j < 4352, t.lane.isoQuad.getLsbD j = (decide (g ≠ .quad j) && s.lane.isoQuad.getLsbD j)) ∧
                (∀ j < 4352, t.lane.isoTap.getLsbD j = (decide (g ≠ .tap j) && s.lane.isoTap.getLsbD j)) ∧
                ∀ x ∈ g.elems, x < 9216 → t.elemIso x = false → bitOf (t.hold x) 2 = false) ∧
      (d.byte 20 = 2 → ∃ t, exec (.faultAckUpTo sq d) s = .next t ∧
        done t 0 (s.openRecs.filter fun k => decide (k.seq ≤ q)).length ∧ marks t ∧
        ∀ p, ((∀ k, (p, k) ∉ s.frecs) → ∀ k, (p, k) ∉ t.frecs) ∧ ∀ k, (p, k) ∈ s.frecs → ∀ u,
          if k.opened = false ∨ q < k.seq then ((p, u) ∈ t.frecs ↔ u = k)
          else if k.iso = true ∧ (targetOf k.src k.loc).any IsoTarget.stands = true then ((p, u) ∈ t.frecs ↔ u = { k with opened := false })
          else (p, u) ∉ t.frecs))

/-- A 4-byte REGISTER_WRITE, by an owner that reaches registers, at the offset of a register with no LK field, no row of its own and no further effect: the RW bits take the value, the W1C bits written 1 are cleared, the other bits keep; every other register and every other part of the state stay. At an offset with no register it changes nothing. A write of fewer than 4 bytes, of 5 to 7, or at an offset not aligned to 4, changes nothing. A write of 8 bytes acts as two of 4, the lower offset first. (R4, R5, R475, R476, R474.) -/
def Obligations.RegisterWritesByAccessCode : Prop :=
∀ (s : State) (o : Owner) (off : BitVec 24) (v : BitVec 64), s.reaches o = true →
    (∀ (d : RegDesc) (i : List Nat), off.toNat % 4 = 0 → findReg off.toNat = some (d, i) → d.lk = 0 → plainReg off.toNat = true →
      ∃ t, exec (.registerWrite o off 4 v) s = .next t ∧ t = { s with regs := t.regs } ∧ s.regsKept t [off.toNat] ∧
        ∀ b < 32, (t.rd off.toNat).getLsbD b =
          if d.w1c.testBit b && v.getLsbD b then false
          else if d.rw.testBit b then v.getLsbD b else (s.rd off.toNat).getLsbD b) ∧
    (findReg off.toNat = none → exec (.registerWrite o off 4 v) s = .next s) ∧
    (∀ n : Fin 9, (n ≠ 4 ∧ n ≠ 8) ∨ off.toNat % 4 ≠ 0 → exec (.registerWrite o off n v) s = .next s) ∧
    (off.toNat % 4 = 0 → off.toNat + 4 < 2 ^ 24 → ∀ t, exec (.registerWrite o off 4 v) s = .next t →
      exec (.registerWrite o off 8 v) s = exec (.registerWrite o (off + 4) 4 (v >>> 32)) t)

/-- READ_CLEAR of 1 to 4 bytes within one register that is no half of a pair and whose reads have no row of their own returns those bytes, WO bits as 0, clears the RC bits of that register, and changes nothing else. At an offset with no register 4 bytes read 0. A 4-byte SNAPSHOT_READ_LO at a _LO register returns it and snapshots the pair for that requester; in every later state with the requester's snapshots unchanged, READ_CLEAR of 4 bytes at the _HI register returns bits 63:32 of the snapshot, whatever the register holds then, and spends it, so that the next such read returns the live value. An 8-byte read at the _LO offset returns both halves and leaves the snapshots. (R4, R5, R475, R323.) -/
def Obligations.RegisterReads : Prop :=
∀ (s : State) (o : Owner) (off : BitVec 24), s.reaches o = true →
    (∀ (n : Fin 9) (d : RegDesc) (i : List Nat), 0 < n.val → off.toNat % 4 + n.val ≤ 4 → findReg (off.toNat / 4 * 4) = some (d, i) →
      ownRead (off.toNat / 4 * 4) = false → pairLo (off.toNat / 4 * 4) = false → pairLo (off.toNat / 4 * 4 - 4) = false →
      ∃ t, exec (.readClear o off n) s = .next t ∧
        t.hif.rdata.toNat = (d.readable (s.heldAt o (off.toNat / 4 * 4))).toNat / 2 ^ (8 * (off.toNat % 4)) % 2 ^ (8 * n.val) ∧
        t.rd (off.toNat / 4 * 4) = d.afterRead (s.rd (off.toNat / 4 * 4)) ∧ s.regsKept t [off.toNat / 4 * 4] ∧
        t = { s with regs := t.regs, hif := { s.hif with rdata := t.hif.rdata } }) ∧
    (off.toNat % 4 = 0 → findReg off.toNat = none →
      exec (.readClear o off 4) s = .next { s with hif := { s.hif with rdata := 0 } }) ∧
    (pairLo off.toNat = true → ∃ t, exec (.snapshotReadLo o off 4) s = .next t ∧
      t.hif.rdata.toNat = (s.heldAt o off.toNat).toNat ∧ t.regs = s.regs ∧
      (∀ u : State, u.snaps o = t.snaps o → u.reaches o = true → ∃ x, exec (.readClear o (off + 4) 4) u = .next x ∧
        x.hif.rdata.toNat = (s.heldAt o (off.toNat + 4)).toNat ∧ x.regs = u.regs ∧
        ∃ y, exec (.readClear o (off + 4) 4) x = .next y ∧ y.hif.rdata.toNat = (x.heldAt o (off.toNat + 4)).toNat) ∧
      exec (.snapshotReadLo o off 8) s = .next { s with hif := { s.hif with
        rdata := BitVec.ofNat 64 ((s.heldAt o off.toNat).toNat + 2 ^ 32 * (s.heldAt o (off.toNat + 4)).toNat) } })
end

