-- ==== Sys2Proof/Laws/Tab.lean ====
section
/-! SUPPORT. Laws of the sparse tables: a key reads as it was last written, a write leaves every other key alone, and every operation keeps
the canonical form. -/

namespace Sys2Proof.Machine

variable {α : Type} (d : Nat → α)

@[simp] theorem Tab.get_nil (k : Nat) : Tab.get d [] k = d k := rfl

theorem Tab.get_drop_same (t : Tab α) (k : Nat) : Tab.get d (Tab.drop k t) k = d k := by
  induction t with
  | nil => rfl
  | cons e t ih =>
    obtain ⟨a, v⟩ := e
    by_cases h : a = k
    · simpa [Tab.drop, h] using ih
    · have h' : ¬ k = a := fun e => h e.symm
      simpa [Tab.drop, h, Tab.get, h'] using ih

theorem Tab.get_drop_ne (t : Tab α) (k j : Nat) (h : j ≠ k) : Tab.get d (Tab.drop k t) j = Tab.get d t j := by
  induction t with
  | nil => rfl
  | cons e t ih =>
    obtain ⟨a, v⟩ := e
    by_cases hk : a = k
    · have hj : ¬ j = a := fun e => h (e.trans hk)
      have hd : Tab.drop k ((a, v) :: t) = Tab.drop k t := by simp [Tab.drop, hk]
      simp [hd, ih, Tab.get, hj]
    · have hd : Tab.drop k ((a, v) :: t) = (a, v) :: Tab.drop k t := by simp [Tab.drop, hk]
      simp [hd, Tab.get, ih]

theorem Tab.get_put_same (t : Tab α) (k : Nat) (v : α) (h : ∀ e ∈ t, e.1 ≠ k) : Tab.get d (Tab.put k v t) k = v := by
  induction t with
  | nil => simp [Tab.put, Tab.get]
  | cons e t ih =>
    obtain ⟨a, w⟩ := e
    have ha : ¬ k = a := fun e => h (a, w) (by simp) e.symm
    have ht := ih (fun e he => h e (List.mem_cons_of_mem _ he))
    by_cases hk : k < a
    · simp [Tab.put, hk, Tab.get]
    · simp [Tab.put, hk, Tab.get, ha, ht]

theorem Tab.get_put_ne (t : Tab α) (k j : Nat) (v : α) (h : j ≠ k) : Tab.get d (Tab.put k v t) j = Tab.get d t j := by
  induction t with
  | nil => simp [Tab.put, Tab.get, h]
  | cons e t ih =>
    obtain ⟨a, w⟩ := e
    by_cases hk : k < a
    · simp [Tab.put, hk, Tab.get, h]
    · simp [Tab.put, hk, Tab.get, ih]

/-- A cleared range reads as unlisted, and every other key as before. -/
theorem Tab.get_clear (t : Tab α) (lo n j : Nat) :
    Tab.get d (Tab.clear lo n t) j = if lo ≤ j ∧ j < lo + n then d j else Tab.get d t j := by
  induction t with
  | nil => simp [Tab.clear]
  | cons e t ih =>
    obtain ⟨a, v⟩ := e
    by_cases hk : a < lo ∨ lo + n ≤ a
    · have hd : Tab.clear lo n ((a, v) :: t) = (a, v) :: Tab.clear lo n t := by simp [Tab.clear, hk]
      rw [hd]
      by_cases hj : j = a
      · subst hj
        have : ¬ (lo ≤ j ∧ j < lo + n) := by omega
        simp [Tab.get, this]
      · simp [Tab.get, hj, ih]
    · have hd : Tab.clear lo n ((a, v) :: t) = Tab.clear lo n t := by simp [Tab.clear, hk]
      rw [hd, ih]
      by_cases hj : j = a
      · subst hj
        have : lo ≤ j ∧ j < lo + n := by omega
        simp [this]
      · simp [Tab.get, hj]

variable [DecidableEq α]

/-- A key reads as it was last written. -/
@[simp] theorem Tab.get_set_same (t : Tab α) (k : Nat) (v : α) : Tab.get d (Tab.set d t k v) k = v := by
  unfold Tab.set
  split
  · next h => rw [Tab.get_drop_same, h]
  · exact Tab.get_put_same d _ k v (by simp [Tab.drop])

/-- A write leaves every other key alone. -/
theorem Tab.get_set_ne (t : Tab α) (k j : Nat) (v : α) (h : j ≠ k) : Tab.get d (Tab.set d t k v) j = Tab.get d t j := by
  unfold Tab.set
  split
  · exact Tab.get_drop_ne d t k j h
  · rw [Tab.get_put_ne d _ k j v h, Tab.get_drop_ne d t k j h]

/-- What a key reads after a write. -/
theorem Tab.get_set (t : Tab α) (k j : Nat) (v : α) :
    Tab.get d (Tab.set d t k v) j = if j = k then v else Tab.get d t j := by
  split
  · next h => rw [h, Tab.get_set_same]
  · next h => exact Tab.get_set_ne d t k j v h

/-! ### The canonical form -/

theorem Tab.wfFrom_mono (t : Tab α) (j k : Nat) (hjk : j ≤ k) (h : Tab.wfFrom d k t = true) : Tab.wfFrom d j t = true := by
  cases t with
  | nil => rfl
  | cons e t =>
    obtain ⟨a, v⟩ := e
    simp only [Tab.wfFrom, Bool.and_eq_true, decide_eq_true_eq] at h ⊢
    exact ⟨⟨by omega, h.1.2⟩, h.2⟩

theorem Tab.wfFrom_filter (p : Nat × α → Bool) (t : Tab α) (k : Nat) (h : Tab.wfFrom d k t = true) :
    Tab.wfFrom d k (t.filter p) = true := by
  induction t generalizing k with
  | nil => rfl
  | cons e t ih =>
    obtain ⟨a, v⟩ := e
    simp only [Tab.wfFrom, Bool.and_eq_true, decide_eq_true_eq] at h
    rw [List.filter_cons]
    split
    · simp only [Tab.wfFrom, Bool.and_eq_true, decide_eq_true_eq]
      exact ⟨h.1, ih _ h.2⟩
    · exact Tab.wfFrom_mono d _ k (a + 1) (by omega) (ih _ h.2)

theorem Tab.wfFrom_put (t : Tab α) (k b : Nat) (v : α) (hv : v ≠ d k) (hb : b ≤ k) (hn : ∀ e ∈ t, e.1 ≠ k)
    (h : Tab.wfFrom d b t = true) : Tab.wfFrom d b (Tab.put k v t) = true := by
  induction t generalizing b with
  | nil => simp [Tab.put, Tab.wfFrom, hv, hb]
  | cons e t ih =>
    obtain ⟨a, w⟩ := e
    have ha : a ≠ k := hn (a, w) (by simp)
    simp only [Tab.wfFrom, Bool.and_eq_true, decide_eq_true_eq] at h
    by_cases hk : k < a
    · simp only [Tab.put, hk, if_true, Tab.wfFrom, Bool.and_eq_true, decide_eq_true_eq]
      exact ⟨⟨hb, by simpa using hv⟩, ⟨by omega, h.1.2⟩, h.2⟩
    · simp only [Tab.put, hk, if_false, Tab.wfFrom, Bool.and_eq_true, decide_eq_true_eq]
      exact ⟨h.1, ih (a + 1) (by omega) (fun e he => hn e (List.mem_cons_of_mem _ he)) h.2⟩

/-- A write keeps the canonical form. -/
theorem Tab.wf_set (t : Tab α) (k : Nat) (v : α) (h : Tab.wf d t = true) : Tab.wf d (Tab.set d t k v) = true := by
  unfold Tab.set
  split
  · exact Tab.wfFrom_filter d _ t 0 h
  · next hv => exact Tab.wfFrom_put d _ k 0 v hv (Nat.zero_le k) (by simp [Tab.drop]) (Tab.wfFrom_filter d _ t 0 h)

/-- Clearing a range keeps the canonical form. -/
theorem Tab.wf_clear (t : Tab α) (lo n : Nat) (h : Tab.wf d t = true) : Tab.wf d (Tab.clear lo n t) = true :=
  Tab.wfFrom_filter d _ t 0 h

theorem Tab.wf_setList (l : List α) (t : Tab α) (k : Nat) (h : Tab.wf d t = true) : Tab.wf d (Tab.setList d t k l) = true := by
  induction l generalizing t k with
  | nil => exact h
  | cons v l ih => exact ih _ _ (Tab.wf_set d t k v h)

theorem Tab.wf_setAll (lo : Nat) (l t : Tab α) (h : Tab.wf d t = true) : Tab.wf d (Tab.setAll d lo l t) = true := by
  induction l generalizing t with
  | nil => exact h
  | cons e l ih => exact ih _ (Tab.wf_set d t _ _ h)

/-- Copying a range keeps the canonical form. -/
theorem Tab.wf_copy (t : Tab α) (src dst n : Nat) (h : Tab.wf d t = true) : Tab.wf d (Tab.copy d src dst n t) = true :=
  Tab.wf_setAll d _ _ _ (Tab.wf_clear d t _ _ h)

/-- Exchanging two ranges keeps the canonical form. -/
theorem Tab.wf_swap (t : Tab α) (a b n : Nat) (h : Tab.wf d t = true) : Tab.wf d (Tab.swap d a b n t) = true :=
  Tab.wf_setAll d _ _ _ (Tab.wf_setAll d _ _ _ (Tab.wf_clear d _ _ _ (Tab.wf_clear d t _ _ h)))

end Sys2Proof.Machine
end

