-- ==== Sys2Proof/Laws/Regs.lean ====
section
/-! SUPPORT. Laws of fields and of the register file: a field reads as it was last written, a write of one register or field leaves
every other alone, and every operation on the register file keeps its canonical form. -/

namespace Sys2Proof.Machine

/-! ### Fields of a word -/

theorem Fld.get_lt (f : Fld) (v : Word) : f.get v < 2 ^ f.w := Nat.mod_lt _ (Nat.two_pow_pos _)

theorem Fld.set_testBit (f : Fld) (v : Word) (n i : Nat) (h : f.lo + f.w ≤ 32) :
    (f.set v n).toNat.testBit i =
      if f.lo ≤ i ∧ i < f.lo + f.w then n.testBit (i - f.lo) else v.toNat.testBit i := by
  have hv : ∀ i, 32 ≤ i → v.toNat.testBit i = false := fun i hi =>
    Nat.testBit_lt_two_pow (Nat.lt_of_lt_of_le v.isLt (Nat.pow_le_pow_right (by decide) hi))
  by_cases hi : i < 32
  · simp only [Fld.set, BitVec.toNat_or, BitVec.toNat_and, BitVec.toNat_not, BitVec.toNat_ofNat, Nat.testBit_or,
      Nat.testBit_and, Nat.testBit_mod_two_pow, Nat.testBit_shiftLeft]
    have hm : ((2 ^ 32 - 1 - (2 ^ f.w - 1) <<< f.lo % 2 ^ 32).testBit i) =
        !(decide (f.lo ≤ i) && decide (i < f.lo + f.w)) := by
      rw [Nat.sub_sub, Nat.add_comm, Nat.testBit_two_pow_sub_succ (Nat.mod_lt _ (by decide))]
      simp only [hi, decide_true, Bool.true_and, Nat.testBit_mod_two_pow, Nat.testBit_shiftLeft, Nat.testBit_two_pow_sub_one]
      by_cases h1 : f.lo ≤ i
      · have e : (i - f.lo < f.w) = (i < f.lo + f.w) := by
          simp only [eq_iff_iff]; omega
        simp [h1, e]
      · simp [h1]
    rw [hm]
    by_cases h1 : f.lo ≤ i <;> by_cases h2 : i < f.lo + f.w
    · have h3 : i - f.lo < f.w := by omega
      simp [h1, h2, h3, hi]
    · have h3 : ¬ i - f.lo < f.w := by omega
      simp [h1, h2, h3, hi]
    · simp [h1, h2]
    · simp [h1, h2]
  · have hi' : 32 ≤ i := by omega
    have h1 : ¬ (f.lo ≤ i ∧ i < f.lo + f.w) := by omega
    rw [if_neg h1, hv i hi']
    exact Nat.testBit_lt_two_pow (Nat.lt_of_lt_of_le (f.set v n).isLt (Nat.pow_le_pow_right (by decide) hi'))

/-- A field reads as it was last written, cut to its width. -/
@[simp] theorem Fld.get_set_same (f : Fld) (v : Word) (n : Nat) (h : f.lo + f.w ≤ 32) : f.get (f.set v n) = n % 2 ^ f.w := by
  refine Nat.eq_of_testBit_eq fun i => ?_
  simp only [Fld.get, Nat.testBit_mod_two_pow, Nat.testBit_shiftRight, Fld.set_testBit f v n _ h]
  by_cases hi : i < f.w
  · have : f.lo ≤ f.lo + i ∧ f.lo + i < f.lo + f.w := by omega
    simp [hi]
  · simp [hi]

/-- A write of one field leaves every field that shares no bit with it alone. -/
theorem Fld.get_set_disjoint (f g : Fld) (v : Word) (n : Nat) (h : f.lo + f.w ≤ 32)
    (hd : g.lo + g.w ≤ f.lo ∨ f.lo + f.w ≤ g.lo) : g.get (f.set v n) = g.get v := by
  refine Nat.eq_of_testBit_eq fun i => ?_
  simp only [Fld.get, Nat.testBit_mod_two_pow, Nat.testBit_shiftRight, Fld.set_testBit f v n _ h]
  by_cases hi : i < g.w
  · have : ¬ (f.lo ≤ g.lo + i ∧ g.lo + i < f.lo + f.w) := by omega
    simp [hi, this]
  · simp [hi]

/-! ### The register file -/

@[simp] theorem State.rd_wr_same (s : State) (o : Nat) (v : Word) : (s.wr o v).rd o = v := Tab.get_set_same _ _ _ _

/-- A register reads as it was last written, and a write leaves every other register alone. -/
theorem State.rd_wr (s : State) (o p : Nat) (v : Word) : (s.wr o v).rd p = if p = o then v else s.rd p := Tab.get_set _ _ _ _ _

theorem State.rd_wr_ne (s : State) (o p : Nat) (v : Word) (h : p ≠ o) : (s.wr o v).rd p = s.rd p := Tab.get_set_ne _ _ _ _ _ h

theorem State.rd_setF (s : State) (o p : Nat) (f : Fld) (n : Nat) :
    (s.setF o f n).rd p = if p = o then f.set (s.rd o) n else s.rd p := State.rd_wr _ _ _ _

theorem State.rd_setF_ne (s : State) (o p : Nat) (f : Fld) (n : Nat) (h : p ≠ o) : (s.setF o f n).rd p = s.rd p :=
  State.rd_wr_ne _ _ _ _ h

@[simp] theorem State.fld_setF_same (s : State) (o : Nat) (f : Fld) (n : Nat) (h : f.lo + f.w ≤ 32) :
    (s.setF o f n).fld o f = n % 2 ^ f.w := by
  simp [State.fld, State.setF, h]

theorem State.fld_setF_disjoint (s : State) (o : Nat) (f g : Fld) (n : Nat) (h : f.lo + f.w ≤ 32)
    (hd : g.lo + g.w ≤ f.lo ∨ f.lo + f.w ≤ g.lo) : (s.setF o f n).fld o g = s.fld o g := by
  simp [State.fld, State.setF, Fld.get_set_disjoint f g _ _ h hd]

theorem State.fld_setF_ne (s : State) (o p : Nat) (f g : Fld) (n : Nat) (h : p ≠ o) : (s.setF o f n).fld p g = s.fld p g := by
  simp [State.fld, State.rd_setF_ne s o p f n h]

theorem State.fld_wr_ne (s : State) (o p : Nat) (v : Word) (g : Fld) (h : p ≠ o) : (s.wr o v).fld p g = s.fld p g := by
  simp [State.fld, State.rd_wr_ne s o p v h]

/-- A range returned to reset reads as at reset; every other register reads as before. -/
theorem State.rd_resetRange (s : State) (lo n p : Nat) :
    (s.resetRange lo n).rd p = if lo ≤ p ∧ p < lo + n then resetOf p else s.rd p := Tab.get_clear _ _ _ _ _

/-! ### The canonical form -/

theorem State.regsTidy_wr (s : State) (o : Nat) (v : Word) (h : s.regsTidy = true) : (s.wr o v).regsTidy = true :=
  Tab.wf_set _ _ _ _ h

theorem State.regsTidy_setF (s : State) (o : Nat) (f : Fld) (n : Nat) (h : s.regsTidy = true) : (s.setF o f n).regsTidy = true :=
  State.regsTidy_wr s _ _ h

theorem State.regsTidy_resetRange (s : State) (lo n : Nat) (h : s.regsTidy = true) : (s.resetRange lo n).regsTidy = true :=
  Tab.wf_clear _ _ _ _ h

theorem State.regsTidy_copyRange (s : State) (a b n : Nat) (h : s.regsTidy = true) : (s.copyRange a b n).regsTidy = true :=
  Tab.wf_copy _ _ _ _ _ h

theorem State.regsTidy_swapRange (s : State) (a b n : Nat) (h : s.regsTidy = true) : (s.swapRange a b n).regsTidy = true :=
  Tab.wf_swap _ _ _ _ _ h

end Sys2Proof.Machine
end

