-- ==== Sys2Proof/Laws/State.lean ====
section
/-! SUPPORT. What each named operation on the state leaves as it was, one lemma a field, and what it does to the one it changes. -/

namespace Sys2Proof.Machine

/-! ### at_ -/

@[simp] theorem State.at__regs (s : State) (ns : Nat) : (s.at_ ns).regs = s.regs := rfl
@[simp] theorem State.at__mode (s : State) (ns : Nat) : (s.at_ ns).mode = s.mode := rfl
@[simp] theorem State.at__freeCtr (s : State) (ns : Nat) : (s.at_ ns).freeCtr = s.freeCtr := rfl
@[simp] theorem State.at__hif (s : State) (ns : Nat) : (s.at_ ns).hif = s.hif := rfl
@[simp] theorem State.at__fab (s : State) (ns : Nat) : (s.at_ ns).fab = s.fab := rfl
@[simp] theorem State.at__rack (s : State) (ns : Nat) : (s.at_ ns).rack = s.rack := rfl
@[simp] theorem State.at__mgmt (s : State) (ns : Nat) : (s.at_ ns).mgmt = s.mgmt := rfl
@[simp] theorem State.at__flt (s : State) (ns : Nat) : (s.at_ ns).flt = s.flt := rfl
@[simp] theorem State.at__start (s : State) (ns : Nat) : (s.at_ ns).start = s.start := rfl
@[simp] theorem State.at__drive (s : State) (ns : Nat) : (s.at_ ns).drive = s.drive := rfl
@[simp] theorem State.at__loop (s : State) (ns : Nat) : (s.at_ ns).loop = s.loop := rfl
@[simp] theorem State.at__seq (s : State) (ns : Nat) : (s.at_ ns).seq = s.seq := rfl
@[simp] theorem State.at__evt (s : State) (ns : Nat) : (s.at_ ns).evt = s.evt := rfl
@[simp] theorem State.at__hrv (s : State) (ns : Nat) : (s.at_ ns).hrv = s.hrv := rfl
@[simp] theorem State.at__tim (s : State) (ns : Nat) : (s.at_ ns).tim = s.tim := rfl
@[simp] theorem State.at__thm (s : State) (ns : Nat) : (s.at_ ns).thm = s.thm := rfl
@[simp] theorem State.at__lane (s : State) (ns : Nat) : (s.at_ ns).lane = s.lane := rfl
@[simp] theorem State.at__cal (s : State) (ns : Nat) : (s.at_ ns).cal = s.cal := rfl
@[simp] theorem State.at__pk (s : State) (ns : Nat) : (s.at_ ns).pk = s.pk := rfl
@[simp] theorem State.at__pair (s : State) (ns : Nat) : (s.at_ ns).pair = s.pair := rfl
@[simp] theorem State.at__cellar (s : State) (ns : Nat) : (s.at_ ns).cellar = s.cellar := rfl
@[simp] theorem State.at__pending (s : State) (ns : Nat) : (s.at_ ns).pending = s.pending := rfl
@[simp] theorem State.rd_at_ (s : State) (ns : Nat) (p : Nat) : (s.at_ ns).rd p = s.rd p := by simp [State.rd]
@[simp] theorem State.fld_at_ (s : State) (ns : Nat) (p : Nat) (g : Fld) : (s.at_ ns).fld p g = s.fld p g := by simp [State.fld]

/-! ### wr -/

@[simp] theorem State.wr_now (s : State) (o : Nat) (v : Word) : (s.wr o v).now = s.now := rfl
@[simp] theorem State.wr_mode (s : State) (o : Nat) (v : Word) : (s.wr o v).mode = s.mode := rfl
@[simp] theorem State.wr_freeCtr (s : State) (o : Nat) (v : Word) : (s.wr o v).freeCtr = s.freeCtr := rfl
@[simp] theorem State.wr_hif (s : State) (o : Nat) (v : Word) : (s.wr o v).hif = s.hif := rfl
@[simp] theorem State.wr_fab (s : State) (o : Nat) (v : Word) : (s.wr o v).fab = s.fab := rfl
@[simp] theorem State.wr_rack (s : State) (o : Nat) (v : Word) : (s.wr o v).rack = s.rack := rfl
@[simp] theorem State.wr_mgmt (s : State) (o : Nat) (v : Word) : (s.wr o v).mgmt = s.mgmt := rfl
@[simp] theorem State.wr_flt (s : State) (o : Nat) (v : Word) : (s.wr o v).flt = s.flt := rfl
@[simp] theorem State.wr_start (s : State) (o : Nat) (v : Word) : (s.wr o v).start = s.start := rfl
@[simp] theorem State.wr_drive (s : State) (o : Nat) (v : Word) : (s.wr o v).drive = s.drive := rfl
@[simp] theorem State.wr_loop (s : State) (o : Nat) (v : Word) : (s.wr o v).loop = s.loop := rfl
@[simp] theorem State.wr_seq (s : State) (o : Nat) (v : Word) : (s.wr o v).seq = s.seq := rfl
@[simp] theorem State.wr_evt (s : State) (o : Nat) (v : Word) : (s.wr o v).evt = s.evt := rfl
@[simp] theorem State.wr_hrv (s : State) (o : Nat) (v : Word) : (s.wr o v).hrv = s.hrv := rfl
@[simp] theorem State.wr_tim (s : State) (o : Nat) (v : Word) : (s.wr o v).tim = s.tim := rfl
@[simp] theorem State.wr_thm (s : State) (o : Nat) (v : Word) : (s.wr o v).thm = s.thm := rfl
@[simp] theorem State.wr_lane (s : State) (o : Nat) (v : Word) : (s.wr o v).lane = s.lane := rfl
@[simp] theorem State.wr_cal (s : State) (o : Nat) (v : Word) : (s.wr o v).cal = s.cal := rfl
@[simp] theorem State.wr_pk (s : State) (o : Nat) (v : Word) : (s.wr o v).pk = s.pk := rfl
@[simp] theorem State.wr_pair (s : State) (o : Nat) (v : Word) : (s.wr o v).pair = s.pair := rfl
@[simp] theorem State.wr_cellar (s : State) (o : Nat) (v : Word) : (s.wr o v).cellar = s.cellar := rfl
@[simp] theorem State.wr_pending (s : State) (o : Nat) (v : Word) : (s.wr o v).pending = s.pending := rfl

/-! ### setF -/

@[simp] theorem State.setF_now (s : State) (o : Nat) (f : Fld) (n : Nat) : (s.setF o f n).now = s.now := rfl
@[simp] theorem State.setF_mode (s : State) (o : Nat) (f : Fld) (n : Nat) : (s.setF o f n).mode = s.mode := rfl
@[simp] theorem State.setF_freeCtr (s : State) (o : Nat) (f : Fld) (n : Nat) : (s.setF o f n).freeCtr = s.freeCtr := rfl
@[simp] theorem State.setF_hif (s : State) (o : Nat) (f : Fld) (n : Nat) : (s.setF o f n).hif = s.hif := rfl
@[simp] theorem State.setF_fab (s : State) (o : Nat) (f : Fld) (n : Nat) : (s.setF o f n).fab = s.fab := rfl
@[simp] theorem State.setF_rack (s : State) (o : Nat) (f : Fld) (n : Nat) : (s.setF o f n).rack = s.rack := rfl
@[simp] theorem State.setF_mgmt (s : State) (o : Nat) (f : Fld) (n : Nat) : (s.setF o f n).mgmt = s.mgmt := rfl
@[simp] theorem State.setF_flt (s : State) (o : Nat) (f : Fld) (n : Nat) : (s.setF o f n).flt = s.flt := rfl
@[simp] theorem State.setF_start (s : State) (o : Nat) (f : Fld) (n : Nat) : (s.setF o f n).start = s.start := rfl
@[simp] theorem State.setF_drive (s : State) (o : Nat) (f : Fld) (n : Nat) : (s.setF o f n).drive = s.drive := rfl
@[simp] theorem State.setF_loop (s : State) (o : Nat) (f : Fld) (n : Nat) : (s.setF o f n).loop = s.loop := rfl
@[simp] theorem State.setF_seq (s : State) (o : Nat) (f : Fld) (n : Nat) : (s.setF o f n).seq = s.seq := rfl
@[simp] theorem State.setF_evt (s : State) (o : Nat) (f : Fld) (n : Nat) : (s.setF o f n).evt = s.evt := rfl
@[simp] theorem State.setF_hrv (s : State) (o : Nat) (f : Fld) (n : Nat) : (s.setF o f n).hrv = s.hrv := rfl
@[simp] theorem State.setF_tim (s : State) (o : Nat) (f : Fld) (n : Nat) : (s.setF o f n).tim = s.tim := rfl
@[simp] theorem State.setF_thm (s : State) (o : Nat) (f : Fld) (n : Nat) : (s.setF o f n).thm = s.thm := rfl
@[simp] theorem State.setF_lane (s : State) (o : Nat) (f : Fld) (n : Nat) : (s.setF o f n).lane = s.lane := rfl
@[simp] theorem State.setF_cal (s : State) (o : Nat) (f : Fld) (n : Nat) : (s.setF o f n).cal = s.cal := rfl
@[simp] theorem State.setF_pk (s : State) (o : Nat) (f : Fld) (n : Nat) : (s.setF o f n).pk = s.pk := rfl
@[simp] theorem State.setF_pair (s : State) (o : Nat) (f : Fld) (n : Nat) : (s.setF o f n).pair = s.pair := rfl
@[simp] theorem State.setF_cellar (s : State) (o : Nat) (f : Fld) (n : Nat) : (s.setF o f n).cellar = s.cellar := rfl
@[simp] theorem State.setF_pending (s : State) (o : Nat) (f : Fld) (n : Nat) : (s.setF o f n).pending = s.pending := rfl

/-! ### count -/

@[simp] theorem State.count_now (s : State) (o : Nat) (f : Fld) (n : Nat) : (s.count o f n).now = s.now := rfl
@[simp] theorem State.count_mode (s : State) (o : Nat) (f : Fld) (n : Nat) : (s.count o f n).mode = s.mode := rfl
@[simp] theorem State.count_freeCtr (s : State) (o : Nat) (f : Fld) (n : Nat) : (s.count o f n).freeCtr = s.freeCtr := rfl
@[simp] theorem State.count_hif (s : State) (o : Nat) (f : Fld) (n : Nat) : (s.count o f n).hif = s.hif := rfl
@[simp] theorem State.count_fab (s : State) (o : Nat) (f : Fld) (n : Nat) : (s.count o f n).fab = s.fab := rfl
@[simp] theorem State.count_rack (s : State) (o : Nat) (f : Fld) (n : Nat) : (s.count o f n).rack = s.rack := rfl
@[simp] theorem State.count_mgmt (s : State) (o : Nat) (f : Fld) (n : Nat) : (s.count o f n).mgmt = s.mgmt := rfl
@[simp] theorem State.count_flt (s : State) (o : Nat) (f : Fld) (n : Nat) : (s.count o f n).flt = s.flt := rfl
@[simp] theorem State.count_start (s : State) (o : Nat) (f : Fld) (n : Nat) : (s.count o f n).start = s.start := rfl
@[simp] theorem State.count_drive (s : State) (o : Nat) (f : Fld) (n : Nat) : (s.count o f n).drive = s.drive := rfl
@[simp] theorem State.count_loop (s : State) (o : Nat) (f : Fld) (n : Nat) : (s.count o f n).loop = s.loop := rfl
@[simp] theorem State.count_seq (s : State) (o : Nat) (f : Fld) (n : Nat) : (s.count o f n).seq = s.seq := rfl
@[simp] theorem State.count_evt (s : State) (o : Nat) (f : Fld) (n : Nat) : (s.count o f n).evt = s.evt := rfl
@[simp] theorem State.count_hrv (s : State) (o : Nat) (f : Fld) (n : Nat) : (s.count o f n).hrv = s.hrv := rfl
@[simp] theorem State.count_tim (s : State) (o : Nat) (f : Fld) (n : Nat) : (s.count o f n).tim = s.tim := rfl
@[simp] theorem State.count_thm (s : State) (o : Nat) (f : Fld) (n : Nat) : (s.count o f n).thm = s.thm := rfl
@[simp] theorem State.count_lane (s : State) (o : Nat) (f : Fld) (n : Nat) : (s.count o f n).lane = s.lane := rfl
@[simp] theorem State.count_cal (s : State) (o : Nat) (f : Fld) (n : Nat) : (s.count o f n).cal = s.cal := rfl
@[simp] theorem State.count_pk (s : State) (o : Nat) (f : Fld) (n : Nat) : (s.count o f n).pk = s.pk := rfl
@[simp] theorem State.count_pair (s : State) (o : Nat) (f : Fld) (n : Nat) : (s.count o f n).pair = s.pair := rfl
@[simp] theorem State.count_cellar (s : State) (o : Nat) (f : Fld) (n : Nat) : (s.count o f n).cellar = s.cellar := rfl
@[simp] theorem State.count_pending (s : State) (o : Nat) (f : Fld) (n : Nat) : (s.count o f n).pending = s.pending := rfl

/-! ### countWrap -/

@[simp] theorem State.countWrap_now (s : State) (o : Nat) (f : Fld) (n : Nat) : (s.countWrap o f n).now = s.now := rfl
@[simp] theorem State.countWrap_mode (s : State) (o : Nat) (f : Fld) (n : Nat) : (s.countWrap o f n).mode = s.mode := rfl
@[simp] theorem State.countWrap_freeCtr (s : State) (o : Nat) (f : Fld) (n : Nat) : (s.countWrap o f n).freeCtr = s.freeCtr := rfl
@[simp] theorem State.countWrap_hif (s : State) (o : Nat) (f : Fld) (n : Nat) : (s.countWrap o f n).hif = s.hif := rfl
@[simp] theorem State.countWrap_fab (s : State) (o : Nat) (f : Fld) (n : Nat) : (s.countWrap o f n).fab = s.fab := rfl
@[simp] theorem State.countWrap_rack (s : State) (o : Nat) (f : Fld) (n : Nat) : (s.countWrap o f n).rack = s.rack := rfl
@[simp] theorem State.countWrap_mgmt (s : State) (o : Nat) (f : Fld) (n : Nat) : (s.countWrap o f n).mgmt = s.mgmt := rfl
@[simp] theorem State.countWrap_flt (s : State) (o : Nat) (f : Fld) (n : Nat) : (s.countWrap o f n).flt = s.flt := rfl
@[simp] theorem State.countWrap_start (s : State) (o : Nat) (f : Fld) (n : Nat) : (s.countWrap o f n).start = s.start := rfl
@[simp] theorem State.countWrap_drive (s : State) (o : Nat) (f : Fld) (n : Nat) : (s.countWrap o f n).drive = s.drive := rfl
@[simp] theorem State.countWrap_loop (s : State) (o : Nat) (f : Fld) (n : Nat) : (s.countWrap o f n).loop = s.loop := rfl
@[simp] theorem State.countWrap_seq (s : State) (o : Nat) (f : Fld) (n : Nat) : (s.countWrap o f n).seq = s.seq := rfl
@[simp] theorem State.countWrap_evt (s : State) (o : Nat) (f : Fld) (n : Nat) : (s.countWrap o f n).evt = s.evt := rfl
@[simp] theorem State.countWrap_hrv (s : State) (o : Nat) (f : Fld) (n : Nat) : (s.countWrap o f n).hrv = s.hrv := rfl
@[simp] theorem State.countWrap_tim (s : State) (o : Nat) (f : Fld) (n : Nat) : (s.countWrap o f n).tim = s.tim := rfl
@[simp] theorem State.countWrap_thm (s : State) (o : Nat) (f : Fld) (n : Nat) : (s.countWrap o f n).thm = s.thm := rfl
@[simp] theorem State.countWrap_lane (s : State) (o : Nat) (f : Fld) (n : Nat) : (s.countWrap o f n).lane = s.lane := rfl
@[simp] theorem State.countWrap_cal (s : State) (o : Nat) (f : Fld) (n : Nat) : (s.countWrap o f n).cal = s.cal := rfl
@[simp] theorem State.countWrap_pk (s : State) (o : Nat) (f : Fld) (n : Nat) : (s.countWrap o f n).pk = s.pk := rfl
@[simp] theorem State.countWrap_pair (s : State) (o : Nat) (f : Fld) (n : Nat) : (s.countWrap o f n).pair = s.pair := rfl
@[simp] theorem State.countWrap_cellar (s : State) (o : Nat) (f : Fld) (n : Nat) : (s.countWrap o f n).cellar = s.cellar := rfl
@[simp] theorem State.countWrap_pending (s : State) (o : Nat) (f : Fld) (n : Nat) : (s.countWrap o f n).pending = s.pending := rfl

/-! ### resetRange -/

@[simp] theorem State.resetRange_now (s : State) (o n : Nat) : (s.resetRange o n).now = s.now := rfl
@[simp] theorem State.resetRange_mode (s : State) (o n : Nat) : (s.resetRange o n).mode = s.mode := rfl
@[simp] theorem State.resetRange_freeCtr (s : State) (o n : Nat) : (s.resetRange o n).freeCtr = s.freeCtr := rfl
@[simp] theorem State.resetRange_hif (s : State) (o n : Nat) : (s.resetRange o n).hif = s.hif := rfl
@[simp] theorem State.resetRange_fab (s : State) (o n : Nat) : (s.resetRange o n).fab = s.fab := rfl
@[simp] theorem State.resetRange_rack (s : State) (o n : Nat) : (s.resetRange o n).rack = s.rack := rfl
@[simp] theorem State.resetRange_mgmt (s : State) (o n : Nat) : (s.resetRange o n).mgmt = s.mgmt := rfl
@[simp] theorem State.resetRange_flt (s : State) (o n : Nat) : (s.resetRange o n).flt = s.flt := rfl
@[simp] theorem State.resetRange_start (s : State) (o n : Nat) : (s.resetRange o n).start = s.start := rfl
@[simp] theorem State.resetRange_drive (s : State) (o n : Nat) : (s.resetRange o n).drive = s.drive := rfl
@[simp] theorem State.resetRange_loop (s : State) (o n : Nat) : (s.resetRange o n).loop = s.loop := rfl
@[simp] theorem State.resetRange_seq (s : State) (o n : Nat) : (s.resetRange o n).seq = s.seq := rfl
@[simp] theorem State.resetRange_evt (s : State) (o n : Nat) : (s.resetRange o n).evt = s.evt := rfl
@[simp] theorem State.resetRange_hrv (s : State) (o n : Nat) : (s.resetRange o n).hrv = s.hrv := rfl
@[simp] theorem State.resetRange_tim (s : State) (o n : Nat) : (s.resetRange o n).tim = s.tim := rfl
@[simp] theorem State.resetRange_thm (s : State) (o n : Nat) : (s.resetRange o n).thm = s.thm := rfl
@[simp] theorem State.resetRange_lane (s : State) (o n : Nat) : (s.resetRange o n).lane = s.lane := rfl
@[simp] theorem State.resetRange_cal (s : State) (o n : Nat) : (s.resetRange o n).cal = s.cal := rfl
@[simp] theorem State.resetRange_pk (s : State) (o n : Nat) : (s.resetRange o n).pk = s.pk := rfl
@[simp] theorem State.resetRange_pair (s : State) (o n : Nat) : (s.resetRange o n).pair = s.pair := rfl
@[simp] theorem State.resetRange_cellar (s : State) (o n : Nat) : (s.resetRange o n).cellar = s.cellar := rfl
@[simp] theorem State.resetRange_pending (s : State) (o n : Nat) : (s.resetRange o n).pending = s.pending := rfl

/-! ### copyRange -/

@[simp] theorem State.copyRange_now (s : State) (a b n : Nat) : (s.copyRange a b n).now = s.now := rfl
@[simp] theorem State.copyRange_mode (s : State) (a b n : Nat) : (s.copyRange a b n).mode = s.mode := rfl
@[simp] theorem State.copyRange_freeCtr (s : State) (a b n : Nat) : (s.copyRange a b n).freeCtr = s.freeCtr := rfl
@[simp] theorem State.copyRange_hif (s : State) (a b n : Nat) : (s.copyRange a b n).hif = s.hif := rfl
@[simp] theorem State.copyRange_fab (s : State) (a b n : Nat) : (s.copyRange a b n).fab = s.fab := rfl
@[simp] theorem State.copyRange_rack (s : State) (a b n : Nat) : (s.copyRange a b n).rack = s.rack := rfl
@[simp] theorem State.copyRange_mgmt (s : State) (a b n : Nat) : (s.copyRange a b n).mgmt = s.mgmt := rfl
@[simp] theorem State.copyRange_flt (s : State) (a b n : Nat) : (s.copyRange a b n).flt = s.flt := rfl
@[simp] theorem State.copyRange_start (s : State) (a b n : Nat) : (s.copyRange a b n).start = s.start := rfl
@[simp] theorem State.copyRange_drive (s : State) (a b n : Nat) : (s.copyRange a b n).drive = s.drive := rfl
@[simp] theorem State.copyRange_loop (s : State) (a b n : Nat) : (s.copyRange a b n).loop = s.loop := rfl
@[simp] theorem State.copyRange_seq (s : State) (a b n : Nat) : (s.copyRange a b n).seq = s.seq := rfl
@[simp] theorem State.copyRange_evt (s : State) (a b n : Nat) : (s.copyRange a b n).evt = s.evt := rfl
@[simp] theorem State.copyRange_hrv (s : State) (a b n : Nat) : (s.copyRange a b n).hrv = s.hrv := rfl
@[simp] theorem State.copyRange_tim (s : State) (a b n : Nat) : (s.copyRange a b n).tim = s.tim := rfl
@[simp] theorem State.copyRange_thm (s : State) (a b n : Nat) : (s.copyRange a b n).thm = s.thm := rfl
@[simp] theorem State.copyRange_lane (s : State) (a b n : Nat) : (s.copyRange a b n).lane = s.lane := rfl
@[simp] theorem State.copyRange_cal (s : State) (a b n : Nat) : (s.copyRange a b n).cal = s.cal := rfl
@[simp] theorem State.copyRange_pk (s : State) (a b n : Nat) : (s.copyRange a b n).pk = s.pk := rfl
@[simp] theorem State.copyRange_pair (s : State) (a b n : Nat) : (s.copyRange a b n).pair = s.pair := rfl
@[simp] theorem State.copyRange_cellar (s : State) (a b n : Nat) : (s.copyRange a b n).cellar = s.cellar := rfl
@[simp] theorem State.copyRange_pending (s : State) (a b n : Nat) : (s.copyRange a b n).pending = s.pending := rfl

/-! ### swapRange -/

@[simp] theorem State.swapRange_now (s : State) (a b n : Nat) : (s.swapRange a b n).now = s.now := rfl
@[simp] theorem State.swapRange_mode (s : State) (a b n : Nat) : (s.swapRange a b n).mode = s.mode := rfl
@[simp] theorem State.swapRange_freeCtr (s : State) (a b n : Nat) : (s.swapRange a b n).freeCtr = s.freeCtr := rfl
@[simp] theorem State.swapRange_hif (s : State) (a b n : Nat) : (s.swapRange a b n).hif = s.hif := rfl
@[simp] theorem State.swapRange_fab (s : State) (a b n : Nat) : (s.swapRange a b n).fab = s.fab := rfl
@[simp] theorem State.swapRange_rack (s : State) (a b n : Nat) : (s.swapRange a b n).rack = s.rack := rfl
@[simp] theorem State.swapRange_mgmt (s : State) (a b n : Nat) : (s.swapRange a b n).mgmt = s.mgmt := rfl
@[simp] theorem State.swapRange_flt (s : State) (a b n : Nat) : (s.swapRange a b n).flt = s.flt := rfl
@[simp] theorem State.swapRange_start (s : State) (a b n : Nat) : (s.swapRange a b n).start = s.start := rfl
@[simp] theorem State.swapRange_drive (s : State) (a b n : Nat) : (s.swapRange a b n).drive = s.drive := rfl
@[simp] theorem State.swapRange_loop (s : State) (a b n : Nat) : (s.swapRange a b n).loop = s.loop := rfl
@[simp] theorem State.swapRange_seq (s : State) (a b n : Nat) : (s.swapRange a b n).seq = s.seq := rfl
@[simp] theorem State.swapRange_evt (s : State) (a b n : Nat) : (s.swapRange a b n).evt = s.evt := rfl
@[simp] theorem State.swapRange_hrv (s : State) (a b n : Nat) : (s.swapRange a b n).hrv = s.hrv := rfl
@[simp] theorem State.swapRange_tim (s : State) (a b n : Nat) : (s.swapRange a b n).tim = s.tim := rfl
@[simp] theorem State.swapRange_thm (s : State) (a b n : Nat) : (s.swapRange a b n).thm = s.thm := rfl
@[simp] theorem State.swapRange_lane (s : State) (a b n : Nat) : (s.swapRange a b n).lane = s.lane := rfl
@[simp] theorem State.swapRange_cal (s : State) (a b n : Nat) : (s.swapRange a b n).cal = s.cal := rfl
@[simp] theorem State.swapRange_pk (s : State) (a b n : Nat) : (s.swapRange a b n).pk = s.pk := rfl
@[simp] theorem State.swapRange_pair (s : State) (a b n : Nat) : (s.swapRange a b n).pair = s.pair := rfl
@[simp] theorem State.swapRange_cellar (s : State) (a b n : Nat) : (s.swapRange a b n).cellar = s.cellar := rfl
@[simp] theorem State.swapRange_pending (s : State) (a b n : Nat) : (s.swapRange a b n).pending = s.pending := rfl

/-! ### drawn -/

@[simp] theorem State.drawn_now (s : State) : (s.drawn).now = s.now := rfl
@[simp] theorem State.drawn_regs (s : State) : (s.drawn).regs = s.regs := rfl
@[simp] theorem State.drawn_mode (s : State) : (s.drawn).mode = s.mode := rfl
@[simp] theorem State.drawn_hif (s : State) : (s.drawn).hif = s.hif := rfl
@[simp] theorem State.drawn_fab (s : State) : (s.drawn).fab = s.fab := rfl
@[simp] theorem State.drawn_rack (s : State) : (s.drawn).rack = s.rack := rfl
@[simp] theorem State.drawn_mgmt (s : State) : (s.drawn).mgmt = s.mgmt := rfl
@[simp] theorem State.drawn_flt (s : State) : (s.drawn).flt = s.flt := rfl
@[simp] theorem State.drawn_start (s : State) : (s.drawn).start = s.start := rfl
@[simp] theorem State.drawn_drive (s : State) : (s.drawn).drive = s.drive := rfl
@[simp] theorem State.drawn_loop (s : State) : (s.drawn).loop = s.loop := rfl
@[simp] theorem State.drawn_seq (s : State) : (s.drawn).seq = s.seq := rfl
@[simp] theorem State.drawn_evt (s : State) : (s.drawn).evt = s.evt := rfl
@[simp] theorem State.drawn_hrv (s : State) : (s.drawn).hrv = s.hrv := rfl
@[simp] theorem State.drawn_tim (s : State) : (s.drawn).tim = s.tim := rfl
@[simp] theorem State.drawn_thm (s : State) : (s.drawn).thm = s.thm := rfl
@[simp] theorem State.drawn_lane (s : State) : (s.drawn).lane = s.lane := rfl
@[simp] theorem State.drawn_cal (s : State) : (s.drawn).cal = s.cal := rfl
@[simp] theorem State.drawn_pk (s : State) : (s.drawn).pk = s.pk := rfl
@[simp] theorem State.drawn_pair (s : State) : (s.drawn).pair = s.pair := rfl
@[simp] theorem State.drawn_cellar (s : State) : (s.drawn).cellar = s.cellar := rfl
@[simp] theorem State.drawn_pending (s : State) : (s.drawn).pending = s.pending := rfl
@[simp] theorem State.rd_drawn (s : State) (p : Nat) : (s.drawn).rd p = s.rd p := by simp [State.rd]
@[simp] theorem State.fld_drawn (s : State) (p : Nat) (g : Fld) : (s.drawn).fld p g = s.fld p g := by simp [State.fld]

/-! ### fireP -/

@[simp] theorem State.fireP_now (s : State) (src : Nat) (path : List Nat) : (s.fireP src path).now = s.now := by unfold State.fireP; split <;> rfl
@[simp] theorem State.fireP_regs (s : State) (src : Nat) (path : List Nat) : (s.fireP src path).regs = s.regs := by unfold State.fireP; split <;> rfl
@[simp] theorem State.fireP_mode (s : State) (src : Nat) (path : List Nat) : (s.fireP src path).mode = s.mode := by unfold State.fireP; split <;> rfl
@[simp] theorem State.fireP_freeCtr (s : State) (src : Nat) (path : List Nat) : (s.fireP src path).freeCtr = s.freeCtr := by unfold State.fireP; split <;> rfl
@[simp] theorem State.fireP_hif (s : State) (src : Nat) (path : List Nat) : (s.fireP src path).hif = s.hif := by unfold State.fireP; split <;> rfl
@[simp] theorem State.fireP_fab (s : State) (src : Nat) (path : List Nat) : (s.fireP src path).fab = s.fab := by unfold State.fireP; split <;> rfl
@[simp] theorem State.fireP_rack (s : State) (src : Nat) (path : List Nat) : (s.fireP src path).rack = s.rack := by unfold State.fireP; split <;> rfl
@[simp] theorem State.fireP_mgmt (s : State) (src : Nat) (path : List Nat) : (s.fireP src path).mgmt = s.mgmt := by unfold State.fireP; split <;> rfl
@[simp] theorem State.fireP_flt (s : State) (src : Nat) (path : List Nat) : (s.fireP src path).flt = s.flt := by unfold State.fireP; split <;> rfl
@[simp] theorem State.fireP_start (s : State) (src : Nat) (path : List Nat) : (s.fireP src path).start = s.start := by unfold State.fireP; split <;> rfl
@[simp] theorem State.fireP_drive (s : State) (src : Nat) (path : List Nat) : (s.fireP src path).drive = s.drive := by unfold State.fireP; split <;> rfl
@[simp] theorem State.fireP_loop (s : State) (src : Nat) (path : List Nat) : (s.fireP src path).loop = s.loop := by unfold State.fireP; split <;> rfl
@[simp] theorem State.fireP_seq (s : State) (src : Nat) (path : List Nat) : (s.fireP src path).seq = s.seq := by unfold State.fireP; split <;> rfl
@[simp] theorem State.fireP_hrv (s : State) (src : Nat) (path : List Nat) : (s.fireP src path).hrv = s.hrv := by unfold State.fireP; split <;> rfl
@[simp] theorem State.fireP_tim (s : State) (src : Nat) (path : List Nat) : (s.fireP src path).tim = s.tim := by unfold State.fireP; split <;> rfl
@[simp] theorem State.fireP_thm (s : State) (src : Nat) (path : List Nat) : (s.fireP src path).thm = s.thm := by unfold State.fireP; split <;> rfl
@[simp] theorem State.fireP_lane (s : State) (src : Nat) (path : List Nat) : (s.fireP src path).lane = s.lane := by unfold State.fireP; split <;> rfl
@[simp] theorem State.fireP_cal (s : State) (src : Nat) (path : List Nat) : (s.fireP src path).cal = s.cal := by unfold State.fireP; split <;> rfl
@[simp] theorem State.fireP_pk (s : State) (src : Nat) (path : List Nat) : (s.fireP src path).pk = s.pk := by unfold State.fireP; split <;> rfl
@[simp] theorem State.fireP_pair (s : State) (src : Nat) (path : List Nat) : (s.fireP src path).pair = s.pair := by unfold State.fireP; split <;> rfl
@[simp] theorem State.fireP_cellar (s : State) (src : Nat) (path : List Nat) : (s.fireP src path).cellar = s.cellar := by unfold State.fireP; split <;> rfl
@[simp] theorem State.fireP_pending (s : State) (src : Nat) (path : List Nat) : (s.fireP src path).pending = s.pending := by unfold State.fireP; split <;> rfl
@[simp] theorem State.rd_fireP (s : State) (src : Nat) (path : List Nat) (p : Nat) : (s.fireP src path).rd p = s.rd p := by simp [State.rd]
@[simp] theorem State.fld_fireP (s : State) (src : Nat) (path : List Nat) (p : Nat) (g : Fld) : (s.fireP src path).fld p g = s.fld p g := by simp [State.fld]

/-! ### fire -/

@[simp] theorem State.fire_now (s : State) (src : Nat) : (s.fire src).now = s.now := State.fireP_now s src []
@[simp] theorem State.fire_regs (s : State) (src : Nat) : (s.fire src).regs = s.regs := State.fireP_regs s src []
@[simp] theorem State.fire_mode (s : State) (src : Nat) : (s.fire src).mode = s.mode := State.fireP_mode s src []
@[simp] theorem State.fire_freeCtr (s : State) (src : Nat) : (s.fire src).freeCtr = s.freeCtr := State.fireP_freeCtr s src []
@[simp] theorem State.fire_hif (s : State) (src : Nat) : (s.fire src).hif = s.hif := State.fireP_hif s src []
@[simp] theorem State.fire_fab (s : State) (src : Nat) : (s.fire src).fab = s.fab := State.fireP_fab s src []
@[simp] theorem State.fire_rack (s : State) (src : Nat) : (s.fire src).rack = s.rack := State.fireP_rack s src []
@[simp] theorem State.fire_mgmt (s : State) (src : Nat) : (s.fire src).mgmt = s.mgmt := State.fireP_mgmt s src []
@[simp] theorem State.fire_flt (s : State) (src : Nat) : (s.fire src).flt = s.flt := State.fireP_flt s src []
@[simp] theorem State.fire_start (s : State) (src : Nat) : (s.fire src).start = s.start := State.fireP_start s src []
@[simp] theorem State.fire_drive (s : State) (src : Nat) : (s.fire src).drive = s.drive := State.fireP_drive s src []
@[simp] theorem State.fire_loop (s : State) (src : Nat) : (s.fire src).loop = s.loop := State.fireP_loop s src []
@[simp] theorem State.fire_seq (s : State) (src : Nat) : (s.fire src).seq = s.seq := State.fireP_seq s src []
@[simp] theorem State.fire_hrv (s : State) (src : Nat) : (s.fire src).hrv = s.hrv := State.fireP_hrv s src []
@[simp] theorem State.fire_tim (s : State) (src : Nat) : (s.fire src).tim = s.tim := State.fireP_tim s src []
@[simp] theorem State.fire_thm (s : State) (src : Nat) : (s.fire src).thm = s.thm := State.fireP_thm s src []
@[simp] theorem State.fire_lane (s : State) (src : Nat) : (s.fire src).lane = s.lane := State.fireP_lane s src []
@[simp] theorem State.fire_cal (s : State) (src : Nat) : (s.fire src).cal = s.cal := State.fireP_cal s src []
@[simp] theorem State.fire_pk (s : State) (src : Nat) : (s.fire src).pk = s.pk := State.fireP_pk s src []
@[simp] theorem State.fire_pair (s : State) (src : Nat) : (s.fire src).pair = s.pair := State.fireP_pair s src []
@[simp] theorem State.fire_cellar (s : State) (src : Nat) : (s.fire src).cellar = s.cellar := State.fireP_cellar s src []
@[simp] theorem State.fire_pending (s : State) (src : Nat) : (s.fire src).pending = s.pending := State.fireP_pending s src []
@[simp] theorem State.rd_fire (s : State) (src : Nat) (p : Nat) : (s.fire src).rd p = s.rd p := by simp [State.rd]
@[simp] theorem State.fld_fire (s : State) (src : Nat) (p : Nat) (g : Fld) : (s.fire src).fld p g = s.fld p g := by simp [State.fld]

/-! ### raiseD -/

@[simp] theorem State.raiseD_now (s : State) (src loc a b c : Nat) (path : List Nat) : (s.raiseD src loc a b c path).now = s.now := by unfold State.raiseD; split <;> simp
@[simp] theorem State.raiseD_regs (s : State) (src loc a b c : Nat) (path : List Nat) : (s.raiseD src loc a b c path).regs = s.regs := by unfold State.raiseD; split <;> simp
@[simp] theorem State.raiseD_mode (s : State) (src loc a b c : Nat) (path : List Nat) : (s.raiseD src loc a b c path).mode = s.mode := by unfold State.raiseD; split <;> simp
@[simp] theorem State.raiseD_freeCtr (s : State) (src loc a b c : Nat) (path : List Nat) : (s.raiseD src loc a b c path).freeCtr = s.freeCtr := by unfold State.raiseD; split <;> simp
@[simp] theorem State.raiseD_hif (s : State) (src loc a b c : Nat) (path : List Nat) : (s.raiseD src loc a b c path).hif = s.hif := by unfold State.raiseD; split <;> simp
@[simp] theorem State.raiseD_fab (s : State) (src loc a b c : Nat) (path : List Nat) : (s.raiseD src loc a b c path).fab = s.fab := by unfold State.raiseD; split <;> simp
@[simp] theorem State.raiseD_rack (s : State) (src loc a b c : Nat) (path : List Nat) : (s.raiseD src loc a b c path).rack = s.rack := by unfold State.raiseD; split <;> simp
@[simp] theorem State.raiseD_mgmt (s : State) (src loc a b c : Nat) (path : List Nat) : (s.raiseD src loc a b c path).mgmt = s.mgmt := by unfold State.raiseD; split <;> simp
@[simp] theorem State.raiseD_start (s : State) (src loc a b c : Nat) (path : List Nat) : (s.raiseD src loc a b c path).start = s.start := by unfold State.raiseD; split <;> simp
@[simp] theorem State.raiseD_drive (s : State) (src loc a b c : Nat) (path : List Nat) : (s.raiseD src loc a b c path).drive = s.drive := by unfold State.raiseD; split <;> simp
@[simp] theorem State.raiseD_loop (s : State) (src loc a b c : Nat) (path : List Nat) : (s.raiseD src loc a b c path).loop = s.loop := by unfold State.raiseD; split <;> simp
@[simp] theorem State.raiseD_seq (s : State) (src loc a b c : Nat) (path : List Nat) : (s.raiseD src loc a b c path).seq = s.seq := by unfold State.raiseD; split <;> simp
@[simp] theorem State.raiseD_hrv (s : State) (src loc a b c : Nat) (path : List Nat) : (s.raiseD src loc a b c path).hrv = s.hrv := by unfold State.raiseD; split <;> simp
@[simp] theorem State.raiseD_tim (s : State) (src loc a b c : Nat) (path : List Nat) : (s.raiseD src loc a b c path).tim = s.tim := by unfold State.raiseD; split <;> simp
@[simp] theorem State.raiseD_thm (s : State) (src loc a b c : Nat) (path : List Nat) : (s.raiseD src loc a b c path).thm = s.thm := by unfold State.raiseD; split <;> simp
@[simp] theorem State.raiseD_lane (s : State) (src loc a b c : Nat) (path : List Nat) : (s.raiseD src loc a b c path).lane = s.lane := by unfold State.raiseD; split <;> simp
@[simp] theorem State.raiseD_cal (s : State) (src loc a b c : Nat) (path : List Nat) : (s.raiseD src loc a b c path).cal = s.cal := by unfold State.raiseD; split <;> simp
@[simp] theorem State.raiseD_pk (s : State) (src loc a b c : Nat) (path : List Nat) : (s.raiseD src loc a b c path).pk = s.pk := by unfold State.raiseD; split <;> simp
@[simp] theorem State.raiseD_pair (s : State) (src loc a b c : Nat) (path : List Nat) : (s.raiseD src loc a b c path).pair = s.pair := by unfold State.raiseD; split <;> simp
@[simp] theorem State.raiseD_cellar (s : State) (src loc a b c : Nat) (path : List Nat) : (s.raiseD src loc a b c path).cellar = s.cellar := by unfold State.raiseD; split <;> simp
@[simp] theorem State.raiseD_pending (s : State) (src loc a b c : Nat) (path : List Nat) : (s.raiseD src loc a b c path).pending = s.pending := by unfold State.raiseD; split <;> simp
@[simp] theorem State.rd_raiseD (s : State) (src loc a b c : Nat) (path : List Nat) (p : Nat) : (s.raiseD src loc a b c path).rd p = s.rd p := by simp [State.rd]
@[simp] theorem State.fld_raiseD (s : State) (src loc a b c : Nat) (path : List Nat) (p : Nat) (g : Fld) : (s.raiseD src loc a b c path).fld p g = s.fld p g := by simp [State.fld]

/-! ### raise -/

@[simp] theorem State.raise_now (s : State) (src loc : Nat) : (s.raise src loc).now = s.now := State.raiseD_now s src loc 0 0 0 []
@[simp] theorem State.raise_regs (s : State) (src loc : Nat) : (s.raise src loc).regs = s.regs := State.raiseD_regs s src loc 0 0 0 []
@[simp] theorem State.raise_mode (s : State) (src loc : Nat) : (s.raise src loc).mode = s.mode := State.raiseD_mode s src loc 0 0 0 []
@[simp] theorem State.raise_freeCtr (s : State) (src loc : Nat) : (s.raise src loc).freeCtr = s.freeCtr := State.raiseD_freeCtr s src loc 0 0 0 []
@[simp] theorem State.raise_hif (s : State) (src loc : Nat) : (s.raise src loc).hif = s.hif := State.raiseD_hif s src loc 0 0 0 []
@[simp] theorem State.raise_fab (s : State) (src loc : Nat) : (s.raise src loc).fab = s.fab := State.raiseD_fab s src loc 0 0 0 []
@[simp] theorem State.raise_rack (s : State) (src loc : Nat) : (s.raise src loc).rack = s.rack := State.raiseD_rack s src loc 0 0 0 []
@[simp] theorem State.raise_mgmt (s : State) (src loc : Nat) : (s.raise src loc).mgmt = s.mgmt := State.raiseD_mgmt s src loc 0 0 0 []
@[simp] theorem State.raise_start (s : State) (src loc : Nat) : (s.raise src loc).start = s.start := State.raiseD_start s src loc 0 0 0 []
@[simp] theorem State.raise_drive (s : State) (src loc : Nat) : (s.raise src loc).drive = s.drive := State.raiseD_drive s src loc 0 0 0 []
@[simp] theorem State.raise_loop (s : State) (src loc : Nat) : (s.raise src loc).loop = s.loop := State.raiseD_loop s src loc 0 0 0 []
@[simp] theorem State.raise_seq (s : State) (src loc : Nat) : (s.raise src loc).seq = s.seq := State.raiseD_seq s src loc 0 0 0 []
@[simp] theorem State.raise_hrv (s : State) (src loc : Nat) : (s.raise src loc).hrv = s.hrv := State.raiseD_hrv s src loc 0 0 0 []
@[simp] theorem State.raise_tim (s : State) (src loc : Nat) : (s.raise src loc).tim = s.tim := State.raiseD_tim s src loc 0 0 0 []
@[simp] theorem State.raise_thm (s : State) (src loc : Nat) : (s.raise src loc).thm = s.thm := State.raiseD_thm s src loc 0 0 0 []
@[simp] theorem State.raise_lane (s : State) (src loc : Nat) : (s.raise src loc).lane = s.lane := State.raiseD_lane s src loc 0 0 0 []
@[simp] theorem State.raise_cal (s : State) (src loc : Nat) : (s.raise src loc).cal = s.cal := State.raiseD_cal s src loc 0 0 0 []
@[simp] theorem State.raise_pk (s : State) (src loc : Nat) : (s.raise src loc).pk = s.pk := State.raiseD_pk s src loc 0 0 0 []
@[simp] theorem State.raise_pair (s : State) (src loc : Nat) : (s.raise src loc).pair = s.pair := State.raiseD_pair s src loc 0 0 0 []
@[simp] theorem State.raise_cellar (s : State) (src loc : Nat) : (s.raise src loc).cellar = s.cellar := State.raiseD_cellar s src loc 0 0 0 []
@[simp] theorem State.raise_pending (s : State) (src loc : Nat) : (s.raise src loc).pending = s.pending := State.raiseD_pending s src loc 0 0 0 []
@[simp] theorem State.rd_raise (s : State) (src loc : Nat) (p : Nat) : (s.raise src loc).rd p = s.rd p := by simp [State.rd]
@[simp] theorem State.fld_raise (s : State) (src loc : Nat) (p : Nat) (g : Fld) : (s.raise src loc).fld p g = s.fld p g := by simp [State.fld]

/-! ### setPending -/

@[simp] theorem State.setPending_now (s : State) (p : Nat) : (s.setPending p).now = s.now := rfl
@[simp] theorem State.setPending_mode (s : State) (p : Nat) : (s.setPending p).mode = s.mode := rfl
@[simp] theorem State.setPending_freeCtr (s : State) (p : Nat) : (s.setPending p).freeCtr = s.freeCtr := rfl
@[simp] theorem State.setPending_hif (s : State) (p : Nat) : (s.setPending p).hif = s.hif := rfl
@[simp] theorem State.setPending_fab (s : State) (p : Nat) : (s.setPending p).fab = s.fab := rfl
@[simp] theorem State.setPending_rack (s : State) (p : Nat) : (s.setPending p).rack = s.rack := rfl
@[simp] theorem State.setPending_mgmt (s : State) (p : Nat) : (s.setPending p).mgmt = s.mgmt := rfl
@[simp] theorem State.setPending_flt (s : State) (p : Nat) : (s.setPending p).flt = s.flt := rfl
@[simp] theorem State.setPending_start (s : State) (p : Nat) : (s.setPending p).start = s.start := rfl
@[simp] theorem State.setPending_drive (s : State) (p : Nat) : (s.setPending p).drive = s.drive := rfl
@[simp] theorem State.setPending_loop (s : State) (p : Nat) : (s.setPending p).loop = s.loop := rfl
@[simp] theorem State.setPending_seq (s : State) (p : Nat) : (s.setPending p).seq = s.seq := rfl
@[simp] theorem State.setPending_evt (s : State) (p : Nat) : (s.setPending p).evt = s.evt := rfl
@[simp] theorem State.setPending_hrv (s : State) (p : Nat) : (s.setPending p).hrv = s.hrv := rfl
@[simp] theorem State.setPending_tim (s : State) (p : Nat) : (s.setPending p).tim = s.tim := rfl
@[simp] theorem State.setPending_thm (s : State) (p : Nat) : (s.setPending p).thm = s.thm := rfl
@[simp] theorem State.setPending_lane (s : State) (p : Nat) : (s.setPending p).lane = s.lane := rfl
@[simp] theorem State.setPending_cal (s : State) (p : Nat) : (s.setPending p).cal = s.cal := rfl
@[simp] theorem State.setPending_pk (s : State) (p : Nat) : (s.setPending p).pk = s.pk := rfl
@[simp] theorem State.setPending_pair (s : State) (p : Nat) : (s.setPending p).pair = s.pair := rfl
@[simp] theorem State.setPending_cellar (s : State) (p : Nat) : (s.setPending p).cellar = s.cellar := rfl
@[simp] theorem State.setPending_pending (s : State) (p : Nat) : (s.setPending p).pending = s.pending := rfl

/-! ### attn -/

@[simp] theorem State.attn_now (s : State) (c : Nat) : (s.attn c).now = s.now := rfl
@[simp] theorem State.attn_mode (s : State) (c : Nat) : (s.attn c).mode = s.mode := rfl
@[simp] theorem State.attn_freeCtr (s : State) (c : Nat) : (s.attn c).freeCtr = s.freeCtr := rfl
@[simp] theorem State.attn_fab (s : State) (c : Nat) : (s.attn c).fab = s.fab := rfl
@[simp] theorem State.attn_rack (s : State) (c : Nat) : (s.attn c).rack = s.rack := rfl
@[simp] theorem State.attn_mgmt (s : State) (c : Nat) : (s.attn c).mgmt = s.mgmt := rfl
@[simp] theorem State.attn_flt (s : State) (c : Nat) : (s.attn c).flt = s.flt := rfl
@[simp] theorem State.attn_start (s : State) (c : Nat) : (s.attn c).start = s.start := rfl
@[simp] theorem State.attn_drive (s : State) (c : Nat) : (s.attn c).drive = s.drive := rfl
@[simp] theorem State.attn_loop (s : State) (c : Nat) : (s.attn c).loop = s.loop := rfl
@[simp] theorem State.attn_seq (s : State) (c : Nat) : (s.attn c).seq = s.seq := rfl
@[simp] theorem State.attn_evt (s : State) (c : Nat) : (s.attn c).evt = s.evt := rfl
@[simp] theorem State.attn_hrv (s : State) (c : Nat) : (s.attn c).hrv = s.hrv := rfl
@[simp] theorem State.attn_tim (s : State) (c : Nat) : (s.attn c).tim = s.tim := rfl
@[simp] theorem State.attn_thm (s : State) (c : Nat) : (s.attn c).thm = s.thm := rfl
@[simp] theorem State.attn_lane (s : State) (c : Nat) : (s.attn c).lane = s.lane := rfl
@[simp] theorem State.attn_cal (s : State) (c : Nat) : (s.attn c).cal = s.cal := rfl
@[simp] theorem State.attn_pk (s : State) (c : Nat) : (s.attn c).pk = s.pk := rfl
@[simp] theorem State.attn_pair (s : State) (c : Nat) : (s.attn c).pair = s.pair := rfl
@[simp] theorem State.attn_cellar (s : State) (c : Nat) : (s.attn c).cellar = s.cellar := rfl
@[simp] theorem State.attn_pending (s : State) (c : Nat) : (s.attn c).pending = s.pending := rfl

/-! ### attnClear -/

@[simp] theorem State.attnClear_now (s : State) (c : Nat) : (s.attnClear c).now = s.now := rfl
@[simp] theorem State.attnClear_mode (s : State) (c : Nat) : (s.attnClear c).mode = s.mode := rfl
@[simp] theorem State.attnClear_freeCtr (s : State) (c : Nat) : (s.attnClear c).freeCtr = s.freeCtr := rfl
@[simp] theorem State.attnClear_hif (s : State) (c : Nat) : (s.attnClear c).hif = s.hif := rfl
@[simp] theorem State.attnClear_fab (s : State) (c : Nat) : (s.attnClear c).fab = s.fab := rfl
@[simp] theorem State.attnClear_rack (s : State) (c : Nat) : (s.attnClear c).rack = s.rack := rfl
@[simp] theorem State.attnClear_mgmt (s : State) (c : Nat) : (s.attnClear c).mgmt = s.mgmt := rfl
@[simp] theorem State.attnClear_flt (s : State) (c : Nat) : (s.attnClear c).flt = s.flt := rfl
@[simp] theorem State.attnClear_start (s : State) (c : Nat) : (s.attnClear c).start = s.start := rfl
@[simp] theorem State.attnClear_drive (s : State) (c : Nat) : (s.attnClear c).drive = s.drive := rfl
@[simp] theorem State.attnClear_loop (s : State) (c : Nat) : (s.attnClear c).loop = s.loop := rfl
@[simp] theorem State.attnClear_seq (s : State) (c : Nat) : (s.attnClear c).seq = s.seq := rfl
@[simp] theorem State.attnClear_evt (s : State) (c : Nat) : (s.attnClear c).evt = s.evt := rfl
@[simp] theorem State.attnClear_hrv (s : State) (c : Nat) : (s.attnClear c).hrv = s.hrv := rfl
@[simp] theorem State.attnClear_tim (s : State) (c : Nat) : (s.attnClear c).tim = s.tim := rfl
@[simp] theorem State.attnClear_thm (s : State) (c : Nat) : (s.attnClear c).thm = s.thm := rfl
@[simp] theorem State.attnClear_lane (s : State) (c : Nat) : (s.attnClear c).lane = s.lane := rfl
@[simp] theorem State.attnClear_cal (s : State) (c : Nat) : (s.attnClear c).cal = s.cal := rfl
@[simp] theorem State.attnClear_pk (s : State) (c : Nat) : (s.attnClear c).pk = s.pk := rfl
@[simp] theorem State.attnClear_pair (s : State) (c : Nat) : (s.attnClear c).pair = s.pair := rfl
@[simp] theorem State.attnClear_cellar (s : State) (c : Nat) : (s.attnClear c).cellar = s.cellar := rfl
@[simp] theorem State.attnClear_pending (s : State) (c : Nat) : (s.attnClear c).pending = s.pending := rfl

/-! ### setMode -/

@[simp] theorem State.setMode_now (s : State) (m : Mode) (path : List Nat) : (s.setMode m path).now = s.now := by
  unfold State.setMode; split
  · rfl
  · simp only [State.fireP_now]; split <;> simp
@[simp] theorem State.setMode_regs (s : State) (m : Mode) (path : List Nat) : (s.setMode m path).regs = s.regs := by
  unfold State.setMode; split
  · rfl
  · simp only [State.fireP_regs]; split <;> simp
@[simp] theorem State.setMode_freeCtr (s : State) (m : Mode) (path : List Nat) : (s.setMode m path).freeCtr = s.freeCtr := by
  unfold State.setMode; split
  · rfl
  · simp only [State.fireP_freeCtr]; split <;> simp
@[simp] theorem State.setMode_fab (s : State) (m : Mode) (path : List Nat) : (s.setMode m path).fab = s.fab := by
  unfold State.setMode; split
  · rfl
  · simp only [State.fireP_fab]; split <;> simp
@[simp] theorem State.setMode_rack (s : State) (m : Mode) (path : List Nat) : (s.setMode m path).rack = s.rack := by
  unfold State.setMode; split
  · rfl
  · simp only [State.fireP_rack]; split <;> simp
@[simp] theorem State.setMode_mgmt (s : State) (m : Mode) (path : List Nat) : (s.setMode m path).mgmt = s.mgmt := by
  unfold State.setMode; split
  · rfl
  · simp only [State.fireP_mgmt]; split <;> simp
@[simp] theorem State.setMode_flt (s : State) (m : Mode) (path : List Nat) : (s.setMode m path).flt = s.flt := by
  unfold State.setMode; split
  · rfl
  · simp only [State.fireP_flt]; split <;> simp
@[simp] theorem State.setMode_start (s : State) (m : Mode) (path : List Nat) : (s.setMode m path).start = s.start := by
  unfold State.setMode; split
  · rfl
  · simp only [State.fireP_start]; split <;> simp
@[simp] theorem State.setMode_drive (s : State) (m : Mode) (path : List Nat) : (s.setMode m path).drive = s.drive := by
  unfold State.setMode; split
  · rfl
  · simp only [State.fireP_drive]; split <;> simp
@[simp] theorem State.setMode_loop (s : State) (m : Mode) (path : List Nat) : (s.setMode m path).loop = s.loop := by
  unfold State.setMode; split
  · rfl
  · simp only [State.fireP_loop]; split <;> simp
@[simp] theorem State.setMode_seq (s : State) (m : Mode) (path : List Nat) : (s.setMode m path).seq = s.seq := by
  unfold State.setMode; split
  · rfl
  · simp only [State.fireP_seq]; split <;> simp
@[simp] theorem State.setMode_hrv (s : State) (m : Mode) (path : List Nat) : (s.setMode m path).hrv = s.hrv := by
  unfold State.setMode; split
  · rfl
  · simp only [State.fireP_hrv]; split <;> simp
@[simp] theorem State.setMode_tim (s : State) (m : Mode) (path : List Nat) : (s.setMode m path).tim = s.tim := by
  unfold State.setMode; split
  · rfl
  · simp only [State.fireP_tim]; split <;> simp
@[simp] theorem State.setMode_thm (s : State) (m : Mode) (path : List Nat) : (s.setMode m path).thm = s.thm := by
  unfold State.setMode; split
  · rfl
  · simp only [State.fireP_thm]; split <;> simp
@[simp] theorem State.setMode_lane (s : State) (m : Mode) (path : List Nat) : (s.setMode m path).lane = s.lane := by
  unfold State.setMode; split
  · rfl
  · simp only [State.fireP_lane]; split <;> simp
@[simp] theorem State.setMode_cal (s : State) (m : Mode) (path : List Nat) : (s.setMode m path).cal = s.cal := by
  unfold State.setMode; split
  · rfl
  · simp only [State.fireP_cal]; split <;> simp
@[simp] theorem State.setMode_pk (s : State) (m : Mode) (path : List Nat) : (s.setMode m path).pk = s.pk := by
  unfold State.setMode; split
  · rfl
  · simp only [State.fireP_pk]; split <;> simp
@[simp] theorem State.setMode_pair (s : State) (m : Mode) (path : List Nat) : (s.setMode m path).pair = s.pair := by
  unfold State.setMode; split
  · rfl
  · simp only [State.fireP_pair]; split <;> simp
@[simp] theorem State.setMode_cellar (s : State) (m : Mode) (path : List Nat) : (s.setMode m path).cellar = s.cellar := by
  unfold State.setMode; split
  · rfl
  · simp only [State.fireP_cellar]; split <;> simp
@[simp] theorem State.setMode_pending (s : State) (m : Mode) (path : List Nat) : (s.setMode m path).pending = s.pending := by
  unfold State.setMode; split
  · rfl
  · simp only [State.fireP_pending]; split <;> simp
@[simp] theorem State.rd_setMode (s : State) (m : Mode) (path : List Nat) (p : Nat) : (s.setMode m path).rd p = s.rd p := by simp [State.rd]
@[simp] theorem State.fld_setMode (s : State) (m : Mode) (path : List Nat) (p : Nat) (g : Fld) : (s.setMode m path).fld p g = s.fld p g := by simp [State.fld]

/-! ### setSq -/

@[simp] theorem State.setSq_now (s : State) (n : Nat) (r : SqRing) : (s.setSq n r).now = s.now := rfl
@[simp] theorem State.setSq_regs (s : State) (n : Nat) (r : SqRing) : (s.setSq n r).regs = s.regs := rfl
@[simp] theorem State.setSq_mode (s : State) (n : Nat) (r : SqRing) : (s.setSq n r).mode = s.mode := rfl
@[simp] theorem State.setSq_freeCtr (s : State) (n : Nat) (r : SqRing) : (s.setSq n r).freeCtr = s.freeCtr := rfl
@[simp] theorem State.setSq_fab (s : State) (n : Nat) (r : SqRing) : (s.setSq n r).fab = s.fab := rfl
@[simp] theorem State.setSq_rack (s : State) (n : Nat) (r : SqRing) : (s.setSq n r).rack = s.rack := rfl
@[simp] theorem State.setSq_mgmt (s : State) (n : Nat) (r : SqRing) : (s.setSq n r).mgmt = s.mgmt := rfl
@[simp] theorem State.setSq_flt (s : State) (n : Nat) (r : SqRing) : (s.setSq n r).flt = s.flt := rfl
@[simp] theorem State.setSq_start (s : State) (n : Nat) (r : SqRing) : (s.setSq n r).start = s.start := rfl
@[simp] theorem State.setSq_drive (s : State) (n : Nat) (r : SqRing) : (s.setSq n r).drive = s.drive := rfl
@[simp] theorem State.setSq_loop (s : State) (n : Nat) (r : SqRing) : (s.setSq n r).loop = s.loop := rfl
@[simp] theorem State.setSq_seq (s : State) (n : Nat) (r : SqRing) : (s.setSq n r).seq = s.seq := rfl
@[simp] theorem State.setSq_evt (s : State) (n : Nat) (r : SqRing) : (s.setSq n r).evt = s.evt := rfl
@[simp] theorem State.setSq_hrv (s : State) (n : Nat) (r : SqRing) : (s.setSq n r).hrv = s.hrv := rfl
@[simp] theorem State.setSq_tim (s : State) (n : Nat) (r : SqRing) : (s.setSq n r).tim = s.tim := rfl
@[simp] theorem State.setSq_thm (s : State) (n : Nat) (r : SqRing) : (s.setSq n r).thm = s.thm := rfl
@[simp] theorem State.setSq_lane (s : State) (n : Nat) (r : SqRing) : (s.setSq n r).lane = s.lane := rfl
@[simp] theorem State.setSq_cal (s : State) (n : Nat) (r : SqRing) : (s.setSq n r).cal = s.cal := rfl
@[simp] theorem State.setSq_pk (s : State) (n : Nat) (r : SqRing) : (s.setSq n r).pk = s.pk := rfl
@[simp] theorem State.setSq_pair (s : State) (n : Nat) (r : SqRing) : (s.setSq n r).pair = s.pair := rfl
@[simp] theorem State.setSq_cellar (s : State) (n : Nat) (r : SqRing) : (s.setSq n r).cellar = s.cellar := rfl
@[simp] theorem State.setSq_pending (s : State) (n : Nat) (r : SqRing) : (s.setSq n r).pending = s.pending := rfl
@[simp] theorem State.rd_setSq (s : State) (n : Nat) (r : SqRing) (p : Nat) : (s.setSq n r).rd p = s.rd p := by simp [State.rd]
@[simp] theorem State.fld_setSq (s : State) (n : Nat) (r : SqRing) (p : Nat) (g : Fld) : (s.setSq n r).fld p g = s.fld p g := by simp [State.fld]

/-! ### setCq -/

@[simp] theorem State.setCq_now (s : State) (n : Nat) (r : CqRing) : (s.setCq n r).now = s.now := rfl
@[simp] theorem State.setCq_regs (s : State) (n : Nat) (r : CqRing) : (s.setCq n r).regs = s.regs := rfl
@[simp] theorem State.setCq_mode (s : State) (n : Nat) (r : CqRing) : (s.setCq n r).mode = s.mode := rfl
@[simp] theorem State.setCq_freeCtr (s : State) (n : Nat) (r : CqRing) : (s.setCq n r).freeCtr = s.freeCtr := rfl
@[simp] theorem State.setCq_fab (s : State) (n : Nat) (r : CqRing) : (s.setCq n r).fab = s.fab := rfl
@[simp] theorem State.setCq_rack (s : State) (n : Nat) (r : CqRing) : (s.setCq n r).rack = s.rack := rfl
@[simp] theorem State.setCq_mgmt (s : State) (n : Nat) (r : CqRing) : (s.setCq n r).mgmt = s.mgmt := rfl
@[simp] theorem State.setCq_flt (s : State) (n : Nat) (r : CqRing) : (s.setCq n r).flt = s.flt := rfl
@[simp] theorem State.setCq_start (s : State) (n : Nat) (r : CqRing) : (s.setCq n r).start = s.start := rfl
@[simp] theorem State.setCq_drive (s : State) (n : Nat) (r : CqRing) : (s.setCq n r).drive = s.drive := rfl
@[simp] theorem State.setCq_loop (s : State) (n : Nat) (r : CqRing) : (s.setCq n r).loop = s.loop := rfl
@[simp] theorem State.setCq_seq (s : State) (n : Nat) (r : CqRing) : (s.setCq n r).seq = s.seq := rfl
@[simp] theorem State.setCq_evt (s : State) (n : Nat) (r : CqRing) : (s.setCq n r).evt = s.evt := rfl
@[simp] theorem State.setCq_hrv (s : State) (n : Nat) (r : CqRing) : (s.setCq n r).hrv = s.hrv := rfl
@[simp] theorem State.setCq_tim (s : State) (n : Nat) (r : CqRing) : (s.setCq n r).tim = s.tim := rfl
@[simp] theorem State.setCq_thm (s : State) (n : Nat) (r : CqRing) : (s.setCq n r).thm = s.thm := rfl
@[simp] theorem State.setCq_lane (s : State) (n : Nat) (r : CqRing) : (s.setCq n r).lane = s.lane := rfl
@[simp] theorem State.setCq_cal (s : State) (n : Nat) (r : CqRing) : (s.setCq n r).cal = s.cal := rfl
@[simp] theorem State.setCq_pk (s : State) (n : Nat) (r : CqRing) : (s.setCq n r).pk = s.pk := rfl
@[simp] theorem State.setCq_pair (s : State) (n : Nat) (r : CqRing) : (s.setCq n r).pair = s.pair := rfl
@[simp] theorem State.setCq_cellar (s : State) (n : Nat) (r : CqRing) : (s.setCq n r).cellar = s.cellar := rfl
@[simp] theorem State.setCq_pending (s : State) (n : Nat) (r : CqRing) : (s.setCq n r).pending = s.pending := rfl
@[simp] theorem State.rd_setCq (s : State) (n : Nat) (r : CqRing) (p : Nat) : (s.setCq n r).rd p = s.rd p := by simp [State.rd]
@[simp] theorem State.fld_setCq (s : State) (n : Nat) (r : CqRing) (p : Nat) (g : Fld) : (s.setCq n r).fld p g = s.fld p g := by simp [State.fld]

/-! ### cqFullBits -/

@[simp] theorem State.cqFullBits_now (s : State) (c : Nat) : (s.cqFullBits c).now = s.now := rfl
@[simp] theorem State.cqFullBits_mode (s : State) (c : Nat) : (s.cqFullBits c).mode = s.mode := rfl
@[simp] theorem State.cqFullBits_freeCtr (s : State) (c : Nat) : (s.cqFullBits c).freeCtr = s.freeCtr := rfl
@[simp] theorem State.cqFullBits_hif (s : State) (c : Nat) : (s.cqFullBits c).hif = s.hif := rfl
@[simp] theorem State.cqFullBits_fab (s : State) (c : Nat) : (s.cqFullBits c).fab = s.fab := rfl
@[simp] theorem State.cqFullBits_rack (s : State) (c : Nat) : (s.cqFullBits c).rack = s.rack := rfl
@[simp] theorem State.cqFullBits_mgmt (s : State) (c : Nat) : (s.cqFullBits c).mgmt = s.mgmt := rfl
@[simp] theorem State.cqFullBits_flt (s : State) (c : Nat) : (s.cqFullBits c).flt = s.flt := rfl
@[simp] theorem State.cqFullBits_start (s : State) (c : Nat) : (s.cqFullBits c).start = s.start := rfl
@[simp] theorem State.cqFullBits_drive (s : State) (c : Nat) : (s.cqFullBits c).drive = s.drive := rfl
@[simp] theorem State.cqFullBits_loop (s : State) (c : Nat) : (s.cqFullBits c).loop = s.loop := rfl
@[simp] theorem State.cqFullBits_seq (s : State) (c : Nat) : (s.cqFullBits c).seq = s.seq := rfl
@[simp] theorem State.cqFullBits_evt (s : State) (c : Nat) : (s.cqFullBits c).evt = s.evt := rfl
@[simp] theorem State.cqFullBits_hrv (s : State) (c : Nat) : (s.cqFullBits c).hrv = s.hrv := rfl
@[simp] theorem State.cqFullBits_tim (s : State) (c : Nat) : (s.cqFullBits c).tim = s.tim := rfl
@[simp] theorem State.cqFullBits_thm (s : State) (c : Nat) : (s.cqFullBits c).thm = s.thm := rfl
@[simp] theorem State.cqFullBits_lane (s : State) (c : Nat) : (s.cqFullBits c).lane = s.lane := rfl
@[simp] theorem State.cqFullBits_cal (s : State) (c : Nat) : (s.cqFullBits c).cal = s.cal := rfl
@[simp] theorem State.cqFullBits_pk (s : State) (c : Nat) : (s.cqFullBits c).pk = s.pk := rfl
@[simp] theorem State.cqFullBits_pair (s : State) (c : Nat) : (s.cqFullBits c).pair = s.pair := rfl
@[simp] theorem State.cqFullBits_cellar (s : State) (c : Nat) : (s.cqFullBits c).cellar = s.cellar := rfl
@[simp] theorem State.cqFullBits_pending (s : State) (c : Nat) : (s.cqFullBits c).pending = s.pending := rfl

/-! ### post -/

@[simp] theorem State.post_now (s : State) (a : Nat) (l : List Byte) : (s.post a l).now = s.now := rfl
@[simp] theorem State.post_regs (s : State) (a : Nat) (l : List Byte) : (s.post a l).regs = s.regs := rfl
@[simp] theorem State.post_mode (s : State) (a : Nat) (l : List Byte) : (s.post a l).mode = s.mode := rfl
@[simp] theorem State.post_freeCtr (s : State) (a : Nat) (l : List Byte) : (s.post a l).freeCtr = s.freeCtr := rfl
@[simp] theorem State.post_fab (s : State) (a : Nat) (l : List Byte) : (s.post a l).fab = s.fab := rfl
@[simp] theorem State.post_rack (s : State) (a : Nat) (l : List Byte) : (s.post a l).rack = s.rack := rfl
@[simp] theorem State.post_mgmt (s : State) (a : Nat) (l : List Byte) : (s.post a l).mgmt = s.mgmt := rfl
@[simp] theorem State.post_flt (s : State) (a : Nat) (l : List Byte) : (s.post a l).flt = s.flt := rfl
@[simp] theorem State.post_start (s : State) (a : Nat) (l : List Byte) : (s.post a l).start = s.start := rfl
@[simp] theorem State.post_drive (s : State) (a : Nat) (l : List Byte) : (s.post a l).drive = s.drive := rfl
@[simp] theorem State.post_loop (s : State) (a : Nat) (l : List Byte) : (s.post a l).loop = s.loop := rfl
@[simp] theorem State.post_seq (s : State) (a : Nat) (l : List Byte) : (s.post a l).seq = s.seq := rfl
@[simp] theorem State.post_evt (s : State) (a : Nat) (l : List Byte) : (s.post a l).evt = s.evt := rfl
@[simp] theorem State.post_hrv (s : State) (a : Nat) (l : List Byte) : (s.post a l).hrv = s.hrv := rfl
@[simp] theorem State.post_tim (s : State) (a : Nat) (l : List Byte) : (s.post a l).tim = s.tim := rfl
@[simp] theorem State.post_thm (s : State) (a : Nat) (l : List Byte) : (s.post a l).thm = s.thm := rfl
@[simp] theorem State.post_lane (s : State) (a : Nat) (l : List Byte) : (s.post a l).lane = s.lane := rfl
@[simp] theorem State.post_cal (s : State) (a : Nat) (l : List Byte) : (s.post a l).cal = s.cal := rfl
@[simp] theorem State.post_pk (s : State) (a : Nat) (l : List Byte) : (s.post a l).pk = s.pk := rfl
@[simp] theorem State.post_pair (s : State) (a : Nat) (l : List Byte) : (s.post a l).pair = s.pair := rfl
@[simp] theorem State.post_cellar (s : State) (a : Nat) (l : List Byte) : (s.post a l).cellar = s.cellar := rfl
@[simp] theorem State.post_pending (s : State) (a : Nat) (l : List Byte) : (s.post a l).pending = s.pending := rfl
@[simp] theorem State.rd_post (s : State) (a : Nat) (l : List Byte) (p : Nat) : (s.post a l).rd p = s.rd p := by simp [State.rd]
@[simp] theorem State.fld_post (s : State) (a : Nat) (l : List Byte) (p : Nat) (g : Fld) : (s.post a l).fld p g = s.fld p g := by simp [State.fld]

/-! ### graft -/

@[simp] theorem State.graft_now (s : State) (m : MirrorRec) : (s.graft m).now = s.now := rfl
@[simp] theorem State.graft_regs (s : State) (m : MirrorRec) : (s.graft m).regs = s.regs := rfl
@[simp] theorem State.graft_mode (s : State) (m : MirrorRec) : (s.graft m).mode = s.mode := rfl
@[simp] theorem State.graft_freeCtr (s : State) (m : MirrorRec) : (s.graft m).freeCtr = s.freeCtr := rfl
@[simp] theorem State.graft_hif (s : State) (m : MirrorRec) : (s.graft m).hif = s.hif := rfl
@[simp] theorem State.graft_fab (s : State) (m : MirrorRec) : (s.graft m).fab = s.fab := rfl
@[simp] theorem State.graft_rack (s : State) (m : MirrorRec) : (s.graft m).rack = s.rack := rfl
@[simp] theorem State.graft_mgmt (s : State) (m : MirrorRec) : (s.graft m).mgmt = s.mgmt := rfl
@[simp] theorem State.graft_flt (s : State) (m : MirrorRec) : (s.graft m).flt = s.flt := rfl
@[simp] theorem State.graft_start (s : State) (m : MirrorRec) : (s.graft m).start = s.start := rfl
@[simp] theorem State.graft_drive (s : State) (m : MirrorRec) : (s.graft m).drive = s.drive := rfl
@[simp] theorem State.graft_loop (s : State) (m : MirrorRec) : (s.graft m).loop = s.loop := rfl
@[simp] theorem State.graft_seq (s : State) (m : MirrorRec) : (s.graft m).seq = s.seq := rfl
@[simp] theorem State.graft_evt (s : State) (m : MirrorRec) : (s.graft m).evt = s.evt := rfl
@[simp] theorem State.graft_hrv (s : State) (m : MirrorRec) : (s.graft m).hrv = s.hrv := rfl
@[simp] theorem State.graft_tim (s : State) (m : MirrorRec) : (s.graft m).tim = s.tim := rfl
@[simp] theorem State.graft_thm (s : State) (m : MirrorRec) : (s.graft m).thm = s.thm := rfl
@[simp] theorem State.graft_lane (s : State) (m : MirrorRec) : (s.graft m).lane = s.lane := rfl
@[simp] theorem State.graft_cal (s : State) (m : MirrorRec) : (s.graft m).cal = s.cal := rfl
@[simp] theorem State.graft_pk (s : State) (m : MirrorRec) : (s.graft m).pk = s.pk := rfl
@[simp] theorem State.graft_cellar (s : State) (m : MirrorRec) : (s.graft m).cellar = s.cellar := rfl
@[simp] theorem State.graft_pending (s : State) (m : MirrorRec) : (s.graft m).pending = s.pending := rfl
@[simp] theorem State.rd_graft (s : State) (m : MirrorRec) (p : Nat) : (s.graft m).rd p = s.rd p := by simp [State.rd]
@[simp] theorem State.fld_graft (s : State) (m : MirrorRec) (p : Nat) (g : Fld) : (s.graft m).fld p g = s.fld p g := by simp [State.fld]

/-! ### Updates of other fields -/

@[simp] theorem State.rd_mk (s : State) {xnow : Nat} {xmode : Mode} {xfreeCtr : Nat} {xhif : Hif} {xfab : Fab} {xrack : RackSt} {xmgmt : Mgmt} {xflt : Flt} {xstart : StartSt} {xdrive : Drive} {xloop : Loop} {xseq : Seq} {xevt : Evt} {xhrv : Tab Hrv} {xtim : Tim} {xthm : Thm} {xlane : Lanes} {xcal : CalSt} {xpk : Pk} {xpair : PairSt} {xcellar : Tab Byte} {xpending : List Instr} (p : Nat) :
    State.rd ⟨xnow, s.regs, xmode, xfreeCtr, xhif, xfab, xrack, xmgmt, xflt, xstart, xdrive, xloop, xseq, xevt, xhrv, xtim, xthm, xlane, xcal, xpk, xpair, xcellar, xpending⟩ p = s.rd p := rfl

@[simp] theorem State.fld_mk (s : State) {xnow : Nat} {xmode : Mode} {xfreeCtr : Nat} {xhif : Hif} {xfab : Fab} {xrack : RackSt} {xmgmt : Mgmt} {xflt : Flt} {xstart : StartSt} {xdrive : Drive} {xloop : Loop} {xseq : Seq} {xevt : Evt} {xhrv : Tab Hrv} {xtim : Tim} {xthm : Thm} {xlane : Lanes} {xcal : CalSt} {xpk : Pk} {xpair : PairSt} {xcellar : Tab Byte} {xpending : List Instr} (p : Nat) (g : Fld) :
    State.fld ⟨xnow, s.regs, xmode, xfreeCtr, xhif, xfab, xrack, xmgmt, xflt, xstart, xdrive, xloop, xseq, xevt, xhrv, xtim, xthm, xlane, xcal, xpk, xpair, xcellar, xpending⟩ p g = s.fld p g := rfl

/-! ### What the changed fields become -/

@[simp] theorem State.wr_regs_rd (s : State) (o : Nat) (v : Word) : Tab.get resetOf (s.wr o v).regs o = v := Tab.get_set_same _ _ _ _

@[simp] theorem State.drawn_freeCtr (s : State) : s.drawn.freeCtr = s.freeCtr + 1 := rfl

theorem State.at_now_le (s : State) (ns : Nat) : s.now ≤ (s.at_ ns).now := by
  unfold State.at_; dsimp only; split <;> omega

theorem State.fireP_evt (s : State) (src : Nat) (path : List Nat) (h : s.eventsOn = true) :
    (s.fireP src path).evt.fired = s.evt.fired ++ [⟨src, path, s.now, none⟩] := by
  simp [State.fireP, h]

@[simp] theorem State.raiseD_flt (s : State) (src loc a b c : Nat) (path : List Nat) :
    (s.raiseD src loc a b c path).flt = { s.flt with raised := s.flt.raised ++ [⟨src, loc, a, b, c, false, path, 0⟩] } := by
  unfold State.raiseD; split <;> simp [State.fire, State.fireP] <;> split <;> rfl

@[simp] theorem State.raise_flt (s : State) (src loc : Nat) :
    (s.raise src loc).flt = { s.flt with raised := s.flt.raised ++ [⟨src, loc, 0, 0, 0, false, [], 0⟩] } := State.raiseD_flt ..

@[simp] theorem State.setMode_mode (s : State) (m : Mode) (path : List Nat) : (s.setMode m path).mode = m := by
  unfold State.setMode
  split
  · assumption
  · simp only [State.fireP_mode]; split <;> simp

@[simp] theorem State.sqRing_setSq (s : State) (n : Nat) (r : SqRing) : (s.setSq n r).sqRing n = r := Tab.get_set_same _ _ _ _

theorem State.sqRing_setSq_ne (s : State) (n k : Nat) (r : SqRing) (h : k ≠ n) : (s.setSq n r).sqRing k = s.sqRing k :=
  Tab.get_set_ne _ _ _ _ _ h

@[simp] theorem State.cqRing_setCq (s : State) (n : Nat) (r : CqRing) : (s.setCq n r).cqRing n = r := Tab.get_set_same _ _ _ _

theorem State.cqRing_setCq_ne (s : State) (n k : Nat) (r : CqRing) (h : k ≠ n) : (s.setCq n r).cqRing k = s.cqRing k :=
  Tab.get_set_ne _ _ _ _ _ h

@[simp] theorem State.post_posted (s : State) (a : Nat) (l : List Byte) : (s.post a l).hif.posted = s.hif.posted ++ [⟨a, l⟩] := rfl

end Sys2Proof.Machine
end

