-- ==== Sys2Proof/Laws/Stable.lean ====
section
/-! SUPPORT. Which components of the state an operation may write. A property that is stable under writes of a set of components (a mask of
their places in State) is kept by every operation that writes no other: the files beside this one say for each operation of the
machine, once, which components it writes. How such a property passes through the shapes that definitions are written in. -/

namespace Sys2Proof.Machine

/-- P holds on after a write of any component whose bit is in w (bit 0 now, moved forward; 1 the register file; 2 mode; 3 the count of
drawn values; 4 hif; 5 fab; 6 rack; 7 mgmt; 8 flt; 9 start; 10 drive; 11 loop; 12 seq; 13 evt; 14 hrv; 15 tim; 16 thm; 17 lane; 18 cal;
19 pk; 20 pair; 21 Cellar, keeping its form; 22 the return of every unit to reset at a cold start). -/
structure Stable (P : State → Prop) (w : Nat) : Prop where
  now : w.testBit 0 = true → ∀ (s : State) (x : Nat), s.now ≤ x → P s → P { s with now := x }
  wr : w.testBit 1 = true → ∀ (s : State) (o : Nat) (v : Word), P s → P (s.wr o v)
  reset : w.testBit 1 = true → ∀ (s : State) (o n : Nat), P s → P (s.resetRange o n)
  copy : w.testBit 1 = true → ∀ (s : State) (a b n : Nat), P s → P (s.copyRange a b n)
  swap : w.testBit 1 = true → ∀ (s : State) (a b n : Nat), P s → P (s.swapRange a b n)
  drawn : w.testBit 3 = true → ∀ s : State, P s → P s.drawn
  mode : w.testBit 2 = true → ∀ (s : State) (x : Mode), P s → P { s with mode := x }
  hif : w.testBit 4 = true → ∀ (s : State) (x : Hif), P s → P { s with hif := x }
  fab : w.testBit 5 = true → ∀ (s : State) (x : Fab), P s → P { s with fab := x }
  rack : w.testBit 6 = true → ∀ (s : State) (x : RackSt), P s → P { s with rack := x }
  mgmt : w.testBit 7 = true → ∀ (s : State) (x : Mgmt), P s → P { s with mgmt := x }
  flt : w.testBit 8 = true → ∀ (s : State) (x : Flt), P s → P { s with flt := x }
  start : w.testBit 9 = true → ∀ (s : State) (x : StartSt), P s → P { s with start := x }
  drive : w.testBit 10 = true → ∀ (s : State) (x : Drive), P s → P { s with drive := x }
  loop : w.testBit 11 = true → ∀ (s : State) (x : Loop), P s → P { s with loop := x }
  seq : w.testBit 12 = true → ∀ (s : State) (x : Seq), P s → P { s with seq := x }
  evt : w.testBit 13 = true → ∀ (s : State) (x : Evt), P s → P { s with evt := x }
  hrv : w.testBit 14 = true → ∀ (s : State) (x : Tab Hrv), P s → P { s with hrv := x }
  tim : w.testBit 15 = true → ∀ (s : State) (x : Tim), P s → P { s with tim := x }
  thm : w.testBit 16 = true → ∀ (s : State) (x : Thm), P s → P { s with thm := x }
  lane : w.testBit 17 = true → ∀ (s : State) (x : Lanes), P s → P { s with lane := x }
  cal : w.testBit 18 = true → ∀ (s : State) (x : CalSt), P s → P { s with cal := x }
  pk : w.testBit 19 = true → ∀ (s : State) (x : Pk), P s → P { s with pk := x }
  pair : w.testBit 20 = true → ∀ (s : State) (x : PairSt), P s → P { s with pair := x }
  cellar : w.testBit 21 = true → ∀ (s : State) (x : Tab Byte),
    (Tab.wf (fun _ => (0 : Byte)) s.cellar = true → Tab.wf (fun _ => (0 : Byte)) x = true) → P s → P { s with cellar := x }
  bare : w.testBit 22 = true → ∀ s k : State, k.now = s.now → k.freeCtr = s.freeCtr → k.pending = s.pending → k.cellar = s.cellar →
    k.regs = [] → P s → P k

variable {P : State → Prop} {w : Nat} {s t : State}

/-- A property stable under more writes is stable under fewer. -/
theorem Stable.sub {v : Nat} (H : Stable P w) (h : v &&& w = v) : Stable P v := by
  have k : ∀ i, v.testBit i = true → w.testBit i = true := by
    intro i hi
    have : (v &&& w).testBit i = true := by rw [h]; exact hi
    rw [Nat.testBit_and] at this
    exact (Bool.and_eq_true_iff.mp this).2
  exact ⟨fun h => H.now (k 0 h), fun h => H.wr (k 1 h), fun h => H.reset (k 1 h), fun h => H.copy (k 1 h), fun h => H.swap (k 1 h), fun h => H.drawn (k 3 h), fun h => H.mode (k 2 h), fun h => H.hif (k 4 h), fun h => H.fab (k 5 h), fun h => H.rack (k 6 h), fun h => H.mgmt (k 7 h), fun h => H.flt (k 8 h), fun h => H.start (k 9 h), fun h => H.drive (k 10 h), fun h => H.loop (k 11 h), fun h => H.seq (k 12 h), fun h => H.evt (k 13 h), fun h => H.hrv (k 14 h), fun h => H.tim (k 15 h), fun h => H.thm (k 16 h), fun h => H.lane (k 17 h), fun h => H.cal (k 18 h), fun h => H.pk (k 19 h), fun h => H.pair (k 20 h), fun h => H.cellar (k 21 h), fun h => H.bare (k 22 h)⟩

/-- P for an answer that may be absent. -/
def OptP (P : State → Prop) (o : Option State) : Prop := ∀ t, o = some t → P t

/-- P for the outcome of a command. -/
def OutP (P : State → Prop) (o : Out) : Prop := ∀ t, o = .next t → P t

theorem keep_ite {c : Prop} [Decidable c] {a b : State} (ha : P a) (hb : P b) : P (if c then a else b) := by
  split <;> assumption
theorem keep_snd {α : Type} {p : α × State} {a : α} (e : p = (a, t)) (h : P p.2) : P t := by
  subst e; exact h
theorem keep_fst {α : Type} {p : State × α} {a : α} (e : p = (t, a)) (h : P p.1) : P t := by
  subst e; exact h
theorem keep_snd2 {α β : Type} {p : α × β × State} {a : α} {b : β} (e : p = (a, b, t)) (h : P p.2.2) : P t := by
  subst e; exact h
theorem keep_some {o : Option State} (e : o = some t) (h : OptP P o) : P t := h t e
theorem keep_mk2 {α : Type} {a : α} (h : P t) : P (a, t).2 := h
theorem keep_mk1 {α : Type} {a : α} (h : P t) : P (t, a).1 := h
theorem optP_some (h : P t) : OptP P (some t) := by
  intro u e; cases e; exact h
theorem optP_none : OptP P none := by
  intro u e; cases e
theorem outP_next (h : P t) : OutP P (.next t) := by
  intro u e; cases e; exact h
theorem getD_keep {o : Option State} (ho : OptP P o) (hd : P t) : P (o.getD t) := by
  cases o with
  | none => exact hd
  | some u => exact ho u rfl
theorem id_keep (h : P t) : P (id t) := h

theorem foldl_keep {α : Type} {f : State → α → State} {l : List α} (hf : ∀ t x, P t → P (f t x)) (h : P s) : P (l.foldl f s) := by
  induction l generalizing s with
  | nil => exact h
  | cons a l ih => exact ih (hf _ _ h)

theorem foldl_keep1 {α β : Type} {f : State × β → α → State × β} {l : List α} {p : State × β}
    (hf : ∀ q x, P q.1 → P (f q x).1) (h : P p.1) : P (l.foldl f p).1 := by
  induction l generalizing p with
  | nil => exact h
  | cons a l ih => exact ih (hf _ _ h)

theorem foldr_keep {α : Type} {f : α → State → State} {l : List α} (hf : ∀ x t, P t → P (f x t)) (h : P s) : P (l.foldr f s) := by
  induction l with
  | nil => exact h
  | cons a l ih => exact hf _ _ ih

theorem forUp_keep {f : Nat → State → State} {n a : Nat} (hf : ∀ k t, P t → P (f k t)) (h : P s) : P (forUp f n a s) := by
  induction n generalizing a s with
  | zero => exact h
  | succ n ih => exact ih (hf _ _ h)

/-! ### The clock -/

theorem State.tick_le (s : State) : s.tick ≤ s.now := Nat.div_mul_le_self _ _

theorem State.tick_next_le (s : State) : s.now ≤ s.tick + tickNs := by
  have := Nat.div_add_mod s.now tickNs
  have := Nat.mod_lt s.now (show 0 < tickNs by decide)
  simp only [State.tick, tickNs] at *
  omega

theorem State.tick_two_le (s : State) : s.now ≤ s.tick + tickNs + tickNs := Nat.le_trans s.tick_next_le (Nat.le_add_right _ _)

theorem State.toTick_le (s : State) : s.now ≤ cdiv s.now tickNs * tickNs := by
  have := Nat.div_add_mod (s.now + tickNs - 1) tickNs
  have := Nat.mod_lt (s.now + tickNs - 1) (show 0 < tickNs by decide)
  simp only [cdiv, tickNs] at *
  omega

theorem State.toTickAfter_le (s : State) (t : Nat) : s.now ≤ max ((t / tickNs + 1) * tickNs) (cdiv s.now tickNs * tickNs) :=
  Nat.le_trans s.toTick_le (Nat.le_max_right _ _)

/-! ### Updates -/

theorem Stable.set_now (H : Stable P w) {xnow : Nat} (bnow : w.testBit 0 = true) (hn : s.now ≤ xnow) (h : P s) :
    P ⟨xnow, s.regs, s.mode, s.freeCtr, s.hif, s.fab, s.rack, s.mgmt, s.flt, s.start, s.drive, s.loop, s.seq, s.evt, s.hrv, s.tim, s.thm, s.lane, s.cal, s.pk, s.pair, s.cellar, s.pending⟩ := H.now bnow s xnow hn h
theorem Stable.set_mode (H : Stable P w) {xmode : Mode} (bmode : w.testBit 2 = true) (h : P s) :
    P ⟨s.now, s.regs, xmode, s.freeCtr, s.hif, s.fab, s.rack, s.mgmt, s.flt, s.start, s.drive, s.loop, s.seq, s.evt, s.hrv, s.tim, s.thm, s.lane, s.cal, s.pk, s.pair, s.cellar, s.pending⟩ := H.mode bmode s xmode h
theorem Stable.set_hif (H : Stable P w) {xhif : Hif} (bhif : w.testBit 4 = true) (h : P s) :
    P ⟨s.now, s.regs, s.mode, s.freeCtr, xhif, s.fab, s.rack, s.mgmt, s.flt, s.start, s.drive, s.loop, s.seq, s.evt, s.hrv, s.tim, s.thm, s.lane, s.cal, s.pk, s.pair, s.cellar, s.pending⟩ := H.hif bhif s xhif h
theorem Stable.set_fab (H : Stable P w) {xfab : Fab} (bfab : w.testBit 5 = true) (h : P s) :
    P ⟨s.now, s.regs, s.mode, s.freeCtr, s.hif, xfab, s.rack, s.mgmt, s.flt, s.start, s.drive, s.loop, s.seq, s.evt, s.hrv, s.tim, s.thm, s.lane, s.cal, s.pk, s.pair, s.cellar, s.pending⟩ := H.fab bfab s xfab h
theorem Stable.set_rack (H : Stable P w) {xrack : RackSt} (brack : w.testBit 6 = true) (h : P s) :
    P ⟨s.now, s.regs, s.mode, s.freeCtr, s.hif, s.fab, xrack, s.mgmt, s.flt, s.start, s.drive, s.loop, s.seq, s.evt, s.hrv, s.tim, s.thm, s.lane, s.cal, s.pk, s.pair, s.cellar, s.pending⟩ := H.rack brack s xrack h
theorem Stable.set_mgmt (H : Stable P w) {xmgmt : Mgmt} (bmgmt : w.testBit 7 = true) (h : P s) :
    P ⟨s.now, s.regs, s.mode, s.freeCtr, s.hif, s.fab, s.rack, xmgmt, s.flt, s.start, s.drive, s.loop, s.seq, s.evt, s.hrv, s.tim, s.thm, s.lane, s.cal, s.pk, s.pair, s.cellar, s.pending⟩ := H.mgmt bmgmt s xmgmt h
theorem Stable.set_flt (H : Stable P w) {xflt : Flt} (bflt : w.testBit 8 = true) (h : P s) :
    P ⟨s.now, s.regs, s.mode, s.freeCtr, s.hif, s.fab, s.rack, s.mgmt, xflt, s.start, s.drive, s.loop, s.seq, s.evt, s.hrv, s.tim, s.thm, s.lane, s.cal, s.pk, s.pair, s.cellar, s.pending⟩ := H.flt bflt s xflt h
theorem Stable.set_start (H : Stable P w) {xstart : StartSt} (bstart : w.testBit 9 = true) (h : P s) :
    P ⟨s.now, s.regs, s.mode, s.freeCtr, s.hif, s.fab, s.rack, s.mgmt, s.flt, xstart, s.drive, s.loop, s.seq, s.evt, s.hrv, s.tim, s.thm, s.lane, s.cal, s.pk, s.pair, s.cellar, s.pending⟩ := H.start bstart s xstart h
theorem Stable.set_drive (H : Stable P w) {xdrive : Drive} (bdrive : w.testBit 10 = true) (h : P s) :
    P ⟨s.now, s.regs, s.mode, s.freeCtr, s.hif, s.fab, s.rack, s.mgmt, s.flt, s.start, xdrive, s.loop, s.seq, s.evt, s.hrv, s.tim, s.thm, s.lane, s.cal, s.pk, s.pair, s.cellar, s.pending⟩ := H.drive bdrive s xdrive h
theorem Stable.set_loop (H : Stable P w) {xloop : Loop} (bloop : w.testBit 11 = true) (h : P s) :
    P ⟨s.now, s.regs, s.mode, s.freeCtr, s.hif, s.fab, s.rack, s.mgmt, s.flt, s.start, s.drive, xloop, s.seq, s.evt, s.hrv, s.tim, s.thm, s.lane, s.cal, s.pk, s.pair, s.cellar, s.pending⟩ := H.loop bloop s xloop h
theorem Stable.set_seq (H : Stable P w) {xseq : Seq} (bseq : w.testBit 12 = true) (h : P s) :
    P ⟨s.now, s.regs, s.mode, s.freeCtr, s.hif, s.fab, s.rack, s.mgmt, s.flt, s.start, s.drive, s.loop, xseq, s.evt, s.hrv, s.tim, s.thm, s.lane, s.cal, s.pk, s.pair, s.cellar, s.pending⟩ := H.seq bseq s xseq h
theorem Stable.set_evt (H : Stable P w) {xevt : Evt} (bevt : w.testBit 13 = true) (h : P s) :
    P ⟨s.now, s.regs, s.mode, s.freeCtr, s.hif, s.fab, s.rack, s.mgmt, s.flt, s.start, s.drive, s.loop, s.seq, xevt, s.hrv, s.tim, s.thm, s.lane, s.cal, s.pk, s.pair, s.cellar, s.pending⟩ := H.evt bevt s xevt h
theorem Stable.set_hrv (H : Stable P w) {xhrv : Tab Hrv} (bhrv : w.testBit 14 = true) (h : P s) :
    P ⟨s.now, s.regs, s.mode, s.freeCtr, s.hif, s.fab, s.rack, s.mgmt, s.flt, s.start, s.drive, s.loop, s.seq, s.evt, xhrv, s.tim, s.thm, s.lane, s.cal, s.pk, s.pair, s.cellar, s.pending⟩ := H.hrv bhrv s xhrv h
theorem Stable.set_tim (H : Stable P w) {xtim : Tim} (btim : w.testBit 15 = true) (h : P s) :
    P ⟨s.now, s.regs, s.mode, s.freeCtr, s.hif, s.fab, s.rack, s.mgmt, s.flt, s.start, s.drive, s.loop, s.seq, s.evt, s.hrv, xtim, s.thm, s.lane, s.cal, s.pk, s.pair, s.cellar, s.pending⟩ := H.tim btim s xtim h
theorem Stable.set_thm (H : Stable P w) {xthm : Thm} (bthm : w.testBit 16 = true) (h : P s) :
    P ⟨s.now, s.regs, s.mode, s.freeCtr, s.hif, s.fab, s.rack, s.mgmt, s.flt, s.start, s.drive, s.loop, s.seq, s.evt, s.hrv, s.tim, xthm, s.lane, s.cal, s.pk, s.pair, s.cellar, s.pending⟩ := H.thm bthm s xthm h
theorem Stable.set_lane (H : Stable P w) {xlane : Lanes} (blane : w.testBit 17 = true) (h : P s) :
    P ⟨s.now, s.regs, s.mode, s.freeCtr, s.hif, s.fab, s.rack, s.mgmt, s.flt, s.start, s.drive, s.loop, s.seq, s.evt, s.hrv, s.tim, s.thm, xlane, s.cal, s.pk, s.pair, s.cellar, s.pending⟩ := H.lane blane s xlane h
theorem Stable.set_cal (H : Stable P w) {xcal : CalSt} (bcal : w.testBit 18 = true) (h : P s) :
    P ⟨s.now, s.regs, s.mode, s.freeCtr, s.hif, s.fab, s.rack, s.mgmt, s.flt, s.start, s.drive, s.loop, s.seq, s.evt, s.hrv, s.tim, s.thm, s.lane, xcal, s.pk, s.pair, s.cellar, s.pending⟩ := H.cal bcal s xcal h
theorem Stable.set_pk (H : Stable P w) {xpk : Pk} (bpk : w.testBit 19 = true) (h : P s) :
    P ⟨s.now, s.regs, s.mode, s.freeCtr, s.hif, s.fab, s.rack, s.mgmt, s.flt, s.start, s.drive, s.loop, s.seq, s.evt, s.hrv, s.tim, s.thm, s.lane, s.cal, xpk, s.pair, s.cellar, s.pending⟩ := H.pk bpk s xpk h
theorem Stable.set_pair (H : Stable P w) {xpair : PairSt} (bpair : w.testBit 20 = true) (h : P s) :
    P ⟨s.now, s.regs, s.mode, s.freeCtr, s.hif, s.fab, s.rack, s.mgmt, s.flt, s.start, s.drive, s.loop, s.seq, s.evt, s.hrv, s.tim, s.thm, s.lane, s.cal, s.pk, xpair, s.cellar, s.pending⟩ := H.pair bpair s xpair h
theorem Stable.set_cellar (H : Stable P w) {xcellar : Tab Byte} (bcellar : w.testBit 21 = true) (hc : Tab.wf (fun _ => (0 : Byte)) s.cellar = true → Tab.wf (fun _ => (0 : Byte)) xcellar = true) (h : P s) :
    P ⟨s.now, s.regs, s.mode, s.freeCtr, s.hif, s.fab, s.rack, s.mgmt, s.flt, s.start, s.drive, s.loop, s.seq, s.evt, s.hrv, s.tim, s.thm, s.lane, s.cal, s.pk, s.pair, xcellar, s.pending⟩ := H.cellar bcellar s xcellar hc h
theorem Stable.set_mode_cellar (H : Stable P w) {xmode : Mode} {xcellar : Tab Byte} (bmode : w.testBit 2 = true) (bcellar : w.testBit 21 = true) (hc : Tab.wf (fun _ => (0 : Byte)) s.cellar = true → Tab.wf (fun _ => (0 : Byte)) xcellar = true) (h : P s) :
    P ⟨s.now, s.regs, xmode, s.freeCtr, s.hif, s.fab, s.rack, s.mgmt, s.flt, s.start, s.drive, s.loop, s.seq, s.evt, s.hrv, s.tim, s.thm, s.lane, s.cal, s.pk, s.pair, xcellar, s.pending⟩ := H.cellar bcellar (⟨s.now, s.regs, xmode, s.freeCtr, s.hif, s.fab, s.rack, s.mgmt, s.flt, s.start, s.drive, s.loop, s.seq, s.evt, s.hrv, s.tim, s.thm, s.lane, s.cal, s.pk, s.pair, s.cellar, s.pending⟩ : State) xcellar hc (H.mode bmode s xmode h)
theorem Stable.set_hif_start (H : Stable P w) {xhif : Hif} {xstart : StartSt} (bhif : w.testBit 4 = true) (bstart : w.testBit 9 = true) (h : P s) :
    P ⟨s.now, s.regs, s.mode, s.freeCtr, xhif, s.fab, s.rack, s.mgmt, s.flt, xstart, s.drive, s.loop, s.seq, s.evt, s.hrv, s.tim, s.thm, s.lane, s.cal, s.pk, s.pair, s.cellar, s.pending⟩ := H.start bstart (⟨s.now, s.regs, s.mode, s.freeCtr, xhif, s.fab, s.rack, s.mgmt, s.flt, s.start, s.drive, s.loop, s.seq, s.evt, s.hrv, s.tim, s.thm, s.lane, s.cal, s.pk, s.pair, s.cellar, s.pending⟩ : State) xstart (H.hif bhif s xhif h)
theorem Stable.set_mode_hif (H : Stable P w) {xmode : Mode} {xhif : Hif} (bmode : w.testBit 2 = true) (bhif : w.testBit 4 = true) (h : P s) :
    P ⟨s.now, s.regs, xmode, s.freeCtr, xhif, s.fab, s.rack, s.mgmt, s.flt, s.start, s.drive, s.loop, s.seq, s.evt, s.hrv, s.tim, s.thm, s.lane, s.cal, s.pk, s.pair, s.cellar, s.pending⟩ := H.hif bhif (⟨s.now, s.regs, xmode, s.freeCtr, s.hif, s.fab, s.rack, s.mgmt, s.flt, s.start, s.drive, s.loop, s.seq, s.evt, s.hrv, s.tim, s.thm, s.lane, s.cal, s.pk, s.pair, s.cellar, s.pending⟩ : State) xhif (H.mode bmode s xmode h)
theorem Stable.set_seq_pk (H : Stable P w) {xseq : Seq} {xpk : Pk} (bseq : w.testBit 12 = true) (bpk : w.testBit 19 = true) (h : P s) :
    P ⟨s.now, s.regs, s.mode, s.freeCtr, s.hif, s.fab, s.rack, s.mgmt, s.flt, s.start, s.drive, s.loop, xseq, s.evt, s.hrv, s.tim, s.thm, s.lane, s.cal, xpk, s.pair, s.cellar, s.pending⟩ := H.pk bpk (⟨s.now, s.regs, s.mode, s.freeCtr, s.hif, s.fab, s.rack, s.mgmt, s.flt, s.start, s.drive, s.loop, xseq, s.evt, s.hrv, s.tim, s.thm, s.lane, s.cal, s.pk, s.pair, s.cellar, s.pending⟩ : State) xpk (H.seq bseq s xseq h)
theorem Stable.set_fab_rack_mgmt_flt_start (H : Stable P w) {xfab : Fab} {xrack : RackSt} {xmgmt : Mgmt} {xflt : Flt} {xstart : StartSt} (bfab : w.testBit 5 = true) (brack : w.testBit 6 = true) (bmgmt : w.testBit 7 = true) (bflt : w.testBit 8 = true) (bstart : w.testBit 9 = true) (h : P s) :
    P ⟨s.now, s.regs, s.mode, s.freeCtr, s.hif, xfab, xrack, xmgmt, xflt, xstart, s.drive, s.loop, s.seq, s.evt, s.hrv, s.tim, s.thm, s.lane, s.cal, s.pk, s.pair, s.cellar, s.pending⟩ := H.start bstart (⟨s.now, s.regs, s.mode, s.freeCtr, s.hif, xfab, xrack, xmgmt, xflt, s.start, s.drive, s.loop, s.seq, s.evt, s.hrv, s.tim, s.thm, s.lane, s.cal, s.pk, s.pair, s.cellar, s.pending⟩ : State) xstart (H.flt bflt (⟨s.now, s.regs, s.mode, s.freeCtr, s.hif, xfab, xrack, xmgmt, s.flt, s.start, s.drive, s.loop, s.seq, s.evt, s.hrv, s.tim, s.thm, s.lane, s.cal, s.pk, s.pair, s.cellar, s.pending⟩ : State) xflt (H.mgmt bmgmt (⟨s.now, s.regs, s.mode, s.freeCtr, s.hif, xfab, xrack, s.mgmt, s.flt, s.start, s.drive, s.loop, s.seq, s.evt, s.hrv, s.tim, s.thm, s.lane, s.cal, s.pk, s.pair, s.cellar, s.pending⟩ : State) xmgmt (H.rack brack (⟨s.now, s.regs, s.mode, s.freeCtr, s.hif, xfab, s.rack, s.mgmt, s.flt, s.start, s.drive, s.loop, s.seq, s.evt, s.hrv, s.tim, s.thm, s.lane, s.cal, s.pk, s.pair, s.cellar, s.pending⟩ : State) xrack (H.fab bfab s xfab h))))
theorem Stable.set_flt_pair (H : Stable P w) {xflt : Flt} {xpair : PairSt} (bflt : w.testBit 8 = true) (bpair : w.testBit 20 = true) (h : P s) :
    P ⟨s.now, s.regs, s.mode, s.freeCtr, s.hif, s.fab, s.rack, s.mgmt, xflt, s.start, s.drive, s.loop, s.seq, s.evt, s.hrv, s.tim, s.thm, s.lane, s.cal, s.pk, xpair, s.cellar, s.pending⟩ := H.pair bpair (⟨s.now, s.regs, s.mode, s.freeCtr, s.hif, s.fab, s.rack, s.mgmt, xflt, s.start, s.drive, s.loop, s.seq, s.evt, s.hrv, s.tim, s.thm, s.lane, s.cal, s.pk, s.pair, s.cellar, s.pending⟩ : State) xpair (H.flt bflt s xflt h)
theorem Stable.set_now_flt (H : Stable P w) {xnow : Nat} {xflt : Flt} (bnow : w.testBit 0 = true) (bflt : w.testBit 8 = true) (hn : s.now ≤ xnow) (h : P s) :
    P ⟨xnow, s.regs, s.mode, s.freeCtr, s.hif, s.fab, s.rack, s.mgmt, xflt, s.start, s.drive, s.loop, s.seq, s.evt, s.hrv, s.tim, s.thm, s.lane, s.cal, s.pk, s.pair, s.cellar, s.pending⟩ := H.flt bflt (⟨xnow, s.regs, s.mode, s.freeCtr, s.hif, s.fab, s.rack, s.mgmt, s.flt, s.start, s.drive, s.loop, s.seq, s.evt, s.hrv, s.tim, s.thm, s.lane, s.cal, s.pk, s.pair, s.cellar, s.pending⟩ : State) xflt (H.now bnow s xnow hn h)
theorem Stable.set_now_evt (H : Stable P w) {xnow : Nat} {xevt : Evt} (bnow : w.testBit 0 = true) (bevt : w.testBit 13 = true) (hn : s.now ≤ xnow) (h : P s) :
    P ⟨xnow, s.regs, s.mode, s.freeCtr, s.hif, s.fab, s.rack, s.mgmt, s.flt, s.start, s.drive, s.loop, s.seq, xevt, s.hrv, s.tim, s.thm, s.lane, s.cal, s.pk, s.pair, s.cellar, s.pending⟩ := H.evt bevt (⟨xnow, s.regs, s.mode, s.freeCtr, s.hif, s.fab, s.rack, s.mgmt, s.flt, s.start, s.drive, s.loop, s.seq, s.evt, s.hrv, s.tim, s.thm, s.lane, s.cal, s.pk, s.pair, s.cellar, s.pending⟩ : State) xevt (H.now bnow s xnow hn h)

/-! ### The operations on the register file and the clock -/

theorem State.at__writes {a0 : State} {a1 : Nat} (H : Stable P 1) (h0 : P a0) : P (State.at_ a0 a1) :=
  H.now rfl _ _ (State.at_now_le a0 a1) h0
theorem State.wr_writes {a0 : State} {a1 : Nat} {a2 : Word} (H : Stable P 2) (h0 : P a0) : P (State.wr a0 a1 a2) := H.wr rfl _ _ _ h0
theorem State.resetRange_writes {a0 : State} {a1 a2 : Nat} (H : Stable P 2) (h0 : P a0) : P (State.resetRange a0 a1 a2) :=
  H.reset rfl _ _ _ h0
theorem State.copyRange_writes {a0 : State} {a1 a2 a3 : Nat} (H : Stable P 2) (h0 : P a0) : P (State.copyRange a0 a1 a2 a3) :=
  H.copy rfl _ _ _ _ h0
theorem State.swapRange_writes {a0 : State} {a1 a2 a3 : Nat} (H : Stable P 2) (h0 : P a0) : P (State.swapRange a0 a1 a2 a3) :=
  H.swap rfl _ _ _ _ h0
theorem State.drawn_writes {a0 : State} (H : Stable P 8) (h0 : P a0) : P (State.drawn a0) := H.drawn rfl _ h0

end Sys2Proof.Machine
end

