-- ==== Sys2Proof/Laws/WritesOps.lean ====
section
/-! SUPPORT. Which components of the state each operation and command of Machine/Ops.lean may write. -/

namespace Sys2Proof.Machine

theorem State.setF_writes {P : State → Prop} {a0 : State} {a1 : Nat} {a2 : Fld} {a3 : Nat} (H : Stable P 2) (h0 : P a0) :
    P (State.setF a0 a1 a2 a3) := by
  unfold State.setF
  refine State.wr_writes (H.sub rfl) ?_
  exact h0

theorem State.count_writes {P : State → Prop} {a0 : State} {a1 : Nat} {a2 : Fld} {a3 : Nat} (H : Stable P 2) (h0 : P a0) :
    P (State.count a0 a1 a2 a3) := by
  unfold State.count
  refine State.setF_writes (H.sub rfl) ?_
  exact h0

theorem State.cqFullBits_writes {P : State → Prop} {a0 : State} {a1 : Nat} (H : Stable P 2) (h0 : P a0) :
    P (State.cqFullBits a0 a1) := by
  unfold State.cqFullBits
  extract_lets +onlyGivenNames x0
  extract_lets +onlyGivenNames x1
  have h2 : P x1 := by
    unfold x1
    refine State.setF_writes (H.sub rfl) ?_
    exact h0
  refine State.setF_writes (H.sub rfl) ?_
  exact h2

theorem State.setCq_writes {P : State → Prop} {a0 : State} {a1 : Nat} {a2 : CqRing} (H : Stable P 16) (h0 : P a0) :
    P (State.setCq a0 a1 a2) := by
  unfold State.setCq
  refine H.set_hif rfl   ?_
  exact h0

theorem State.setSq_writes {P : State → Prop} {a0 : State} {a1 : Nat} {a2 : SqRing} (H : Stable P 16) (h0 : P a0) :
    P (State.setSq a0 a1 a2) := by
  unfold State.setSq
  refine H.set_hif rfl   ?_
  exact h0

theorem State.finish_writes {P : State → Prop} {a0 : State} {a1 : Req} {a2 : Nat} {a3 : List Word} {a4 : Nat} {a5 : Bool} (H : Stable P 18) (h0 : P a0) :
    P (State.finish a0 a1 a2 a3 a4 a5) := by
  unfold State.finish
  extract_lets +onlyGivenNames x3
  split
  · refine keep_ite ?_ ?_
    · extract_lets +onlyGivenNames x4
      have h5 : P x4 := by
        unfold x4
        refine State.setF_writes (H.sub rfl) ?_
        refine State.setSq_writes (H.sub rfl) ?_
        exact h0
      extract_lets +onlyGivenNames x6
      refine keep_ite ?_ ?_
      · extract_lets +onlyGivenNames x7
        extract_lets +onlyGivenNames x8
        refine State.cqFullBits_writes (H.sub rfl) ?_
        refine State.setCq_writes (H.sub rfl) ?_
        exact h5
      · exact h5
    · exact h0
  · exact h0

theorem State.finishOpt_writes {P : State → Prop} {a0 : State} {a1 : Option Req} {a2 : Nat} {a3 : List Word} {a4 : Bool} (H : Stable P 18) (h0 : P a0) :
    P (State.finishOpt a0 a1 a2 a3 a4) := by
  unfold State.finishOpt
  split
  · refine State.finish_writes (H.sub rfl) ?_
    exact h0
  · exact h0

theorem State.askMode_writes {P : State → Prop} {a0 : State} {a1 : ModeReq} (H : Stable P 530) (h0 : P a0) :
    P (State.askMode a0 a1) := by
  unfold State.askMode
  refine keep_ite ?_ ?_
  · extract_lets +onlyGivenNames x9
    have h10 : P x9 := by
      unfold x9
      refine State.finishOpt_writes (H.sub rfl) ?_
      exact h0
    refine keep_ite ?_ ?_
    · refine State.count_writes (H.sub rfl) ?_
      exact h10
    · exact h10
  · refine H.set_start rfl   ?_
    exact h0

theorem State.countWrap_writes {P : State → Prop} {a0 : State} {a1 : Nat} {a2 : Fld} {a3 : Nat} (H : Stable P 2) (h0 : P a0) :
    P (State.countWrap a0 a1 a2 a3) := by
  unfold State.countWrap
  refine State.setF_writes (H.sub rfl) ?_
  exact h0

theorem State.setPending_writes {P : State → Prop} {a0 : State} {a1 : Nat} (H : Stable P 2) (h0 : P a0) :
    P (State.setPending a0 a1) := by
  unfold State.setPending
  refine State.setF_writes (H.sub rfl) ?_
  refine State.setF_writes (H.sub rfl) ?_
  exact h0

theorem State.attn_writes {P : State → Prop} {a0 : State} {a1 : Nat} (H : Stable P 18) (h0 : P a0) :
    P (State.attn a0 a1) := by
  unfold State.attn
  extract_lets +onlyGivenNames x10
  have h10 : P x10 := by
    unfold x10
    refine State.setPending_writes (H.sub rfl) ?_
    exact h0
  extract_lets +onlyGivenNames x11
  have h11 : P x11 := by
    unfold x11
    refine State.countWrap_writes (H.sub rfl) ?_
    exact h10
  refine H.set_hif rfl   ?_
  exact h11

theorem State.attnClear_writes {P : State → Prop} {a0 : State} {a1 : Nat} (H : Stable P 2) (h0 : P a0) :
    P (State.attnClear a0 a1) := by
  unfold State.attnClear
  extract_lets +onlyGivenNames x10
  refine State.setPending_writes (H.sub rfl) ?_
  exact h0

theorem State.fireP_writes {P : State → Prop} {a0 : State} {a1 : Nat} {a2 : List Nat} (H : Stable P 8192) (h0 : P a0) :
    P (State.fireP a0 a1 a2) := by
  unfold State.fireP
  refine keep_ite ?_ ?_
  · refine H.set_evt rfl   ?_
    exact h0
  · exact h0

theorem State.fire_writes {P : State → Prop} {a0 : State} {a1 : Nat} (H : Stable P 8192) (h0 : P a0) :
    P (State.fire a0 a1) := by
  unfold State.fire
  refine State.fireP_writes (H.sub rfl) ?_
  exact h0

theorem State.graft_writes {P : State → Prop} {a0 : State} {a1 : MirrorRec} (H : Stable P 1048576) (h0 : P a0) :
    P (State.graft a0 a1) := by
  unfold State.graft
  refine H.set_pair rfl   ?_
  exact h0

theorem State.mirrorOut_writes {P : State → Prop} {a0 : State} {a1 : MirrorRec} (H : Stable P 1048578) (h0 : P a0) :
    P (State.mirrorOut a0 a1) := by
  unfold State.mirrorOut
  refine keep_ite ?_ ?_
  · split
    · refine State.wr_writes (H.sub rfl) ?_
      refine State.wr_writes (H.sub rfl) ?_
      refine State.graft_writes (H.sub rfl) ?_
      exact h0
    · refine State.graft_writes (H.sub rfl) ?_
      exact h0
  · exact h0

theorem State.post_writes {P : State → Prop} {a0 : State} {a1 : Nat} {a2 : List Byte} (H : Stable P 16) (h0 : P a0) :
    P (State.post a0 a1 a2) := by
  unfold State.post
  refine H.set_hif rfl   ?_
  exact h0

theorem State.raiseD_writes {P : State → Prop} {a0 : State} {a1 : Nat} {a2 : Nat} {a3 : Nat} {a4 : Nat} {a5 : Nat} {a6 : List Nat} (H : Stable P 8448) (h0 : P a0) :
    P (State.raiseD a0 a1 a2 a3 a4 a5 a6) := by
  unfold State.raiseD
  extract_lets +onlyGivenNames x10
  extract_lets +onlyGivenNames x11
  have h10 : P x11 := by
    unfold x11
    refine H.set_flt rfl   ?_
    exact h0
  refine keep_ite ?_ ?_
  · refine State.fire_writes (H.sub rfl) ?_
    exact h10
  · exact h10

theorem State.raise_writes {P : State → Prop} {a0 : State} {a1 : Nat} {a2 : Nat} (H : Stable P 8448) (h0 : P a0) :
    P (State.raise a0 a1 a2) := by
  unfold State.raise
  refine State.raiseD_writes (H.sub rfl) ?_
  exact h0

theorem State.setMode_writes {P : State → Prop} {a0 : State} {a1 : Mode} {a2 : List Nat} (H : Stable P 8212) (h0 : P a0) :
    P (State.setMode a0 a1 a2) := by
  unfold State.setMode
  refine keep_ite ?_ ?_
  · exact h0
  · extract_lets +onlyGivenNames x10
    extract_lets +onlyGivenNames x11
    have h10 : P x11 := by
      unfold x11
      refine H.set_mode_hif rfl rfl   ?_
      exact h0
    extract_lets +onlyGivenNames x12
    have h11 : P x12 := by
      unfold x12
      refine keep_ite ?_ ?_
      · refine State.fire_writes (H.sub rfl) ?_
        exact h10
      · exact h10
    refine State.fireP_writes (H.sub rfl) ?_
    exact h11

end Sys2Proof.Machine
end

