-- ==== Sys2Proof/Laws/WritesHif.lean ====
section
/-! SUPPORT. Which components of the state each operation and command of Machine/Hif.lean may write. -/

namespace Sys2Proof.Machine

theorem State.configReset_writes {P : State → Prop} {a0 : State} (H : Stable P 16) (h0 : P a0) :
    P (State.configReset a0) := by
  unfold State.configReset
  refine H.set_hif rfl   ?_
  exact h0

theorem State.hifErr_writes {P : State → Prop} {a0 : State} {a1 : Nat} {a2 : Option Nat} (H : Stable P 18) (h0 : P a0) :
    P (State.hifErr a0 a1 a2) := by
  unfold State.hifErr
  extract_lets +onlyGivenNames x10
  have h10 : P x10 := by
    unfold x10
    refine State.setF_writes (H.sub rfl) ?_
    exact h0
  extract_lets +onlyGivenNames x11
  have h11 : P x11 := by
    unfold x11
    split
    · rename_i v10 v11
      refine State.setF_writes (H.sub rfl) ?_
      exact h10
    · rename_i v12
      exact h10
  refine State.attn_writes (H.sub rfl) ?_
  refine State.count_writes (H.sub rfl) ?_
  exact h11

theorem State.stopCq_writes {P : State → Prop} {a0 : State} {a1 : Nat} (H : Stable P 18) (h0 : P a0) :
    P (State.stopCq a0 a1) := by
  unfold State.stopCq
  refine keep_ite ?_ ?_
  · refine State.cqFullBits_writes (H.sub rfl) ?_
    refine State.setCq_writes (H.sub rfl) ?_
    refine State.setF_writes (H.sub rfl) ?_
    exact h0
  · exact h0

theorem State.stopSq_writes {P : State → Prop} {a0 : State} {a1 : Nat} (H : Stable P 18) (h0 : P a0) :
    P (State.stopSq a0 a1) := by
  unfold State.stopSq
  refine keep_ite ?_ ?_
  · refine State.setSq_writes (H.sub rfl) ?_
    refine State.setF_writes (H.sub rfl) ?_
    exact h0
  · exact h0

theorem State.hostError_writes {P : State → Prop} {a0 : State} {a1 : HostErr} (H : Stable P 18) (h0 : P a0) :
    P (State.hostError a0 a1) := by
  unfold State.hostError
  split
  · refine State.hifErr_writes (H.sub rfl) ?_
    refine forUp_keep ?_ ?_
    · intro n10 n11 n12
      refine State.stopCq_writes (H.sub rfl) ?_
      refine State.stopSq_writes (H.sub rfl) ?_
      exact n12
    · exact h0
  · refine State.hifErr_writes (H.sub rfl) ?_
    refine State.stopSq_writes (H.sub rfl) ?_
    exact h0
  · refine State.hifErr_writes (H.sub rfl) ?_
    refine State.stopSq_writes (H.sub rfl) ?_
    exact h0
  · refine State.hifErr_writes (H.sub rfl) ?_
    refine State.stopCq_writes (H.sub rfl) ?_
    exact h0
  · refine State.hifErr_writes (H.sub rfl) ?_
    refine H.set_hif rfl   ?_
    exact h0
  · refine State.hifErr_writes (H.sub rfl) ?_
    refine State.stopSq_writes (H.sub rfl) ?_
    exact h0
  · refine State.hifErr_writes (H.sub rfl) ?_
    refine State.stopCq_writes (H.sub rfl) ?_
    exact h0

theorem State.finishBuf_writes {P : State → Prop} {a0 : State} {a1 : Req} {a2 : Desc} {a3 : Bool} {a4 : Nat} {a5 : List Word} {a6 : List Byte} (H : Stable P 18) (h0 : P a0) :
    P (State.finishBuf a0 a1 a2 a3 a4 a5 a6) := by
  unfold State.finishBuf
  refine keep_ite ?_ ?_
  · refine State.finish_writes (H.sub rfl) ?_
    exact h0
  · refine keep_ite ?_ ?_
    · refine State.finish_writes (H.sub rfl) ?_
      refine State.post_writes (H.sub rfl) ?_
      exact h0
    · refine State.finish_writes (H.sub rfl) ?_
      refine State.hostError_writes (H.sub rfl) ?_
      exact h0

theorem State.startedDesc_writes {P : State → Prop} {a0 : State} {a1 : Nat} {a2 : Desc} (H : Stable P 18) (h0 : P a0) :
    P (State.startedDesc a0 a1 a2).2 := by
  unfold State.startedDesc
  extract_lets +onlyGivenNames x10
  extract_lets +onlyGivenNames x11
  extract_lets +onlyGivenNames x12
  have h10 : P x12 := by
    unfold x12
    refine State.setSq_writes (H.sub rfl) ?_
    exact h0
  extract_lets +onlyGivenNames x13
  extract_lets +onlyGivenNames x14
  have h11 : P x14 := by
    unfold x14
    refine H.set_hif rfl   ?_
    exact h10
  extract_lets +onlyGivenNames x15
  have h12 : P x15 := by
    unfold x15
    refine State.setF_writes (H.sub rfl) ?_
    exact h11
  refine keep_mk2 ?_
  refine State.setF_writes (H.sub rfl) ?_
  exact h12

theorem State.launch_writes {P : State → Prop} {a0 : State} {a1 : Nat} {a2 : Desc} {a3 : Bool} {a4 : Bool} {a5 : Bool} {a6 : Req → State → State} (H : Stable P 18) (h0 : P a0) (h6 : (∀ (z0 : Req) (z1 : State), P z1 → P (a6 z0 z1))) :
    P (State.launch a0 a1 a2 a3 a4 a5 a6) := by
  unfold State.launch
  refine keep_ite ?_ ?_
  · split
    · rename_i v10 v11 v12 v13
      have h10 : P v12 := keep_snd v13 (by
        refine State.startedDesc_writes (H.sub rfl) ?_
        exact h0)
      split
      · extract_lets +onlyGivenNames x10
        have h11 : P x10 := by
          unfold x10
          refine keep_ite ?_ ?_
          · refine State.hostError_writes (H.sub rfl) ?_
            exact h10
          · exact h10
        refine State.finish_writes (H.sub rfl) ?_
        exact h11
      · refine h6 _ _ ?_
        exact h10
  · exact h0

theorem State.ringReset_writes {P : State → Prop} {a0 : State} (H : Stable P 18) (h0 : P a0) :
    P (State.ringReset a0) := by
  unfold State.ringReset
  extract_lets +onlyGivenNames x10
  extract_lets +onlyGivenNames x11
  extract_lets +onlyGivenNames x12
  have h10 : P x12 := by
    unfold x12
    refine State.setF_writes (H.sub rfl) ?_
    refine State.wr_writes (H.sub rfl) ?_
    refine State.resetRange_writes (H.sub rfl) ?_
    exact h0
  refine H.set_hif rfl   ?_
  exact h10

theorem State.serveRowless_writes {P : State → Prop} {a0 : Nat} {a1 : Nat} {a2 : State} (H : Stable P 18) (h2 : P a2) :
    P (State.serveRowless a0 a1 a2) := by
  induction a1 generalizing a2
  · unfold State.serveRowless
    exact h2
  · rename_i v10 v11
    unfold State.serveRowless
    split
    · split
      · refine keep_ite ?_ ?_
        · split
          · rename_i v12 v13 v14 v15
            have h10 : P v14 := keep_snd v15 (by
              refine State.startedDesc_writes (H.sub rfl) ?_
              exact h2)
            refine v11 ?_
            refine State.finish_writes (H.sub rfl) ?_
            exact h10
        · exact h2
      · exact h2
    · exact h2

theorem State.takeHead_writes {P : State → Prop} {a0 : State} {a1 : Nat} {a2 : Nat} (H : Stable P 18) (h0 : P a0) :
    P (State.takeHead a0 a1 a2) := by
  unfold State.takeHead
  refine keep_ite ?_ ?_
  · refine keep_ite ?_ ?_
    · refine State.cqFullBits_writes (H.sub rfl) ?_
      refine State.setCq_writes (H.sub rfl) ?_
      exact h0
    · refine State.hostError_writes (H.sub rfl) ?_
      exact h0
  · exact h0

theorem State.takeTail_writes {P : State → Prop} {a0 : State} {a1 : Nat} {a2 : Nat} (H : Stable P 18) (h0 : P a0) :
    P (State.takeTail a0 a1 a2) := by
  unfold State.takeTail
  refine keep_ite ?_ ?_
  · refine keep_ite ?_ ?_
    · refine State.setSq_writes (H.sub rfl) ?_
      exact h0
    · refine State.hostError_writes (H.sub rfl) ?_
      exact h0
  · exact h0

theorem execAttnAck_writes {P : State → Prop} {a0 : Word} {a1 : State} (H : Stable P 2) (h1 : P a1) :
    OutP P (execAttnAck a0 a1) := by
  unfold execAttnAck
  extract_lets +onlyGivenNames x10
  have h10 : (∀ (z0 : Nat) (z1 : State), P z1 → P (x10 z0 z1)) := by
    intro n10 n11 n12
    unfold x10
    refine keep_ite ?_ ?_
    · refine State.attnClear_writes (H.sub rfl) ?_
      exact n12
    · exact n12
  clear_value x10
  extract_lets +onlyGivenNames x11
  have h11 : P x11 := by
    unfold x11
    refine h10 _ _ ?_
    refine h10 _ _ ?_
    refine h10 _ _ ?_
    refine h10 _ _ ?_
    exact h1
  extract_lets +onlyGivenNames x12
  have h12 : P x12 := by
    unfold x12
    refine forUp_keep ?_ ?_
    · intro n13 n14 n15
      refine keep_ite ?_ ?_
      · refine State.setF_writes (H.sub rfl) ?_
        exact n15
      · exact n15
    · exact h11
  extract_lets +onlyGivenNames x13
  have h13 : P x13 := by
    unfold x13
    refine keep_ite ?_ ?_
    · refine keep_ite ?_ ?_
      · exact h12
      · refine State.attnClear_writes (H.sub rfl) ?_
        exact h12
    · exact h11
  refine outP_next ?_
  refine keep_ite ?_ ?_
  · refine State.attnClear_writes (H.sub rfl) ?_
    exact h13
  · exact h13

theorem execBusMasterDisable_writes {P : State → Prop} {a0 : State} (H : Stable P 16) (h0 : P a0) :
    OutP P (execBusMasterDisable a0) := by
  unfold execBusMasterDisable
  refine outP_next ?_
  refine H.set_hif rfl   ?_
  exact h0

theorem execBusMasterEnable_writes {P : State → Prop} {a0 : State} (H : Stable P 16) (h0 : P a0) :
    OutP P (execBusMasterEnable a0) := by
  unfold execBusMasterEnable
  refine outP_next ?_
  refine H.set_hif rfl   ?_
  exact h0

theorem execCompletionWrite_writes {P : State → Prop} {a0 : Fin 32} {a1 : State} (H : Stable P 18) (h1 : P a1) :
    OutP P (execCompletionWrite a0 a1) := by
  unfold execCompletionWrite
  extract_lets +onlyGivenNames x10
  refine outP_next ?_
  split
  · refine keep_ite ?_ ?_
    · extract_lets +onlyGivenNames x11
      extract_lets +onlyGivenNames x12
      extract_lets +onlyGivenNames x13
      have h10 : P x13 := by
        unfold x13
        refine State.post_writes (H.sub rfl) ?_
        exact h1
      extract_lets +onlyGivenNames x14
      have h11 : P x14 := by
        unfold x14
        refine State.setCq_writes (H.sub rfl) ?_
        exact h10
      extract_lets +onlyGivenNames x15
      extract_lets +onlyGivenNames x16
      have h12 : P x16 := by
        unfold x16
        refine State.setF_writes (H.sub rfl) ?_
        exact h11
      extract_lets +onlyGivenNames x17
      have h13 : P x17 := by
        unfold x17
        refine keep_ite ?_ ?_
        · refine State.setF_writes (H.sub rfl) ?_
          exact h12
        · exact h12
      refine State.serveRowless_writes (H.sub rfl) ?_
      refine State.cqFullBits_writes (H.sub rfl) ?_
      exact h13
    · exact h1
  · exact h1

theorem execCqEnable_writes {P : State → Prop} {a0 : Fin 32} {a1 : Word} {a2 : State} (H : Stable P 18) (h2 : P a2) :
    OutP P (execCqEnable a0 a1 a2) := by
  unfold execCqEnable
  extract_lets +onlyGivenNames x10
  refine outP_next ?_
  refine keep_ite ?_ ?_
  · exact h2
  · extract_lets +onlyGivenNames x11
    have h10 : P x11 := by
      unfold x11
      refine State.setF_writes (H.sub rfl) ?_
      exact h2
    extract_lets +onlyGivenNames x12
    have h11 : P x12 := by
      unfold x12
      refine State.setF_writes (H.sub rfl) ?_
      exact h10
    extract_lets +onlyGivenNames x13
    extract_lets +onlyGivenNames x14
    have h12 : P x14 := by
      unfold x14
      refine State.setF_writes (H.sub rfl) ?_
      refine State.setF_writes (H.sub rfl) ?_
      refine State.setF_writes (H.sub rfl) ?_
      exact h11
    refine State.cqFullBits_writes (H.sub rfl) ?_
    refine State.setCq_writes (H.sub rfl) ?_
    exact h12

theorem execD3hotEntry_writes {P : State → Prop} {a0 : State} (H : Stable P 18) (h0 : P a0) :
    OutP P (execD3hotEntry a0) := by
  unfold execD3hotEntry
  extract_lets +onlyGivenNames x10
  have h10 : P x10 := by
    unfold x10
    refine State.configReset_writes (H.sub rfl) ?_
    refine State.ringReset_writes (H.sub rfl) ?_
    exact h0
  refine outP_next ?_
  refine H.set_hif rfl   ?_
  exact h10

theorem execDescriptorFetch_writes {P : State → Prop} {a0 : Fin 32} {a1 : Desc} {a2 : State} (H : Stable P 18) (h2 : P a2) :
    OutP P (execDescriptorFetch a0 a1 a2) := by
  unfold execDescriptorFetch
  extract_lets +onlyGivenNames x10
  refine outP_next ?_
  refine keep_ite ?_ ?_
  · refine State.serveRowless_writes (H.sub rfl) ?_
    refine State.setSq_writes (H.sub rfl) ?_
    exact h2
  · exact h2

theorem execDoorbellPoll_writes {P : State → Prop} {a0 : BitVec 2048} {a1 : State} (H : Stable P 18) (h1 : P a1) :
    OutP P (execDoorbellPoll a0 a1) := by
  unfold execDoorbellPoll
  extract_lets +onlyGivenNames x10
  refine outP_next ?_
  refine keep_ite ?_ ?_
  · extract_lets +onlyGivenNames x11
    extract_lets +onlyGivenNames x12
    have h10 : P x12 := by
      unfold x12
      refine H.set_hif rfl   ?_
      exact h1
    extract_lets +onlyGivenNames x13
    have h11 : P x13 := by
      unfold x13
      refine forUp_keep ?_ ?_
      · intro n10 n11 n12
        refine State.takeHead_writes (H.sub rfl) ?_
        refine State.takeTail_writes (H.sub rfl) ?_
        exact n12
      · exact h10
    refine forUp_keep ?_ ?_
    · intro n13 n14 n15
      refine State.serveRowless_writes (H.sub rfl) ?_
      exact n15
    · exact h11
  · exact h1

theorem execFunctionLevelReset_writes {P : State → Prop} {a0 : State} (H : Stable P 18) (h0 : P a0) :
    OutP P (execFunctionLevelReset a0) := by
  unfold execFunctionLevelReset
  refine outP_next ?_
  refine State.configReset_writes (H.sub rfl) ?_
  refine State.ringReset_writes (H.sub rfl) ?_
  exact h0

theorem execHifEnable_writes {P : State → Prop} {a0 : State} (H : Stable P 18) (h0 : P a0) :
    OutP P (execHifEnable a0) := by
  unfold execHifEnable
  refine outP_next ?_
  refine keep_ite ?_ ?_
  · exact h0
  · extract_lets +onlyGivenNames x10
    have h10 : P x10 := by
      unfold x10
      refine State.setF_writes (H.sub rfl) ?_
      exact h0
    refine H.set_hif rfl   ?_
    exact h10

theorem execHifNudge_writes {P : State → Prop} {a0 : State} (H : Stable P 16) (h0 : P a0) :
    OutP P (execHifNudge a0) := by
  unfold execHifNudge
  refine outP_next ?_
  refine keep_ite ?_ ?_
  · refine H.set_hif rfl   ?_
    exact h0
  · exact h0

theorem execHostMemoryError_writes {P : State → Prop} {a0 : HostErr} {a1 : State} (H : Stable P 18) (h1 : P a1) :
    OutP P (execHostMemoryError a0 a1) := by
  unfold execHostMemoryError
  extract_lets +onlyGivenNames x10
  have h10 : P x10 := by
    unfold x10
    refine State.hostError_writes (H.sub rfl) ?_
    exact h1
  refine outP_next ?_
  split
  · rename_i v10 v11
    split
    · refine State.finish_writes (H.sub rfl) ?_
      exact h10
    · exact h10
  · exact h10

theorem execHotReset_writes {P : State → Prop} {a0 : State} (H : Stable P 18) (h0 : P a0) :
    OutP P (execHotReset a0) := by
  unfold execHotReset
  refine outP_next ?_
  refine State.configReset_writes (H.sub rfl) ?_
  refine State.ringReset_writes (H.sub rfl) ?_
  exact h0

theorem execNop_writes {P : State → Prop} {a0 : Fin 32} {a1 : Desc} {a2 : State} (H : Stable P 18) (h2 : P a2) :
    OutP P (execNop a0 a1 a2) := by
  unfold execNop
  refine outP_next ?_
  refine State.launch_writes (H.sub rfl) ?_ ?_
  · exact h2
  · intro n10 n11 n12
    refine State.finish_writes (H.sub rfl) ?_
    exact n12

theorem execPcieLinkLoss_writes {P : State → Prop} {a0 : State} (H : Stable P 18) (h0 : P a0) :
    OutP P (execPcieLinkLoss a0) := by
  unfold execPcieLinkLoss
  extract_lets +onlyGivenNames x10
  have h10 : P x10 := by
    unfold x10
    refine State.ringReset_writes (H.sub rfl) ?_
    exact h0
  refine outP_next ?_
  refine H.set_hif rfl   ?_
  exact h10

theorem execPcieLinkUp_writes {P : State → Prop} {a0 : State} (H : Stable P 18) (h0 : P a0) :
    OutP P (execPcieLinkUp a0) := by
  unfold execPcieLinkUp
  refine outP_next ?_
  refine keep_ite ?_ ?_
  · extract_lets +onlyGivenNames x10
    have h10 : P x10 := by
      unfold x10
      refine State.ringReset_writes (H.sub rfl) ?_
      exact h0
    refine H.set_hif rfl   ?_
    exact h10
  · exact h0

theorem execPerstNAssert_writes {P : State → Prop} {a0 : State} (H : Stable P 18) (h0 : P a0) :
    OutP P (execPerstNAssert a0) := by
  unfold execPerstNAssert
  extract_lets +onlyGivenNames x10
  have h10 : P x10 := by
    unfold x10
    refine State.configReset_writes (H.sub rfl) ?_
    refine State.ringReset_writes (H.sub rfl) ?_
    exact h0
  refine outP_next ?_
  refine H.set_hif rfl   ?_
  exact h10

theorem execPerstNRelease_writes {P : State → Prop} {a0 : State} (H : Stable P 16) (h0 : P a0) :
    OutP P (execPerstNRelease a0) := by
  unfold execPerstNRelease
  refine outP_next ?_
  refine H.set_hif rfl   ?_
  exact h0

theorem execSoftReset_writes {P : State → Prop} {a0 : State} (H : Stable P 18) (h0 : P a0) :
    OutP P (execSoftReset a0) := by
  unfold execSoftReset
  refine outP_next ?_
  refine State.ringReset_writes (H.sub rfl) ?_
  exact h0

theorem execSqEnable_writes {P : State → Prop} {a0 : Fin 32} {a1 : Word} {a2 : State} (H : Stable P 18) (h2 : P a2) :
    OutP P (execSqEnable a0 a1 a2) := by
  unfold execSqEnable
  extract_lets +onlyGivenNames x10
  refine outP_next ?_
  refine keep_ite ?_ ?_
  · exact h2
  · extract_lets +onlyGivenNames x11
    have h10 : P x11 := by
      unfold x11
      refine State.setF_writes (H.sub rfl) ?_
      exact h2
    extract_lets +onlyGivenNames x12
    have h11 : P x12 := by
      unfold x12
      refine State.setF_writes (H.sub rfl) ?_
      refine State.setF_writes (H.sub rfl) ?_
      exact h10
    extract_lets +onlyGivenNames x13
    have h12 : P x13 := by
      unfold x13
      refine State.setF_writes (H.sub rfl) ?_
      refine State.setF_writes (H.sub rfl) ?_
      exact h11
    refine State.setSq_writes (H.sub rfl) ?_
    exact h12

end Sys2Proof.Machine
end

