-- ==== Sys2Proof/Laws/WritesDrive.lean ====
section
/-! SUPPORT. Which components of the state each operation and command of Machine/Drive.lean may write. -/

namespace Sys2Proof.Machine

theorem State.setInitPark_writes {P : State → Prop} {a0 : State} {a1 : Nat} {a2 : Bool} (H : Stable P 1024) (h0 : P a0) :
    P (State.setInitPark a0 a1 a2) := by
  unfold State.setInitPark
  refine H.set_drive rfl   ?_
  exact h0

theorem State.showPark_writes {P : State → Prop} {a0 : State} {a1 : Nat} (H : Stable P 2) (h0 : P a0) :
    P (State.showPark a0 a1) := by
  unfold State.showPark
  extract_lets +onlyGivenNames x10
  have h10 : P x10 := by
    unfold x10
    refine State.setF_writes (H.sub rfl) ?_
    exact h0
  refine State.setF_writes (H.sub rfl) ?_
  exact h10

theorem State.applyCode_writes {P : State → Prop} {a0 : State} {a1 : Nat} {a2 : Nat} {a3 : Nat} (H : Stable P 1026) (h0 : P a0) :
    P (State.applyCode a0 a1 a2 a3) := by
  unfold State.applyCode
  extract_lets +onlyGivenNames x10
  have h10 : P x10 := by
    unfold x10
    refine State.setF_writes (H.sub rfl) ?_
    exact h0
  extract_lets +onlyGivenNames x11
  have h11 : P x11 := by
    unfold x11
    refine State.setF_writes (H.sub rfl) ?_
    exact h10
  refine State.showPark_writes (H.sub rfl) ?_
  refine State.setInitPark_writes (H.sub rfl) ?_
  exact h11

theorem State.discard_writes {P : State → Prop} {a0 : State} {a1 : Nat} (H : Stable P 2) (h0 : P a0) :
    P (State.discard a0 a1) := by
  unfold State.discard
  refine State.count_writes (H.sub rfl) ?_
  exact h0

theorem State.hkResult_writes {P : State → Prop} {a0 : State} {a1 : Nat} {a2 : Nat} {a3 : Nat} {a4 : Nat} (H : Stable P 2) (h0 : P a0) :
    P (State.hkResult a0 a1 a2 a3 a4) := by
  unfold State.hkResult
  extract_lets +onlyGivenNames x10
  extract_lets +onlyGivenNames x11
  have h10 : P x11 := by
    unfold x11
    refine State.setF_writes (H.sub rfl) ?_
    exact h0
  extract_lets +onlyGivenNames x12
  have h11 : P x12 := by
    unfold x12
    refine State.setF_writes (H.sub rfl) ?_
    exact h10
  extract_lets +onlyGivenNames x13
  have h12 : P x13 := by
    unfold x13
    refine State.setF_writes (H.sub rfl) ?_
    exact h11
  extract_lets +onlyGivenNames x14
  have h13 : P x14 := by
    unfold x14
    refine State.countWrap_writes (H.sub rfl) ?_
    exact h12
  refine State.setF_writes (H.sub rfl) ?_
  exact h13

theorem State.setHk_writes {P : State → Prop} {a0 : State} {a1 : Nat} {a2 : HkSlice} (H : Stable P 1024) (h0 : P a0) :
    P (State.setHk a0 a1 a2) := by
  unfold State.setHk
  refine H.set_drive rfl   ?_
  exact h0

theorem State.setInjWait_writes {P : State → Prop} {a0 : State} {a1 : Nat} {a2 : Bool} (H : Stable P 1024) (h0 : P a0) :
    P (State.setInjWait a0 a1 a2) := by
  unfold State.setInjWait
  refine H.set_drive rfl   ?_
  exact h0

theorem State.startHkInj_writes {P : State → Prop} {a0 : State} {a1 : Nat} (H : Stable P 1024) (h0 : P a0) :
    P (State.startHkInj a0 a1) := by
  unfold State.startHkInj
  extract_lets +onlyGivenNames x10
  refine keep_ite ?_ ?_
  · exact h0
  · split
    · refine State.setInjWait_writes (H.sub rfl) ?_
      refine State.setHk_writes (H.sub rfl) ?_
      exact h0
    · exact h0

theorem State.hkDone_writes {P : State → Prop} {a0 : State} {a1 : Fin 8} {a2 : BitVec 12} (H : Stable P 1026) (h0 : P a0) :
    P (State.hkDone a0 a1 a2) := by
  unfold State.hkDone
  extract_lets +onlyGivenNames x10
  split
  · refine keep_ite ?_ ?_
    · exact h0
    · extract_lets +onlyGivenNames x11
      have h10 : P x11 := by
        unfold x11
        refine State.hkResult_writes (H.sub rfl) ?_
        exact h0
      extract_lets +onlyGivenNames x12
      extract_lets +onlyGivenNames x13
      refine State.startHkInj_writes (H.sub rfl) ?_
      refine State.setHk_writes (H.sub rfl) ?_
      exact h10
  · exact h0

theorem State.hkTrigger_writes {P : State → Prop} {a0 : State} {a1 : Nat} {a2 : Nat} (H : Stable P 1026) (h0 : P a0) :
    P (State.hkTrigger a0 a1 a2) := by
  unfold State.hkTrigger
  extract_lets +onlyGivenNames x10
  refine keep_ite ?_ ?_
  · refine State.setHk_writes (H.sub rfl) ?_
    exact h0
  · refine keep_ite ?_ ?_
    · refine State.count_writes (H.sub rfl) ?_
      exact h0
    · refine State.setHk_writes (H.sub rfl) ?_
      exact h0

theorem State.setBank_writes {P : State → Prop} {a0 : State} {a1 : Nat} {a2 : Bank} (H : Stable P 1024) (h0 : P a0) :
    P (State.setBank a0 a1 a2) := by
  unfold State.setBank
  refine H.set_drive rfl   ?_
  exact h0

theorem State.startBankInj_writes {P : State → Prop} {a0 : State} {a1 : Nat} (H : Stable P 1026) (h0 : P a0) :
    P (State.startBankInj a0 a1) := by
  unfold State.startBankInj
  extract_lets +onlyGivenNames x10
  refine keep_ite ?_ ?_
  · exact h0
  · extract_lets +onlyGivenNames x11
    extract_lets +onlyGivenNames x12
    clear_value x12
    split
    · extract_lets +onlyGivenNames x13
      have h10 : P x13 := by
        unfold x13
        refine State.setInjWait_writes (H.sub rfl) ?_
        refine State.setBank_writes (H.sub rfl) ?_
        exact h0
      refine State.setF_writes (H.sub rfl) ?_
      exact h10
    · exact h0

theorem State.injActivate_writes {P : State → Prop} {a0 : State} {a1 : Nat} {a2 : List Nat} (H : Stable P 1026) (h0 : P a0) :
    P (State.injActivate a0 a1 a2) := by
  unfold State.injActivate
  refine keep_ite ?_ ?_
  · refine State.setF_writes (H.sub rfl) ?_
    exact h0
  · refine keep_ite ?_ ?_
    · refine State.count_writes (H.sub rfl) ?_
      exact h0
    · extract_lets +onlyGivenNames x10
      have h10 : P x10 := by
        unfold x10
        refine State.setInjWait_writes (H.sub rfl) ?_
        exact h0
      extract_lets +onlyGivenNames x11
      extract_lets +onlyGivenNames x12
      have h11 : P x12 := by
        unfold x12
        refine H.set_drive rfl   ?_
        exact h10
      split
      · refine State.startBankInj_writes (H.sub rfl) ?_
        exact h11
      · refine keep_ite ?_ ?_
        · refine State.startHkInj_writes (H.sub rfl) ?_
          exact h11
        · exact h11
      · exact h11

theorem State.injHeld_writes {P : State → Prop} {a0 : State} {a1 : Nat} {a2 : Nat} (H : Stable P 8194) (h0 : P a0) :
    P (State.injHeld a0 a1 a2) := by
  unfold State.injHeld
  extract_lets +onlyGivenNames x10
  have h10 : P x10 := by
    unfold x10
    refine State.setF_writes (H.sub rfl) ?_
    exact h0
  extract_lets +onlyGivenNames x11
  have h11 : P x11 := by
    unfold x11
    refine State.setF_writes (H.sub rfl) ?_
    exact h10
  refine State.fireP_writes (H.sub rfl) ?_
  exact h11

theorem State.injDone_writes {P : State → Prop} {a0 : State} {a1 : Fin 16} {a2 : BitVec 12} (H : Stable P 9218) (h0 : P a0) :
    P (State.injDone a0 a1 a2) := by
  unfold State.injDone
  split
  · extract_lets +onlyGivenNames x10
    refine keep_ite ?_ ?_
    · extract_lets +onlyGivenNames x11
      have h10 : P x11 := by
        unfold x11
        refine State.injHeld_writes (H.sub rfl) ?_
        refine State.setBank_writes (H.sub rfl) ?_
        exact h0
      extract_lets +onlyGivenNames x12
      have h11 : P x12 := by
        unfold x12
        refine State.setF_writes (H.sub rfl) ?_
        exact h10
      refine State.startBankInj_writes (H.sub rfl) ?_
      exact h11
    · exact h0
  · extract_lets +onlyGivenNames x13
    refine keep_ite ?_ ?_
    · extract_lets +onlyGivenNames x14
      have h12 : P x14 := by
        unfold x14
        refine State.injHeld_writes (H.sub rfl) ?_
        refine State.setHk_writes (H.sub rfl) ?_
        exact h0
      extract_lets +onlyGivenNames x15
      have h13 : P x15 := by
        unfold x15
        refine State.hkResult_writes (H.sub rfl) ?_
        exact h12
      refine keep_ite ?_ ?_
      · refine State.startHkInj_writes (H.sub rfl) ?_
        exact h13
      · exact h13
    · exact h0
  · exact h0

theorem State.park_writes {P : State → Prop} {a0 : State} {a1 : Nat} (H : Stable P 1026) (h0 : P a0) :
    P (State.park a0 a1) := by
  unfold State.park
  refine State.showPark_writes (H.sub rfl) ?_
  refine State.setInitPark_writes (H.sub rfl) ?_
  exact h0

theorem State.setHold_writes {P : State → Prop} {a0 : State} {a1 : Nat} {a2 : Nat} (H : Stable P 1024) (h0 : P a0) :
    P (State.setHold a0 a1 a2) := by
  unfold State.setHold
  refine H.set_drive rfl   ?_
  exact h0

theorem State.parkHold_writes {P : State → Prop} {a0 : State} {a1 : Nat} {a2 : Nat} (H : Stable P 1026) (h0 : P a0) :
    P (State.parkHold a0 a1 a2) := by
  unfold State.parkHold
  refine State.showPark_writes (H.sub rfl) ?_
  refine State.setInitPark_writes (H.sub rfl) ?_
  refine State.setHold_writes (H.sub rfl) ?_
  exact h0

theorem State.raiseOutput_writes {P : State → Prop} {a0 : State} {a1 : Nat} (H : Stable P 8448) (h0 : P a0) :
    P (State.raiseOutput a0 a1) := by
  unfold State.raiseOutput
  refine keep_ite ?_ ?_
  · exact h0
  · refine State.raise_writes (H.sub rfl) ?_
    exact h0

theorem State.setLx_writes {P : State → Prop} {a0 : State} {a1 : Nat} {a2 : LoopX} (H : Stable P 2048) (h0 : P a0) :
    P (State.setLx a0 a1 a2) := by
  unfold State.setLx
  refine H.set_loop rfl   ?_
  exact h0

theorem State.setSeqSt_writes {P : State → Prop} {a0 : State} {a1 : Nat} {a2 : SeqSt} (H : Stable P 4096) (h0 : P a0) :
    P (State.setSeqSt a0 a1 a2) := by
  unfold State.setSeqSt
  refine H.set_seq rfl   ?_
  exact h0

theorem State.setSticky_writes {P : State → Prop} {a0 : State} {a1 : Nat} {a2 : Fld} {a3 : Fld} (H : Stable P 2) (h0 : P a0) :
    P (State.setSticky a0 a1 a2 a3) := by
  unfold State.setSticky
  refine keep_ite ?_ ?_
  · exact h0
  · refine State.countWrap_writes (H.sub rfl) ?_
    refine State.setF_writes (H.sub rfl) ?_
    exact h0

theorem State.swapFallsDue_writes {P : State → Prop} {a0 : State} {a1 : Nat} (H : Stable P 1026) (h0 : P a0) :
    P (State.swapFallsDue a0 a1) := by
  unfold State.swapFallsDue
  refine keep_ite ?_ ?_
  · exact h0
  · extract_lets +onlyGivenNames x10
    refine State.setF_writes (H.sub rfl) ?_
    refine State.setBank_writes (H.sub rfl) ?_
    exact h0

theorem State.swapByTime_writes {P : State → Prop} {a0 : State} {a1 : Nat} (H : Stable P 1026) (h0 : P a0) :
    P (State.swapByTime a0 a1) := by
  unfold State.swapByTime
  extract_lets +onlyGivenNames x10
  extract_lets +onlyGivenNames x11
  refine keep_ite ?_ ?_
  · refine State.swapFallsDue_writes (H.sub rfl) ?_
    exact h0
  · exact h0

theorem State.unhold_writes {P : State → Prop} {a0 : State} {a1 : Nat} {a2 : Nat} (H : Stable P 1026) (h0 : P a0) :
    P (State.unhold a0 a1 a2) := by
  unfold State.unhold
  refine State.showPark_writes (H.sub rfl) ?_
  refine State.setHold_writes (H.sub rfl) ?_
  exact h0

theorem State.writeCode_writes {P : State → Prop} {a0 : State} {a1 : Nat} {a2 : Nat} {a3 : Nat} (H : Stable P 1026) (h0 : P a0) :
    P (State.writeCode a0 a1 a2 a3) := by
  unfold State.writeCode
  refine keep_ite ?_ ?_
  · refine State.applyCode_writes (H.sub rfl) ?_
    exact h0
  · refine State.discard_writes (H.sub rfl) ?_
    exact h0

theorem execDrvLimitDetect_writes {P : State → Prop} {a0 : Fin 9216} {a1 : Bool} {a2 : State} (H : Stable P 8450) (h2 : P a2) :
    OutP P (execDrvLimitDetect a0 a1 a2) := by
  unfold execDrvLimitDetect
  extract_lets +onlyGivenNames x10
  have h10 : P x10 := by
    unfold x10
    refine State.setF_writes (H.sub rfl) ?_
    exact h2
  refine outP_next ?_
  refine keep_ite ?_ ?_
  · refine State.raiseOutput_writes (H.sub rfl) ?_
    refine State.setSticky_writes (H.sub rfl) ?_
    exact h10
  · exact h10

theorem execDrvOpenDetect_writes {P : State → Prop} {a0 : Fin 9216} {a1 : State} (H : Stable P 8450) (h1 : P a1) :
    OutP P (execDrvOpenDetect a0 a1) := by
  unfold execDrvOpenDetect
  refine outP_next ?_
  refine keep_ite ?_ ?_
  · refine State.raiseOutput_writes (H.sub rfl) ?_
    refine State.setSticky_writes (H.sub rfl) ?_
    exact h1
  · exact h1

theorem execHkConverterEdge_writes {P : State → Prop} {a0 : Fin 8} {a1 : State} (H : Stable P 1026) (h1 : P a1) :
    OutP P (execHkConverterEdge a0 a1) := by
  unfold execHkConverterEdge
  refine outP_next ?_
  refine keep_ite ?_ ?_
  · refine State.hkTrigger_writes (H.sub rfl) ?_
    exact h1
  · exact h1

theorem execHkTimerTrigger_writes {P : State → Prop} {a0 : Fin 8} {a1 : State} (H : Stable P 1026) (h1 : P a1) :
    OutP P (execHkTimerTrigger a0 a1) := by
  unfold execHkTimerTrigger
  refine outP_next ?_
  refine keep_ite ?_ ?_
  · refine State.hkTrigger_writes (H.sub rfl) ?_
    exact h1
  · exact h1

theorem execHostDirectDrive_writes {P : State → Prop} {a0 : Fin 9216} {a1 : BitVec 14} {a2 : State} (H : Stable P 1026) (h2 : P a2) :
    OutP P (execHostDirectDrive a0 a1 a2) := by
  unfold execHostDirectDrive
  refine outP_next ?_
  refine keep_ite ?_ ?_
  · refine keep_ite ?_ ?_
    · refine State.discard_writes (H.sub rfl) ?_
      exact h2
    · refine State.applyCode_writes (H.sub rfl) ?_
      exact h2
  · refine State.setF_writes (H.sub rfl) ?_
    exact h2

theorem execMonitorConversionDone_writes {P : State → Prop} {a0 : Fin 48} {a1 : Fin 24} {a2 : Fin 8} {a3 : BitVec 12} {a4 : State} (H : Stable P 2) (h4 : P a4) :
    OutP P (execMonitorConversionDone a0 a1 a2 a3 a4) := by
  unfold execMonitorConversionDone
  extract_lets +onlyGivenNames x10
  extract_lets +onlyGivenNames x11
  refine outP_next ?_
  refine keep_ite ?_ ?_
  · extract_lets +onlyGivenNames x12
    have h10 : P x12 := by
      unfold x12
      refine State.setF_writes (H.sub rfl) ?_
      exact h4
    extract_lets +onlyGivenNames x13
    have h11 : P x13 := by
      unfold x13
      refine State.setF_writes (H.sub rfl) ?_
      exact h10
    refine State.setF_writes (H.sub rfl) ?_
    exact h11
  · exact h4

theorem execRangeBreakEnd_writes {P : State → Prop} {a0 : Fin 9216} {a1 : State} (H : Stable P 1026) (h1 : P a1) :
    OutP P (execRangeBreakEnd a0 a1) := by
  unfold execRangeBreakEnd
  refine outP_next ?_
  split
  · refine keep_ite ?_ ?_
    · extract_lets +onlyGivenNames x10
      extract_lets +onlyGivenNames x11
      have h10 : P x11 := by
        unfold x11
        refine H.set_drive rfl   ?_
        exact h1
      extract_lets +onlyGivenNames x12
      have h11 : P x12 := by
        unfold x12
        refine State.setF_writes (H.sub rfl) ?_
        exact h10
      extract_lets +onlyGivenNames x13
      have h12 : P x13 := by
        unfold x13
        refine State.setF_writes (H.sub rfl) ?_
        exact h11
      refine State.setF_writes (H.sub rfl) ?_
      exact h12
    · exact h1
  · exact h1

theorem execRangeChange_writes {P : State → Prop} {a0 : Fin 9216} {a1 : BitVec 2} {a2 : State} (H : Stable P 1026) (h2 : P a2) :
    OutP P (execRangeChange a0 a1 a2) := by
  unfold execRangeChange
  extract_lets +onlyGivenNames x10
  refine outP_next ?_
  refine keep_ite ?_ ?_
  · exact h2
  · refine keep_ite ?_ ?_
    · refine State.park_writes (H.sub rfl) ?_
      refine H.set_drive rfl   ?_
      exact h2
    · refine State.setF_writes (H.sub rfl) ?_
      exact h2

theorem execSpareSwap_writes {P : State → Prop} {a0 : Fin 48} {a1 : State} (H : Stable P 1026) (h1 : P a1) :
    OutP P (execSpareSwap a0 a1) := by
  unfold execSpareSwap
  extract_lets +onlyGivenNames x10
  have h10 : P x10 := by
    unfold x10
    refine State.swapByTime_writes (H.sub rfl) ?_
    exact h1
  extract_lets +onlyGivenNames x11
  extract_lets +onlyGivenNames x12
  refine outP_next ?_
  refine keep_ite ?_ ?_
  · extract_lets +onlyGivenNames x13
    extract_lets +onlyGivenNames x14
    extract_lets +onlyGivenNames x15
    have h11 : P x15 := by
      unfold x15
      refine State.setBank_writes (H.sub rfl) ?_
      exact h10
    extract_lets +onlyGivenNames x16
    have h12 : P x16 := by
      unfold x16
      refine State.setF_writes (H.sub rfl) ?_
      exact h11
    extract_lets +onlyGivenNames x17
    have h13 : P x17 := by
      unfold x17
      refine State.setF_writes (H.sub rfl) ?_
      exact h12
    extract_lets +onlyGivenNames x18
    have h14 : P x18 := by
      unfold x18
      refine State.countWrap_writes (H.sub rfl) ?_
      exact h13
    extract_lets +onlyGivenNames x19
    have h15 : P x19 := by
      unfold x19
      refine State.setF_writes (H.sub rfl) ?_
      exact h14
    refine State.startBankInj_writes (H.sub rfl) ?_
    exact h15
  · exact h10

end Sys2Proof.Machine
end

