-- ==== Sys2Proof/Laws/WritesSeq.lean ====
section
/-! SUPPORT. Which components of the state each operation and command of Machine/Seq.lean may write. -/

namespace Sys2Proof.Machine

theorem State.beginHandover_writes {P : State → Prop} {a0 : State} {a1 : Nat} (H : Stable P 2048) (h0 : P a0) :
    P (State.beginHandover a0 a1) := by
  unfold State.beginHandover
  extract_lets +onlyGivenNames x10
  refine keep_ite ?_ ?_
  · refine State.setLx_writes (H.sub rfl) ?_
    exact h0
  · exact h0

theorem State.dropJump_writes {P : State → Prop} {a0 : State} {a1 : Nat} (H : Stable P 2) (h0 : P a0) :
    P (State.dropJump a0 a1) := by
  unfold State.dropJump
  refine keep_ite ?_ ?_
  · refine State.count_writes (H.sub rfl) ?_
    refine State.setF_writes (H.sub rfl) ?_
    exact h0
  · exact h0

theorem State.endSeq_writes {P : State → Prop} {a0 : State} {a1 : Nat} {a2 : Nat} {a3 : List Nat} (H : Stable P 14594) (h0 : P a0) :
    P (State.endSeq a0 a1 a2 a3) := by
  unfold State.endSeq
  extract_lets +onlyGivenNames x10
  extract_lets +onlyGivenNames x11
  have h10 : P x11 := by
    unfold x11
    refine State.setF_writes (H.sub rfl) ?_
    exact h0
  extract_lets +onlyGivenNames x12
  have h11 : P x12 := by
    unfold x12
    refine State.setF_writes (H.sub rfl) ?_
    exact h10
  extract_lets +onlyGivenNames x13
  have h12 : P x13 := by
    unfold x13
    refine State.dropJump_writes (H.sub rfl) ?_
    refine State.setF_writes (H.sub rfl) ?_
    exact h11
  extract_lets +onlyGivenNames x14
  have h13 : P x14 := by
    unfold x14
    refine State.setSeqSt_writes (H.sub rfl) ?_
    exact h12
  extract_lets +onlyGivenNames x15
  have h14 : P x15 := by
    unfold x15
    refine foldl_keep ?_ ?_
    · intro n10 n11 n12
      extract_lets +onlyGivenNames x16
      extract_lets +onlyGivenNames x17
      have h15 : P x17 := by
        unfold x17
        refine H.set_seq rfl   ?_
        exact n12
      refine keep_ite ?_ ?_
      · exact h15
      · refine State.beginHandover_writes (H.sub rfl) ?_
        exact h15
    · exact h13
  extract_lets +onlyGivenNames x18
  have h16 : P x18 := by
    unfold x18
    refine keep_ite ?_ ?_
    · refine State.raise_writes (H.sub rfl) ?_
      exact h14
    · exact h14
  refine State.fireP_writes (H.sub rfl) ?_
  exact h16

theorem State.enterSeg_writes {P : State → Prop} {a0 : State} {a1 : Nat} {a2 : Nat} {a3 : Bool} (H : Stable P 14594) (h0 : P a0) :
    P (State.enterSeg a0 a1 a2 a3) := by
  unfold State.enterSeg
  extract_lets +onlyGivenNames x10
  extract_lets +onlyGivenNames x11
  extract_lets +onlyGivenNames x12
  have h10 : P x12 := by
    unfold x12
    refine State.setF_writes (H.sub rfl) ?_
    refine State.setF_writes (H.sub rfl) ?_
    exact h0
  extract_lets +onlyGivenNames x13
  have h11 : P x13 := by
    unfold x13
    refine State.setF_writes (H.sub rfl) ?_
    refine State.setF_writes (H.sub rfl) ?_
    exact h10
  extract_lets +onlyGivenNames x14
  refine keep_ite ?_ ?_
  · refine State.endSeq_writes (H.sub rfl) ?_
    exact h11
  · refine State.setSeqSt_writes (H.sub rfl) ?_
    exact h11

theorem State.fetchOne_writes {P : State → Prop} {a0 : State} {a1 : Nat} (H : Stable P 4096) (h0 : P a0) :
    P (State.fetchOne a0 a1) := by
  unfold State.fetchOne
  extract_lets +onlyGivenNames x10
  refine keep_ite ?_ ?_
  · exact h0
  · split
    · extract_lets +onlyGivenNames x11
      refine State.setSeqSt_writes (H.sub rfl) ?_
      exact h0
    · exact h0

theorem State.jumpRequest_writes {P : State → Prop} {a0 : State} {a1 : Nat} (H : Stable P 2) (h0 : P a0) :
    P (State.jumpRequest a0 a1) := by
  unfold State.jumpRequest
  refine keep_ite ?_ ?_
  · refine State.count_writes (H.sub rfl) ?_
    exact h0
  · refine keep_ite ?_ ?_
    · refine State.count_writes (H.sub rfl) ?_
      exact h0
    · refine State.setF_writes (H.sub rfl) ?_
      exact h0

theorem State.sampleWord_writes {P : State → Prop} {a0 : State} {a1 : Nat} {a2 : Nat} {a3 : Nat} (H : Stable P 5122) (h0 : P a0) :
    P (State.sampleWord a0 a1 a2 a3) := by
  unfold State.sampleWord
  extract_lets +onlyGivenNames x10
  refine keep_ite ?_ ?_
  · exact h0
  · refine keep_ite ?_ ?_
    · extract_lets +onlyGivenNames x11
      extract_lets +onlyGivenNames x12
      have h10 : P x12 := by
        unfold x12
        refine H.set_seq rfl   ?_
        exact h0
      refine State.writeCode_writes (H.sub rfl) ?_
      exact h10
    · exact h0

theorem State.sampleWords_writes {P : State → Prop} {a0 : State} {a1 : Nat} {a2 a3 : List Nat} (H : Stable P 5122) (h0 : P a0) :
    P (State.sampleWords a0 a1 a2 a3) := by
  induction a2 generalizing a0 a3 with
  | nil => unfold State.sampleWords; exact h0
  | cons x xs ih => cases a3 with
    | nil => exact h0
    | cons w ws => exact ih (State.sampleWord_writes H h0)

theorem State.seqRequest_writes {P : State → Prop} {a0 : State} {a1 : Nat} {a2 : Nat} {a3 : List Nat} (H : Stable P 4098) (h0 : P a0) :
    P (State.seqRequest a0 a1 a2 a3) := by
  unfold State.seqRequest
  split
  · refine State.setF_writes (H.sub rfl) ?_
    exact h0
  · refine State.setF_writes (H.sub rfl) ?_
    refine State.setSeqSt_writes (H.sub rfl) ?_
    exact h0

theorem State.setLoopState_writes {P : State → Prop} {a0 : State} {a1 : Nat} {a2 : Nat} (H : Stable P 2) (h0 : P a0) :
    P (State.setLoopState a0 a1 a2) := by
  unfold State.setLoopState
  extract_lets +onlyGivenNames x10
  extract_lets +onlyGivenNames x11
  have h10 : (∀ (z0 : State) (z1 : Nat) (z2 : Bool), P z0 → P (x11 z0 z1 z2)) := by
    intro n10 n11 n12
    intro n13
    unfold x11
    extract_lets +onlyGivenNames x12
    clear_value x12
    split
    · refine State.setF_writes (H.sub rfl) ?_
      exact n13
    · exact n13
  clear_value x11
  extract_lets +onlyGivenNames x13
  refine keep_ite ?_ ?_
  · exact h0
  · refine State.setF_writes (H.sub rfl) ?_
    refine h10 _ _ _ ?_
    refine h10 _ _ _ ?_
    exact h0

theorem State.startSample_writes {P : State → Prop} {a0 : State} {a1 : Nat} (H : Stable P 5122) (h0 : P a0) :
    P (State.startSample a0 a1) := by
  unfold State.startSample
  extract_lets +onlyGivenNames x10
  extract_lets +onlyGivenNames x11
  extract_lets +onlyGivenNames x12
  extract_lets +onlyGivenNames x13
  extract_lets +onlyGivenNames x14
  refine keep_ite ?_ ?_
  · exact h0
  · split
    · extract_lets +onlyGivenNames x15
      have h10 : P x15 := by
        unfold x15
        refine State.sampleWords_writes (H.sub rfl) ?_
        exact h0
      refine State.setSeqSt_writes (H.sub rfl) ?_
      exact h10
    · refine keep_ite ?_ ?_
      · extract_lets +onlyGivenNames x16
        have h11 : P x16 := by
          unfold x16
          refine State.sampleWords_writes (H.sub rfl) ?_
          refine State.setF_writes (H.sub rfl) ?_
          exact h0
        refine State.setSeqSt_writes (H.sub rfl) ?_
        exact h11
      · refine keep_ite ?_ ?_
        · exact h0
        · extract_lets +onlyGivenNames x17
          have h12 : P x17 := by
            unfold x17
            refine State.count_writes (H.sub rfl) ?_
            refine State.setF_writes (H.sub rfl) ?_
            exact h0
          refine State.setSeqSt_writes (H.sub rfl) ?_
          exact h12
    · refine State.setSeqSt_writes (H.sub rfl) ?_
      exact h0

theorem State.takeElem_writes {P : State → Prop} {a0 : State} {a1 : Nat} {a2 : Nat} (H : Stable P 2050) (h0 : P a0) :
    P (State.takeElem a0 a1 a2) := by
  unfold State.takeElem
  extract_lets +onlyGivenNames x10
  extract_lets +onlyGivenNames x11
  extract_lets +onlyGivenNames x12
  have h10 : P x12 := by
    unfold x12
    refine State.setLx_writes (H.sub rfl) ?_
    exact h0
  refine State.setLoopState_writes (H.sub rfl) ?_
  exact h10

theorem execSeqCmdJump_writes {P : State → Prop} {a0 : Fin 16} {a1 : State} (H : Stable P 2) (h1 : P a1) :
    OutP P (execSeqCmdJump a0 a1) := by
  unfold execSeqCmdJump
  refine outP_next ?_
  refine State.jumpRequest_writes (H.sub rfl) ?_
  exact h1

theorem execSeqCmdStart_writes {P : State → Prop} {a0 : Fin 16} {a1 : BitVec 12} {a2 : State} (H : Stable P 4098) (h2 : P a2) :
    OutP P (execSeqCmdStart a0 a1 a2) := by
  unfold execSeqCmdStart
  refine outP_next ?_
  refine State.seqRequest_writes (H.sub rfl) ?_
  exact h2

theorem execSeqCmdStop_writes {P : State → Prop} {a0 : Fin 16} {a1 : State} (H : Stable P 14594) (h1 : P a1) :
    OutP P (execSeqCmdStop a0 a1) := by
  unfold execSeqCmdStop
  refine outP_next ?_
  split
  · refine State.endSeq_writes (H.sub rfl) ?_
    refine State.setSeqSt_writes (H.sub rfl) ?_
    exact h1
  · refine State.setSeqSt_writes (H.sub rfl) ?_
    exact h1
  · refine State.endSeq_writes (H.sub rfl) ?_
    exact h1
  · exact h1

theorem execSeqMemDataAccess_writes {P : State → Prop} {a0 : Fin 16} {a1 : Option (BitVec 16)} {a2 : State} (H : Stable P 4114) (h2 : P a2) :
    OutP P (execSeqMemDataAccess a0 a1 a2) := by
  unfold execSeqMemDataAccess
  extract_lets +onlyGivenNames x10
  extract_lets +onlyGivenNames x11
  extract_lets +onlyGivenNames x12
  extract_lets +onlyGivenNames x13
  have h10 : P x13 := by
    unfold x13
    split
    · rename_i v10 v11
      refine keep_ite ?_ ?_
      · refine H.set_seq rfl   ?_
        exact h2
      · refine State.setF_writes (H.sub rfl) ?_
        exact h2
    · rename_i v12
      refine H.set_hif rfl   ?_
      exact h2
  refine outP_next ?_
  refine State.setF_writes (H.sub rfl) ?_
  exact h10

theorem execSeqPassEnd_writes {P : State → Prop} {a0 : Fin 16} {a1 : State} (H : Stable P 14594) (h1 : P a1) :
    OutP P (execSeqPassEnd a0 a1) := by
  unfold execSeqPassEnd
  extract_lets +onlyGivenNames x10
  extract_lets +onlyGivenNames x11
  extract_lets +onlyGivenNames x12
  extract_lets +onlyGivenNames x13
  refine outP_next ?_
  refine keep_ite ?_ ?_
  · split
    · refine State.endSeq_writes (H.sub rfl) ?_
      exact h1
    · refine keep_ite ?_ ?_
      · refine State.enterSeg_writes (H.sub rfl) ?_
        refine State.setF_writes (H.sub rfl) ?_
        exact h1
      · refine keep_ite ?_ ?_
        · refine State.setSeqSt_writes (H.sub rfl) ?_
          refine State.countWrap_writes (H.sub rfl) ?_
          exact h1
        · split
          · refine State.enterSeg_writes (H.sub rfl) ?_
            exact h1
          · refine State.endSeq_writes (H.sub rfl) ?_
            exact h1
          · refine State.enterSeg_writes (H.sub rfl) ?_
            exact h1
  · exact h1

theorem execSeqStartTick_writes {P : State → Prop} {a0 : Fin 16} {a1 : State} (H : Stable P 14594) (h1 : P a1) :
    OutP P (execSeqStartTick a0 a1) := by
  unfold execSeqStartTick
  refine outP_next ?_
  split
  · extract_lets +onlyGivenNames x10
    extract_lets +onlyGivenNames x11
    have h10 : P x11 := by
      unfold x11
      refine foldl_keep ?_ ?_
      · intro n10 n11 n12
        refine State.takeElem_writes (H.sub rfl) ?_
        exact n12
      · exact h1
    extract_lets +onlyGivenNames x12
    extract_lets +onlyGivenNames x13
    have h11 : P x13 := by
      unfold x13
      refine State.setSeqSt_writes (H.sub rfl) ?_
      exact h10
    refine State.enterSeg_writes (H.sub rfl) ?_
    refine State.setF_writes (H.sub rfl) ?_
    exact h11
  · exact h1

theorem execSeqStarveAbort_writes {P : State → Prop} {a0 : Fin 16} {a1 : State} (H : Stable P 14594) (h1 : P a1) :
    OutP P (execSeqStarveAbort a0 a1) := by
  unfold execSeqStarveAbort
  extract_lets +onlyGivenNames x10
  refine outP_next ?_
  refine keep_ite ?_ ?_
  · refine State.raise_writes (H.sub rfl) ?_
    refine State.endSeq_writes (H.sub rfl) ?_
    exact h1
  · exact h1

theorem execSeqStreamDataArrival_writes {P : State → Prop} {a0 : Fin 16} {a1 : Nat} {a2 : Bool} {a3 : Fin 1000} {a4 : State} (H : Stable P 13571) (h4 : P a4) :
    OutP P (execSeqStreamDataArrival a0 a1 a2 a3 a4) := by
  unfold execSeqStreamDataArrival
  extract_lets +onlyGivenNames x10
  have h10 : P x10 := by
    unfold x10
    refine State.at__writes (H.sub rfl) ?_
    exact h4
  refine outP_next ?_
  refine keep_ite ?_ ?_
  · exact h10
  · extract_lets +onlyGivenNames x11
    have h11 : P x11 := by
      unfold x11
      refine forUp_keep ?_ ?_
      · intro n10 n11 n12
        refine State.fetchOne_writes (H.sub rfl) ?_
        exact n12
      · exact h10
    extract_lets +onlyGivenNames x12
    extract_lets +onlyGivenNames x13
    have h12 : P x13 := by
      unfold x13
      refine keep_ite ?_ ?_
      · refine State.raise_writes (H.sub rfl) ?_
        refine State.setSeqSt_writes (H.sub rfl) ?_
        exact h11
      · exact h11
    extract_lets +onlyGivenNames x14
    refine keep_ite ?_ ?_
    · refine State.startSample_writes (H.sub rfl) ?_
      refine State.count_writes (H.sub rfl) ?_
      exact h12
    · exact h12

theorem execSeqSyncLost_writes {P : State → Prop} {a0 : Fin 17} {a1 : State} (H : Stable P 8448) (h1 : P a1) :
    OutP P (execSeqSyncLost a0 a1) := by
  unfold execSeqSyncLost
  refine outP_next ?_
  refine State.raise_writes (H.sub rfl) ?_
  exact h1

theorem execSequenceSample_writes {P : State → Prop} {a0 : Fin 16} {a1 : Fin 1000} {a2 : State} (H : Stable P 15619) (h2 : P a2) :
    OutP P (execSequenceSample a0 a1 a2) := by
  unfold execSequenceSample
  extract_lets +onlyGivenNames x10
  have h10 : P x10 := by
    unfold x10
    refine State.at__writes (H.sub rfl) ?_
    exact h2
  refine outP_next ?_
  refine keep_ite ?_ ?_
  · split
    · refine State.endSeq_writes (H.sub rfl) ?_
      exact h10
    · refine State.startSample_writes (H.sub rfl) ?_
      exact h10
  · exact h10

theorem execToneUpdate_writes {P : State → Prop} {a0 : State} (H : Stable P 4097) (h0 : P a0) :
    OutP P (execToneUpdate a0) := by
  unfold execToneUpdate
  extract_lets +onlyGivenNames x10
  have h10 : P x10 := by
    unfold x10
    refine State.at__writes (H.sub rfl) ?_
    exact h0
  extract_lets +onlyGivenNames x11
  extract_lets +onlyGivenNames x12
  refine outP_next ?_
  refine H.set_seq rfl   ?_
  exact h10

end Sys2Proof.Machine
end

