-- ==== Sys2Proof/Laws/WritesFabric.lean ====
section
/-! SUPPORT. Which components of the state each operation and command of Machine/Fabric.lean may write. -/

namespace Sys2Proof.Machine

theorem State.checkFailed_writes {P : State → Prop} {a0 : State} {a1 : Nat} {a2 : Nat} (H : Stable P 2) (h0 : P a0) :
    P (State.checkFailed a0 a1 a2) := by
  unfold State.checkFailed
  extract_lets +onlyGivenNames x10
  have h10 : P x10 := by
    unfold x10
    refine State.count_writes (H.sub rfl) ?_
    exact h0
  refine State.setF_writes (H.sub rfl) ?_
  refine State.setF_writes (H.sub rfl) ?_
  exact h10

theorem State.setLoopWords_writes {P : State → Prop} {a0 : State} {a1 : Nat → Nat → Nat} {a2 : Nat} {a3 : Nat × Nat} (H : Stable P 2) (h0 : P a0) :
    P (State.setLoopWords a0 a1 a2 a3) := by
  unfold State.setLoopWords
  extract_lets +onlyGivenNames x10
  have h10 : (∀ (z0 : State) (z1 : Nat) (z2 : Nat), P z0 → P (x10 z0 z1 z2)) := by
    intro n10 n11 n12
    intro n13
    unfold x10
    refine keep_ite ?_ ?_
    · exact n13
    · refine State.wr_writes (H.sub rfl) ?_
      exact n13
  clear_value x10
  refine h10 _ _ _ ?_
  refine h10 _ _ _ ?_
  exact h0

theorem State.deriveLoopWords_writes {P : State → Prop} {a0 : State} {a1 : Nat → Nat → Nat} {a2 : Nat} {a3 : List Word} {a4 : List Solver.Conn} (H : Stable P 2) (h0 : P a0) :
    P (State.deriveLoopWords a0 a1 a2 a3 a4) := by
  unfold State.deriveLoopWords
  extract_lets +onlyGivenNames x10
  have h10 : P x10 := by
    unfold x10
    refine forUp_keep ?_ ?_
    · intro n10 n11 n12
      refine State.setLoopWords_writes (H.sub rfl) ?_
      exact n12
    · exact h0
  refine foldl_keep ?_ ?_
  · intro n13 n14 n15
    refine State.setLoopWords_writes (H.sub rfl) ?_
    refine State.setLoopWords_writes (H.sub rfl) ?_
    exact n15
  · exact h10

theorem State.holdImage_writes {P : State → Prop} {a0 : State} {a1 : Nat} {a2 : List Nat} {a3 : Nat} {a4 : List Word} (H : Stable P 34) (h0 : P a0) :
    P (State.holdImage a0 a1 a2 a3 a4) := by
  unfold State.holdImage
  extract_lets +onlyGivenNames x10
  extract_lets +onlyGivenNames x11
  extract_lets +onlyGivenNames x12
  extract_lets +onlyGivenNames x13
  extract_lets +onlyGivenNames x14
  have h10 : P x14 := by
    unfold x14
    refine H.set_fab rfl   ?_
    exact h0
  extract_lets +onlyGivenNames x15
  have h11 : P x15 := by
    unfold x15
    refine State.deriveLoopWords_writes (H.sub rfl) ?_
    exact h10
  extract_lets +onlyGivenNames x16
  have h12 : P x16 := by
    unfold x16
    refine State.setF_writes (H.sub rfl) ?_
    exact h11
  extract_lets +onlyGivenNames x17
  have h13 : P x17 := by
    unfold x17
    refine State.wr_writes (H.sub rfl) ?_
    exact h12
  refine State.setF_writes (H.sub rfl) ?_
  refine State.setF_writes (H.sub rfl) ?_
  refine State.setF_writes (H.sub rfl) ?_
  exact h13

theorem State.showSolver_writes {P : State → Prop} {a0 : State} (H : Stable P 2) (h0 : P a0) :
    P (State.showSolver a0) := by
  unfold State.showSolver
  extract_lets +onlyGivenNames x10
  refine State.setF_writes (H.sub rfl) ?_
  refine State.setF_writes (H.sub rfl) ?_
  exact h0

theorem State.solveBegin_writes {P : State → Prop} {a0 : State} {a1 : SolveReq} (H : Stable P 34) (h0 : P a0) :
    P (State.solveBegin a0 a1) := by
  unfold State.solveBegin
  extract_lets +onlyGivenNames x10
  extract_lets +onlyGivenNames x11
  have h10 : P x11 := by
    unfold x11
    refine H.set_fab rfl   ?_
    exact h0
  refine State.showSolver_writes (H.sub rfl) ?_
  refine State.setF_writes (H.sub rfl) ?_
  exact h10

theorem State.solveNext_writes {P : State → Prop} {a0 : State} (H : Stable P 34) (h0 : P a0) :
    P (State.solveNext a0) := by
  unfold State.solveNext
  refine keep_ite ?_ ?_
  · refine State.showSolver_writes (H.sub rfl) ?_
    exact h0
  · split
    · refine keep_ite ?_ ?_
      · refine State.showSolver_writes (H.sub rfl) ?_
        exact h0
      · refine State.solveBegin_writes (H.sub rfl) ?_
        refine H.set_fab rfl   ?_
        exact h0
    · refine State.showSolver_writes (H.sub rfl) ?_
      exact h0

theorem State.solveArrive_writes {P : State → Prop} {a0 : State} {a1 : SolveReq} (H : Stable P 50) (h0 : P a0) :
    P (State.solveArrive a0 a1) := by
  unfold State.solveArrive
  refine keep_ite ?_ ?_
  · refine State.finish_writes (H.sub rfl) ?_
    exact h0
  · refine State.solveNext_writes (H.sub rfl) ?_
    refine H.set_fab rfl   ?_
    exact h0

theorem State.solveEnd_writes {P : State → Prop} {a0 : State} {a1 : SolveReq} {a2 : Nat} {a3 : Nat} {a4 : Bool} (H : Stable P 50) (h0 : P a0) :
    P (State.solveEnd a0 a1 a2 a3 a4) := by
  unfold State.solveEnd
  extract_lets +onlyGivenNames x10
  extract_lets +onlyGivenNames x11
  have h10 : P x11 := by
    unfold x11
    refine H.set_fab rfl   ?_
    exact h0
  extract_lets +onlyGivenNames x12
  have h11 : P x12 := by
    unfold x12
    refine State.setF_writes (H.sub rfl) ?_
    exact h10
  extract_lets +onlyGivenNames x13
  have h12 : P x13 := by
    unfold x13
    refine State.setF_writes (H.sub rfl) ?_
    exact h11
  extract_lets +onlyGivenNames x14
  have h13 : P x14 := by
    unfold x14
    refine keep_ite ?_ ?_
    · refine State.finish_writes (H.sub rfl) ?_
      exact h12
    · exact h12
  refine State.solveNext_writes (H.sub rfl) ?_
  exact h13

theorem State.solveCut_writes {P : State → Prop} {a0 : State} {a1 : Nat} (H : Stable P 50) (h0 : P a0) :
    P (State.solveCut a0 a1) := by
  unfold State.solveCut
  split
  · refine State.solveEnd_writes (H.sub rfl) ?_
    exact h0
  · exact h0

theorem State.trigger_writes {P : State → Prop} {a0 : State} {a1 : Trig} (H : Stable P 64) (h0 : P a0) :
    P (State.trigger a0 a1) := by
  unfold State.trigger
  refine H.set_rack rfl   ?_
  exact h0

theorem State.writePorts_writes {P : State → Prop} {a0 : State} {a1 : Nat → Nat} {a2 : BitVec 256} (H : Stable P 2) (h0 : P a0) :
    P (State.writePorts a0 a1 a2) := by
  unfold State.writePorts
  refine forUp_keep ?_ ?_
  · intro n10 n11 n12
    refine State.wr_writes (H.sub rfl) ?_
    exact n12
  · exact h0

theorem State.solveHeld_writes {P : State → Prop} {a0 : State} {a1 : SolveReq} {a2 : Nat} {a3 : List Nat} {a4 : Nat} {a5 : List Word} (H : Stable P 114) (h0 : P a0) :
    P (State.solveHeld a0 a1 a2 a3 a4 a5) := by
  unfold State.solveHeld
  extract_lets +onlyGivenNames x10
  have h10 : P x10 := by
    unfold x10
    refine State.holdImage_writes (H.sub rfl) ?_
    exact h0
  extract_lets +onlyGivenNames x11
  have h11 : P x11 := by
    unfold x11
    refine keep_ite ?_ ?_
    · exact h10
    · refine State.writePorts_writes (H.sub rfl) ?_
      exact h10
  refine keep_ite ?_ ?_
  · refine State.trigger_writes (H.sub rfl) ?_
    refine State.solveEnd_writes (H.sub rfl) ?_
    exact h11
  · refine State.solveEnd_writes (H.sub rfl) ?_
    exact h11

theorem State.solveRequest_writes {P : State → Prop} {a0 : State} {a1 : SolveReq} (H : Stable P 114) (h0 : P a0) :
    P (State.solveRequest a0 a1) := by
  unfold State.solveRequest
  refine keep_ite ?_ ?_
  · refine State.finish_writes (H.sub rfl) ?_
    exact h0
  · refine keep_ite ?_ ?_
    · refine H.set_rack rfl   ?_
      exact h0
    · refine State.solveArrive_writes (H.sub rfl) ?_
      exact h0

theorem execCheckOnly_writes {P : State → Prop} {a0 : Fin 32} {a1 : Desc} {a2 : State} (H : Stable P 114) (h2 : P a2) :
    OutP P (execCheckOnly a0 a1 a2) := by
  unfold execCheckOnly
  refine outP_next ?_
  refine State.launch_writes (H.sub rfl) ?_ ?_
  · exact h2
  · intro n10 n11 n12
    refine State.solveRequest_writes (H.sub rfl) ?_
    exact n12

theorem execFailedCellClear_writes {P : State → Prop} {a0 : BitVec 13} {a1 : State} (H : Stable P 34) (h1 : P a1) :
    OutP P (execFailedCellClear a0 a1) := by
  unfold execFailedCellClear
  refine outP_next ?_
  refine keep_ite ?_ ?_
  · refine keep_ite ?_ ?_
    · refine State.setF_writes (H.sub rfl) ?_
      exact h1
    · refine H.set_fab rfl   ?_
      exact h1
  · exact h1

theorem execFailedCellMark_writes {P : State → Prop} {a0 : BitVec 13} {a1 : State} (H : Stable P 32) (h1 : P a1) :
    OutP P (execFailedCellMark a0 a1) := by
  unfold execFailedCellMark
  refine outP_next ?_
  refine keep_ite ?_ ?_
  · refine H.set_fab rfl   ?_
    exact h1
  · exact h1

theorem execSolve_writes {P : State → Prop} {a0 : Fin 32} {a1 : Desc} {a2 : State} (H : Stable P 114) (h2 : P a2) :
    OutP P (execSolve a0 a1 a2) := by
  unfold execSolve
  refine outP_next ?_
  refine State.launch_writes (H.sub rfl) ?_ ?_
  · exact h2
  · intro n10 n11 n12
    refine State.solveRequest_writes (H.sub rfl) ?_
    exact n12

theorem execSolveAbort_writes {P : State → Prop} {a0 : State} (H : Stable P 50) (h0 : P a0) :
    OutP P (execSolveAbort a0) := by
  unfold execSolveAbort
  refine outP_next ?_
  refine State.solveCut_writes (H.sub rfl) ?_
  exact h0

theorem execSolveRackAfterAccept_writes {P : State → Prop} {a0 : State} (H : Stable P 35) (h0 : P a0) :
    OutP P (execSolveRackAfterAccept a0) := by
  unfold execSolveRackAfterAccept
  extract_lets +onlyGivenNames x10
  have h10 : P x10 := by
    unfold x10
    refine State.at__writes (H.sub rfl) ?_
    exact h0
  refine outP_next ?_
  refine keep_ite ?_ ?_
  · exact h10
  · split
    · refine keep_ite ?_ ?_
      · refine State.solveBegin_writes (H.sub rfl) ?_
        refine H.set_fab rfl   ?_
        exact h10
      · exact h10
    · exact h10

theorem execSolveResultHeld_writes {P : State → Prop} {a0 : Option (Fin 256 × Fin 5)} {a1 : State} (H : Stable P 8562) (h1 : P a1) :
    OutP P (execSolveResultHeld a0 a1) := by
  unfold execSolveResultHeld
  refine outP_next ?_
  split
  · exact h1
  · refine keep_ite ?_ ?_
    · exact h1
    · extract_lets +onlyGivenNames x10
      extract_lets +onlyGivenNames x11
      split
      · refine State.solveEnd_writes (H.sub rfl) ?_
        exact h1
      · refine State.solveEnd_writes (H.sub rfl) ?_
        exact h1
      · extract_lets +onlyGivenNames x12
        refine keep_ite ?_ ?_
        · extract_lets +onlyGivenNames x13
          split
          · refine State.solveEnd_writes (H.sub rfl) ?_
            refine State.checkFailed_writes (H.sub rfl) ?_
            exact h1
          · refine State.solveHeld_writes (H.sub rfl) ?_
            exact h1
        · split
          · refine State.solveEnd_writes (H.sub rfl) ?_
            exact h1
          · split
            · refine State.solveEnd_writes (H.sub rfl) ?_
              refine State.raiseD_writes (H.sub rfl) ?_
              refine State.checkFailed_writes (H.sub rfl) ?_
              exact h1
            · refine State.solveEnd_writes (H.sub rfl) ?_
              refine State.raiseD_writes (H.sub rfl) ?_
              refine State.checkFailed_writes (H.sub rfl) ?_
              exact h1
            · refine State.solveHeld_writes (H.sub rfl) ?_
              exact h1

end Sys2Proof.Machine
end

