-- ==== Sys2Proof/Laws/WritesTime.lean ====
section
/-! SUPPORT. Which components of the state each operation and command of Machine/Time.lean may write. -/

namespace Sys2Proof.Machine

theorem State.setPps_writes {P : State → Prop} {a0 : State} {a1 : Nat} {a2 : PpsX} (H : Stable P 32768) (h0 : P a0) :
    P (State.setPps a0 a1 a2) := by
  unfold State.setPps
  refine H.set_tim rfl   ?_
  exact h0

theorem State.setTarget_writes {P : State → Prop} {a0 : State} {a1 : Nat} {a2 : Nat} {a3 : Nat} (H : Stable P 32768) (h0 : P a0) :
    P (State.setTarget a0 a1 a2 a3) := by
  unfold State.setTarget
  refine H.set_tim rfl   ?_
  exact h0

theorem State.cmpFire_writes {P : State → Prop} {a0 : State} {a1 : Nat} {a2 : Nat} {a3 : Bool} (H : Stable P 40962) (h0 : P a0) :
    P (State.cmpFire a0 a1 a2 a3) := by
  unfold State.cmpFire
  extract_lets +onlyGivenNames x10
  extract_lets +onlyGivenNames x11
  extract_lets +onlyGivenNames x12
  have h10 : P x12 := by
    unfold x12
    refine State.setF_writes (H.sub rfl) ?_
    exact h0
  extract_lets +onlyGivenNames x13
  have h11 : P x13 := by
    unfold x13
    refine keep_ite ?_ ?_
    · refine State.setF_writes (H.sub rfl) ?_
      exact h10
    · exact h10
  extract_lets +onlyGivenNames x14
  have h12 : P x14 := by
    unfold x14
    refine State.fire_writes (H.sub rfl) ?_
    exact h11
  extract_lets +onlyGivenNames x15
  extract_lets +onlyGivenNames x16
  have h13 : P x16 := by
    unfold x16
    refine keep_ite ?_ ?_
    · refine State.setPps_writes (H.sub rfl) ?_
      exact h12
    · exact h12
  extract_lets +onlyGivenNames x17
  refine keep_ite ?_ ?_
  · refine State.setF_writes (H.sub rfl) ?_
    exact h13
  · extract_lets +onlyGivenNames x18
    extract_lets +onlyGivenNames x19
    extract_lets +onlyGivenNames x20
    have h14 : P x20 := by
      unfold x20
      refine State.count_writes (H.sub rfl) ?_
      refine State.setTarget_writes (H.sub rfl) ?_
      exact h13
    refine State.wr_writes (H.sub rfl) ?_
    refine State.wr_writes (H.sub rfl) ?_
    exact h14

theorem State.setTb_writes {P : State → Prop} {a0 : State} {a1 : Nat} {a2 : TimeBase} (H : Stable P 32768) (h0 : P a0) :
    P (State.setTb a0 a1 a2) := by
  unfold State.setTb
  refine H.set_tim rfl   ?_
  exact h0

theorem State.retune_writes {P : State → Prop} {a0 : State} {a1 : Nat} (H : Stable P 32768) (h0 : P a0) :
    P (State.retune a0 a1) := by
  unfold State.retune
  extract_lets +onlyGivenNames x10
  extract_lets +onlyGivenNames x11
  extract_lets +onlyGivenNames x12
  refine State.setTb_writes (H.sub rfl) ?_
  exact h0

theorem State.setRate_writes {P : State → Prop} {a0 : State} {a1 : Nat} {a2 : Word} (H : Stable P 32770) (h0 : P a0) :
    P (State.setRate a0 a1 a2) := by
  unfold State.setRate
  refine State.retune_writes (H.sub rfl) ?_
  refine State.wr_writes (H.sub rfl) ?_
  exact h0

theorem State.setServoX_writes {P : State → Prop} {a0 : State} {a1 : Nat} {a2 : ServoX} (H : Stable P 32768) (h0 : P a0) :
    P (State.setServoX a0 a1 a2) := by
  unfold State.setServoX
  refine H.set_tim rfl   ?_
  exact h0

theorem State.tbMove_writes {P : State → Prop} {a0 : State} {a1 : Nat} {a2 : Int} (H : Stable P 32770) (h0 : P a0) :
    P (State.tbMove a0 a1 a2) := by
  unfold State.tbMove
  extract_lets +onlyGivenNames x10
  extract_lets +onlyGivenNames x11
  extract_lets +onlyGivenNames x12
  extract_lets +onlyGivenNames x13
  have h10 : P x13 := by
    unfold x13
    refine State.setTb_writes (H.sub rfl) ?_
    exact h0
  refine State.count_writes (H.sub rfl) ?_
  exact h10

theorem State.servoApply_writes {P : State → Prop} {a0 : State} {a1 : Nat} {a2 : Int} (H : Stable P 41218) (h0 : P a0) :
    P (State.servoApply a0 a1 a2) := by
  unfold State.servoApply
  extract_lets +onlyGivenNames x10
  extract_lets +onlyGivenNames x11
  extract_lets +onlyGivenNames x12
  extract_lets +onlyGivenNames x13
  extract_lets +onlyGivenNames x14
  have h10 : P x14 := by
    unfold x14
    refine State.setF_writes (H.sub rfl) ?_
    refine State.wr_writes (H.sub rfl) ?_
    exact h0
  extract_lets +onlyGivenNames x15
  refine keep_ite ?_ ?_
  · refine State.raise_writes (H.sub rfl) ?_
    refine State.tbMove_writes (H.sub rfl) ?_
    refine State.setServoX_writes (H.sub rfl) ?_
    exact h10
  · extract_lets +onlyGivenNames x16
    extract_lets +onlyGivenNames x17
    extract_lets +onlyGivenNames x18
    extract_lets +onlyGivenNames x19
    extract_lets +onlyGivenNames x20
    extract_lets +onlyGivenNames x21
    extract_lets +onlyGivenNames x22
    have h11 : P x22 := by
      unfold x22
      refine State.setServoX_writes (H.sub rfl) ?_
      exact h10
    extract_lets +onlyGivenNames x23
    have h12 : P x23 := by
      unfold x23
      refine State.wr_writes (H.sub rfl) ?_
      exact h11
    refine State.setRate_writes (H.sub rfl) ?_
    exact h12

theorem State.servoSample_writes {P : State → Prop} {a0 : State} {a1 : Nat} {a2 : Bool} {a3 : Int} (H : Stable P 41218) (h0 : P a0) :
    P (State.servoSample a0 a1 a2 a3) := by
  unfold State.servoSample
  refine keep_ite ?_ ?_
  · refine State.servoApply_writes (H.sub rfl) ?_
    exact h0
  · refine State.count_writes (H.sub rfl) ?_
    exact h0

theorem State.setOsc_writes {P : State → Prop} {a0 : State} {a1 : Int} (H : Stable P 32770) (h0 : P a0) :
    P (State.setOsc a0 a1) := by
  unfold State.setOsc
  extract_lets +onlyGivenNames x10
  have h10 : P x10 := by
    unfold x10
    refine State.setF_writes (H.sub rfl) ?_
    exact h0
  refine forUp_keep ?_ ?_
  · intro n10 n11 n12
    refine State.retune_writes (H.sub rfl) ?_
    exact n12
  · exact h10

theorem State.setTsq_writes {P : State → Prop} {a0 : State} {a1 : Nat} {a2 : List (List Word)} (H : Stable P 32770) (h0 : P a0) :
    P (State.setTsq a0 a1 a2) := by
  unfold State.setTsq
  extract_lets +onlyGivenNames x10
  extract_lets +onlyGivenNames x11
  have h10 : P x11 := by
    unfold x11
    refine H.set_tim rfl   ?_
    exact h0
  refine State.setF_writes (H.sub rfl) ?_
  exact h10

theorem State.snap_writes {P : State → Prop} {a0 : State} {a1 : Owner} {a2 : Nat} (H : Stable P 32770) (h0 : P a0) :
    P (State.snap a0 a1 a2) := by
  unfold State.snap
  extract_lets +onlyGivenNames x10
  refine keep_ite ?_ ?_
  · refine H.set_tim rfl   ?_
    exact h0
  · refine forUp_keep ?_ ?_
    · intro n10 n11 n12
      refine State.wr_writes (H.sub rfl) ?_
      exact n12
    · exact h0

theorem State.tsqPut_writes {P : State → Prop} {a0 : State} {a1 : Nat} {a2 : List Word} (H : Stable P 32770) (h0 : P a0) :
    P (State.tsqPut a0 a1 a2) := by
  unfold State.tsqPut
  extract_lets +onlyGivenNames x10
  refine keep_ite ?_ ?_
  · refine State.count_writes (H.sub rfl) ?_
    exact h0
  · refine State.setTsq_writes (H.sub rfl) ?_
    exact h0

theorem execCompareFire_writes {P : State → Prop} {a0 : Fin 4} {a1 : Fin 32} {a2 : Fin 1000} {a3 : State} (H : Stable P 40963) (h3 : P a3) :
    OutP P (execCompareFire a0 a1 a2 a3) := by
  unfold execCompareFire
  extract_lets +onlyGivenNames x10
  have h10 : P x10 := by
    unfold x10
    refine State.at__writes (H.sub rfl) ?_
    exact h3
  refine outP_next ?_
  refine keep_ite ?_ ?_
  · refine State.cmpFire_writes (H.sub rfl) ?_
    exact h10
  · exact h10

theorem execCompareTargetHiWrite_writes {P : State → Prop} {a0 : Fin 4} {a1 : Fin 32} {a2 : Word} {a3 : State} (H : Stable P 40962) (h3 : P a3) :
    OutP P (execCompareTargetHiWrite a0 a1 a2 a3) := by
  unfold execCompareTargetHiWrite
  extract_lets +onlyGivenNames x10
  have h10 : P x10 := by
    unfold x10
    refine State.wr_writes (H.sub rfl) ?_
    exact h3
  extract_lets +onlyGivenNames x11
  have h11 : P x11 := by
    unfold x11
    refine State.setTarget_writes (H.sub rfl) ?_
    exact h10
  refine outP_next ?_
  refine keep_ite ?_ ?_
  · refine State.cmpFire_writes (H.sub rfl) ?_
    exact h11
  · exact h11

theorem execOscCompUpdate_writes {P : State → Prop} {a0 : State} (H : Stable P 32770) (h0 : P a0) :
    OutP P (execOscCompUpdate a0) := by
  unfold execOscCompUpdate
  extract_lets +onlyGivenNames x10
  refine outP_next ?_
  refine keep_ite ?_ ?_
  · refine State.setOsc_writes (H.sub rfl) ?_
    exact h0
  · exact h0

theorem execPpsInputEdge_writes {P : State → Prop} {a0 : Fin 4} {a1 : Bool} {a2 : Fin 1000} {a3 : State} (H : Stable P 41219) (h3 : P a3) :
    OutP P (execPpsInputEdge a0 a1 a2 a3) := by
  unfold execPpsInputEdge
  extract_lets +onlyGivenNames x10
  have h10 : P x10 := by
    unfold x10
    refine State.at__writes (H.sub rfl) ?_
    exact h3
  extract_lets +onlyGivenNames x11
  extract_lets +onlyGivenNames x12
  refine outP_next ?_
  refine keep_ite ?_ ?_
  · refine keep_ite ?_ ?_
    · refine State.count_writes (H.sub rfl) ?_
      exact h10
    · extract_lets +onlyGivenNames x13
      extract_lets +onlyGivenNames x14
      have h11 : P x14 := by
        unfold x14
        refine State.setPps_writes (H.sub rfl) ?_
        exact h10
      extract_lets +onlyGivenNames x15
      have h12 : P x15 := by
        unfold x15
        refine State.wr_writes (H.sub rfl) ?_
        refine State.wr_writes (H.sub rfl) ?_
        exact h11
      extract_lets +onlyGivenNames x16
      have h13 : P x16 := by
        unfold x16
        refine State.fire_writes (H.sub rfl) ?_
        exact h12
      refine State.servoSample_writes (H.sub rfl) ?_
      exact h13
  · exact h10

theorem execPpsLost_writes {P : State → Prop} {a0 : Fin 4} {a1 : State} (H : Stable P 41216) (h1 : P a1) :
    OutP P (execPpsLost a0 a1) := by
  unfold execPpsLost
  extract_lets +onlyGivenNames x10
  refine outP_next ?_
  refine keep_ite ?_ ?_
  · refine State.raise_writes (H.sub rfl) ?_
    refine State.setPps_writes (H.sub rfl) ?_
    exact h1
  · exact h1

theorem execPpsoFall_writes {P : State → Prop} {a0 : Fin 4} {a1 : Fin 1000} {a2 : State} (H : Stable P 32769) (h2 : P a2) :
    OutP P (execPpsoFall a0 a1 a2) := by
  unfold execPpsoFall
  extract_lets +onlyGivenNames x10
  have h10 : P x10 := by
    unfold x10
    refine State.at__writes (H.sub rfl) ?_
    exact h2
  extract_lets +onlyGivenNames x11
  refine outP_next ?_
  split
  · refine keep_ite ?_ ?_
    · refine State.setPps_writes (H.sub rfl) ?_
      exact h10
    · exact h10
  · exact h10

theorem execServoHoldover_writes {P : State → Prop} {a0 : Fin 4} {a1 : State} (H : Stable P 8450) (h1 : P a1) :
    OutP P (execServoHoldover a0 a1) := by
  unfold execServoHoldover
  extract_lets +onlyGivenNames x10
  extract_lets +onlyGivenNames x11
  refine outP_next ?_
  refine keep_ite ?_ ?_
  · refine State.raise_writes (H.sub rfl) ?_
    refine State.setF_writes (H.sub rfl) ?_
    exact h1
  · exact h1

theorem execTimAdd_writes {P : State → Prop} {a0 : Fin 4} {a1 : Fin 1000} {a2 : State} (H : Stable P 32771) (h2 : P a2) :
    OutP P (execTimAdd a0 a1 a2) := by
  unfold execTimAdd
  extract_lets +onlyGivenNames x10
  have h10 : P x10 := by
    unfold x10
    refine State.at__writes (H.sub rfl) ?_
    exact h2
  extract_lets +onlyGivenNames x11
  refine outP_next ?_
  refine State.tbMove_writes (H.sub rfl) ?_
  exact h10

theorem execTimClearInt_writes {P : State → Prop} {a0 : Fin 4} {a1 : State} (H : Stable P 32770) (h1 : P a1) :
    OutP P (execTimClearInt a0 a1) := by
  unfold execTimClearInt
  refine outP_next ?_
  refine State.wr_writes (H.sub rfl) ?_
  refine State.setServoX_writes (H.sub rfl) ?_
  exact h1

theorem execTimSet_writes {P : State → Prop} {a0 : Fin 4} {a1 : Fin 1000} {a2 : State} (H : Stable P 32771) (h2 : P a2) :
    OutP P (execTimSet a0 a1 a2) := by
  unfold execTimSet
  extract_lets +onlyGivenNames x10
  have h10 : P x10 := by
    unfold x10
    refine State.at__writes (H.sub rfl) ?_
    exact h2
  refine outP_next ?_
  refine State.tbMove_writes (H.sub rfl) ?_
  exact h10

theorem execTimSnapCmd_writes {P : State → Prop} {a0 : Owner} {a1 : BitVec 4} {a2 : Fin 1000} {a3 : State} (H : Stable P 32771) (h3 : P a3) :
    OutP P (execTimSnapCmd a0 a1 a2 a3) := by
  unfold execTimSnapCmd
  extract_lets +onlyGivenNames x10
  have h10 : P x10 := by
    unfold x10
    refine State.at__writes (H.sub rfl) ?_
    exact h3
  refine outP_next ?_
  refine forUp_keep ?_ ?_
  · intro n10 n11 n12
    refine keep_ite ?_ ?_
    · refine State.snap_writes (H.sub rfl) ?_
      exact n12
    · exact n12
  · exact h10

theorem execTsqHeadLatch_writes {P : State → Prop} {a0 : Fin 4} {a1 : State} (H : Stable P 18) (h1 : P a1) :
    OutP P (execTsqHeadLatch a0 a1) := by
  unfold execTsqHeadLatch
  extract_lets +onlyGivenNames x10
  extract_lets +onlyGivenNames x11
  have h10 : P x11 := by
    unfold x11
    refine forUp_keep ?_ ?_
    · intro n10 n11 n12
      refine State.wr_writes (H.sub rfl) ?_
      exact n12
    · exact h1
  refine outP_next ?_
  refine H.set_hif rfl   ?_
  exact h10

theorem execTsqRecordRemove_writes {P : State → Prop} {a0 : Fin 4} {a1 : State} (H : Stable P 32786) (h1 : P a1) :
    OutP P (execTsqRecordRemove a0 a1) := by
  unfold execTsqRecordRemove
  extract_lets +onlyGivenNames x10
  extract_lets +onlyGivenNames x11
  have h10 : P x11 := by
    unfold x11
    refine H.set_hif rfl   ?_
    exact h1
  refine outP_next ?_
  refine State.setTsq_writes (H.sub rfl) ?_
  exact h10

end Sys2Proof.Machine
end

