-- ==== Sys2Proof/Laws/WritesLane.lean ====
section
/-! SUPPORT. Which components of the state each operation and command of Machine/Lane.lean may write. -/

namespace Sys2Proof.Machine

theorem State.eqCalIn_writes {P : State → Prop} {a0 : State} {a1 : Nat} (H : Stable P 262146) (h0 : P a0) :
    P (State.eqCalIn a0 a1) := by
  unfold State.eqCalIn
  split
  · extract_lets +onlyGivenNames x10
    have h10 : P x10 := by
      unfold x10
      refine State.wr_writes (H.sub rfl) ?_
      refine State.wr_writes (H.sub rfl) ?_
      exact h0
    refine H.set_cal rfl   ?_
    exact h10
  · exact h0

theorem State.tapCalIn_writes {P : State → Prop} {a0 : State} {a1 : Nat} (H : Stable P 262146) (h0 : P a0) :
    P (State.tapCalIn a0 a1) := by
  unfold State.tapCalIn
  split
  · extract_lets +onlyGivenNames x10
    have h10 : P x10 := by
      unfold x10
      refine State.wr_writes (H.sub rfl) ?_
      exact h0
    refine H.set_cal rfl   ?_
    exact h10
  · exact h0

theorem State.laneCalIn_writes {P : State → Prop} {a0 : State} {a1 : Nat} (H : Stable P 262146) (h0 : P a0) :
    P (State.laneCalIn a0 a1) := by
  unfold State.laneCalIn
  refine keep_ite ?_ ?_
  · refine State.tapCalIn_writes (H.sub rfl) ?_
    exact h0
  · refine foldl_keep ?_ ?_
    · intro n10 n11 n12
      refine State.eqCalIn_writes (H.sub rfl) ?_
      exact n12
    · exact h0

theorem State.setLos_writes {P : State → Prop} {a0 : State} {a1 : Nat} {a2 : Nat} (H : Stable P 2) (h0 : P a0) :
    P (State.setLos a0 a1 a2) := by
  unfold State.setLos
  refine State.setF_writes (H.sub rfl) ?_
  refine State.setF_writes (H.sub rfl) ?_
  exact h0

theorem State.setStep_writes {P : State → Prop} {a0 : State} {a1 : Nat} {a2 : Nat} (H : Stable P 131074) (h0 : P a0) :
    P (State.setStep a0 a1 a2) := by
  unfold State.setStep
  extract_lets +onlyGivenNames x10
  extract_lets +onlyGivenNames x11
  have h10 : P x11 := by
    unfold x11
    refine H.set_lane rfl   ?_
    exact h0
  extract_lets +onlyGivenNames x12
  have h11 : P x12 := by
    unfold x12
    refine State.setF_writes (H.sub rfl) ?_
    exact h10
  refine foldl_keep ?_ ?_
  · intro n10 n11 n12
    refine State.setF_writes (H.sub rfl) ?_
    exact n12
  · exact h11

theorem State.showSquelch_writes {P : State → Prop} {a0 : State} {a1 : Nat} (H : Stable P 2) (h0 : P a0) :
    P (State.showSquelch a0 a1) := by
  unfold State.showSquelch
  extract_lets +onlyGivenNames x10
  refine State.setF_writes (H.sub rfl) ?_
  exact h0

theorem State.showTapTx_writes {P : State → Prop} {a0 : State} {a1 : Nat} (H : Stable P 2) (h0 : P a0) :
    P (State.showTapTx a0 a1) := by
  unfold State.showTapTx
  refine State.setF_writes (H.sub rfl) ?_
  exact h0

theorem State.bringStart_writes {P : State → Prop} {a0 : State} {a1 : Nat} {a2 : Nat} (H : Stable P 393218) (h0 : P a0) :
    P (State.bringStart a0 a1 a2) := by
  unfold State.bringStart
  extract_lets +onlyGivenNames x10
  have h10 : P x10 := by
    unfold x10
    refine State.setStep_writes (H.sub rfl) ?_
    refine State.laneCalIn_writes (H.sub rfl) ?_
    exact h0
  extract_lets +onlyGivenNames x11
  have h11 : P x11 := by
    unfold x11
    refine keep_ite ?_ ?_
    · refine State.showTapTx_writes (H.sub rfl) ?_
      refine keep_ite ?_ ?_
      · refine State.setLos_writes (H.sub rfl) ?_
        exact h10
      · exact h10
    · exact h10
  refine foldl_keep ?_ ?_
  · intro n10 n11 n12
    refine State.showSquelch_writes (H.sub rfl) ?_
    exact n12
  · exact h11

theorem State.portEvent_writes {P : State → Prop} {a0 : State} {a1 : Nat} (H : Stable P 8192) (h0 : P a0) :
    P (State.portEvent a0 a1) := by
  unfold State.portEvent
  refine State.fire_writes (H.sub rfl) ?_
  exact h0

theorem State.portOff_writes {P : State → Prop} {a0 : State} {a1 : Nat} {a2 : List Nat} (H : Stable P 139266) (h0 : P a0) :
    P (State.portOff a0 a1 a2) := by
  unfold State.portOff
  extract_lets +onlyGivenNames x10
  have h10 : P x10 := by
    unfold x10
    refine keep_ite ?_ ?_
    · refine State.portEvent_writes (H.sub rfl) ?_
      exact h0
    · exact h0
  extract_lets +onlyGivenNames x11
  extract_lets +onlyGivenNames x12
  have h11 : P x12 := by
    unfold x12
    refine H.set_lane rfl   ?_
    exact h10
  extract_lets +onlyGivenNames x13
  have h12 : P x13 := by
    unfold x13
    refine State.resetRange_writes (H.sub rfl) ?_
    exact h11
  extract_lets +onlyGivenNames x14
  have h13 : P x14 := by
    unfold x14
    refine foldl_keep ?_ ?_
    · intro n10 n11 n12
      refine State.resetRange_writes (H.sub rfl) ?_
      exact n12
    · exact h12
  refine keep_ite ?_ ?_
  · refine State.showTapTx_writes (H.sub rfl) ?_
    exact h13
  · exact h13

theorem State.applyPortRecords_writes {P : State → Prop} {a0 : State} {a1 : Nat → Word} (H : Stable P 401410) (h0 : P a0) :
    P (State.applyPortRecords a0 a1) := by
  unfold State.applyPortRecords
  extract_lets +onlyGivenNames x10
  extract_lets +onlyGivenNames x11
  extract_lets +onlyGivenNames x12
  have h10 : P x12 := by
    unfold x12
    refine forUp_keep ?_ ?_
    · intro n10 n11 n12
      refine keep_ite ?_ ?_
      · refine State.portOff_writes (H.sub rfl) ?_
        exact n12
      · exact n12
    · exact h0
  refine forUp_keep ?_ ?_
  · intro n13 n14 n15
    extract_lets +onlyGivenNames x13
    refine keep_ite ?_ ?_
    · refine State.bringStart_writes (H.sub rfl) ?_
      refine keep_ite ?_ ?_
      · refine State.portEvent_writes (H.sub rfl) ?_
        exact n15
      · exact n15
    · exact n15
  · exact h10

theorem State.linkDown_writes {P : State → Prop} {a0 : State} {a1 : Nat} (H : Stable P 401666) (h0 : P a0) :
    P (State.linkDown a0 a1) := by
  unfold State.linkDown
  refine keep_ite ?_ ?_
  · extract_lets +onlyGivenNames x10
    have h10 : P x10 := by
      unfold x10
      refine State.bringStart_writes (H.sub rfl) ?_
      exact h0
    extract_lets +onlyGivenNames x11
    have h11 : P x11 := by
      unfold x11
      refine State.count_writes (H.sub rfl) ?_
      exact h10
    refine State.raise_writes (H.sub rfl) ?_
    refine State.portEvent_writes (H.sub rfl) ?_
    exact h11
  · refine keep_ite ?_ ?_
    · exact h0
    · refine State.bringStart_writes (H.sub rfl) ?_
      exact h0

theorem State.showLpi_writes {P : State → Prop} {a0 : State} {a1 : Nat} {a2 : Fld} {a3 : Bool} (H : Stable P 2) (h0 : P a0) :
    P (State.showLpi a0 a1 a2 a3) := by
  unfold State.showLpi
  refine foldl_keep ?_ ?_
  · intro n10 n11 n12
    refine State.setF_writes (H.sub rfl) ?_
    exact n12
  · exact h0

theorem State.showTx_writes {P : State → Prop} {a0 : State} (H : Stable P 2) (h0 : P a0) :
    P (State.showTx a0) := by
  unfold State.showTx
  refine forUp_keep ?_ ?_
  · intro n10 n11 n12
    refine State.showTapTx_writes (H.sub rfl) ?_
    exact n12
  · refine forUp_keep ?_ ?_
    · intro n13 n14 n15
      refine State.showSquelch_writes (H.sub rfl) ?_
      exact n15
    · exact h0

theorem State.stepRecord_writes {P : State → Prop} {a0 : State} {a1 : Nat} {a2 : Nat} {a3 : StepFound} (H : Stable P 2) (h0 : P a0) :
    P (State.stepRecord a0 a1 a2 a3) := by
  unfold State.stepRecord
  split
  · extract_lets +onlyGivenNames x10
    have h10 : P x10 := by
      unfold x10
      refine State.setF_writes (H.sub rfl) ?_
      exact h0
    extract_lets +onlyGivenNames x11
    have h11 : P x11 := by
      unfold x11
      refine State.setF_writes (H.sub rfl) ?_
      exact h10
    refine keep_ite ?_ ?_
    · refine State.setF_writes (H.sub rfl) ?_
      exact h11
    · exact h11
  · extract_lets +onlyGivenNames x12
    refine keep_ite ?_ ?_
    · refine foldl_keep ?_ ?_
      · intro n10 n11 n12
        refine State.setF_writes (H.sub rfl) ?_
        exact n12
      · exact h0
    · exact h0
  · refine forUp_keep ?_ ?_
    · intro n13 n14 n15
      refine State.setF_writes (H.sub rfl) ?_
      exact n15
    · exact h0
  · refine State.setF_writes (H.sub rfl) ?_
    exact h0
  · refine State.setF_writes (H.sub rfl) ?_
    exact h0
  · refine foldl_keep ?_ ?_
    · intro n16 n17 n18
      refine State.setF_writes (H.sub rfl) ?_
      exact n18
    · exact h0
  · exact h0

theorem State.tapFabric_writes {P : State → Prop} {a0 : State} {a1 : Nat} {a2 : Bool} (H : Stable P 401666) (h0 : P a0) :
    P (State.tapFabric a0 a1 a2) := by
  unfold State.tapFabric
  extract_lets +onlyGivenNames x10
  refine keep_ite ?_ ?_
  · exact h0
  · refine keep_ite ?_ ?_
    · extract_lets +onlyGivenNames x11
      have h10 : P x11 := by
        unfold x11
        refine State.setLos_writes (H.sub rfl) ?_
        refine State.setF_writes (H.sub rfl) ?_
        exact h0
      refine keep_ite ?_ ?_
      · refine State.linkDown_writes (H.sub rfl) ?_
        exact h10
      · exact h10
    · extract_lets +onlyGivenNames x12
      have h11 : P x12 := by
        unfold x12
        refine State.setF_writes (H.sub rfl) ?_
        refine State.setF_writes (H.sub rfl) ?_
        exact h0
      refine keep_ite ?_ ?_
      · exact h11
      · refine State.bringStart_writes (H.sub rfl) ?_
        exact h11

theorem execBringupStepDone_writes {P : State → Prop} {a0 : Fin 96} {a1 : StepFound} {a2 : State} (H : Stable P 139266) (h2 : P a2) :
    OutP P (execBringupStepDone a0 a1 a2) := by
  unfold execBringupStepDone
  extract_lets +onlyGivenNames x10
  refine outP_next ?_
  refine keep_ite ?_ ?_
  · extract_lets +onlyGivenNames x11
    extract_lets +onlyGivenNames x12
    have h10 : P x12 := by
      unfold x12
      refine State.setStep_writes (H.sub rfl) ?_
      refine State.stepRecord_writes (H.sub rfl) ?_
      exact h2
    refine keep_ite ?_ ?_
    · refine State.portEvent_writes (H.sub rfl) ?_
      exact h10
    · exact h10
  · exact h2

theorem execBringupStepLimit_writes {P : State → Prop} {a0 : Fin 96} {a1 : State} (H : Stable P 393218) (h1 : P a1) :
    OutP P (execBringupStepLimit a0 a1) := by
  unfold execBringupStepLimit
  extract_lets +onlyGivenNames x10
  refine outP_next ?_
  refine keep_ite ?_ ?_
  · extract_lets +onlyGivenNames x11
    have h10 : P x11 := by
      unfold x11
      refine foldl_keep ?_ ?_
      · intro n10 n11 n12
        refine State.count_writes (H.sub rfl) ?_
        exact n12
      · exact h1
    refine State.bringStart_writes (H.sub rfl) ?_
    exact h10
  · exact h1

theorem execLaneCfgWrite_writes {P : State → Prop} {a0 : Fin 66} {a1 : Word} {a2 : State} (H : Stable P 401666) (h2 : P a2) :
    OutP P (execLaneCfgWrite a0 a1 a2) := by
  unfold execLaneCfgWrite
  extract_lets +onlyGivenNames x10
  extract_lets +onlyGivenNames x11
  extract_lets +onlyGivenNames x12
  extract_lets +onlyGivenNames x13
  have h10 : P x13 := by
    unfold x13
    refine State.wr_writes (H.sub rfl) ?_
    exact h2
  extract_lets +onlyGivenNames x14
  have h11 : P x14 := by
    unfold x14
    refine keep_ite ?_ ?_
    · refine State.showSquelch_writes (H.sub rfl) ?_
      exact h10
    · exact h10
  refine outP_next ?_
  refine keep_ite ?_ ?_
  · extract_lets +onlyGivenNames x15
    refine keep_ite ?_ ?_
    · refine State.linkDown_writes (H.sub rfl) ?_
      exact h11
    · exact h11
  · exact h11

theorem execLanePllUnlock_writes {P : State → Prop} {a0 : Fin 25} {a1 : State} (H : Stable P 8448) (h1 : P a1) :
    OutP P (execLanePllUnlock a0 a1) := by
  unfold execLanePllUnlock
  refine outP_next ?_
  refine State.raise_writes (H.sub rfl) ?_
  exact h1

theorem execLanePrbsWrite_writes {P : State → Prop} {a0 : Fin 66} {a1 : Word} {a2 : State} (H : Stable P 2) (h2 : P a2) :
    OutP P (execLanePrbsWrite a0 a1 a2) := by
  unfold execLanePrbsWrite
  extract_lets +onlyGivenNames x10
  refine outP_next ?_
  refine keep_ite ?_ ?_
  · refine State.setF_writes (H.sub rfl) ?_
    exact h2
  · extract_lets +onlyGivenNames x11
    have h10 : P x11 := by
      unfold x11
      refine State.setF_writes (H.sub rfl) ?_
      exact h2
    extract_lets +onlyGivenNames x12
    have h11 : P x12 := by
      unfold x12
      refine State.setF_writes (H.sub rfl) ?_
      refine State.setF_writes (H.sub rfl) ?_
      exact h10
    refine keep_ite ?_ ?_
    · refine State.setF_writes (H.sub rfl) ?_
      exact h11
    · exact h11

theorem execLinkDown_writes {P : State → Prop} {a0 : Fin 96} {a1 : Bool} {a2 : State} (H : Stable P 401666) (h2 : P a2) :
    OutP P (execLinkDown a0 a1 a2) := by
  unfold execLinkDown
  refine outP_next ?_
  refine keep_ite ?_ ?_
  · refine State.linkDown_writes (H.sub rfl) ?_
    refine keep_ite ?_ ?_
    · refine State.setLos_writes (H.sub rfl) ?_
      exact h2
    · exact h2
  · exact h2

theorem execLpiRxSleep_writes {P : State → Prop} {a0 : Fin 64} {a1 : State} (H : Stable P 2) (h1 : P a1) :
    OutP P (execLpiRxSleep a0 a1) := by
  unfold execLpiRxSleep
  refine outP_next ?_
  refine keep_ite ?_ ?_
  · refine State.showLpi_writes (H.sub rfl) ?_
    exact h1
  · exact h1

theorem execLpiRxWake_writes {P : State → Prop} {a0 : Fin 64} {a1 : State} (H : Stable P 2) (h1 : P a1) :
    OutP P (execLpiRxWake a0 a1) := by
  unfold execLpiRxWake
  refine outP_next ?_
  refine State.showLpi_writes (H.sub rfl) ?_
  exact h1

theorem execRemoteFault_writes {P : State → Prop} {a0 : Fin 96} {a1 : Bool} {a2 : State} (H : Stable P 2) (h2 : P a2) :
    OutP P (execRemoteFault a0 a1 a2) := by
  unfold execRemoteFault
  refine outP_next ?_
  refine keep_ite ?_ ?_
  · refine State.setF_writes (H.sub rfl) ?_
    exact h2
  · exact h2

theorem execTapLaserLow_writes {P : State → Prop} {a0 : Fin 4} {a1 : BitVec 16} {a2 : State} (H : Stable P 8450) (h2 : P a2) :
    OutP P (execTapLaserLow a0 a1 a2) := by
  unfold execTapLaserLow
  refine outP_next ?_
  refine keep_ite ?_ ?_
  · extract_lets +onlyGivenNames x10
    have h10 : P x10 := by
      unfold x10
      refine State.setF_writes (H.sub rfl) ?_
      refine State.setF_writes (H.sub rfl) ?_
      exact h2
    extract_lets +onlyGivenNames x11
    have h11 : P x11 := by
      unfold x11
      refine forUp_keep ?_ ?_
      · intro n10 n11 n12
        refine State.setF_writes (H.sub rfl) ?_
        refine State.showTapTx_writes (H.sub rfl) ?_
        exact n12
      · exact h10
    refine State.raise_writes (H.sub rfl) ?_
    refine State.fire_writes (H.sub rfl) ?_
    exact h11
  · exact h2

theorem execTapLaserRestore_writes {P : State → Prop} {a0 : Fin 4} {a1 : BitVec 16} {a2 : State} (H : Stable P 2) (h2 : P a2) :
    OutP P (execTapLaserRestore a0 a1 a2) := by
  unfold execTapLaserRestore
  refine outP_next ?_
  refine keep_ite ?_ ?_
  · extract_lets +onlyGivenNames x10
    have h10 : P x10 := by
      unfold x10
      refine State.setF_writes (H.sub rfl) ?_
      refine State.setF_writes (H.sub rfl) ?_
      exact h2
    refine forUp_keep ?_ ?_
    · intro n10 n11 n12
      extract_lets +onlyGivenNames x11
      extract_lets +onlyGivenNames x12
      refine State.setF_writes (H.sub rfl) ?_
      refine State.showTapTx_writes (H.sub rfl) ?_
      exact n12
    · exact h10
  · exact h2

theorem execTapLos_writes {P : State → Prop} {a0 : Fin 32} {a1 : State} (H : Stable P 401666) (h1 : P a1) :
    OutP P (execTapLos a0 a1) := by
  unfold execTapLos
  extract_lets +onlyGivenNames x10
  refine outP_next ?_
  refine keep_ite ?_ ?_
  · extract_lets +onlyGivenNames x11
    have h10 : P x11 := by
      unfold x11
      refine State.setLos_writes (H.sub rfl) ?_
      refine State.setF_writes (H.sub rfl) ?_
      exact h1
    refine keep_ite ?_ ?_
    · refine State.linkDown_writes (H.sub rfl) ?_
      exact h10
    · exact h10
  · exact h1

theorem execTapTxFault_writes {P : State → Prop} {a0 : Fin 32} {a1 : State} (H : Stable P 8450) (h1 : P a1) :
    OutP P (execTapTxFault a0 a1) := by
  unfold execTapTxFault
  refine outP_next ?_
  refine State.raise_writes (H.sub rfl) ?_
  refine State.setF_writes (H.sub rfl) ?_
  exact h1

end Sys2Proof.Machine
end

