-- ==== Sys2Proof/Laws/WritesCellar.lean ====
section
/-! SUPPORT. Which components of the state each operation and command of Machine/Cellar.lean may write. -/

namespace Sys2Proof.Machine

theorem State.cClear_writes {P : State → Prop} {a0 : State} {a1 : Nat} {a2 : Nat} (H : Stable P 2097152) (h0 : P a0) :
    P (State.cClear a0 a1 a2) := by
  unfold State.cClear
  refine H.set_cellar rfl  (Tab.wf_clear _ _ _ _) ?_
  exact h0

theorem State.cWrite_writes {P : State → Prop} {a0 : State} {a1 : Nat} {a2 : List Byte} (H : Stable P 2097152) (h0 : P a0) :
    P (State.cWrite a0 a1 a2) := by
  unfold State.cWrite
  refine H.set_cellar rfl  (Tab.wf_setList _ _ _ _) ?_
  exact h0

theorem State.clearEntry_writes {P : State → Prop} {a0 : State} {a1 : Nat} (H : Stable P 2097152) (h0 : P a0) :
    P (State.clearEntry a0 a1) := by
  unfold State.clearEntry
  refine State.cWrite_writes (H.sub rfl) ?_
  exact h0

theorem State.foldLine_writes {P : State → Prop} {a0 : State} {a1 : AccLine} (H : Stable P 2097152) (h0 : P a0) :
    P (State.foldLine a0 a1) := by
  unfold State.foldLine
  split
  · refine State.cWrite_writes (H.sub rfl) ?_
    exact h0

theorem State.countPair_writes {P : State → Prop} {a0 : State} {a1 : Nat} {a2 : Nat} {a3 : Nat} (H : Stable P 2621440) (h0 : P a0) :
    P (State.countPair a0 a1 a2 a3) := by
  unfold State.countPair
  refine keep_ite ?_ ?_
  · exact h0
  · refine keep_ite ?_ ?_
    · refine H.set_pk rfl   ?_
      exact h0
    · extract_lets +onlyGivenNames x10
      extract_lets +onlyGivenNames x11
      have h10 : P x11 := by
        unfold x11
        refine keep_ite ?_ ?_
        · split
          · extract_lets +onlyGivenNames x12
            have h11 : P x12 := by
              unfold x12
              refine State.foldLine_writes (H.sub rfl) ?_
              exact h0
            refine H.set_pk rfl   ?_
            exact h11
          · exact h0
        · exact h0
      refine H.set_pk rfl   ?_
      exact h10

theorem State.foldPair_writes {P : State → Prop} {a0 : State} {a1 : Nat} (H : Stable P 2621440) (h0 : P a0) :
    P (State.foldPair a0 a1) := by
  unfold State.foldPair
  split
  · extract_lets +onlyGivenNames x10
    have h10 : P x10 := by
      unfold x10
      refine State.foldLine_writes (H.sub rfl) ?_
      exact h0
    refine H.set_pk rfl   ?_
    exact h10
  · exact h0

theorem State.setEntry_writes {P : State → Prop} {a0 : State} {a1 : Nat} {a2 : FEntry} (H : Stable P 2097152) (h0 : P a0) :
    P (State.setEntry a0 a1 a2) := by
  unfold State.setEntry
  refine State.cWrite_writes (H.sub rfl) ?_
  exact h0

theorem execCounterDump_writes {P : State → Prop} {a0 : Fin 32} {a1 : Desc} {a2 : Buf} {a3 : State} (H : Stable P 2621458) (h3 : P a3) :
    OutP P (execCounterDump a0 a1 a2 a3) := by
  unfold execCounterDump
  refine outP_next ?_
  refine State.launch_writes (H.sub rfl) ?_ ?_
  · exact h3
  · intro n10 n11 n12
    extract_lets +onlyGivenNames x10
    extract_lets +onlyGivenNames x11
    refine keep_ite ?_ ?_
    · refine State.finish_writes (H.sub rfl) ?_
      exact n12
    · refine keep_ite ?_ ?_
      · refine State.finish_writes (H.sub rfl) ?_
        exact n12
      · refine keep_ite ?_ ?_
        · refine State.finish_writes (H.sub rfl) ?_
          exact n12
        · extract_lets +onlyGivenNames x12
          extract_lets +onlyGivenNames x13
          have h10 : P x13 := by
            unfold x13
            refine foldl_keep ?_ ?_
            · intro n13 n14 n15
              refine State.foldPair_writes (H.sub rfl) ?_
              exact n15
            · exact n12
          extract_lets +onlyGivenNames x14
          refine keep_ite ?_ ?_
          · extract_lets +onlyGivenNames x15
            have h11 : P x15 := by
              unfold x15
              refine keep_ite ?_ ?_
              · refine State.cClear_writes (H.sub rfl) ?_
                exact h10
              · exact h10
            refine State.finishBuf_writes (H.sub rfl) ?_
            exact h11
          · refine State.finishBuf_writes (H.sub rfl) ?_
            exact h10

theorem execCounterFold_writes {P : State → Prop} {a0 : BitVec 20} {a1 : State} (H : Stable P 2621440) (h1 : P a1) :
    OutP P (execCounterFold a0 a1) := by
  unfold execCounterFold
  extract_lets +onlyGivenNames x10
  refine outP_next ?_
  split
  · refine keep_ite ?_ ?_
    · refine State.foldPair_writes (H.sub rfl) ?_
      exact h1
    · exact h1
  · exact h1

end Sys2Proof.Machine
end

