-- ==== Sys2Proof/Laws/WritesSched.lean ====
section
/-! SUPPORT. Which components of the state each operation and command of Machine/Sched.lean may write. -/

namespace Sys2Proof.Machine

theorem State.setFree_writes {P : State → Prop} {a0 : State} {a1 : Nat} (H : Stable P 2) (h0 : P a0) :
    P (State.setFree a0 a1) := by
  unfold State.setFree
  extract_lets +onlyGivenNames x10
  have h10 : P x10 := by
    unfold x10
    refine State.setF_writes (H.sub rfl) ?_
    exact h0
  refine keep_ite ?_ ?_
  · refine State.setF_writes (H.sub rfl) ?_
    exact h10
  · exact h10

theorem State.setPortOcc_writes {P : State → Prop} {a0 : State} {a1 : Nat} {a2 : Nat} (H : Stable P 2) (h0 : P a0) :
    P (State.setPortOcc a0 a1 a2) := by
  unfold State.setPortOcc
  refine State.setF_writes (H.sub rfl) ?_
  exact h0

theorem State.charge_writes {P : State → Prop} {a0 : State} {a1 : Nat} {a2 : Copy} (H : Stable P 524290) (h0 : P a0) :
    P (State.charge a0 a1 a2) := by
  unfold State.charge
  extract_lets +onlyGivenNames x10
  extract_lets +onlyGivenNames x11
  have h10 : P x11 := by
    unfold x11
    refine State.setPortOcc_writes (H.sub rfl) ?_
    exact h0
  refine keep_ite ?_ ?_
  · refine H.set_pk rfl   ?_
    exact h10
  · extract_lets +onlyGivenNames x12
    have h11 : P x12 := by
      unfold x12
      refine State.setFree_writes (H.sub rfl) ?_
      exact h10
    refine H.set_pk rfl   ?_
    exact h11

theorem State.countDrop_writes {P : State → Prop} {a0 : State} {a1 : Nat} {a2 : Copy} (H : Stable P 2621440) (h0 : P a0) :
    P (State.countDrop a0 a1 a2) := by
  unfold State.countDrop
  extract_lets +onlyGivenNames x10
  have h10 : P x10 := by
    unfold x10
    refine State.countPair_writes (H.sub rfl) ?_
    exact h0
  split
  · refine State.countPair_writes (H.sub rfl) ?_
    exact h10
  · exact h10

theorem State.discharge_writes {P : State → Prop} {a0 : State} {a1 : Nat} {a2 : Copy} (H : Stable P 524290) (h0 : P a0) :
    P (State.discharge a0 a1 a2) := by
  unfold State.discharge
  extract_lets +onlyGivenNames x10
  have h10 : P x10 := by
    unfold x10
    refine State.setPortOcc_writes (H.sub rfl) ?_
    exact h0
  split
  · refine keep_ite ?_ ?_
    · extract_lets +onlyGivenNames x11
      have h11 : P x11 := by
        unfold x11
        refine State.setFree_writes (H.sub rfl) ?_
        exact h10
      refine H.set_pk rfl   ?_
      exact h11
    · refine H.set_pk rfl   ?_
      exact h10
  · exact h10

theorem State.setQueue_writes {P : State → Prop} {a0 : State} {a1 : Nat} {a2 : List Copy} (H : Stable P 524288) (h0 : P a0) :
    P (State.setQueue a0 a1 a2) := by
  unfold State.setQueue
  refine H.set_pk rfl   ?_
  exact h0

theorem State.dropOversizeQ_writes {P : State → Prop} {a0 : State} {a1 : Nat} {a2 : Nat} {a3 : Nat} (H : Stable P 2621442) (h0 : P a0) :
    P (State.dropOversizeQ a0 a1 a2 a3) := by
  induction a3 generalizing a0
  · unfold State.dropOversizeQ
    exact h0
  · rename_i v10 v11
    unfold State.dropOversizeQ
    split
    · split
      · refine keep_ite ?_ ?_
        · extract_lets +onlyGivenNames x10
          have h10 : P x10 := by
            unfold x10
            refine State.countDrop_writes (H.sub rfl) ?_
            refine State.discharge_writes (H.sub rfl) ?_
            refine State.setQueue_writes (H.sub rfl) ?_
            exact h0
          refine v11 ?_
          refine State.count_writes (H.sub rfl) ?_
          exact h10
        · exact h0
      · exact h0
    · exact h0

theorem State.dropOversize_writes {P : State → Prop} {a0 : State} {a1 : Nat} (H : Stable P 2621442) (h0 : P a0) :
    P (State.dropOversize a0 a1) := by
  unfold State.dropOversize
  refine keep_ite ?_ ?_
  · refine foldl_keep ?_ ?_
    · intro n10 n11 n12
      refine State.dropOversizeQ_writes (H.sub rfl) ?_
      exact n12
    · exact h0
  · exact h0

theorem State.setChild_writes {P : State → Prop} {a0 : State} {a1 : Nat} {a2 : Child} (H : Stable P 524288) (h0 : P a0) :
    P (State.setChild a0 a1 a2) := by
  unfold State.setChild
  refine H.set_pk rfl   ?_
  exact h0

theorem State.enter_writes {P : State → Prop} {a0 : State} {a1 : Nat} {a2 : Nat} {a3 : Nat} {a4 : Nat} (H : Stable P 524288) (h0 : P a0) :
    P (State.enter a0 a1 a2 a3 a4) := by
  unfold State.enter
  extract_lets +onlyGivenNames x10
  refine keep_ite ?_ ?_
  · exact h0
  · extract_lets +onlyGivenNames x11
    extract_lets +onlyGivenNames x12
    refine State.setChild_writes (H.sub rfl) ?_
    exact h0

theorem State.contend_writes {P : State → Prop} {a0 : State} {a1 : Nat} (H : Stable P 2621442) (h0 : P a0) :
    P (State.contend a0 a1) := by
  unfold State.contend
  extract_lets +onlyGivenNames x10
  have h10 : P x10 := by
    unfold x10
    refine State.dropOversize_writes (H.sub rfl) ?_
    exact h0
  extract_lets +onlyGivenNames x11
  extract_lets +onlyGivenNames x12
  extract_lets +onlyGivenNames x13
  extract_lets +onlyGivenNames x14
  extract_lets +onlyGivenNames x15
  extract_lets +onlyGivenNames x16
  have h11 : P x16 := by
    unfold x16
    refine foldl_keep ?_ ?_
    · intro n10 n11 n12
      refine State.setChild_writes (H.sub rfl) ?_
      exact n12
    · exact h10
  extract_lets +onlyGivenNames x17
  have h12 : P x17 := by
    unfold x17
    refine foldl_keep ?_ ?_
    · intro n13 n14 n15
      refine State.enter_writes (H.sub rfl) ?_
      exact n15
    · exact h11
  extract_lets +onlyGivenNames x18
  have h13 : P x18 := by
    unfold x18
    refine foldl_keep ?_ ?_
    · intro n16 n17 n18
      refine State.enter_writes (H.sub rfl) ?_
      exact n18
    · exact h12
  refine foldl_keep ?_ ?_
  · intro n19 n20 n21
    refine State.enter_writes (H.sub rfl) ?_
    exact n21
  · exact h13

theorem State.emptyQueue_writes {P : State → Prop} {a0 : State} {a1 : Nat} {a2 : Nat} (H : Stable P 2621442) (h0 : P a0) :
    P (State.emptyQueue a0 a1 a2) := by
  unfold State.emptyQueue
  refine foldl_keep ?_ ?_
  · intro n10 n11 n12
    refine State.countDrop_writes (H.sub rfl) ?_
    refine State.discharge_writes (H.sub rfl) ?_
    exact n12
  · refine State.setQueue_writes (H.sub rfl) ?_
    exact h0

theorem State.setNodeBucket_writes {P : State → Prop} {a0 : State} {a1 : Nat} {a2 : Bucket} (H : Stable P 524288) (h0 : P a0) :
    P (State.setNodeBucket a0 a1 a2) := by
  unfold State.setNodeBucket
  refine H.set_pk rfl   ?_
  exact h0

theorem State.setPolBucket_writes {P : State → Prop} {a0 : State} {a1 : Nat} {a2 : Bucket} (H : Stable P 524288) (h0 : P a0) :
    P (State.setPolBucket a0 a1 a2) := by
  unfold State.setPolBucket
  refine H.set_pk rfl   ?_
  exact h0

theorem State.settleBuckets_writes {P : State → Prop} {a0 : State} {a1 : Tab Word} (H : Stable P 524288) (h0 : P a0) :
    P (State.settleBuckets a0 a1) := by
  unfold State.settleBuckets
  extract_lets +onlyGivenNames x10
  extract_lets +onlyGivenNames x11
  have h10 : (∀ (z0 : Nat → State → State) (z1 : State), (∀ (zz0 : Nat) (zz1 : State), P zz1 → P (z0 zz0 zz1)) → P z1 → P (x11 z0 z1)) := by
    intro n10 n11 n12
    intro n13
    unfold x11
    refine n12 _ _ ?_
    refine n12 _ _ ?_
    exact n13
  clear_value x11
  extract_lets +onlyGivenNames x12
  have h11 : P x12 := by
    unfold x12
    refine foldl_keep ?_ ?_
    · intro n14 n15 n16
      refine h10 _ _ ?_ ?_
      · intro n17 n18 n19
        extract_lets +onlyGivenNames x13
        refine State.setNodeBucket_writes (H.sub rfl) ?_
        exact n19
      · exact n16
    · exact h0
  refine foldl_keep ?_ ?_
  · intro n20 n21 n22
    refine h10 _ _ ?_ ?_
    · intro n23 n24 n25
      extract_lets +onlyGivenNames x14
      refine State.setPolBucket_writes (H.sub rfl) ?_
      exact n25
    · exact n22
  · exact h11

theorem State.showGates_writes {P : State → Prop} {a0 : State} {a1 : Nat} (H : Stable P 2) (h0 : P a0) :
    P (State.showGates a0 a1) := by
  unfold State.showGates
  extract_lets +onlyGivenNames x10
  extract_lets +onlyGivenNames x11
  refine State.setF_writes (H.sub rfl) ?_
  refine State.setF_writes (H.sub rfl) ?_
  exact h0

theorem State.coopApply_writes {P : State → Prop} {a0 : State} {a1 : Tab Word} (H : Stable P 2621442) (h0 : P a0) :
    P (State.coopApply a0 a1) := by
  unfold State.coopApply
  extract_lets +onlyGivenNames x10
  have h10 : P x10 := by
    unfold x10
    refine State.settleBuckets_writes (H.sub rfl) ?_
    exact h0
  extract_lets +onlyGivenNames x11
  have h11 : P x11 := by
    unfold x11
    refine foldl_keep ?_ ?_
    · intro n10 n11 n12
      extract_lets +onlyGivenNames x12
      extract_lets +onlyGivenNames x13
      refine keep_ite ?_ ?_
      · refine State.count_writes (H.sub rfl) ?_
        refine State.emptyQueue_writes (H.sub rfl) ?_
        exact n12
      · exact n12
    · exact h10
  extract_lets +onlyGivenNames x14
  extract_lets +onlyGivenNames x15
  have h12 : P x15 := by
    unfold x15
    refine foldl_keep ?_ ?_
    · intro n13 n14 n15
      refine State.setChild_writes (H.sub rfl) ?_
      exact n15
    · exact h11
  refine forUp_keep ?_ ?_
  · intro n16 n17 n18
    refine State.contend_writes (H.sub rfl) ?_
    refine State.showGates_writes (H.sub rfl) ?_
    exact n18
  · exact h12

theorem State.setNodeLevel_writes {P : State → Prop} {a0 : State} {a1 : Nat} {a2 : Nat} {a3 : Int} (H : Stable P 524288) (h0 : P a0) :
    P (State.setNodeLevel a0 a1 a2 a3) := by
  unfold State.setNodeLevel
  refine H.set_pk rfl   ?_
  exact h0

theorem State.debitNode_writes {P : State → Prop} {a0 : State} {a1 : Nat} {a2 : Nat} (H : Stable P 524288) (h0 : P a0) :
    P (State.debitNode a0 a1 a2) := by
  unfold State.debitNode
  extract_lets +onlyGivenNames x10
  refine State.setNodeLevel_writes (H.sub rfl) ?_
  refine State.setNodeLevel_writes (H.sub rfl) ?_
  exact h0

theorem State.enqueue_writes {P : State → Prop} {a0 : State} {a1 : Nat} {a2 : Nat} {a3 : Copy} (H : Stable P 2621442) (h0 : P a0) :
    P (State.enqueue a0 a1 a2 a3).1 := by
  unfold State.enqueue
  split
  · refine keep_mk1 ?_
    refine State.contend_writes (H.sub rfl) ?_
    refine State.setQueue_writes (H.sub rfl) ?_
    refine State.charge_writes (H.sub rfl) ?_
    exact h0
  · refine keep_mk1 ?_
    refine State.count_writes (H.sub rfl) ?_
    refine State.countDrop_writes (H.sub rfl) ?_
    exact h0

theorem State.fillPolicers_writes {P : State → Prop} {a0 : State} (H : Stable P 524288) (h0 : P a0) :
    P (State.fillPolicers a0) := by
  unfold State.fillPolicers
  refine foldl_keep ?_ ?_
  · intro n10 n11 n12
    refine forUp_keep ?_ ?_
    · intro n13 n14 n15
      refine State.setPolBucket_writes (H.sub rfl) ?_
      exact n15
    · exact n12
  · exact h0

theorem State.freshId_writes {P : State → Prop} {a0 : State} (H : Stable P 524288) (h0 : P a0) :
    P (State.freshId a0).2 := by
  unfold State.freshId
  refine keep_mk2 ?_
  refine H.set_pk rfl   ?_
  exact h0

theorem State.mirrorCopy_writes {P : State → Prop} {a0 : State} {a1 : Nat} {a2 : Option Nat} {a3 : Nat} {a4 : List Byte} (H : Stable P 2621442) (h0 : P a0) :
    P (State.mirrorCopy a0 a1 a2 a3 a4) := by
  unfold State.mirrorCopy
  extract_lets +onlyGivenNames x10
  extract_lets +onlyGivenNames x11
  split
  · rename_i v10 v11 v12 v13
    have h10 : P v12 := keep_snd v13 (by
      refine State.freshId_writes (H.sub rfl) ?_
      exact h0)
    extract_lets +onlyGivenNames x12
    refine keep_ite ?_ ?_
    · refine State.countPair_writes (H.sub rfl) ?_
      exact h10
    · extract_lets +onlyGivenNames x13
      refine State.enqueue_writes (H.sub rfl) ?_
      exact h10

theorem State.mirrorAt_writes {P : State → Prop} {a0 : State} {a1 : Nat} {a2 : Nat} {a3 : Nat} {a4 : Option Nat} {a5 : Nat} {a6 : List Byte} (H : Stable P 2621442) (h0 : P a0) :
    P (State.mirrorAt a0 a1 a2 a3 a4 a5 a6) := by
  unfold State.mirrorAt
  refine forUp_keep ?_ ?_
  · intro n10 n11 n12
    refine keep_ite ?_ ?_
    · refine State.mirrorCopy_writes (H.sub rfl) ?_
      exact n12
    · exact n12
  · exact h0

theorem State.nodeLost_writes {P : State → Prop} {a0 : State} {a1 : Nat} (H : Stable P 524288) (h0 : P a0) :
    P (State.nodeLost a0 a1) := by
  unfold State.nodeLost
  extract_lets +onlyGivenNames x10
  extract_lets +onlyGivenNames x11
  have h10 : P x11 := by
    unfold x11
    refine keep_ite ?_ ?_
    · refine State.setChild_writes (H.sub rfl) ?_
      exact h0
    · exact h0
  refine forUp_keep ?_ ?_
  · intro n10 n11 n12
    refine State.setNodeLevel_writes (H.sub rfl) ?_
    exact n12
  · exact h10

theorem State.ptpRecord_writes {P : State → Prop} {a0 : State} {a1 : Nat} {a2 : Nat} {a3 : Nat} {a4 : Nat} {a5 : List Byte} (H : Stable P 32778) (h0 : P a0) :
    P (State.ptpRecord a0 a1 a2 a3 a4 a5) := by
  unfold State.ptpRecord
  extract_lets +onlyGivenNames x10
  extract_lets +onlyGivenNames x11
  extract_lets +onlyGivenNames x12
  have h10 : P x12 := by
    unfold x12
    refine keep_ite ?_ ?_
    · exact h0
    · refine State.drawn_writes (H.sub rfl) ?_
      exact h0
  refine State.tsqPut_writes (H.sub rfl) ?_
  exact h10

theorem State.setVtime_writes {P : State → Prop} {a0 : State} {a1 : Nat} {a2 : Nat} (H : Stable P 524288) (h0 : P a0) :
    P (State.setVtime a0 a1 a2) := by
  unfold State.setVtime
  refine H.set_pk rfl   ?_
  exact h0

theorem State.tcCorrect_writes {P : State → Prop} {a0 : State} {a1 : Nat} {a2 : Copy} {a3 : Nat} {a4 : Nat} (H : Stable P 2) (h0 : P a0) :
    P (State.tcCorrect a0 a1 a2 a3 a4).1 := by
  unfold State.tcCorrect
  split
  · refine keep_mk1 ?_
    refine State.count_writes (H.sub rfl) ?_
    exact h0
  · extract_lets +onlyGivenNames x10
    extract_lets +onlyGivenNames x11
    extract_lets +onlyGivenNames x12
    extract_lets +onlyGivenNames x13
    extract_lets +onlyGivenNames x14
    refine keep_mk1 ?_
    refine State.count_writes (H.sub rfl) ?_
    exact h0

theorem State.transmit_writes {P : State → Prop} {a0 : State} {a1 : Nat} {a2 : Nat} {a3 : Copy} {a4 : Nat} (H : Stable P 2654218) (h0 : P a0) :
    P (State.transmit a0 a1 a2 a3 a4) := by
  unfold State.transmit
  extract_lets +onlyGivenNames x10
  extract_lets +onlyGivenNames x11
  extract_lets +onlyGivenNames x12
  extract_lets +onlyGivenNames x13
  have h10 : P x13 := by
    unfold x13
    refine State.setVtime_writes (H.sub rfl) ?_
    exact h0
  extract_lets +onlyGivenNames x14
  have h11 : P x14 := by
    unfold x14
    refine State.setVtime_writes (H.sub rfl) ?_
    exact h10
  extract_lets +onlyGivenNames x15
  have h12 : P x15 := by
    unfold x15
    refine State.setVtime_writes (H.sub rfl) ?_
    exact h11
  extract_lets +onlyGivenNames x16
  have h13 : (∀ (z0 : Nat) (z1 : State), P z1 → P (x16 z0 z1)) := by
    intro n10 n11 n12
    unfold x16
    refine State.setChild_writes (H.sub rfl) ?_
    exact n12
  clear_value x16
  extract_lets +onlyGivenNames x17
  have h14 : P x17 := by
    unfold x17
    refine h13 _ _ ?_
    refine h13 _ _ ?_
    refine h13 _ _ ?_
    exact h12
  extract_lets +onlyGivenNames x18
  have h15 : P x18 := by
    unfold x18
    refine State.debitNode_writes (H.sub rfl) ?_
    refine State.debitNode_writes (H.sub rfl) ?_
    refine State.debitNode_writes (H.sub rfl) ?_
    exact h14
  split
  · rename_i v10 v11 v12 v13
    have h16 : P v11 := keep_fst v13 (by
      split
      · split
        · rename_i v14 v15 v16 v17
          have h17 : P v15 := keep_fst v17 (by
            refine State.tcCorrect_writes (H.sub rfl) ?_
            exact h15)
          refine keep_mk1 ?_
          refine keep_ite ?_ ?_
          · refine State.ptpRecord_writes (H.sub rfl) ?_
            exact h17
          · exact h17
      · refine keep_mk1 ?_
        exact h15)
    extract_lets +onlyGivenNames x19
    extract_lets +onlyGivenNames x20
    extract_lets +onlyGivenNames x21
    extract_lets +onlyGivenNames x22
    have h18 : P x22 := by
      unfold x22
      refine H.set_pk rfl   ?_
      exact h16
    extract_lets +onlyGivenNames x23
    have h19 : P x23 := by
      unfold x23
      refine State.discharge_writes (H.sub rfl) ?_
      refine State.countPair_writes (H.sub rfl) ?_
      exact h18
    extract_lets +onlyGivenNames x24
    have h20 : P x24 := by
      unfold x24
      split
      · refine State.countPair_writes (H.sub rfl) ?_
        exact h19
      · refine State.mirrorAt_writes (H.sub rfl) ?_
        exact h19
    refine State.contend_writes (H.sub rfl) ?_
    exact h20

theorem execEgressSelect_writes {P : State → Prop} {a0 : Fin 96} {a1 : Fin 1000} {a2 : State} (H : Stable P 2654219) (h2 : P a2) :
    OutP P (execEgressSelect a0 a1 a2) := by
  unfold execEgressSelect
  extract_lets +onlyGivenNames x10
  have h10 : P x10 := by
    unfold x10
    refine State.at__writes (H.sub rfl) ?_
    exact h2
  refine outP_next ?_
  refine keep_ite ?_ ?_
  · extract_lets +onlyGivenNames x11
    have h11 : P x11 := by
      unfold x11
      refine State.contend_writes (H.sub rfl) ?_
      exact h10
    split
    · split
      · refine State.transmit_writes (H.sub rfl) ?_
        refine State.setQueue_writes (H.sub rfl) ?_
        exact h11
      · exact h11
    · exact h11
  · exact h10

theorem execGateEntryStart_writes {P : State → Prop} {a0 : Fin 96} {a1 : Fin 1000} {a2 : State} (H : Stable P 2621443) (h2 : P a2) :
    OutP P (execGateEntryStart a0 a1 a2) := by
  unfold execGateEntryStart
  refine outP_next ?_
  refine State.contend_writes (H.sub rfl) ?_
  refine State.showGates_writes (H.sub rfl) ?_
  refine State.at__writes (H.sub rfl) ?_
  exact h2

theorem execLpiTxEnter_writes {P : State → Prop} {a0 : Fin 64} {a1 : State} (H : Stable P 2) (h1 : P a1) :
    OutP P (execLpiTxEnter a0 a1) := by
  unfold execLpiTxEnter
  extract_lets +onlyGivenNames x10
  refine outP_next ?_
  refine keep_ite ?_ ?_
  · refine State.showLpi_writes (H.sub rfl) ?_
    exact h1
  · exact h1

theorem execLpiTxWake_writes {P : State → Prop} {a0 : Fin 64} {a1 : State} (H : Stable P 2) (h1 : P a1) :
    OutP P (execLpiTxWake a0 a1) := by
  unfold execLpiTxWake
  refine outP_next ?_
  refine keep_ite ?_ ?_
  · refine State.showLpi_writes (H.sub rfl) ?_
    exact h1
  · exact h1

theorem execSchIndSelWrite_writes {P : State → Prop} {a0 : Word} {a1 : State} (H : Stable P 2) (h1 : P a1) :
    OutP P (execSchIndSelWrite a0 a1) := by
  unfold execSchIndSelWrite
  extract_lets +onlyGivenNames x10
  extract_lets +onlyGivenNames x11
  have h10 : P x11 := by
    unfold x11
    refine State.setF_writes (H.sub rfl) ?_
    refine State.setF_writes (H.sub rfl) ?_
    exact h1
  extract_lets +onlyGivenNames x12
  have h11 : P x12 := by
    unfold x12
    refine State.setF_writes (H.sub rfl) ?_
    exact h10
  extract_lets +onlyGivenNames x13
  extract_lets +onlyGivenNames x14
  have h12 : P x14 := by
    unfold x14
    refine State.setF_writes (H.sub rfl) ?_
    exact h11
  refine outP_next ?_
  refine forUp_keep ?_ ?_
  · intro n10 n11 n12
    refine State.wr_writes (H.sub rfl) ?_
    exact n12
  · exact h12

end Sys2Proof.Machine
end

