-- ==== Sys2Proof/Laws/WritesPipe.lean ====
section
/-! SUPPORT. Which components of the state each operation and command of Machine/Pipe.lean may write. -/

namespace Sys2Proof.Machine

theorem State.dropFr_writes {P : State → Prop} {a0 : State} {a1 : Nat} (H : Stable P 524288) (h0 : P a0) :
    P (State.dropFr a0 a1) := by
  unfold State.dropFr
  refine H.set_pk rfl   ?_
  exact h0

theorem State.countFrame_writes {P : State → Prop} {a0 : State} {a1 : Fr} (H : Stable P 2621440) (h0 : P a0) :
    P (State.countFrame a0 a1) := by
  unfold State.countFrame
  refine foldl_keep ?_ ?_
  · intro n10 n11 n12
    refine State.countPair_writes (H.sub rfl) ?_
    exact n12
  · exact h0

theorem State.learn_writes {P : State → Prop} {a0 : State} {a1 : Fr} (H : Stable P 524290) (h0 : P a0) :
    P (State.learn a0 a1) := by
  unfold State.learn
  extract_lets +onlyGivenNames x10
  extract_lets +onlyGivenNames x11
  extract_lets +onlyGivenNames x12
  refine keep_ite ?_ ?_
  · exact h0
  · extract_lets +onlyGivenNames x13
    refine keep_ite ?_ ?_
    · refine keep_ite ?_ ?_
      · exact h0
      · refine State.count_writes (H.sub rfl) ?_
        exact h0
    · extract_lets +onlyGivenNames x14
      extract_lets +onlyGivenNames x15
      have h10 : P x15 := by
        unfold x15
        refine H.set_pk rfl   ?_
        exact h0
      extract_lets +onlyGivenNames x16
      refine keep_ite ?_ ?_
      · refine State.count_writes (H.sub rfl) ?_
        exact h10
      · refine H.set_pk rfl   ?_
        exact h10

theorem State.endPass_writes {P : State → Prop} {a0 : State} {a1 : Fr} (H : Stable P 2621442) (h0 : P a0) :
    P (State.endPass a0 a1) := by
  unfold State.endPass
  extract_lets +onlyGivenNames x10
  have h10 : P x10 := by
    unfold x10
    refine State.dropFr_writes (H.sub rfl) ?_
    refine keep_ite ?_ ?_
    · exact h0
    · refine State.learn_writes (H.sub rfl) ?_
      exact h0
  extract_lets +onlyGivenNames x11
  have h11 : P x11 := by
    unfold x11
    refine keep_ite ?_ ?_
    · refine foldl_keep ?_ ?_
      · intro n10 n11 n12
        refine State.enqueue_writes (H.sub rfl) ?_
        exact n12
      · refine State.countFrame_writes (H.sub rfl) ?_
        exact h10
    · exact h10
  extract_lets +onlyGivenNames x12
  have h12 : P x12 := by
    unfold x12
    refine State.mirrorAt_writes (H.sub rfl) ?_
    exact h11
  refine keep_ite ?_ ?_
  · refine State.mirrorAt_writes (H.sub rfl) ?_
    exact h12
  · exact h12

theorem State.handOff_writes {P : State → Prop} {a0 : State} {a1 : Fr} (H : Stable P 2654218) (h0 : P a0) :
    P (State.handOff a0 a1).1 := by
  unfold State.handOff
  split
  · extract_lets +onlyGivenNames x10
    extract_lets +onlyGivenNames x11
    extract_lets +onlyGivenNames x12
    split
    · extract_lets +onlyGivenNames x13
      have h10 : P x13 := by
        unfold x13
        refine State.countFrame_writes (H.sub rfl) ?_
        exact h0
      split
      · rename_i v10 v11 v12 v13
        have h11 : P v11 := keep_fst v13 (by
          refine State.enqueue_writes (H.sub rfl) ?_
          exact h10)
        split
        · refine keep_mk1 ?_
          refine State.transmit_writes (H.sub rfl) ?_
          refine State.setQueue_writes (H.sub rfl) ?_
          exact h11
        · refine keep_mk1 ?_
          exact h11
    · refine keep_mk1 ?_
      exact h0
  · refine keep_mk1 ?_
    exact h0

theorem State.goOn_writes {P : State → Prop} {a0 : State} {a1 : Fr} {a2 : Outc} (H : Stable P 2654218) (h0 : P a0) :
    P (State.goOn a0 a1 a2).1 := by
  unfold State.goOn
  extract_lets +onlyGivenNames x10
  split
  · refine keep_mk1 ?_
    refine State.countFrame_writes (H.sub rfl) ?_
    exact h0
  · refine State.handOff_writes (H.sub rfl) ?_
    exact h0

theorem State.decision_writes {P : State → Prop} {a0 : State} {a1 : Fr} (H : Stable P 2) (h0 : P a0) :
    P (State.decision a0 a1).1 := by
  unfold State.decision
  extract_lets +onlyGivenNames x10
  extract_lets +onlyGivenNames x11
  have h10 : (∀ (z0 : List Nat), P (x11 z0).1) := by
    intro n10
    unfold x11
    refine keep_mk1 ?_
    refine State.count_writes (H.sub rfl) ?_
    exact h0
  clear_value x11
  extract_lets +onlyGivenNames x12
  extract_lets +onlyGivenNames x13
  split
  · refine keep_mk1 ?_
    exact h0
  · split
    · refine keep_mk1 ?_
      refine State.count_writes (H.sub rfl) ?_
      exact h0
    · split
      · refine keep_mk1 ?_
        exact h0
      · split
        · split
          · refine keep_mk1 ?_
            exact h0
          · extract_lets +onlyGivenNames x14
            extract_lets +onlyGivenNames x15
            split
            · refine h10 _
            · split
              · refine keep_mk1 ?_
                exact h0
              · extract_lets +onlyGivenNames x16
                split
                · refine h10 _
                · extract_lets +onlyGivenNames x17
                  extract_lets +onlyGivenNames x18
                  refine keep_mk1 ?_
                  exact h0
        · split
          · refine keep_mk1 ?_
            exact h0
          · extract_lets +onlyGivenNames x19
            extract_lets +onlyGivenNames x20
            split
            · refine h10 _
            · split
              · refine keep_mk1 ?_
                exact h0
              · extract_lets +onlyGivenNames x21
                split
                · refine h10 _
                · extract_lets +onlyGivenNames x22
                  extract_lets +onlyGivenNames x23
                  refine keep_mk1 ?_
                  exact h0

theorem State.setPolLevel_writes {P : State → Prop} {a0 : State} {a1 : Nat} {a2 : Nat} {a3 : Int} (H : Stable P 524288) (h0 : P a0) :
    P (State.setPolLevel a0 a1 a2 a3) := by
  unfold State.setPolLevel
  refine State.setPolBucket_writes (H.sub rfl) ?_
  exact h0

theorem State.polMove_writes {P : State → Prop} {a0 : State} {a1 : Nat} {a2 : Int} {a3 : Int} (H : Stable P 524288) (h0 : P a0) :
    P (State.polMove a0 a1 a2 a3) := by
  unfold State.polMove
  extract_lets +onlyGivenNames x10
  have h10 : P x10 := by
    unfold x10
    refine State.setPolLevel_writes (H.sub rfl) ?_
    exact h0
  refine State.setPolLevel_writes (H.sub rfl) ?_
  exact h10

theorem State.police_writes {P : State → Prop} {a0 : State} {a1 : Nat} {a2 : Nat} {a3 : Outc} (H : Stable P 524296) (h0 : P a0) :
    P (State.police a0 a1 a2 a3).1 := by
  unfold State.police
  extract_lets +onlyGivenNames x10
  extract_lets +onlyGivenNames x11
  extract_lets +onlyGivenNames x12
  extract_lets +onlyGivenNames x13
  extract_lets +onlyGivenNames x14
  extract_lets +onlyGivenNames x15
  extract_lets +onlyGivenNames x16
  have h10 : P x16 := by
    unfold x16
    refine keep_ite ?_ ?_
    · refine State.drawn_writes (H.sub rfl) ?_
      exact h0
    · exact h0
  extract_lets +onlyGivenNames x17
  have h11 : P x17 := by
    unfold x17
    refine State.polMove_writes (H.sub rfl) ?_
    exact h10
  extract_lets +onlyGivenNames x18
  extract_lets +onlyGivenNames x19
  split
  · refine keep_mk1 ?_
    exact h11
  · refine keep_mk1 ?_
    exact h11

theorem State.outcome_writes {P : State → Prop} {a0 : State} {a1 : Fr} (H : Stable P 524298) (h0 : P a0) :
    P (State.outcome a0 a1).1 := by
  unfold State.outcome
  split
  · rename_i v10 v11 v12 v13 v14
    have h10 : P v11 := keep_fst v14 (by
      refine State.decision_writes (H.sub rfl) ?_
      exact h0)
    refine State.police_writes (H.sub rfl) ?_
    exact h10
  · rename_i v15 v16 v17 v18
    have h11 : P v16 := keep_fst v18 (by
      refine State.decision_writes (H.sub rfl) ?_
      exact h0)
    refine keep_mk1 ?_
    exact h11

theorem State.putFr_writes {P : State → Prop} {a0 : State} {a1 : Fr} (H : Stable P 524288) (h0 : P a0) :
    P (State.putFr a0 a1) := by
  unfold State.putFr
  refine keep_ite ?_ ?_
  · refine H.set_pk rfl   ?_
    exact h0
  · refine H.set_pk rfl   ?_
    exact h0

theorem State.enterDecision_writes {P : State → Prop} {a0 : State} {a1 : Fr} (H : Stable P 2654218) (h0 : P a0) :
    P (State.enterDecision a0 a1) := by
  unfold State.enterDecision
  split
  · rename_i v10 v11 v12 v13
    have h10 : P v11 := keep_fst v13 (by
      refine State.outcome_writes (H.sub rfl) ?_
      exact h0)
    split
    · rename_i v14 v15 v16 v17
      have h11 : P v15 := keep_fst v17 (by
        refine State.goOn_writes (H.sub rfl) ?_
        exact h10)
      refine keep_ite ?_ ?_
      · refine State.endPass_writes (H.sub rfl) ?_
        exact h11
      · refine State.putFr_writes (H.sub rfl) ?_
        exact h11

theorem State.showParked_writes {P : State → Prop} {a0 : State} {a1 : Nat} (H : Stable P 2) (h0 : P a0) :
    P (State.showParked a0 a1) := by
  unfold State.showParked
  refine State.setF_writes (H.sub rfl) ?_
  exact h0

theorem State.setLines_writes {P : State → Prop} {a0 : State} {a1 : Nat} {a2 : List Line} (H : Stable P 524288) (h0 : P a0) :
    P (State.setLines a0 a1 a2) := by
  unfold State.setLines
  refine H.set_pk rfl   ?_
  exact h0

theorem State.useLine_writes {P : State → Prop} {a0 : State} {a1 : Nat} {a2 : Line} (H : Stable P 524288) (h0 : P a0) :
    P (State.useLine a0 a1 a2) := by
  unfold State.useLine
  extract_lets +onlyGivenNames x10
  refine State.setLines_writes (H.sub rfl) ?_
  exact h0

theorem State.enterPipe_writes {P : State → Prop} {a0 : State} {a1 : Fr} (H : Stable P 2654218) (h0 : P a0) :
    OptP P (State.enterPipe a0 a1) := by
  unfold State.enterPipe
  extract_lets +onlyGivenNames x10
  extract_lets +onlyGivenNames x11
  extract_lets +onlyGivenNames x12
  extract_lets +onlyGivenNames x13
  extract_lets +onlyGivenNames x14
  extract_lets +onlyGivenNames x15
  extract_lets +onlyGivenNames x16
  extract_lets +onlyGivenNames x17
  extract_lets +onlyGivenNames x18
  extract_lets +onlyGivenNames x19
  extract_lets +onlyGivenNames x20
  extract_lets +onlyGivenNames x21
  split
  · exact optP_none
  · extract_lets +onlyGivenNames x22
    have h10 : P x22 := by
      unfold x22
      refine State.count_writes (H.sub rfl) ?_
      exact h0
    extract_lets +onlyGivenNames x23
    have h11 : P x23 := by
      unfold x23
      split
      · refine keep_ite ?_ ?_
        · refine State.ptpRecord_writes (H.sub rfl) ?_
          exact h10
        · exact h10
      · exact h10
    extract_lets +onlyGivenNames x24
    have h12 : P x24 := by
      unfold x24
      clear_value x15
      split
      · rename_i v10 v11 v12
        refine State.useLine_writes (H.sub rfl) ?_
        exact h11
      · rename_i v13 v14
        exact h11
    extract_lets +onlyGivenNames x25
    have h13 : P x25 := by
      unfold x25
      split
      · refine State.useLine_writes (H.sub rfl) ?_
        exact h12
      · exact h12
    extract_lets +onlyGivenNames x26
    have h14 : P x26 := by
      unfold x26
      refine State.count_writes (H.sub rfl) ?_
      exact h13
    extract_lets +onlyGivenNames x27
    extract_lets +onlyGivenNames x28
    extract_lets +onlyGivenNames x29
    have h15 : P x29 := by
      unfold x29
      refine keep_ite ?_ ?_
      · exact h13
      · refine H.set_pk rfl   ?_
        exact h14
    extract_lets +onlyGivenNames x30
    have h16 : P x30 := by
      unfold x30
      refine keep_ite ?_ ?_
      · refine State.count_writes (H.sub rfl) ?_
        exact h15
      · exact h15
    split
    · refine optP_some ?_
      refine State.enterDecision_writes (H.sub rfl) ?_
      exact h16
    · refine optP_some ?_
      refine State.showParked_writes (H.sub rfl) ?_
      refine State.putFr_writes (H.sub rfl) ?_
      exact h16

theorem State.drain_writes {P : State → Prop} {a0 : Nat} {a1 : Nat} {a2 : State} (H : Stable P 2654218) (h2 : P a2) :
    P (State.drain a0 a1 a2) := by
  induction a1 generalizing a2
  · unfold State.drain
    exact h2
  · rename_i v10 v11
    unfold State.drain
    split
    · split
      · rename_i v12 v13 v14
        have h10 : P v13 := keep_some v14 (by
          refine State.enterPipe_writes (H.sub rfl) ?_
          refine State.dropFr_writes (H.sub rfl) ?_
          exact h2)
        extract_lets +onlyGivenNames x10
        have h11 : P x10 := by
          unfold x10
          refine keep_ite ?_ ?_
          · split
            · refine State.putFr_writes (H.sub rfl) ?_
              refine State.learn_writes (H.sub rfl) ?_
              exact h10
            · exact h10
          · exact h10
        refine v11 ?_
        exact h11
      · rename_i v15 v16
        exact h2
    · exact h2

theorem State.release_writes {P : State → Prop} {a0 : Nat} {a1 : Nat} {a2 : State} (H : Stable P 2654218) (h2 : P a2) :
    P (State.release a0 a1 a2) := by
  induction a1 generalizing a2
  · unfold State.release
    refine State.showParked_writes (H.sub rfl) ?_
    exact h2
  · rename_i v10 v11
    unfold State.release
    extract_lets +onlyGivenNames x10
    split
    · refine v11 ?_
      refine State.enterDecision_writes (H.sub rfl) ?_
      refine State.dropFr_writes (H.sub rfl) ?_
      exact h2
    · refine State.showParked_writes (H.sub rfl) ?_
      exact h2

theorem State.advance_writes {P : State → Prop} {a0 : State} {a1 : Nat} (H : Stable P 2654218) (h0 : P a0) :
    P (State.advance a0 a1) := by
  unfold State.advance
  extract_lets +onlyGivenNames x10
  have h10 : P x10 := by
    unfold x10
    refine State.release_writes (H.sub rfl) ?_
    exact h0
  refine State.drain_writes (H.sub rfl) ?_
  exact h10

theorem State.bufferClear_writes {P : State → Prop} {a0 : State} (H : Stable P 524290) (h0 : P a0) :
    P (State.bufferClear a0) := by
  unfold State.bufferClear
  refine foldl_keep ?_ ?_
  · intro n10 n11 n12
    extract_lets +onlyGivenNames x10
    refine foldl_keep ?_ ?_
    · intro n13 n14 n15
      refine State.discharge_writes (H.sub rfl) ?_
      exact n15
    · refine State.setQueue_writes (H.sub rfl) ?_
      exact n12
  · exact h0

theorem State.dropLine_writes {P : State → Prop} {a0 : State} {a1 : Nat} {a2 : Nat} {a3 : Nat} (H : Stable P 524288) (h0 : P a0) :
    P (State.dropLine a0 a1 a2 a3) := by
  unfold State.dropLine
  extract_lets +onlyGivenNames x10
  refine State.setLines_writes (H.sub rfl) ?_
  exact h0

theorem State.stomp_writes {P : State → Prop} {a0 : State} {a1 : Fr} {a2 : Nat} (H : Stable P 524290) (h0 : P a0) :
    P (State.stomp a0 a1 a2) := by
  unfold State.stomp
  extract_lets +onlyGivenNames x10
  extract_lets +onlyGivenNames x11
  extract_lets +onlyGivenNames x12
  have h10 : P x12 := by
    unfold x12
    refine H.set_pk rfl   ?_
    exact h0
  refine State.dropFr_writes (H.sub rfl) ?_
  refine State.count_writes (H.sub rfl) ?_
  exact h10

theorem State.undebit_writes {P : State → Prop} {a0 : State} {a1 : Outc} (H : Stable P 524288) (h0 : P a0) :
    P (State.undebit a0 a1) := by
  unfold State.undebit
  split
  · refine State.polMove_writes (H.sub rfl) ?_
    exact h0
  · exact h0

theorem State.endFail_writes {P : State → Prop} {a0 : State} {a1 : Fr} {a2 : Nat} (H : Stable P 524290) (h0 : P a0) :
    P (State.endFail a0 a1 a2) := by
  unfold State.endFail
  split
  · refine State.stomp_writes (H.sub rfl) ?_
    exact h0
  · refine State.dropFr_writes (H.sub rfl) ?_
    refine State.undebit_writes (H.sub rfl) ?_
    exact h0
  · refine State.dropFr_writes (H.sub rfl) ?_
    exact h0

theorem State.fcsError_writes {P : State → Prop} {a0 : State} {a1 : Nat} (H : Stable P 524288) (h0 : P a0) :
    P (State.fcsError a0 a1) := by
  unfold State.fcsError
  refine H.set_pk rfl   ?_
  exact h0

theorem State.fillLine_writes {P : State → Prop} {a0 : State} {a1 : Nat} {a2 : Nat} {a3 : Nat} {a4 : Option FEntry} (H : Stable P 524288) (h0 : P a0) :
    P (State.fillLine a0 a1 a2 a3 a4) := by
  unfold State.fillLine
  refine State.useLine_writes (H.sub rfl) ?_
  exact h0

theorem State.ingressStop_writes {P : State → Prop} {a0 : State} (H : Stable P 524290) (h0 : P a0) :
    P (State.ingressStop a0) := by
  unfold State.ingressStop
  extract_lets +onlyGivenNames x10
  have h10 : P x10 := by
    unfold x10
    refine foldl_keep ?_ ?_
    · intro n10 n11 n12
      refine keep_ite ?_ ?_
      · refine State.endFail_writes (H.sub rfl) ?_
        exact n12
      · exact n12
    · exact h0
  refine forUp_keep ?_ ?_
  · intro n13 n14 n15
    refine State.showParked_writes (H.sub rfl) ?_
    exact n15
  · exact h10

theorem State.replay_writes {P : State → Prop} {a0 : State} {a1 : Fr} (H : Stable P 2621450) (h0 : P a0) :
    P (State.replay a0 a1) := by
  unfold State.replay
  extract_lets +onlyGivenNames x10
  extract_lets +onlyGivenNames x11
  split
  · rename_i v10 v11 v12 v13
    have h10 : P v11 := keep_fst v13 (by
      refine State.outcome_writes (H.sub rfl) ?_
      refine State.undebit_writes (H.sub rfl) ?_
      exact h0)
    extract_lets +onlyGivenNames x12
    have h11 : P x12 := by
      unfold x12
      refine State.count_writes (H.sub rfl) ?_
      exact h10
    extract_lets +onlyGivenNames x13
    have h12 : P x13 := by
      unfold x13
      refine keep_ite ?_ ?_
      · exact h11
      · refine State.count_writes (H.sub rfl) ?_
        exact h11
    extract_lets +onlyGivenNames x14
    refine keep_ite ?_ ?_
    · refine State.putFr_writes (H.sub rfl) ?_
      refine State.countFrame_writes (H.sub rfl) ?_
      exact h12
    · refine State.putFr_writes (H.sub rfl) ?_
      exact h12

theorem State.invalidate_writes {P : State → Prop} {a0 : State} {a1 : Nat} {a2 : Nat} {a3 : Nat} (H : Stable P 2621450) (h0 : P a0) :
    P (State.invalidate a0 a1 a2 a3) := by
  unfold State.invalidate
  extract_lets +onlyGivenNames x10
  have h10 : P x10 := by
    unfold x10
    refine State.dropLine_writes (H.sub rfl) ?_
    exact h0
  refine foldl_keep ?_ ?_
  · intro n10 n11 n12
    refine keep_ite ?_ ?_
    · extract_lets +onlyGivenNames x11
      have h11 : P x11 := by
        unfold x11
        refine State.count_writes (H.sub rfl) ?_
        exact n12
      extract_lets +onlyGivenNames x12
      refine keep_ite ?_ ?_
      · refine State.replay_writes (H.sub rfl) ?_
        exact h11
      · refine State.putFr_writes (H.sub rfl) ?_
        exact h11
    · exact n12
  · exact h10

theorem State.replayAll_writes {P : State → Prop} {a0 : State} (H : Stable P 2621450) (h0 : P a0) :
    P (State.replayAll a0) := by
  unfold State.replayAll
  refine foldl_keep ?_ ?_
  · intro n10 n11 n12
    split
    · refine State.putFr_writes (H.sub rfl) ?_
      exact n12
    · refine State.replay_writes (H.sub rfl) ?_
      exact n12
    · exact n12
  · exact h0

theorem State.stageClear_writes {P : State → Prop} {a0 : State} {a1 : Nat} (H : Stable P 2654218) (h0 : P a0) :
    P (State.stageClear a0 a1) := by
  unfold State.stageClear
  extract_lets +onlyGivenNames x10
  have h10 : P x10 := by
    unfold x10
    refine foldl_keep ?_ ?_
    · intro n10 n11 n12
      refine keep_ite ?_ ?_
      · refine State.count_writes (H.sub rfl) ?_
        refine State.dropFr_writes (H.sub rfl) ?_
        refine State.undebit_writes (H.sub rfl) ?_
        exact n12
      · exact n12
    · exact h0
  refine State.advance_writes (H.sub rfl) ?_
  refine State.showParked_writes (H.sub rfl) ?_
  exact h10

theorem execCellarReadAnswer_writes {P : State → Prop} {a0 : Nat} {a1 : Fin 1000} {a2 : State} (H : Stable P 2654219) (h2 : P a2) :
    OutP P (execCellarReadAnswer a0 a1 a2) := by
  unfold execCellarReadAnswer
  extract_lets +onlyGivenNames x10
  have h10 : P x10 := by
    unfold x10
    refine State.at__writes (H.sub rfl) ?_
    exact h2
  refine outP_next ?_
  split
  · exact h10
  · extract_lets +onlyGivenNames x11
    extract_lets +onlyGivenNames x12
    have h11 : P x12 := by
      unfold x12
      refine H.set_pk rfl   ?_
      exact h10
    extract_lets +onlyGivenNames x13
    extract_lets +onlyGivenNames x14
    extract_lets +onlyGivenNames x15
    extract_lets +onlyGivenNames x16
    have h12 : P x16 := by
      unfold x16
      refine foldl_keep ?_ ?_
      · intro n10 n11 n12
        refine State.fillLine_writes (H.sub rfl) ?_
        exact n12
      · exact h11
    split
    · exact h12
    · extract_lets +onlyGivenNames x17
      extract_lets +onlyGivenNames x18
      refine State.advance_writes (H.sub rfl) ?_
      refine State.putFr_writes (H.sub rfl) ?_
      exact h12

theorem execFrameEnd_writes {P : State → Prop} {a0 : Fin 96} {a1 : FrameEnd} {a2 : Fin 1000} {a3 : State} (H : Stable P 2654219) (h3 : P a3) :
    OutP P (execFrameEnd a0 a1 a2 a3) := by
  unfold execFrameEnd
  extract_lets +onlyGivenNames x10
  have h10 : P x10 := by
    unfold x10
    refine State.at__writes (H.sub rfl) ?_
    exact h3
  extract_lets +onlyGivenNames x11
  refine outP_next ?_
  split
  · exact h10
  · split
    · refine keep_ite ?_ ?_
      · refine State.putFr_writes (H.sub rfl) ?_
        exact h10
      · refine keep_ite ?_ ?_
        · refine State.putFr_writes (H.sub rfl) ?_
          refine State.learn_writes (H.sub rfl) ?_
          exact h10
        · refine State.endPass_writes (H.sub rfl) ?_
          exact h10
    · refine State.advance_writes (H.sub rfl) ?_
      refine State.fcsError_writes (H.sub rfl) ?_
      refine State.endFail_writes (H.sub rfl) ?_
      exact h10
    · refine State.advance_writes (H.sub rfl) ?_
      refine State.count_writes (H.sub rfl) ?_
      refine State.endFail_writes (H.sub rfl) ?_
      exact h10

theorem execFrameIngress_writes {P : State → Prop} {a0 : Fin 96} {a1 : List Byte} {a2 : Fin 1000} {a3 : Nat} {a4 : State} (H : Stable P 2719755) (h4 : P a4) :
    OutP P (execFrameIngress a0 a1 a2 a3 a4) := by
  unfold execFrameIngress
  extract_lets +onlyGivenNames x10
  have h10 : P x10 := by
    unfold x10
    refine State.at__writes (H.sub rfl) ?_
    exact h4
  extract_lets +onlyGivenNames x11
  refine outP_next ?_
  refine keep_ite ?_ ?_
  · split
    · rename_i v10 v11 v12 v13
      have h11 : P v12 := keep_snd v13 (by
        refine State.freshId_writes (H.sub rfl) ?_
        exact h10)
      extract_lets +onlyGivenNames x12
      extract_lets +onlyGivenNames x13
      extract_lets +onlyGivenNames x14
      have h12 : P x14 := by
        unfold x14
        refine H.set_thm rfl   ?_
        exact h11
      extract_lets +onlyGivenNames x15
      extract_lets +onlyGivenNames x16
      extract_lets +onlyGivenNames x17
      refine keep_ite ?_ ?_
      · refine getD_keep ?_ ?_
        · refine State.enterPipe_writes (H.sub rfl) ?_
          exact h12
        · refine State.putFr_writes (H.sub rfl) ?_
          exact h12
      · refine keep_ite ?_ ?_
        · refine State.count_writes (H.sub rfl) ?_
          exact h12
        · refine State.putFr_writes (H.sub rfl) ?_
          exact h12
  · exact h10

theorem execIngressFailAfterCommit_writes {P : State → Prop} {a0 : Fin 96} {a1 : Nat} {a2 : Fin 1000} {a3 : State} (H : Stable P 524291) (h3 : P a3) :
    OutP P (execIngressFailAfterCommit a0 a1 a2 a3) := by
  unfold execIngressFailAfterCommit
  extract_lets +onlyGivenNames x10
  have h10 : P x10 := by
    unfold x10
    refine State.at__writes (H.sub rfl) ?_
    exact h3
  refine outP_next ?_
  split
  · refine keep_ite ?_ ?_
    · refine State.fcsError_writes (H.sub rfl) ?_
      refine State.stomp_writes (H.sub rfl) ?_
      exact h10
    · exact h10
  · exact h10

theorem execReadLimitExpiry_writes {P : State → Prop} {a0 : Nat} {a1 : Fin 1000} {a2 : State} (H : Stable P 2662667) (h2 : P a2) :
    OutP P (execReadLimitExpiry a0 a1 a2) := by
  unfold execReadLimitExpiry
  extract_lets +onlyGivenNames x10
  have h10 : P x10 := by
    unfold x10
    refine State.at__writes (H.sub rfl) ?_
    exact h2
  extract_lets +onlyGivenNames x11
  refine outP_next ?_
  split
  · exact h10
  · extract_lets +onlyGivenNames x12
    extract_lets +onlyGivenNames x13
    have h11 : P x13 := by
      unfold x13
      refine H.set_pk rfl   ?_
      exact h10
    extract_lets +onlyGivenNames x14
    have h12 : P x14 := by
      unfold x14
      refine State.raise_writes (H.sub rfl) ?_
      refine State.count_writes (H.sub rfl) ?_
      exact h11
    split
    · exact h12
    · extract_lets +onlyGivenNames x15
      refine State.advance_writes (H.sub rfl) ?_
      refine State.putFr_writes (H.sub rfl) ?_
      exact h12

end Sys2Proof.Machine
end

