-- ==== Sys2Proof/Laws/WritesTable.lean ====
section
/-! SUPPORT. Which components of the state each operation and command of Machine/Table.lean may write. -/

namespace Sys2Proof.Machine

theorem State.mirrorEntry_writes {P : State → Prop} {a0 : State} {a1 : Nat} {a2 : FEntry} (H : Stable P 1048578) (h0 : P a0) :
    P (State.mirrorEntry a0 a1 a2) := by
  unfold State.mirrorEntry
  refine State.mirrorOut_writes (H.sub rfl) ?_
  exact h0

theorem State.setRehash_writes {P : State → Prop} {a0 : State} {a1 : Nat} {a2 : Option RehashRun} (H : Stable P 524288) (h0 : P a0) :
    P (State.setRehash a0 a1 a2) := by
  unfold State.setRehash
  refine H.set_pk rfl   ?_
  exact h0

theorem State.setReason_writes {P : State → Prop} {a0 : State} {a1 : Nat} {a2 : Nat} (H : Stable P 18) (h0 : P a0) :
    P (State.setReason a0 a1 a2) := by
  unfold State.setReason
  extract_lets +onlyGivenNames x10
  have h10 : P x10 := by
    unfold x10
    refine State.setF_writes (H.sub rfl) ?_
    exact h0
  refine keep_ite ?_ ?_
  · refine State.attn_writes (H.sub rfl) ?_
    exact h10
  · refine keep_ite ?_ ?_
    · exact h10
    · refine State.attnClear_writes (H.sub rfl) ?_
      exact h10

theorem State.setStash_writes {P : State → Prop} {a0 : State} {a1 : Nat} {a2 : List FEntry} (H : Stable P 524306) (h0 : P a0) :
    P (State.setStash a0 a1 a2) := by
  unfold State.setStash
  extract_lets +onlyGivenNames x10
  extract_lets +onlyGivenNames x11
  extract_lets +onlyGivenNames x12
  extract_lets +onlyGivenNames x13
  have h10 : P x13 := by
    unfold x13
    refine H.set_pk rfl   ?_
    exact h0
  extract_lets +onlyGivenNames x14
  have h11 : P x14 := by
    unfold x14
    refine State.setF_writes (H.sub rfl) ?_
    exact h10
  refine keep_ite ?_ ?_
  · refine State.setReason_writes (H.sub rfl) ?_
    exact h11
  · refine keep_ite ?_ ?_
    · refine State.setReason_writes (H.sub rfl) ?_
      exact h11
    · exact h11

theorem State.setStashOf_writes {P : State → Prop} {a0 : State} {a1 : Nat} {a2 : Side} {a3 : List FEntry} (H : Stable P 524306) (h0 : P a0) :
    P (State.setStashOf a0 a1 a2 a3) := by
  unfold State.setStashOf
  split
  · refine State.setStash_writes (H.sub rfl) ?_
    exact h0
  · split
    · refine State.setRehash_writes (H.sub rfl) ?_
      exact h0
    · exact h0

theorem State.writeChain_writes {P : State → Prop} {a0 : State} {a1 : Nat} {a2 : List (Nat × FEntry)} (H : Stable P 2621450) (h0 : P a0) :
    P (State.writeChain a0 a1 a2) := by
  unfold State.writeChain
  extract_lets +onlyGivenNames x10
  have h10 : P x10 := by
    unfold x10
    refine foldl_keep ?_ ?_
    · intro n10 n11 n12
      refine State.setEntry_writes (H.sub rfl) ?_
      exact n12
    · exact h0
  refine foldl_keep ?_ ?_
  · intro n13 n14 n15
    refine State.invalidate_writes (H.sub rfl) ?_
    exact n15
  · exact h10

theorem State.insertNew_writes {P : State → Prop} {a0 : State} {a1 : Nat} {a2 : Side} {a3 : FEntry} (H : Stable P 2621466) (h0 : P a0) :
    P (State.insertNew a0 a1 a2 a3).1 := by
  unfold State.insertNew
  split
  · refine keep_mk1 ?_
    refine State.writeChain_writes (H.sub rfl) ?_
    exact h0
  · extract_lets +onlyGivenNames x10
    split
    · refine keep_mk1 ?_
      exact h0
    · extract_lets +onlyGivenNames x11
      have h10 : P x11 := by
        unfold x11
        refine State.setStashOf_writes (H.sub rfl) ?_
        refine State.writeChain_writes (H.sub rfl) ?_
        exact h0
      refine keep_mk1 ?_
      refine State.invalidate_writes (H.sub rfl) ?_
      exact h10

theorem State.putEntry_writes {P : State → Prop} {a0 : State} {a1 : Nat} {a2 : Side} {a3 : FEntry} (H : Stable P 2621466) (h0 : P a0) :
    P (State.putEntry a0 a1 a2 a3).1 := by
  unfold State.putEntry
  split
  · refine keep_mk1 ?_
    refine State.invalidate_writes (H.sub rfl) ?_
    refine State.setEntry_writes (H.sub rfl) ?_
    exact h0
  · extract_lets +onlyGivenNames x10
    refine keep_mk1 ?_
    refine State.invalidate_writes (H.sub rfl) ?_
    refine State.setStashOf_writes (H.sub rfl) ?_
    exact h0
  · refine State.insertNew_writes (H.sub rfl) ?_
    exact h0

theorem State.recount_writes {P : State → Prop} {a0 : State} {a1 : Nat} (H : Stable P 2) (h0 : P a0) :
    P (State.recount a0 a1) := by
  unfold State.recount
  extract_lets +onlyGivenNames x10
  extract_lets +onlyGivenNames x11
  have h10 : P x11 := by
    unfold x11
    refine State.setF_writes (H.sub rfl) ?_
    exact h0
  extract_lets +onlyGivenNames x12
  have h11 : P x12 := by
    unfold x12
    refine State.setF_writes (H.sub rfl) ?_
    exact h10
  refine forUp_keep ?_ ?_
  · intro n10 n11 n12
    refine keep_ite ?_ ?_
    · refine State.setF_writes (H.sub rfl) ?_
      exact n12
    · exact n12
  · exact h11

theorem State.putAll_writes {P : State → Prop} {a0 : State} {a1 : Nat} {a2 : FEntry} (H : Stable P 2621466) (h0 : P a0) :
    P (State.putAll a0 a1 a2).1 := by
  unfold State.putAll
  split
  · rename_i v10 v11 v12 v13
    have h10 : P v11 := keep_fst v13 (by
      refine foldl_keep1 ?_ ?_
      · intro n10 n11 n12
        split
        · rename_i v14 v15 v16 v17
          have h11 : P v15 := keep_fst v17 (by
            refine State.putEntry_writes (H.sub rfl) ?_
            exact n12)
          refine keep_mk1 ?_
          exact h11
      · refine keep_mk1 ?_
        exact h0)
    refine keep_mk1 ?_
    refine State.recount_writes (H.sub rfl) ?_
    exact h10

theorem State.fdbInsert_writes {P : State → Prop} {a0 : State} {a1 : Nat} {a2 : Nat} {a3 : Nat} {a4 : Nat} {a5 : Bool} (H : Stable P 3670042) (h0 : P a0) :
    P (State.fdbInsert a0 a1 a2 a3 a4 a5).1 := by
  unfold State.fdbInsert
  split
  · split
    · refine keep_mk1 ?_
      exact h0
    · extract_lets +onlyGivenNames x10
      split
      · rename_i v10 v11 v12 v13
        have h10 : P v11 := keep_fst v13 (by
          refine State.putAll_writes (H.sub rfl) ?_
          exact h0)
        refine keep_mk1 ?_
        refine State.mirrorEntry_writes (H.sub rfl) ?_
        exact h10
  · split
    · refine keep_mk1 ?_
      exact h0
    · extract_lets +onlyGivenNames x11
      split
      · rename_i v14 v15 v16 v17
        have h11 : P v15 := keep_fst v17 (by
          refine State.putAll_writes (H.sub rfl) ?_
          refine State.drawn_writes (H.sub rfl) ?_
          exact h0)
        refine keep_mk1 ?_
        refine keep_ite ?_ ?_
        · exact h11
        · refine State.mirrorEntry_writes (H.sub rfl) ?_
          exact h11

theorem State.setLpm_writes {P : State → Prop} {a0 : State} {a1 : Nat} {a2 : Bool} {a3 : List LpmSlot} (H : Stable P 524290) (h0 : P a0) :
    P (State.setLpm a0 a1 a2 a3) := by
  unfold State.setLpm
  extract_lets +onlyGivenNames x10
  extract_lets +onlyGivenNames x11
  have h10 : P x11 := by
    unfold x11
    refine H.set_pk rfl   ?_
    exact h0
  refine State.setF_writes (H.sub rfl) ?_
  exact h10

theorem State.lpmAdd_writes {P : State → Prop} {a0 : State} {a1 : Nat} {a2 : Bool} {a3 : LpmSlot} (H : Stable P 524290) (h0 : P a0) :
    P (State.lpmAdd a0 a1 a2 a3).1 := by
  unfold State.lpmAdd
  extract_lets +onlyGivenNames x10
  split
  · extract_lets +onlyGivenNames x11
    refine keep_mk1 ?_
    refine State.setLpm_writes (H.sub rfl) ?_
    exact h0
  · extract_lets +onlyGivenNames x12
    extract_lets +onlyGivenNames x13
    extract_lets +onlyGivenNames x14
    split
    · extract_lets +onlyGivenNames x15
      refine keep_mk1 ?_
      refine State.setLpm_writes (H.sub rfl) ?_
      exact h0
    · refine keep_mk1 ?_
      exact h0

theorem State.lpmCutOut_writes {P : State → Prop} {a0 : State} {a1 : Nat} {a2 : Bool} {a3 : Nat} {a4 : Nat} (H : Stable P 524290) (h0 : P a0) :
    P (State.lpmCutOut a0 a1 a2 a3 a4).1 := by
  unfold State.lpmCutOut
  extract_lets +onlyGivenNames x10
  split
  · refine keep_mk1 ?_
    refine State.setLpm_writes (H.sub rfl) ?_
    exact h0
  · refine keep_mk1 ?_
    exact h0

theorem State.lpmPut_writes {P : State → Prop} {a0 : State} {a1 : Nat} {a2 : Bool} {a3 : Nat} {a4 : Nat} {a5 : Nat} (H : Stable P 524290) (h0 : P a0) :
    P (State.lpmPut a0 a1 a2 a3 a4 a5).1 := by
  unfold State.lpmPut
  extract_lets +onlyGivenNames x10
  extract_lets +onlyGivenNames x11
  split
  · refine keep_mk1 ?_
    refine State.setLpm_writes (H.sub rfl) ?_
    exact h0
  · split
    · rename_i v10 v11 v12 v13
      have h10 : P v11 := keep_fst v13 (by
        refine State.lpmAdd_writes (H.sub rfl) ?_
        exact h0)
      refine keep_mk1 ?_
      exact h10

theorem State.tblDone_writes {P : State → Prop} {a0 : State} {a1 : Req} {a2 : Desc} {a3 : Bool} {a4 : List (Nat × Nat)} {a5 : List Byte} (H : Stable P 18) (h0 : P a0) :
    P (State.tblDone a0 a1 a2 a3 a4 a5) := by
  unfold State.tblDone
  extract_lets +onlyGivenNames x10
  have h10 : P x10 := by
    unfold x10
    refine State.wr_writes (H.sub rfl) ?_
    exact h0
  extract_lets +onlyGivenNames x11
  refine State.finishBuf_writes (H.sub rfl) ?_
  exact h10

theorem State.rehashEnd_writes {P : State → Prop} {a0 : State} {a1 : Nat} {a2 : Option Req} {a3 : Nat} (H : Stable P 18) (h0 : P a0) :
    P (State.rehashEnd a0 a1 a2 a3) := by
  unfold State.rehashEnd
  split
  · refine State.tblDone_writes (H.sub rfl) ?_
    exact h0
  · exact h0

theorem State.rehashPlace_writes {P : State → Prop} {a0 : State} {a1 : Nat} {a2 : FEntry} (H : Stable P 2621466) (h0 : P a0) :
    P (State.rehashPlace a0 a1 a2) := by
  unfold State.rehashPlace
  split
  · rename_i v10 v11 v12 v13
    have h10 : P v11 := keep_fst v13 (by
      refine State.insertNew_writes (H.sub rfl) ?_
      exact h0)
    refine keep_ite ?_ ?_
    · split
      · refine State.setRehash_writes (H.sub rfl) ?_
        exact h10
      · exact h10
    · exact h10

theorem State.rehashStart_writes {P : State → Prop} {a0 : State} {a1 : Nat} {a2 : Nat} {a3 : Option Req} (H : Stable P 2621466) (h0 : P a0) :
    P (State.rehashStart a0 a1 a2 a3) := by
  unfold State.rehashStart
  extract_lets +onlyGivenNames x10
  have h10 : P x10 := by
    unfold x10
    refine State.cClear_writes (H.sub rfl) ?_
    exact h0
  extract_lets +onlyGivenNames x11
  have h11 : P x11 := by
    unfold x11
    refine State.setF_writes (H.sub rfl) ?_
    refine State.wr_writes (H.sub rfl) ?_
    exact h10
  extract_lets +onlyGivenNames x12
  have h12 : P x12 := by
    unfold x12
    refine keep_ite ?_ ?_
    · refine State.setReason_writes (H.sub rfl) ?_
      exact h11
    · exact h11
  extract_lets +onlyGivenNames x13
  have h13 : P x13 := by
    unfold x13
    refine State.setRehash_writes (H.sub rfl) ?_
    exact h12
  extract_lets +onlyGivenNames x14
  refine foldl_keep ?_ ?_
  · intro n10 n11 n12
    refine State.rehashPlace_writes (H.sub rfl) ?_
    exact n12
  · exact h13

theorem State.removeKey_writes {P : State → Prop} {a0 : State} {a1 : Nat} {a2 : Side} {a3 : Nat} {a4 : Nat} (H : Stable P 2621466) (h0 : P a0) :
    P (State.removeKey a0 a1 a2 a3 a4).1 := by
  unfold State.removeKey
  split
  · refine keep_mk1 ?_
    refine State.invalidate_writes (H.sub rfl) ?_
    refine State.clearEntry_writes (H.sub rfl) ?_
    exact h0
  · extract_lets +onlyGivenNames x10
    refine keep_mk1 ?_
    refine State.invalidate_writes (H.sub rfl) ?_
    refine State.setStashOf_writes (H.sub rfl) ?_
    exact h0
  · refine keep_mk1 ?_
    exact h0

theorem State.removeAll_writes {P : State → Prop} {a0 : State} {a1 : Nat} {a2 : Nat} {a3 : Nat} (H : Stable P 2621466) (h0 : P a0) :
    P (State.removeAll a0 a1 a2 a3).1 := by
  unfold State.removeAll
  split
  · rename_i v10 v11 v12 v13
    have h10 : P v11 := keep_fst v13 (by
      refine foldl_keep1 ?_ ?_
      · intro n10 n11 n12
        split
        · rename_i v14 v15 v16 v17
          have h11 : P v15 := keep_fst v17 (by
            refine State.removeKey_writes (H.sub rfl) ?_
            exact n12)
          refine keep_mk1 ?_
          exact h11
      · refine keep_mk1 ?_
        exact h0)
    refine keep_mk1 ?_
    refine State.recount_writes (H.sub rfl) ?_
    exact h10

theorem State.tableOp_writes {P : State → Prop} {a0 : State} {a1 : Nat} {a2 : Desc} {a3 : Nat} {a4 : Bool} {a5 : Bool} {a6 : Bool} {a7 : Req → State → State} (H : Stable P 18) (h0 : P a0) (h7 : (∀ (z0 : Req) (z1 : State), P z1 → P (a7 z0 z1))) :
    P (State.tableOp a0 a1 a2 a3 a4 a5 a6 a7) := by
  unfold State.tableOp
  refine State.launch_writes (H.sub rfl) ?_ ?_
  · exact h0
  · intro n10 n11 n12
    refine keep_ite ?_ ?_
    · refine State.finish_writes (H.sub rfl) ?_
      exact n12
    · refine keep_ite ?_ ?_
      · refine State.finish_writes (H.sub rfl) ?_
        exact n12
      · refine h7 _ _ ?_
        exact n12

theorem State.tryStash_writes {P : State → Prop} {a0 : State} {a1 : Nat} {a2 : Side} {a3 : FEntry} (H : Stable P 2621466) (h0 : P a0) :
    P (State.tryStash a0 a1 a2 a3) := by
  unfold State.tryStash
  split
  · extract_lets +onlyGivenNames x10
    refine State.setStashOf_writes (H.sub rfl) ?_
    refine State.writeChain_writes (H.sub rfl) ?_
    exact h0
  · exact h0

theorem State.writeBackSet_writes {P : State → Prop} {a0 : State} {a1 : Nat} {a2 : Nat} (H : Stable P 2621440) (h0 : P a0) :
    P (State.writeBackSet a0 a1 a2) := by
  unfold State.writeBackSet
  extract_lets +onlyGivenNames x10
  extract_lets +onlyGivenNames x11
  have h10 : P x11 := by
    unfold x11
    refine foldl_keep ?_ ?_
    · intro n10 n11 n12
      refine keep_ite ?_ ?_
      · refine foldl_keep ?_ ?_
        · intro n13 n14 n15
          split
          · refine State.setEntry_writes (H.sub rfl) ?_
            exact n15
          · exact n15
        · exact n12
      · exact n12
    · exact h0
  refine State.setLines_writes (H.sub rfl) ?_
  exact h10

theorem execAgeSweep_writes {P : State → Prop} {a0 : Fin 4} {a1 : State} (H : Stable P 3670042) (h1 : P a1) :
    OutP P (execAgeSweep a0 a1) := by
  unfold execAgeSweep
  extract_lets +onlyGivenNames x10
  refine outP_next ?_
  refine keep_ite ?_ ?_
  · exact h1
  · extract_lets +onlyGivenNames x11
    refine foldl_keep ?_ ?_
    · intro n10 n11 n12
      refine State.mirrorOut_writes (H.sub rfl) ?_
      refine State.count_writes (H.sub rfl) ?_
      refine State.removeAll_writes (H.sub rfl) ?_
      exact n12
    · exact h1

theorem execFdbDump_writes {P : State → Prop} {a0 : Fin 32} {a1 : Desc} {a2 : Buf} {a3 : State} (H : Stable P 18) (h3 : P a3) :
    OutP P (execFdbDump a0 a1 a2 a3) := by
  unfold execFdbDump
  refine outP_next ?_
  refine State.tableOp_writes (H.sub rfl) ?_ ?_
  · exact h3
  · intro n10 n11 n12
    extract_lets +onlyGivenNames x10
    extract_lets +onlyGivenNames x11
    refine keep_ite ?_ ?_
    · refine State.tblDone_writes (H.sub rfl) ?_
      exact n12
    · refine keep_ite ?_ ?_
      · refine State.tblDone_writes (H.sub rfl) ?_
        exact n12
      · refine State.tblDone_writes (H.sub rfl) ?_
        exact n12

theorem overPipes_writes {P : State → Prop} {a0 : Nat → State → State × Nat} {a1 : Nat} {a2 : State} (H : Stable P 0) (h0 : (∀ (z0 : Nat) (z1 : State), P z1 → P (a0 z0 z1).1)) (h2 : P a2) :
    P (overPipes a0 a1 a2).1 := by
  unfold overPipes
  refine foldl_keep1 ?_ ?_
  · intro n10 n11 n12
    split
    · rename_i v10 v11 v12 v13
      have h10 : P v11 := keep_fst v13 (by
        refine h0 _ _ ?_
        exact n12)
      refine keep_mk1 ?_
      exact h10
  · refine keep_mk1 ?_
    exact h2

theorem execFdbFlush_writes {P : State → Prop} {a0 : Fin 32} {a1 : Desc} {a2 : State} (H : Stable P 3670042) (h2 : P a2) :
    OutP P (execFdbFlush a0 a1 a2) := by
  unfold execFdbFlush
  refine outP_next ?_
  refine State.tableOp_writes (H.sub rfl) ?_ ?_
  · exact h2
  · intro n10 n11 n12
    extract_lets +onlyGivenNames x10
    split
    · rename_i v10 v11 v12 v13
      have h10 : P v11 := keep_fst v13 (by
        refine overPipes_writes (H.sub rfl) ?_ ?_
        · intro n13 n14 n15
          refine keep_mk1 ?_
          refine foldl_keep ?_ ?_
          · intro n16 n17 n18
            refine State.mirrorOut_writes (H.sub rfl) ?_
            refine State.removeAll_writes (H.sub rfl) ?_
            exact n18
          · exact n15
        · exact n12)
      refine State.tblDone_writes (H.sub rfl) ?_
      exact h10

theorem execFdbInsert_writes {P : State → Prop} {a0 : Fin 32} {a1 : Desc} {a2 : State} (H : Stable P 3670042) (h2 : P a2) :
    OutP P (execFdbInsert a0 a1 a2) := by
  unfold execFdbInsert
  refine outP_next ?_
  refine State.tableOp_writes (H.sub rfl) ?_ ?_
  · exact h2
  · intro n10 n11 n12
    split
    · rename_i v10 v11 v12 v13
      have h10 : P v11 := keep_fst v13 (by
        refine overPipes_writes (H.sub rfl) ?_ ?_
        · intro n13 n14 n15
          refine State.fdbInsert_writes (H.sub rfl) ?_
          exact n15
        · exact n12)
      refine State.tblDone_writes (H.sub rfl) ?_
      exact h10

theorem execFdbRead_writes {P : State → Prop} {a0 : Fin 32} {a1 : Desc} {a2 : Buf} {a3 : State} (H : Stable P 18) (h3 : P a3) :
    OutP P (execFdbRead a0 a1 a2 a3) := by
  unfold execFdbRead
  refine outP_next ?_
  refine State.tableOp_writes (H.sub rfl) ?_ ?_
  · exact h3
  · intro n10 n11 n12
    extract_lets +onlyGivenNames x10
    extract_lets +onlyGivenNames x11
    clear_value x11
    split
    · refine State.tblDone_writes (H.sub rfl) ?_
      exact n12
    · refine State.tblDone_writes (H.sub rfl) ?_
      exact n12
    · refine State.tblDone_writes (H.sub rfl) ?_
      exact n12

theorem execFdbRemove_writes {P : State → Prop} {a0 : Fin 32} {a1 : Desc} {a2 : State} (H : Stable P 3670042) (h2 : P a2) :
    OutP P (execFdbRemove a0 a1 a2) := by
  unfold execFdbRemove
  refine outP_next ?_
  refine State.tableOp_writes (H.sub rfl) ?_ ?_
  · exact h2
  · intro n10 n11 n12
    split
    · rename_i v10 v11 v12 v13
      have h10 : P v11 := keep_fst v13 (by
        refine overPipes_writes (H.sub rfl) ?_ ?_
        · intro n13 n14 n15
          split
          · rename_i v14 v15 v16 v17
            have h11 : P v15 := keep_fst v17 (by
              refine State.removeAll_writes (H.sub rfl) ?_
              exact n15)
            refine keep_mk1 ?_
            refine keep_ite ?_ ?_
            · refine State.mirrorOut_writes (H.sub rfl) ?_
              exact h11
            · exact h11
        · exact n12)
      refine State.tblDone_writes (H.sub rfl) ?_
      exact h10

theorem execHitWriteback_writes {P : State → Prop} {a0 : State} (H : Stable P 2621440) (h0 : P a0) :
    OutP P (execHitWriteback a0) := by
  unfold execHitWriteback
  refine outP_next ?_
  refine keep_ite ?_ ?_
  · refine foldl_keep ?_ ?_
    · intro n10 n11 n12
      refine State.writeBackSet_writes (H.sub rfl) ?_
      exact n12
    · exact h0
  · exact h0

theorem execLearnNoticeApply_writes {P : State → Prop} {a0 : Fin 4} {a1 : State} (H : Stable P 3670042) (h1 : P a1) :
    OutP P (execLearnNoticeApply a0 a1) := by
  unfold execLearnNoticeApply
  refine outP_next ?_
  split
  · exact h1
  · refine keep_ite ?_ ?_
    · exact h1
    · extract_lets +onlyGivenNames x10
      extract_lets +onlyGivenNames x11
      have h10 : P x11 := by
        unfold x11
        refine H.set_pk rfl   ?_
        exact h1
      extract_lets +onlyGivenNames x12
      have h11 : (∀ (z0 : State) (z1 : FEntry), P z0 → P (x12 z0 z1)) := by
        intro n10 n11 n12
        unfold x12
        split
        · rename_i v10 v11 v12 v13
          have h12 : P v11 := keep_fst v13 (by
            refine State.putAll_writes (H.sub rfl) ?_
            exact n12)
          refine keep_ite ?_ ?_
          · refine State.count_writes (H.sub rfl) ?_
            exact h12
          · refine State.mirrorEntry_writes (H.sub rfl) ?_
            exact h12
      clear_value x12
      split
      · refine h11 _ _ ?_
        exact h10
      · refine keep_ite ?_ ?_
        · refine State.count_writes (H.sub rfl) ?_
          exact h10
        · refine keep_ite ?_ ?_
          · refine foldl_keep ?_ ?_
            · intro n13 n14 n15
              split
              · refine State.setEntry_writes (H.sub rfl) ?_
                exact n15
              · refine State.setStashOf_writes (H.sub rfl) ?_
                exact n15
              · exact n15
            · exact h10
          · refine h11 _ _ ?_
            exact h10

theorem execLpmInsert_writes {P : State → Prop} {a0 : Fin 32} {a1 : Desc} {a2 : State} (H : Stable P 1572882) (h2 : P a2) :
    OutP P (execLpmInsert a0 a1 a2) := by
  unfold execLpmInsert
  refine outP_next ?_
  refine State.tableOp_writes (H.sub rfl) ?_ ?_
  · exact h2
  · intro n10 n11 n12
    split
    · rename_i v10 v11 v12 v13
      have h10 : P v11 := keep_fst v13 (by
        refine overPipes_writes (H.sub rfl) ?_ ?_
        · intro n13 n14 n15
          split
          · rename_i v14 v15 v16 v17
            have h11 : P v15 := keep_fst v17 (by
              refine State.lpmPut_writes (H.sub rfl) ?_
              exact n15)
            refine keep_mk1 ?_
            refine keep_ite ?_ ?_
            · refine State.mirrorOut_writes (H.sub rfl) ?_
              exact h11
            · exact h11
        · exact n12)
      refine State.tblDone_writes (H.sub rfl) ?_
      exact h10

theorem execLpmRemove_writes {P : State → Prop} {a0 : Fin 32} {a1 : Desc} {a2 : State} (H : Stable P 1572882) (h2 : P a2) :
    OutP P (execLpmRemove a0 a1 a2) := by
  unfold execLpmRemove
  refine outP_next ?_
  refine State.tableOp_writes (H.sub rfl) ?_ ?_
  · exact h2
  · intro n10 n11 n12
    split
    · rename_i v10 v11 v12 v13
      have h10 : P v11 := keep_fst v13 (by
        refine overPipes_writes (H.sub rfl) ?_ ?_
        · intro n13 n14 n15
          split
          · rename_i v14 v15 v16 v17
            have h11 : P v15 := keep_fst v17 (by
              refine State.lpmCutOut_writes (H.sub rfl) ?_
              exact n15)
            refine keep_mk1 ?_
            refine keep_ite ?_ ?_
            · refine State.mirrorOut_writes (H.sub rfl) ?_
              exact h11
            · exact h11
        · exact n12)
      refine State.tblDone_writes (H.sub rfl) ?_
      exact h10

theorem execRehash_writes {P : State → Prop} {a0 : Fin 32} {a1 : Desc} {a2 : State} (H : Stable P 2621466) (h2 : P a2) :
    OutP P (execRehash a0 a1 a2) := by
  unfold execRehash
  refine outP_next ?_
  refine State.tableOp_writes (H.sub rfl) ?_ ?_
  · exact h2
  · intro n10 n11 n12
    extract_lets +onlyGivenNames x10
    refine keep_ite ?_ ?_
    · refine State.tblDone_writes (H.sub rfl) ?_
      exact n12
    · refine State.rehashStart_writes (H.sub rfl) ?_
      exact n12

theorem execRehashSwap_writes {P : State → Prop} {a0 : Fin 4} {a1 : State} (H : Stable P 3670042) (h1 : P a1) :
    OutP P (execRehashSwap a0 a1) := by
  unfold execRehashSwap
  extract_lets +onlyGivenNames x10
  refine outP_next ?_
  split
  · exact h1
  · refine keep_ite ?_ ?_
    · extract_lets +onlyGivenNames x11
      extract_lets +onlyGivenNames x12
      have h10 : P x12 := by
        unfold x12
        refine State.cClear_writes (H.sub rfl) ?_
        exact h1
      extract_lets +onlyGivenNames x13
      have h11 : P x13 := by
        unfold x13
        refine State.setF_writes (H.sub rfl) ?_
        refine State.wr_writes (H.sub rfl) ?_
        refine State.setRehash_writes (H.sub rfl) ?_
        exact h10
      extract_lets +onlyGivenNames x14
      have h12 : P x14 := by
        unfold x14
        refine foldl_keep ?_ ?_
        · intro n10 n11 n12
          refine State.invalidate_writes (H.sub rfl) ?_
          exact n12
        · exact h11
      refine State.rehashEnd_writes (H.sub rfl) ?_
      refine State.recount_writes (H.sub rfl) ?_
      refine State.setReason_writes (H.sub rfl) ?_
      exact h12
    · extract_lets +onlyGivenNames x15
      extract_lets +onlyGivenNames x16
      extract_lets +onlyGivenNames x17
      extract_lets +onlyGivenNames x18
      have h13 : P x18 := by
        unfold x18
        refine State.wr_writes (H.sub rfl) ?_
        refine State.wr_writes (H.sub rfl) ?_
        exact h1
      extract_lets +onlyGivenNames x19
      have h14 : P x19 := by
        unfold x19
        refine State.setF_writes (H.sub rfl) ?_
        refine State.setF_writes (H.sub rfl) ?_
        refine State.setF_writes (H.sub rfl) ?_
        exact h13
      extract_lets +onlyGivenNames x20
      have h15 : P x20 := by
        unfold x20
        refine State.setReason_writes (H.sub rfl) ?_
        refine State.cClear_writes (H.sub rfl) ?_
        refine State.setRehash_writes (H.sub rfl) ?_
        exact h14
      extract_lets +onlyGivenNames x21
      have h16 : P x21 := by
        unfold x21
        refine State.recount_writes (H.sub rfl) ?_
        refine State.setStash_writes (H.sub rfl) ?_
        exact h15
      extract_lets +onlyGivenNames x22
      have h17 : P x22 := by
        unfold x22
        refine foldl_keep ?_ ?_
        · intro n13 n14 n15
          refine State.mirrorOut_writes (H.sub rfl) ?_
          refine State.invalidate_writes (H.sub rfl) ?_
          exact n15
        · exact h16
      refine State.rehashEnd_writes (H.sub rfl) ?_
      exact h17

theorem execStashPlacement_writes {P : State → Prop} {a0 : Fin 4} {a1 : State} (H : Stable P 2621466) (h1 : P a1) :
    OutP P (execStashPlacement a0 a1) := by
  unfold execStashPlacement
  refine outP_next ?_
  refine foldl_keep ?_ ?_
  · intro n10 n11 n12
    extract_lets +onlyGivenNames x10
    refine foldl_keep ?_ ?_
    · intro n13 n14 n15
      refine State.tryStash_writes (H.sub rfl) ?_
      exact n15
    · exact n12
  · exact h1

theorem execStreamWrite_writes {P : State → Prop} {a0 : Fin 32} {a1 : Desc} {a2 : Buf} {a3 : State} (H : Stable P 2097170) (h3 : P a3) :
    OutP P (execStreamWrite a0 a1 a2 a3) := by
  unfold execStreamWrite
  extract_lets +onlyGivenNames x10
  refine outP_next ?_
  refine State.tableOp_writes (H.sub rfl) ?_ ?_
  · exact h3
  · intro n10 n11 n12
    extract_lets +onlyGivenNames x11
    have h10 : P x11 := by
      unfold x11
      refine State.cWrite_writes (H.sub rfl) ?_
      exact n12
    extract_lets +onlyGivenNames x12
    have h11 : P x12 := by
      unfold x12
      refine State.wr_writes (H.sub rfl) ?_
      exact h10
    refine State.finish_writes (H.sub rfl) ?_
    exact h11

end Sys2Proof.Machine
end

