-- ==== Sys2Proof/Laws/WritesThermal.lean ====
section
/-! SUPPORT. Which components of the state each operation and command of Machine/Thermal.lean may write. -/

namespace Sys2Proof.Machine

theorem State.crossCheck_writes {P : State → Prop} {a0 : State} {a1 : Nat} {a2 : State} (H : Stable P 8450) (h0 : P a0) (h2 : P a2) :
    P (State.crossCheck a0 a1 a2) := by
  unfold State.crossCheck
  extract_lets +onlyGivenNames x10
  refine keep_ite ?_ ?_
  · exact h2
  · extract_lets +onlyGivenNames x11
    refine keep_ite ?_ ?_
    · refine State.setF_writes (H.sub rfl) ?_
      refine State.setF_writes (H.sub rfl) ?_
      exact h2
    · extract_lets +onlyGivenNames x12
      have h10 : P x12 := by
        unfold x12
        refine State.setF_writes (H.sub rfl) ?_
        exact h2
      extract_lets +onlyGivenNames x13
      refine keep_ite ?_ ?_
      · extract_lets +onlyGivenNames x14
        extract_lets +onlyGivenNames x15
        have h11 : P x15 := by
          unfold x15
          refine State.setF_writes (H.sub rfl) ?_
          exact h10
        refine keep_ite ?_ ?_
        · refine State.raiseD_writes (H.sub rfl) ?_
          refine State.setF_writes (H.sub rfl) ?_
          exact h11
        · exact h11
      · refine State.setF_writes (H.sub rfl) ?_
        exact h10

theorem State.derive__writes {P : State → Prop} {a0 : State} (H : Stable P 65538) (h0 : P a0) :
    P (State.derive_ a0) := by
  unfold State.derive_
  extract_lets +onlyGivenNames x10
  extract_lets +onlyGivenNames x11
  have h10 : P x11 := by
    unfold x11
    split
    · extract_lets +onlyGivenNames x12
      have h11 : P x12 := by
        unfold x12
        refine State.setF_writes (H.sub rfl) ?_
        exact h0
      refine H.set_thm rfl   ?_
      exact h11
    · refine H.set_thm rfl   ?_
      exact h0
  split
  · extract_lets +onlyGivenNames x13
    have h12 : P x13 := by
      unfold x13
      refine State.setF_writes (H.sub rfl) ?_
      exact h10
    refine H.set_thm rfl   ?_
    exact h12
  · refine H.set_thm rfl   ?_
    exact h10

theorem State.evalModel_writes {P : State → Prop} {a0 : State} (H : Stable P 65538) (h0 : P a0) :
    P (State.evalModel a0) := by
  unfold State.evalModel
  extract_lets +onlyGivenNames x10
  extract_lets +onlyGivenNames x11
  extract_lets +onlyGivenNames x12
  extract_lets +onlyGivenNames x13
  extract_lets +onlyGivenNames x14
  have h10 : P x14 := by
    unfold x14
    refine H.set_thm rfl   ?_
    exact h0
  refine forUp_keep ?_ ?_
  · intro n10 n11 n12
    extract_lets +onlyGivenNames x15
    extract_lets +onlyGivenNames x16
    have h11 : P x16 := by
      unfold x16
      refine State.setF_writes (H.sub rfl) ?_
      exact n12
    extract_lets +onlyGivenNames x17
    have h12 : P x17 := by
      unfold x17
      refine State.setF_writes (H.sub rfl) ?_
      exact h11
    refine State.setF_writes (H.sub rfl) ?_
    exact h12
  · exact h10

theorem State.hcResult_writes {P : State → Prop} {a0 : State} {a1 : Nat} (H : Stable P 65546) (h0 : P a0) :
    P (State.hcResult a0 a1) := by
  unfold State.hcResult
  extract_lets +onlyGivenNames x10
  extract_lets +onlyGivenNames x11
  have h10 : P x11 := by
    unfold x11
    refine keep_ite ?_ ?_
    · refine H.set_thm rfl   ?_
      exact h0
    · exact h0
  refine keep_ite ?_ ?_
  · extract_lets +onlyGivenNames x12
    extract_lets +onlyGivenNames x13
    extract_lets +onlyGivenNames x14
    have h11 : P x14 := by
      unfold x14
      refine keep_ite ?_ ?_
      · refine State.drawn_writes (H.sub rfl) ?_
        exact h10
      · exact h10
    refine H.set_thm rfl   ?_
    exact h11
  · refine keep_ite ?_ ?_
    · extract_lets +onlyGivenNames x15
      extract_lets +onlyGivenNames x16
      extract_lets +onlyGivenNames x17
      have h12 : P x17 := by
        unfold x17
        refine keep_ite ?_ ?_
        · refine State.drawn_writes (H.sub rfl) ?_
          exact h10
        · exact h10
      refine H.set_thm rfl   ?_
      exact h12
    · refine keep_ite ?_ ?_
      · refine State.setF_writes (H.sub rfl) ?_
        exact h10
      · refine keep_ite ?_ ?_
        · refine State.setF_writes (H.sub rfl) ?_
          exact h10
        · exact h10

theorem State.showBase_writes {P : State → Prop} {a0 : State} (H : Stable P 2) (h0 : P a0) :
    P (State.showBase a0) := by
  unfold State.showBase
  extract_lets +onlyGivenNames x10
  refine keep_ite ?_ ?_
  · exact h0
  · refine State.setF_writes (H.sub rfl) ?_
    exact h0

theorem State.sweepRate_writes {P : State → Prop} {a0 : State} {a1 : Int} (H : Stable P 65538) (h0 : P a0) :
    P (State.sweepRate a0 a1) := by
  unfold State.sweepRate
  refine keep_ite ?_ ?_
  · extract_lets +onlyGivenNames x10
    have h10 : P x10 := by
      unfold x10
      refine State.setF_writes (H.sub rfl) ?_
      exact h0
    refine H.set_thm rfl   ?_
    exact h10
  · extract_lets +onlyGivenNames x11
    extract_lets +onlyGivenNames x12
    have h11 : P x12 := by
      unfold x12
      refine keep_ite ?_ ?_
      · refine State.setF_writes (H.sub rfl) ?_
        exact h0
      · exact h0
    refine H.set_thm rfl   ?_
    exact h11

theorem State.threshold_writes {P : State → Prop} {a0 : State} {a1 : Fld} {a2 : Int} {a3 : Int} {a4 : State → State} {a5 : State → State} (H : Stable P 2) (h0 : P a0) (h4 : (∀ (z0 : State), P z0 → P (a4 z0))) (h5 : (∀ (z0 : State), P z0 → P (a5 z0))) :
    P (State.threshold a0 a1 a2 a3 a4 a5) := by
  unfold State.threshold
  refine keep_ite ?_ ?_
  · refine keep_ite ?_ ?_
    · refine h5 _ ?_
      refine State.setF_writes (H.sub rfl) ?_
      exact h0
    · exact h0
  · refine keep_ite ?_ ?_
    · refine h4 _ ?_
      refine State.setF_writes (H.sub rfl) ?_
      exact h0
    · exact h0

theorem State.thresholds_writes {P : State → Prop} {a0 : State} {a1 : Int} {a2 : Int} (H : Stable P 8978) (h0 : P a0) :
    P (State.thresholds a0 a1 a2) := by
  unfold State.thresholds
  extract_lets +onlyGivenNames x10
  have h10 : P x10 := by
    unfold x10
    refine State.threshold_writes (H.sub rfl) ?_ ?_ ?_
    · exact h0
    · intro n10 n11
      refine State.fire_writes (H.sub rfl) ?_
      refine State.attn_writes (H.sub rfl) ?_
      refine State.raiseD_writes (H.sub rfl) ?_
      exact n11
    · intro n12 n13
      refine State.fire_writes (H.sub rfl) ?_
      refine State.attnClear_writes (H.sub rfl) ?_
      exact n13
  extract_lets +onlyGivenNames x11
  have h11 : P x11 := by
    unfold x11
    refine State.threshold_writes (H.sub rfl) ?_ ?_ ?_
    · exact h10
    · intro n14 n15
      extract_lets +onlyGivenNames x12
      have h12 : P x12 := by
        unfold x12
        refine State.fire_writes (H.sub rfl) ?_
        refine State.raiseD_writes (H.sub rfl) ?_
        exact n15
      refine keep_ite ?_ ?_
      · refine State.askMode_writes (H.sub rfl) ?_
        exact h12
      · exact h12
    · intro n16 n17
      refine keep_ite ?_ ?_
      · refine State.askMode_writes (H.sub rfl) ?_
        exact n17
      · exact n17
  refine State.threshold_writes (H.sub rfl) ?_ ?_ ?_
  · exact h11
  · intro n18 n19
    refine State.fire_writes (H.sub rfl) ?_
    refine State.raiseD_writes (H.sub rfl) ?_
    exact n19
  · intro n20 n21
    refine id_keep ?_
    exact n21

theorem State.judgeSweep_writes {P : State → Prop} {a0 : State} (H : Stable P 74514) (h0 : P a0) :
    P (State.judgeSweep a0) := by
  unfold State.judgeSweep
  extract_lets +onlyGivenNames x10
  extract_lets +onlyGivenNames x11
  extract_lets +onlyGivenNames x12
  extract_lets +onlyGivenNames x13
  extract_lets +onlyGivenNames x14
  have h10 : P x14 := by
    unfold x14
    refine State.setF_writes (H.sub rfl) ?_
    refine State.setF_writes (H.sub rfl) ?_
    exact h0
  extract_lets +onlyGivenNames x15
  have h11 : P x15 := by
    unfold x15
    refine State.setF_writes (H.sub rfl) ?_
    exact h10
  extract_lets +onlyGivenNames x16
  have h12 : P x16 := by
    unfold x16
    refine State.setF_writes (H.sub rfl) ?_
    exact h11
  refine State.thresholds_writes (H.sub rfl) ?_
  refine State.sweepRate_writes (H.sub rfl) ?_
  refine State.showBase_writes (H.sub rfl) ?_
  refine State.derive__writes (H.sub rfl) ?_
  exact h12

theorem State.takeReading_writes {P : State → Prop} {a0 : State} {a1 : Nat} {a2 : Option (BitVec 16)} (H : Stable P 8450) (h0 : P a0) :
    P (State.takeReading a0 a1 a2) := by
  unfold State.takeReading
  refine keep_ite ?_ ?_
  · exact h0
  · split
    · refine State.setF_writes (H.sub rfl) ?_
      exact h0
    · refine State.raiseD_writes (H.sub rfl) ?_
      refine State.setF_writes (H.sub rfl) ?_
      refine State.setF_writes (H.sub rfl) ?_
      exact h0

theorem State.norConversion_writes {P : State → Prop} {a0 : Option (BitVec 16)} {a1 : Option (BitVec 16)} {a2 : Option (BitVec 16)} {a3 : State} (H : Stable P 73986) (h3 : P a3) :
    P (State.norConversion a0 a1 a2 a3) := by
  unfold State.norConversion
  refine keep_ite ?_ ?_
  · extract_lets +onlyGivenNames x10
    have h10 : P x10 := by
      unfold x10
      refine State.takeReading_writes (H.sub rfl) ?_
      refine State.takeReading_writes (H.sub rfl) ?_
      refine State.takeReading_writes (H.sub rfl) ?_
      exact h3
    split
    · extract_lets +onlyGivenNames x11
      have h11 : P x11 := by
        unfold x11
        refine State.setF_writes (H.sub rfl) ?_
        exact h10
      refine H.set_thm rfl   ?_
      exact h11
    · refine H.set_thm rfl   ?_
      exact h10
  · exact h3

theorem State.pfailAssert_writes {P : State → Prop} {a0 : Nat} {a1 : Nat} {a2 : State} (H : Stable P 8194) (h2 : P a2) :
    P (State.pfailAssert a0 a1 a2) := by
  unfold State.pfailAssert
  extract_lets +onlyGivenNames x10
  extract_lets +onlyGivenNames x11
  have h10 : P x11 := by
    unfold x11
    refine State.setF_writes (H.sub rfl) ?_
    exact h2
  extract_lets +onlyGivenNames x12
  have h11 : P x12 := by
    unfold x12
    refine keep_ite ?_ ?_
    · refine State.setF_writes (H.sub rfl) ?_
      exact h10
    · exact h10
  refine keep_ite ?_ ?_
  · refine State.fire_writes (H.sub rfl) ?_
    refine State.count_writes (H.sub rfl) ?_
    refine State.setF_writes (H.sub rfl) ?_
    exact h11
  · exact h11

theorem State.pfailRelease_writes {P : State → Prop} {a0 : Nat} {a1 : Nat} {a2 : State} (H : Stable P 2) (h2 : P a2) :
    P (State.pfailRelease a0 a1 a2) := by
  unfold State.pfailRelease
  extract_lets +onlyGivenNames x10
  extract_lets +onlyGivenNames x11
  have h10 : P x11 := by
    unfold x11
    refine State.setF_writes (H.sub rfl) ?_
    exact h2
  refine keep_ite ?_ ?_
  · extract_lets +onlyGivenNames x12
    have h11 : P x12 := by
      unfold x12
      refine State.setF_writes (H.sub rfl) ?_
      exact h10
    refine keep_ite ?_ ?_
    · refine State.setF_writes (H.sub rfl) ?_
      exact h11
    · exact h11
  · exact h10

theorem State.readSensors_writes {P : State → Prop} {a0 : State} {a1 : List (Option (BitVec 16))} (H : Stable P 73986) (h0 : P a0) :
    P (State.readSensors a0 a1) := by
  unfold State.readSensors
  extract_lets +onlyGivenNames x10
  have h10 : P x10 := by
    unfold x10
    refine forUp_keep ?_ ?_
    · intro n10 n11 n12
      refine State.takeReading_writes (H.sub rfl) ?_
      exact n12
    · exact h0
  extract_lets +onlyGivenNames x11
  have h11 : P x11 := by
    unfold x11
    refine forUp_keep ?_ ?_
    · intro n13 n14 n15
      refine State.crossCheck_writes (H.sub rfl) ?_ ?_
      · exact h10
      · exact n15
    · exact h10
  refine H.set_thm rfl   ?_
  exact h11

theorem State.sensorOverride_writes {P : State → Prop} {a0 : State} {a1 : Nat} {a2 : Nat} (H : Stable P 2) (h0 : P a0) :
    P (State.sensorOverride a0 a1 a2) := by
  unfold State.sensorOverride
  extract_lets +onlyGivenNames x10
  refine keep_ite ?_ ?_
  · refine State.setF_writes (H.sub rfl) ?_
    refine State.setF_writes (H.sub rfl) ?_
    exact h0
  · refine keep_ite ?_ ?_
    · refine State.setF_writes (H.sub rfl) ?_
      refine State.setF_writes (H.sub rfl) ?_
      refine State.setF_writes (H.sub rfl) ?_
      exact h0
    · exact h0

theorem State.sensorSweep_writes {P : State → Prop} {a0 : Vector (Option (BitVec 16)) 80} {a1 : State} (H : Stable P 74514) (h1 : P a1) :
    P (State.sensorSweep a0 a1) := by
  unfold State.sensorSweep
  refine keep_ite ?_ ?_
  · refine State.judgeSweep_writes (H.sub rfl) ?_
    refine State.readSensors_writes (H.sub rfl) ?_
    exact h1
  · exact h1

theorem execHkConversionDone_writes {P : State → Prop} {a0 : Fin 8} {a1 : BitVec 12} {a2 : State} (H : Stable P 66570) (h2 : P a2) :
    OutP P (execHkConversionDone a0 a1 a2) := by
  unfold execHkConversionDone
  extract_lets +onlyGivenNames x10
  refine outP_next ?_
  split
  · refine keep_ite ?_ ?_
    · exact h2
    · refine State.hcResult_writes (H.sub rfl) ?_
      refine State.hkDone_writes (H.sub rfl) ?_
      exact h2
  · exact h2

theorem execInjectedConversionDone_writes {P : State → Prop} {a0 : Fin 16} {a1 : BitVec 12} {a2 : State} (H : Stable P 74762) (h2 : P a2) :
    OutP P (execInjectedConversionDone a0 a1 a2) := by
  unfold execInjectedConversionDone
  refine outP_next ?_
  split
  · refine keep_ite ?_ ?_
    · refine State.hcResult_writes (H.sub rfl) ?_
      refine State.injDone_writes (H.sub rfl) ?_
      exact h2
    · refine State.injDone_writes (H.sub rfl) ?_
      exact h2
  · refine State.injDone_writes (H.sub rfl) ?_
    exact h2

end Sys2Proof.Machine
end

