-- ==== Sys2Proof/Laws/WritesLoop.lean ====
section
/-! SUPPORT. Which components of the state each operation and command of Machine/Loop.lean may write. -/

namespace Sys2Proof.Machine

theorem State.handedOver_writes {P : State → Prop} {a0 : State} {a1 : Nat} (H : Stable P 2050) (h0 : P a0) :
    P (State.handedOver a0 a1) := by
  unfold State.handedOver
  extract_lets +onlyGivenNames x10
  extract_lets +onlyGivenNames x11
  have h10 : P x11 := by
    unfold x11
    refine State.setLx_writes (H.sub rfl) ?_
    exact h0
  refine State.setF_writes (H.sub rfl) ?_
  refine State.setLoopState_writes (H.sub rfl) ?_
  exact h10

theorem State.sat_writes {P : State → Prop} {a0 : State} {a1 : Nat} {a2 : Bool} (H : Stable P 2) (h0 : P a0) :
    P (State.sat a0 a1 a2) := by
  unfold State.sat
  refine keep_ite ?_ ?_
  · refine State.setF_writes (H.sub rfl) ?_
    exact h0
  · exact h0

theorem State.setXhat_writes {P : State → Prop} {a0 : State} {a1 : Nat} {a2 : Nat} {a3 : Int} (H : Stable P 2) (h0 : P a0) :
    P (State.setXhat a0 a1 a2 a3) := by
  unfold State.setXhat
  refine State.wr_writes (H.sub rfl) ?_
  exact h0

theorem State.observe_writes {P : State → Prop} {a0 : State} {a1 : Nat} {a2 : Int} (H : Stable P 2) (h0 : P a0) :
    P (State.observe a0 a1 a2) := by
  unfold State.observe
  extract_lets +onlyGivenNames x10
  extract_lets +onlyGivenNames x11
  extract_lets +onlyGivenNames x12
  refine forUp_keep ?_ ?_
  · intro n10 n11 n12
    extract_lets +onlyGivenNames x13
    refine State.sat_writes (H.sub rfl) ?_
    refine State.setXhat_writes (H.sub rfl) ?_
    exact n12
  · exact h0

theorem State.output_writes {P : State → Prop} {a0 : State} {a1 : Win} {a2 : Nat} (H : Stable P 3074) (h0 : P a0) :
    P (State.output a0 a1 a2) := by
  unfold State.output
  extract_lets +onlyGivenNames x10
  extract_lets +onlyGivenNames x11
  extract_lets +onlyGivenNames x12
  extract_lets +onlyGivenNames x13
  extract_lets +onlyGivenNames x14
  have h10 : P x14 := by
    unfold x14
    refine State.sat_writes (H.sub rfl) ?_
    refine State.sat_writes (H.sub rfl) ?_
    exact h0
  refine State.writeCode_writes (H.sub rfl) ?_
  refine State.setLx_writes (H.sub rfl) ?_
  exact h10

theorem State.plausible_writes {P : State → Prop} {a0 : State} {a1 : Nat} {a2 : Int} (H : Stable P 8450) (h0 : P a0) :
    P (State.plausible a0 a1 a2) := by
  unfold State.plausible
  extract_lets +onlyGivenNames x10
  extract_lets +onlyGivenNames x11
  refine keep_ite ?_ ?_
  · extract_lets +onlyGivenNames x12
    extract_lets +onlyGivenNames x13
    extract_lets +onlyGivenNames x14
    have h10 : P x14 := by
      unfold x14
      refine State.setF_writes (H.sub rfl) ?_
      exact h0
    extract_lets +onlyGivenNames x15
    refine keep_ite ?_ ?_
    · refine State.raise_writes (H.sub rfl) ?_
      exact h10
    · exact h10
  · refine State.setF_writes (H.sub rfl) ?_
    exact h0

theorem State.preload_writes {P : State → Prop} {a0 : State} {a1 : Win} {a2 : Nat} {a3 : Nat} (H : Stable P 2) (h0 : P a0) :
    P (State.preload a0 a1 a2 a3) := by
  unfold State.preload
  extract_lets +onlyGivenNames x10
  extract_lets +onlyGivenNames x11
  extract_lets +onlyGivenNames x12
  extract_lets +onlyGivenNames x13
  extract_lets +onlyGivenNames x14
  extract_lets +onlyGivenNames x15
  refine State.sat_writes (H.sub rfl) ?_
  refine State.sat_writes (H.sub rfl) ?_
  refine State.setXhat_writes (H.sub rfl) ?_
  exact h0

theorem State.setResid_writes {P : State → Prop} {a0 : State} {a1 : Nat} {a2 : Int} (H : Stable P 2) (h0 : P a0) :
    P (State.setResid a0 a1 a2) := by
  unfold State.setResid
  refine State.wr_writes (H.sub rfl) ?_
  exact h0

theorem State.correct_writes {P : State → Prop} {a0 : State} {a1 : Win} {a2 : Nat} {a3 : Int} (H : Stable P 11522) (h0 : P a0) :
    P (State.correct a0 a1 a2 a3) := by
  unfold State.correct
  extract_lets +onlyGivenNames x10
  extract_lets +onlyGivenNames x11
  have h10 : P x11 := by
    unfold x11
    refine State.sat_writes (H.sub rfl) ?_
    refine State.setResid_writes (H.sub rfl) ?_
    exact h0
  extract_lets +onlyGivenNames x12
  split
  · refine State.output_writes (H.sub rfl) ?_
    refine State.observe_writes (H.sub rfl) ?_
    refine State.plausible_writes (H.sub rfl) ?_
    exact h10
  · extract_lets +onlyGivenNames x13
    refine keep_ite ?_ ?_
    · refine State.output_writes (H.sub rfl) ?_
      refine State.observe_writes (H.sub rfl) ?_
      refine State.handedOver_writes (H.sub rfl) ?_
      exact h10
    · extract_lets +onlyGivenNames x14
      have h11 : P x14 := by
        unfold x14
        refine State.setLx_writes (H.sub rfl) ?_
        exact h10
      extract_lets +onlyGivenNames x15
      have h12 : P x15 := by
        unfold x15
        refine State.setF_writes (H.sub rfl) ?_
        exact h11
      extract_lets +onlyGivenNames x16
      have h13 : P x16 := by
        unfold x16
        refine keep_ite ?_ ?_
        · refine State.raise_writes (H.sub rfl) ?_
          exact h12
        · exact h12
      refine State.output_writes (H.sub rfl) ?_
      refine State.preload_writes (H.sub rfl) ?_
      refine State.observe_writes (H.sub rfl) ?_
      exact h13

theorem State.resetStates_writes {P : State → Prop} {a0 : State} {a1 : Nat} {a2 : Int} (H : Stable P 2) (h0 : P a0) :
    P (State.resetStates a0 a1 a2) := by
  unfold State.resetStates
  extract_lets +onlyGivenNames x10
  refine forUp_keep ?_ ?_
  · intro n10 n11 n12
    refine keep_ite ?_ ?_
    · exact n12
    · extract_lets +onlyGivenNames x11
      refine State.sat_writes (H.sub rfl) ?_
      refine State.setXhat_writes (H.sub rfl) ?_
      exact n12
  · exact h0

theorem State.firstSample_writes {P : State → Prop} {a0 : State} {a1 : Win} {a2 : Nat} {a3 : Int} (H : Stable P 3074) (h0 : P a0) :
    P (State.firstSample a0 a1 a2 a3) := by
  unfold State.firstSample
  extract_lets +onlyGivenNames x10
  extract_lets +onlyGivenNames x11
  extract_lets +onlyGivenNames x12
  have h10 : P x12 := by
    unfold x12
    refine State.setLx_writes (H.sub rfl) ?_
    exact h0
  extract_lets +onlyGivenNames x13
  have h11 : P x13 := by
    unfold x13
    refine State.setF_writes (H.sub rfl) ?_
    exact h10
  extract_lets +onlyGivenNames x14
  have h12 : P x14 := by
    unfold x14
    refine keep_ite ?_ ?_
    · refine State.setLoopState_writes (H.sub rfl) ?_
      exact h11
    · exact h11
  refine State.output_writes (H.sub rfl) ?_
  refine State.preload_writes (H.sub rfl) ?_
  refine State.resetStates_writes (H.sub rfl) ?_
  exact h12

theorem State.takeSample_writes {P : State → Prop} {a0 : State} {a1 : Win} {a2 : Nat} {a3 : Nat} (H : Stable P 2048) (h0 : P a0) :
    P (State.takeSample a0 a1 a2 a3) := by
  unfold State.takeSample
  extract_lets +onlyGivenNames x10
  refine keep_ite ?_ ?_
  · refine State.setLx_writes (H.sub rfl) ?_
    exact h0
  · exact h0

theorem State.holdStep_writes {P : State → Prop} {a0 : State} {a1 : Win} {a2 : Nat} (H : Stable P 11522) (h0 : P a0) :
    P (State.holdStep a0 a1 a2) := by
  unfold State.holdStep
  extract_lets +onlyGivenNames x10
  extract_lets +onlyGivenNames x11
  extract_lets +onlyGivenNames x12
  extract_lets +onlyGivenNames x13
  have h10 : P x13 := by
    unfold x13
    refine keep_ite ?_ ?_
    · refine State.takeSample_writes (H.sub rfl) ?_
      exact h0
    · exact h0
  extract_lets +onlyGivenNames x14
  extract_lets +onlyGivenNames x15
  extract_lets +onlyGivenNames x16
  have h11 : P x16 := by
    unfold x16
    refine keep_ite ?_ ?_
    · refine State.setF_writes (H.sub rfl) ?_
      exact h10
    · exact h10
  extract_lets +onlyGivenNames x17
  extract_lets +onlyGivenNames x18
  split
  · refine keep_ite ?_ ?_
    · refine State.firstSample_writes (H.sub rfl) ?_
      refine State.sat_writes (H.sub rfl) ?_
      exact h11
    · exact h11
  · refine keep_ite ?_ ?_
    · refine State.correct_writes (H.sub rfl) ?_
      refine State.sat_writes (H.sub rfl) ?_
      exact h11
    · refine State.output_writes (H.sub rfl) ?_
      refine State.observe_writes (H.sub rfl) ?_
      exact h11

theorem State.setPhase_writes {P : State → Prop} {a0 : State} {a1 : Nat} {a2 : Nat} (H : Stable P 2) (h0 : P a0) :
    P (State.setPhase a0 a1 a2) := by
  unfold State.setPhase
  refine State.setF_writes (H.sub rfl) ?_
  exact h0

theorem State.searchStep_writes {P : State → Prop} {a0 : State} {a1 : Nat} (H : Stable P 2050) (h0 : P a0) :
    P (State.searchStep a0 a1) := by
  unfold State.searchStep
  extract_lets +onlyGivenNames x10
  extract_lets +onlyGivenNames x11
  extract_lets +onlyGivenNames x12
  refine keep_ite ?_ ?_
  · refine keep_ite ?_ ?_
    · refine State.setLx_writes (H.sub rfl) ?_
      exact h0
    · refine State.setPhase_writes (H.sub rfl) ?_
      refine State.setLx_writes (H.sub rfl) ?_
      exact h0
  · extract_lets +onlyGivenNames x13
    extract_lets +onlyGivenNames x14
    extract_lets +onlyGivenNames x15
    refine State.setPhase_writes (H.sub rfl) ?_
    refine State.setLx_writes (H.sub rfl) ?_
    exact h0

theorem State.acquireStep_writes {P : State → Prop} {a0 : State} {a1 : Win} {a2 : Nat} (H : Stable P 11522) (h0 : P a0) :
    P (State.acquireStep a0 a1 a2) := by
  unfold State.acquireStep
  extract_lets +onlyGivenNames x10
  refine keep_ite ?_ ?_
  · refine State.holdStep_writes (H.sub rfl) ?_
    exact h0
  · refine keep_ite ?_ ?_
    · exact h0
    · extract_lets +onlyGivenNames x11
      extract_lets +onlyGivenNames x12
      have h10 : P x12 := by
        unfold x12
        refine State.takeSample_writes (H.sub rfl) ?_
        exact h0
      extract_lets +onlyGivenNames x13
      extract_lets +onlyGivenNames x14
      extract_lets +onlyGivenNames x15
      have h11 : P x15 := by
        unfold x15
        refine keep_ite ?_ ?_
        · refine State.setF_writes (H.sub rfl) ?_
          exact h10
        · exact h10
      extract_lets +onlyGivenNames x16
      have h12 : P x16 := by
        unfold x16
        refine State.setLx_writes (H.sub rfl) ?_
        exact h11
      extract_lets +onlyGivenNames x17
      have h13 : P x17 := by
        unfold x17
        refine keep_ite ?_ ?_
        · refine State.setPhase_writes (H.sub rfl) ?_
          exact h12
        · exact h12
      extract_lets +onlyGivenNames x18
      have h14 : P x18 := by
        unfold x18
        refine keep_ite ?_ ?_
        · refine State.setPhase_writes (H.sub rfl) ?_
          refine keep_ite ?_ ?_
          · refine State.setLx_writes (H.sub rfl) ?_
            exact h11
          · exact h11
        · refine keep_ite ?_ ?_
          · refine State.searchStep_writes (H.sub rfl) ?_
            exact h13
          · exact h13
      refine State.writeCode_writes (H.sub rfl) ?_
      refine State.setLx_writes (H.sub rfl) ?_
      exact h14

theorem State.blockFrame_writes {P : State → Prop} {a0 : Nat} {a1 : State} (H : Stable P 5120) (h1 : P a1) :
    P (State.blockFrame a0 a1) := by
  unfold State.blockFrame
  refine keep_ite ?_ ?_
  · extract_lets +onlyGivenNames x10
    extract_lets +onlyGivenNames x11
    extract_lets +onlyGivenNames x12
    have h10 : P x12 := by
      unfold x12
      refine H.set_drive rfl   ?_
      exact h1
    refine keep_ite ?_ ?_
    · refine H.set_seq rfl   ?_
      exact h10
    · exact h10
  · exact h1

theorem State.intoAcquire_writes {P : State → Prop} {a0 : State} {a1 : Win} {a2 : Nat} (H : Stable P 2050) (h0 : P a0) :
    P (State.intoAcquire a0 a1 a2) := by
  unfold State.intoAcquire
  extract_lets +onlyGivenNames x10
  refine keep_ite ?_ ?_
  · refine State.setPhase_writes (H.sub rfl) ?_
    refine State.setLoopState_writes (H.sub rfl) ?_
    refine State.setLx_writes (H.sub rfl) ?_
    exact h0
  · exact h0

theorem State.elemWindow_writes {P : State → Prop} {a0 : State} {a1 : Win} {a2 : Nat} (H : Stable P 11522) (h0 : P a0) :
    P (State.elemWindow a0 a1 a2) := by
  unfold State.elemWindow
  refine keep_ite ?_ ?_
  · exact h0
  · split
    · exact h0
    · refine State.acquireStep_writes (H.sub rfl) ?_
      exact h0
    · refine State.holdStep_writes (H.sub rfl) ?_
      exact h0
    · refine keep_ite ?_ ?_
      · exact h0
      · refine keep_ite ?_ ?_
        · refine State.holdStep_writes (H.sub rfl) ?_
          exact h0
        · refine State.intoAcquire_writes (H.sub rfl) ?_
          exact h0

theorem State.finishedElem_writes {P : State → Prop} {a0 : State} {a1 : Nat} (H : Stable P 2) (h0 : P a0) :
    P (State.finishedElem a0 a1) := by
  unfold State.finishedElem
  extract_lets +onlyGivenNames x10
  refine keep_ite ?_ ?_
  · refine State.setF_writes (H.sub rfl) ?_
    refine State.setF_writes (H.sub rfl) ?_
    exact h0
  · exact h0

theorem State.searchFrom_writes {P : State → Prop} {a0 : State} {a1 : Nat} {a2 : Nat} (H : Stable P 2050) (h0 : P a0) :
    P (State.searchFrom a0 a1 a2) := by
  unfold State.searchFrom
  extract_lets +onlyGivenNames x10
  extract_lets +onlyGivenNames x11
  refine State.setPhase_writes (H.sub rfl) ?_
  refine State.setLx_writes (H.sub rfl) ?_
  exact h0

theorem State.giveSlots_writes {P : State → Prop} {a0 : State} {a1 : Nat} (H : Stable P 2050) (h0 : P a0) :
    P (State.giveSlots a0 a1) := by
  unfold State.giveSlots
  extract_lets +onlyGivenNames x10
  extract_lets +onlyGivenNames x11
  extract_lets +onlyGivenNames x12
  refine foldl_keep ?_ ?_
  · intro n10 n11 n12
    refine State.searchFrom_writes (H.sub rfl) ?_
    exact n12
  · exact h0

theorem State.leaveOff_writes {P : State → Prop} {a0 : State} {a1 : Nat} (H : Stable P 2050) (h0 : P a0) :
    P (State.leaveOff a0 a1) := by
  unfold State.leaveOff
  extract_lets +onlyGivenNames x10
  extract_lets +onlyGivenNames x11
  refine keep_ite ?_ ?_
  · exact h0
  · refine keep_ite ?_ ?_
    · refine State.setLoopState_writes (H.sub rfl) ?_
      refine State.setLx_writes (H.sub rfl) ?_
      exact h0
    · refine keep_ite ?_ ?_
      · refine State.setLx_writes (H.sub rfl) ?_
        exact h0
      · exact h0

theorem State.loopOff_writes {P : State → Prop} {a0 : State} {a1 : Nat} (H : Stable P 2050) (h0 : P a0) :
    P (State.loopOff a0 a1) := by
  unfold State.loopOff
  extract_lets +onlyGivenNames x10
  extract_lets +onlyGivenNames x11
  extract_lets +onlyGivenNames x12
  have h10 : P x12 := by
    unfold x12
    refine State.setLx_writes (H.sub rfl) ?_
    exact h0
  extract_lets +onlyGivenNames x13
  have h11 : P x13 := by
    unfold x13
    refine State.setF_writes (H.sub rfl) ?_
    refine State.setF_writes (H.sub rfl) ?_
    exact h10
  refine State.setLoopState_writes (H.sub rfl) ?_
  exact h11

theorem State.loopAtCommit_writes {P : State → Prop} {a0 : State} {a1 : Nat} {a2 : Nat} (H : Stable P 3074) (h0 : P a0) :
    P (State.loopAtCommit a0 a1 a2) := by
  unfold State.loopAtCommit
  extract_lets +onlyGivenNames x10
  extract_lets +onlyGivenNames x11
  refine keep_ite ?_ ?_
  · refine State.leaveOff_writes (H.sub rfl) ?_
    exact h0
  · refine keep_ite ?_ ?_
    · refine State.park_writes (H.sub rfl) ?_
      refine State.loopOff_writes (H.sub rfl) ?_
      exact h0
    · refine keep_ite ?_ ?_
      · refine State.setLx_writes (H.sub rfl) ?_
        exact h0
      · refine keep_ite ?_ ?_
        · refine State.setLx_writes (H.sub rfl) ?_
          exact h0
        · exact h0

theorem State.publishNode_writes {P : State → Prop} {a0 : Nat} {a1 : State} (H : Stable P 2050) (h1 : P a1) :
    P (State.publishNode a0 a1) := by
  unfold State.publishNode
  extract_lets +onlyGivenNames x10
  refine keep_ite ?_ ?_
  · extract_lets +onlyGivenNames x11
    extract_lets +onlyGivenNames x12
    have h10 : P x12 := by
      unfold x12
      refine State.setF_writes (H.sub rfl) ?_
      exact h1
    extract_lets +onlyGivenNames x13
    have h11 : P x13 := by
      unfold x13
      refine State.wr_writes (H.sub rfl) ?_
      exact h10
    refine H.set_loop rfl   ?_
    exact h11
  · extract_lets +onlyGivenNames x14
    have h12 : P x14 := by
      unfold x14
      refine State.setF_writes (H.sub rfl) ?_
      exact h1
    extract_lets +onlyGivenNames x15
    refine H.set_loop rfl   ?_
    exact h12

theorem State.publish_writes {P : State → Prop} {a0 : State} (H : Stable P 2050) (h0 : P a0) :
    P (State.publish a0) := by
  unfold State.publish
  extract_lets +onlyGivenNames x10
  extract_lets +onlyGivenNames x11
  extract_lets +onlyGivenNames x12
  have h10 : P x12 := by
    unfold x12
    refine H.set_loop rfl   ?_
    exact h0
  extract_lets +onlyGivenNames x13
  have h11 : P x13 := by
    unfold x13
    refine forUp_keep ?_ ?_
    · intro n10 n11 n12
      refine State.publishNode_writes (H.sub rfl) ?_
      exact n12
    · exact h10
  refine keep_ite ?_ ?_
  · refine State.count_writes (H.sub rfl) ?_
    exact h11
  · exact h11

theorem State.unfinished_writes {P : State → Prop} {a0 : State} {a1 : Nat} (H : Stable P 8450) (h0 : P a0) :
    P (State.unfinished a0 a1) := by
  unfold State.unfinished
  extract_lets +onlyGivenNames x10
  extract_lets +onlyGivenNames x11
  extract_lets +onlyGivenNames x12
  have h10 : P x12 := by
    unfold x12
    refine State.count_writes (H.sub rfl) ?_
    refine State.setF_writes (H.sub rfl) ?_
    exact h0
  extract_lets +onlyGivenNames x13
  have h11 : P x13 := by
    unfold x13
    refine State.count_writes (H.sub rfl) ?_
    exact h10
  refine keep_ite ?_ ?_
  · refine State.raise_writes (H.sub rfl) ?_
    exact h11
  · exact h11

theorem State.runWindow_writes {P : State → Prop} {a0 : Win} {a1 : List Nat} {a2 : Nat} {a3 : Bool} {a4 : State} (H : Stable P 11522) (h4 : P a4) :
    P (State.runWindow a0 a1 a2 a3 a4).1 := by
  induction a1 generalizing a2 a3 a4
  · unfold State.runWindow
    refine keep_mk1 ?_
    exact h4
  · rename_i v10 v11 v12
    unfold State.runWindow
    extract_lets +onlyGivenNames x10
    split
    · refine v12 ?_
      refine State.unfinished_writes (H.sub rfl) ?_
      exact h4
    · refine v12 ?_
      refine State.finishedElem_writes (H.sub rfl) ?_
      refine State.elemWindow_writes (H.sub rfl) ?_
      exact h4

theorem execAcqTimeout_writes {P : State → Prop} {a0 : Fin 9216} {a1 : State} (H : Stable P 10498) (h1 : P a1) :
    OutP P (execAcqTimeout a0 a1) := by
  unfold execAcqTimeout
  extract_lets +onlyGivenNames x10
  extract_lets +onlyGivenNames x11
  refine outP_next ?_
  refine keep_ite ?_ ?_
  · refine State.searchFrom_writes (H.sub rfl) ?_
    refine State.raise_writes (H.sub rfl) ?_
    exact h1
  · exact h1

theorem execFfStale_writes {P : State → Prop} {a0 : Fin 16} {a1 : State} (H : Stable P 10496) (h1 : P a1) :
    OutP P (execFfStale a0 a1) := by
  unfold execFfStale
  refine outP_next ?_
  refine keep_ite ?_ ?_
  · extract_lets +onlyGivenNames x10
    extract_lets +onlyGivenNames x11
    have h10 : P x11 := by
      unfold x11
      refine H.set_loop rfl   ?_
      exact h1
    refine State.raise_writes (H.sub rfl) ?_
    exact h10
  · exact h1

theorem execLoopCmdReacquire_writes {P : State → Prop} {a0 : BitVec 14} {a1 : State} (H : Stable P 2050) (h1 : P a1) :
    OutP P (execLoopCmdReacquire a0 a1) := by
  unfold execLoopCmdReacquire
  extract_lets +onlyGivenNames x10
  extract_lets +onlyGivenNames x11
  have h10 : P x11 := by
    unfold x11
    refine State.setF_writes (H.sub rfl) ?_
    exact h1
  extract_lets +onlyGivenNames x12
  refine outP_next ?_
  refine keep_ite ?_ ?_
  · refine State.setPhase_writes (H.sub rfl) ?_
    refine State.setLoopState_writes (H.sub rfl) ?_
    refine State.setLx_writes (H.sub rfl) ?_
    exact h10
  · refine State.setF_writes (H.sub rfl) ?_
    exact h10

theorem execLoopFrameStart_writes {P : State → Prop} {a0 : State} (H : Stable P 72706) (h0 : P a0) :
    OutP P (execLoopFrameStart a0) := by
  unfold execLoopFrameStart
  refine outP_next ?_
  refine keep_ite ?_ ?_
  · extract_lets +onlyGivenNames x10
    extract_lets +onlyGivenNames x11
    have h10 : P x11 := by
      unfold x11
      refine H.set_loop rfl   ?_
      exact h0
    extract_lets +onlyGivenNames x12
    have h11 : P x12 := by
      unfold x12
      refine keep_ite ?_ ?_
      · refine State.publish_writes (H.sub rfl) ?_
        refine State.evalModel_writes (H.sub rfl) ?_
        refine State.setF_writes (H.sub rfl) ?_
        exact h10
      · exact h10
    refine forUp_keep ?_ ?_
    · intro n10 n11 n12
      refine State.blockFrame_writes (H.sub rfl) ?_
      exact n12
    · exact h11
  · exact h0

theorem execLoopGroupWindow_writes {P : State → Prop} {a0 : Fin 16} {a1 : Fin 8} {a2 : Nat} {a3 : State} (H : Stable P 11522) (h3 : P a3) :
    OutP P (execLoopGroupWindow a0 a1 a2 a3) := by
  unfold execLoopGroupWindow
  refine outP_next ?_
  refine keep_ite ?_ ?_
  · extract_lets +onlyGivenNames x10
    extract_lets +onlyGivenNames x11
    have h10 : P x11 := by
      unfold x11
      refine H.set_loop rfl   ?_
      exact h3
    extract_lets +onlyGivenNames x12
    have h11 : P x12 := by
      unfold x12
      refine State.giveSlots_writes (H.sub rfl) ?_
      exact h10
    extract_lets +onlyGivenNames x13
    extract_lets +onlyGivenNames x14
    extract_lets +onlyGivenNames x15
    extract_lets +onlyGivenNames x16
    split
    · rename_i v10 v11 v12 v13
      have h12 : P v11 := keep_fst v13 (by
        refine State.runWindow_writes (H.sub rfl) ?_
        exact h11)
      extract_lets +onlyGivenNames x17
      have h13 : P x17 := by
        unfold x17
        refine keep_ite ?_ ?_
        · refine State.count_writes (H.sub rfl) ?_
          exact h12
        · exact h12
      refine H.set_loop rfl   ?_
      exact h13
  · exact h3

theorem execLoopLaneLost_writes {P : State → Prop} {a0 : Fin 16} {a1 : List (Fin 576)} {a2 : State} (H : Stable P 10498) (h2 : P a2) :
    OutP P (execLoopLaneLost a0 a1 a2) := by
  unfold execLoopLaneLost
  extract_lets +onlyGivenNames x10
  refine outP_next ?_
  refine keep_ite ?_ ?_
  · exact h2
  · extract_lets +onlyGivenNames x11
    have h10 : P x11 := by
      unfold x11
      refine State.setF_writes (H.sub rfl) ?_
      exact h2
    extract_lets +onlyGivenNames x12
    extract_lets +onlyGivenNames x13
    have h11 : P x13 := by
      unfold x13
      refine H.set_loop rfl   ?_
      exact h10
    extract_lets +onlyGivenNames x14
    have h12 : P x14 := by
      unfold x14
      refine State.raise_writes (H.sub rfl) ?_
      exact h11
    refine keep_ite ?_ ?_
    · refine State.raise_writes (H.sub rfl) ?_
      exact h12
    · exact h12

end Sys2Proof.Machine
end

