-- ==== Sys2Proof/Laws/WritesShadow.lean ====
section
/-! SUPPORT. Which components of the state each operation and command of Machine/Shadow.lean may write. -/

namespace Sys2Proof.Machine

theorem State.cellsWord_writes {P : State → Prop} {a0 : State} {a1 : Nat} {a2 : Word} (H : Stable P 32) (h0 : P a0) :
    P (State.cellsWord a0 a1 a2) := by
  unfold State.cellsWord
  extract_lets +onlyGivenNames x10
  refine H.set_fab rfl   ?_
  exact h0

theorem State.classWord_writes {P : State → Prop} {a0 : State} {a1 : Nat} {a2 : Nat} {a3 : Word} (H : Stable P 524288) (h0 : P a0) :
    P (State.classWord a0 a1 a2 a3) := by
  unfold State.classWord
  refine forUp_keep ?_ ?_
  · intro n10 n11 n12
    refine keep_ite ?_ ?_
    · refine H.set_pk rfl   ?_
      exact n12
    · exact n12
  · exact h0

theorem State.wrMasked_writes {P : State → Prop} {a0 : State} {a1 : Nat} {a2 : Nat} {a3 : Word} (H : Stable P 2) (h0 : P a0) :
    P (State.wrMasked a0 a1 a2 a3) := by
  unfold State.wrMasked
  refine State.wr_writes (H.sub rfl) ?_
  exact h0

theorem State.loopCfgWord_writes {P : State → Prop} {a0 : State} {a1 : Nat} {a2 : Word} (H : Stable P 2) (h0 : P a0) :
    P (State.loopCfgWord a0 a1 a2) := by
  unfold State.loopCfgWord
  extract_lets +onlyGivenNames x10
  extract_lets +onlyGivenNames x11
  extract_lets +onlyGivenNames x12
  refine keep_ite ?_ ?_
  · exact h0
  · refine keep_ite ?_ ?_
    · refine State.wr_writes (H.sub rfl) ?_
      exact h0
    · refine keep_ite ?_ ?_
      · refine State.wrMasked_writes (H.sub rfl) ?_
        exact h0
      · refine keep_ite ?_ ?_
        · refine State.wrMasked_writes (H.sub rfl) ?_
          exact h0
        · refine State.wr_writes (H.sub rfl) ?_
          exact h0

theorem State.rackSeqWord_writes {P : State → Prop} {a0 : State} {a1 : Nat} {a2 : Word} (H : Stable P 4096) (h0 : P a0) :
    P (State.rackSeqWord a0 a1 a2) := by
  unfold State.rackSeqWord
  extract_lets +onlyGivenNames x10
  refine H.set_seq rfl   ?_
  exact h0

theorem State.schShadowWord_writes {P : State → Prop} {a0 : State} {a1 : Nat} {a2 : Nat} {a3 : Word} (H : Stable P 524288) (h0 : P a0) :
    P (State.schShadowWord a0 a1 a2 a3) := by
  unfold State.schShadowWord
  extract_lets +onlyGivenNames x10
  refine H.set_pk rfl   ?_
  exact h0

theorem State.shadowMarks_writes {P : State → Prop} {a0 : State} {a1 : Desc} (H : Stable P 50) (h0 : P a0) :
    P (State.shadowMarks a0 a1) := by
  unfold State.shadowMarks
  refine keep_ite ?_ ?_
  · refine State.solveCut_writes (H.sub rfl) ?_
    refine State.setF_writes (H.sub rfl) ?_
    exact h0
  · refine keep_ite ?_ ?_
    · refine State.setF_writes (H.sub rfl) ?_
      exact h0
    · exact h0

theorem State.shadowWord_writes {P : State → Prop} {a0 : State} {a1 : Desc} {a2 : Nat} {a3 : Word} (H : Stable P 528418) (h0 : P a0) :
    P (State.shadowWord a0 a1 a2 a3) := by
  unfold State.shadowWord
  split
  · refine State.wrMasked_writes (H.sub rfl) ?_
    exact h0
  · refine State.cellsWord_writes (H.sub rfl) ?_
    exact h0
  · refine State.loopCfgWord_writes (H.sub rfl) ?_
    exact h0
  · refine State.rackSeqWord_writes (H.sub rfl) ?_
    exact h0
  · refine State.wrMasked_writes (H.sub rfl) ?_
    exact h0
  · refine State.wrMasked_writes (H.sub rfl) ?_
    exact h0
  · refine State.wr_writes (H.sub rfl) ?_
    exact h0
  · refine State.classWord_writes (H.sub rfl) ?_
    exact h0
  · refine State.schShadowWord_writes (H.sub rfl) ?_
    exact h0
  · refine State.wrMasked_writes (H.sub rfl) ?_
    exact h0
  · exact h0

theorem State.shadowWords_writes {P : State → Prop} {a0 : Desc} {a1 : Nat} {a2 : List Word} {a3 : State} (H : Stable P 528418) (h3 : P a3) :
    P (State.shadowWords a0 a1 a2 a3) := by
  induction a2 generalizing a1 a3
  · unfold State.shadowWords
    exact h3
  · rename_i v10 v11 v12
    unfold State.shadowWords
    refine v12 ?_
    refine State.shadowWord_writes (H.sub rfl) ?_
    exact h3

theorem State.shadowDone_writes {P : State → Prop} {a0 : State} {a1 : Req} {a2 : Desc} {a3 : Buf} (H : Stable P 528434) (h0 : P a0) :
    P (State.shadowDone a0 a1 a2 a3) := by
  unfold State.shadowDone
  refine State.finish_writes (H.sub rfl) ?_
  refine State.shadowMarks_writes (H.sub rfl) ?_
  refine State.shadowWords_writes (H.sub rfl) ?_
  exact h0

theorem State.shadowWrite_writes {P : State → Prop} {a0 : State} {a1 : Desc} {a2 : Buf} {a3 : Req} (H : Stable P 569714) (h0 : P a0) :
    P (State.shadowWrite a0 a1 a2 a3) := by
  unfold State.shadowWrite
  split
  · refine State.finish_writes (H.sub rfl) ?_
    exact h0
  · refine keep_ite ?_ ?_
    · refine State.finish_writes (H.sub rfl) ?_
      refine State.servoSample_writes (H.sub rfl) ?_
      exact h0
    · refine keep_ite ?_ ?_
      · refine H.set_rack rfl   ?_
        exact h0
      · refine State.shadowDone_writes (H.sub rfl) ?_
        exact h0

theorem State.shadowRow_writes {P : State → Prop} {a0 : State} {a1 : Fin 32} {a2 : Desc} {a3 : Buf} {a4 : Nat} (H : Stable P 569714) (h0 : P a0) :
    P (State.shadowRow a0 a1 a2 a3 a4) := by
  unfold State.shadowRow
  refine State.launch_writes (H.sub rfl) ?_ ?_
  · exact h0
  · intro n10 n11 n12
    refine State.shadowWrite_writes (H.sub rfl) ?_
    exact n12

theorem execPktSeal_writes {P : State → Prop} {a0 : Fin 32} {a1 : Desc} {a2 : State} (H : Stable P 569714) (h2 : P a2) :
    OutP P (execPktSeal a0 a1 a2) := by
  unfold execPktSeal
  refine outP_next ?_
  refine State.shadowRow_writes (H.sub rfl) ?_
  exact h2

theorem execShadowWriteFabCells_writes {P : State → Prop} {a0 : Fin 32} {a1 : Desc} {a2 : Buf} {a3 : State} (H : Stable P 569714) (h3 : P a3) :
    OutP P (execShadowWriteFabCells a0 a1 a2 a3) := by
  unfold execShadowWriteFabCells
  refine outP_next ?_
  refine State.shadowRow_writes (H.sub rfl) ?_
  exact h3

theorem execShadowWriteFabMap_writes {P : State → Prop} {a0 : Fin 32} {a1 : Desc} {a2 : Buf} {a3 : State} (H : Stable P 569714) (h3 : P a3) :
    OutP P (execShadowWriteFabMap a0 a1 a2 a3) := by
  unfold execShadowWriteFabMap
  refine outP_next ?_
  refine State.shadowRow_writes (H.sub rfl) ?_
  exact h3

theorem execShadowWriteLanePort_writes {P : State → Prop} {a0 : Fin 32} {a1 : Desc} {a2 : Buf} {a3 : State} (H : Stable P 569714) (h3 : P a3) :
    OutP P (execShadowWriteLanePort a0 a1 a2 a3) := by
  unfold execShadowWriteLanePort
  refine outP_next ?_
  refine State.shadowRow_writes (H.sub rfl) ?_
  exact h3

theorem execShadowWriteLoopCfg_writes {P : State → Prop} {a0 : Fin 32} {a1 : Desc} {a2 : Buf} {a3 : State} (H : Stable P 569714) (h3 : P a3) :
    OutP P (execShadowWriteLoopCfg a0 a1 a2 a3) := by
  unfold execShadowWriteLoopCfg
  refine outP_next ?_
  refine State.shadowRow_writes (H.sub rfl) ?_
  exact h3

theorem execShadowWritePipeClass_writes {P : State → Prop} {a0 : Fin 32} {a1 : Desc} {a2 : Buf} {a3 : State} (H : Stable P 569714) (h3 : P a3) :
    OutP P (execShadowWritePipeClass a0 a1 a2 a3) := by
  unfold execShadowWritePipeClass
  refine outP_next ?_
  refine State.shadowRow_writes (H.sub rfl) ?_
  exact h3

theorem execShadowWritePipeGraph_writes {P : State → Prop} {a0 : Fin 32} {a1 : Desc} {a2 : Buf} {a3 : State} (H : Stable P 569714) (h3 : P a3) :
    OutP P (execShadowWritePipeGraph a0 a1 a2 a3) := by
  unfold execShadowWritePipeGraph
  refine outP_next ?_
  refine State.shadowRow_writes (H.sub rfl) ?_
  exact h3

theorem execShadowWritePipePort_writes {P : State → Prop} {a0 : Fin 32} {a1 : Desc} {a2 : Buf} {a3 : State} (H : Stable P 569714) (h3 : P a3) :
    OutP P (execShadowWritePipePort a0 a1 a2 a3) := by
  unfold execShadowWritePipePort
  refine outP_next ?_
  refine State.shadowRow_writes (H.sub rfl) ?_
  exact h3

theorem execShadowWritePipeTmpl_writes {P : State → Prop} {a0 : Fin 32} {a1 : Desc} {a2 : Buf} {a3 : State} (H : Stable P 569714) (h3 : P a3) :
    OutP P (execShadowWritePipeTmpl a0 a1 a2 a3) := by
  unfold execShadowWritePipeTmpl
  refine outP_next ?_
  refine State.shadowRow_writes (H.sub rfl) ?_
  exact h3

theorem execShadowWriteRackSeq_writes {P : State → Prop} {a0 : Fin 32} {a1 : Desc} {a2 : Buf} {a3 : State} (H : Stable P 569714) (h3 : P a3) :
    OutP P (execShadowWriteRackSeq a0 a1 a2 a3) := by
  unfold execShadowWriteRackSeq
  refine outP_next ?_
  refine State.shadowRow_writes (H.sub rfl) ?_
  exact h3

theorem execShadowWriteSch_writes {P : State → Prop} {a0 : Fin 32} {a1 : Desc} {a2 : Buf} {a3 : State} (H : Stable P 569714) (h3 : P a3) :
    OutP P (execShadowWriteSch a0 a1 a2 a3) := by
  unfold execShadowWriteSch
  refine outP_next ?_
  refine State.shadowRow_writes (H.sub rfl) ?_
  exact h3

theorem execTimOffset_writes {P : State → Prop} {a0 : Fin 32} {a1 : Desc} {a2 : State} (H : Stable P 569714) (h2 : P a2) :
    OutP P (execTimOffset a0 a1 a2) := by
  unfold execTimOffset
  refine outP_next ?_
  refine State.shadowRow_writes (H.sub rfl) ?_
  exact h2

end Sys2Proof.Machine
end

