-- ==== Sys2Proof/Laws/WritesMgmt.lean ====
section
/-! SUPPORT. Which components of the state each operation and command of Machine/Mgmt.lean may write. -/

namespace Sys2Proof.Machine

theorem State.logRoom_writes {P : State → Prop} {a0 : State} (H : Stable P 8578) (h0 : P a0) :
    P (State.logRoom a0) := by
  unfold State.logRoom
  refine keep_ite ?_ ?_
  · refine H.set_mgmt rfl   ?_
    exact h0
  · extract_lets +onlyGivenNames x10
    extract_lets +onlyGivenNames x11
    extract_lets +onlyGivenNames x12
    extract_lets +onlyGivenNames x13
    extract_lets +onlyGivenNames x14
    have h10 : P x14 := by
      unfold x14
      refine H.set_mgmt rfl   ?_
      exact h0
    extract_lets +onlyGivenNames x15
    have h11 : P x15 := by
      unfold x15
      refine State.count_writes (H.sub rfl) ?_
      exact h10
    refine keep_ite ?_ ?_
    · exact h11
    · refine State.raise_writes (H.sub rfl) ?_
      exact h11

theorem State.showLog_writes {P : State → Prop} {a0 : State} (H : Stable P 2) (h0 : P a0) :
    P (State.showLog a0) := by
  unfold State.showLog
  extract_lets +onlyGivenNames x10
  extract_lets +onlyGivenNames x11
  have h10 : P x11 := by
    unfold x11
    refine State.wr_writes (H.sub rfl) ?_
    exact h0
  extract_lets +onlyGivenNames x12
  have h11 : P x12 := by
    unfold x12
    refine State.wr_writes (H.sub rfl) ?_
    exact h10
  refine State.setF_writes (H.sub rfl) ?_
  exact h11

theorem State.logPut_writes {P : State → Prop} {a0 : State} {a1 : LogRec} (H : Stable P 8578) (h0 : P a0) :
    P (State.logPut a0 a1).2 := by
  unfold State.logPut
  extract_lets +onlyGivenNames x10
  extract_lets +onlyGivenNames x11
  have h10 : P x11 := by
    unfold x11
    refine State.logRoom_writes (H.sub rfl) ?_
    exact h0
  extract_lets +onlyGivenNames x12
  extract_lets +onlyGivenNames x13
  have h11 : P x13 := by
    unfold x13
    refine H.set_mgmt rfl   ?_
    exact h10
  refine keep_mk2 ?_
  refine State.showLog_writes (H.sub rfl) ?_
  exact h11

theorem State.logNote_writes {P : State → Prop} {a0 : State} {a1 : Nat} {a2 : Nat} {a3 : Nat} {a4 : List Nat} (H : Stable P 8578) (h0 : P a0) :
    P (State.logNote a0 a1 a2 a3 a4) := by
  unfold State.logNote
  refine State.logPut_writes (H.sub rfl) ?_
  exact h0

theorem State.logRead_writes {P : State → Prop} {a0 : State} {a1 : Desc} {a2 : Buf} {a3 : Req} (H : Stable P 18) (h0 : P a0) :
    P (State.logRead a0 a1 a2 a3) := by
  unfold State.logRead
  extract_lets +onlyGivenNames x10
  extract_lets +onlyGivenNames x11
  extract_lets +onlyGivenNames x12
  extract_lets +onlyGivenNames x13
  extract_lets +onlyGivenNames x14
  extract_lets +onlyGivenNames x15
  refine keep_ite ?_ ?_
  · refine State.finish_writes (H.sub rfl) ?_
    exact h0
  · refine keep_ite ?_ ?_
    · refine State.finish_writes (H.sub rfl) ?_
      exact h0
    · extract_lets +onlyGivenNames x16
      extract_lets +onlyGivenNames x17
      extract_lets +onlyGivenNames x18
      extract_lets +onlyGivenNames x19
      extract_lets +onlyGivenNames x20
      extract_lets +onlyGivenNames x21
      refine State.finishBuf_writes (H.sub rfl) ?_
      exact h0

theorem State.writeBoot_writes {P : State → Prop} {a0 : State} {a1 : BootRec} (H : Stable P 130) (h0 : P a0) :
    P (State.writeBoot a0 a1) := by
  unfold State.writeBoot
  extract_lets +onlyGivenNames x10
  extract_lets +onlyGivenNames x11
  have h10 : P x11 := by
    unfold x11
    refine keep_ite ?_ ?_
    · refine H.set_mgmt rfl   ?_
      exact h0
    · refine H.set_mgmt rfl   ?_
      exact h0
  refine State.setF_writes (H.sub rfl) ?_
  exact h10

theorem State.recordBoot_writes {P : State → Prop} {a0 : State} (H : Stable P 130) (h0 : P a0) :
    P (State.recordBoot a0) := by
  unfold State.recordBoot
  extract_lets +onlyGivenNames x10
  refine keep_ite ?_ ?_
  · refine State.writeBoot_writes (H.sub rfl) ?_
    exact h0
  · extract_lets +onlyGivenNames x11
    extract_lets +onlyGivenNames x12
    have h10 : P x12 := by
      unfold x12
      refine H.set_mgmt rfl   ?_
      exact h0
    refine State.setF_writes (H.sub rfl) ?_
    exact h10

theorem State.setSlotFlag_writes {P : State → Prop} {a0 : State} {a1 : Nat} {a2 : Bool} (H : Stable P 128) (h0 : P a0) :
    P (State.setSlotFlag a0 a1 a2) := by
  unfold State.setSlotFlag
  refine keep_ite ?_ ?_
  · refine H.set_mgmt rfl   ?_
    exact h0
  · refine H.set_mgmt rfl   ?_
    exact h0

theorem State.setSlotState_writes {P : State → Prop} {a0 : State} {a1 : Nat} {a2 : Nat} (H : Stable P 2) (h0 : P a0) :
    P (State.setSlotState a0 a1 a2) := by
  unfold State.setSlotState
  refine State.setF_writes (H.sub rfl) ?_
  exact h0

theorem State.setSlotTab_writes {P : State → Prop} {a0 : State} {a1 : Nat} {a2 : Tab Byte} (H : Stable P 128) (h0 : P a0) :
    P (State.setSlotTab a0 a1 a2) := by
  unfold State.setSlotTab
  refine keep_ite ?_ ?_
  · refine H.set_mgmt rfl   ?_
    exact h0
  · refine H.set_mgmt rfl   ?_
    exact h0

theorem State.setSwap_writes {P : State → Prop} {a0 : State} {a1 : Bool} (H : Stable P 130) (h0 : P a0) :
    P (State.setSwap a0 a1) := by
  unfold State.setSwap
  refine keep_ite ?_ ?_
  · exact h0
  · extract_lets +onlyGivenNames x10
    extract_lets +onlyGivenNames x11
    have h10 : P x11 := by
      unfold x11
      refine H.set_mgmt rfl   ?_
      exact h0
    refine State.setF_writes (H.sub rfl) ?_
    exact h10

theorem State.setTries_writes {P : State → Prop} {a0 : State} {a1 : Nat} {a2 : Nat} (H : Stable P 2) (h0 : P a0) :
    P (State.setTries a0 a1 a2) := by
  unfold State.setTries
  refine State.setF_writes (H.sub rfl) ?_
  exact h0

theorem execBusDefaultAccess_writes {P : State → Prop} {a0 : Fin 6} {a1 : Bool} {a2 : Bool} {a3 : Word} {a4 : State} (H : Stable P 8450) (h4 : P a4) :
    OutP P (execBusDefaultAccess a0 a1 a2 a3 a4) := by
  unfold execBusDefaultAccess
  extract_lets +onlyGivenNames x10
  extract_lets +onlyGivenNames x11
  have h10 : P x11 := by
    unfold x11
    refine State.setF_writes (H.sub rfl) ?_
    refine State.setF_writes (H.sub rfl) ?_
    exact h4
  extract_lets +onlyGivenNames x12
  have h11 : P x12 := by
    unfold x12
    refine State.setF_writes (H.sub rfl) ?_
    refine State.setF_writes (H.sub rfl) ?_
    exact h10
  extract_lets +onlyGivenNames x13
  have h12 : P x13 := by
    unfold x13
    refine keep_ite ?_ ?_
    · exact h4
    · refine State.wr_writes (H.sub rfl) ?_
      exact h11
  refine outP_next ?_
  refine State.raise_writes (H.sub rfl) ?_
  refine State.count_writes (H.sub rfl) ?_
  exact h12

theorem execLogRead_writes {P : State → Prop} {a0 : Fin 32} {a1 : Desc} {a2 : Buf} {a3 : State} (H : Stable P 18) (h3 : P a3) :
    OutP P (execLogRead a0 a1 a2 a3) := by
  unfold execLogRead
  refine outP_next ?_
  refine State.launch_writes (H.sub rfl) ?_ ?_
  · exact h3
  · intro n10 n11 n12
    refine State.logRead_writes (H.sub rfl) ?_
    exact n12

theorem execLogRecordWrite_writes {P : State → Prop} {a0 : Bool} {a1 : State} (H : Stable P 8578) (h1 : P a1) :
    OutP P (execLogRecordWrite a0 a1) := by
  unfold execLogRecordWrite
  refine outP_next ?_
  split
  · refine keep_ite ?_ ?_
    · exact h1
    · refine keep_ite ?_ ?_
      · refine State.raise_writes (H.sub rfl) ?_
        exact h1
      · extract_lets +onlyGivenNames x10
        extract_lets +onlyGivenNames x11
        extract_lets +onlyGivenNames x12
        extract_lets +onlyGivenNames x13
        have h10 : P x13 := by
          unfold x13
          refine H.set_mgmt rfl   ?_
          exact h1
        refine State.showLog_writes (H.sub rfl) ?_
        exact h10
  · exact h1

theorem execMgtRemapWrite_writes {P : State → Prop} {a0 : Bool} {a1 : State} (H : Stable P 130) (h1 : P a1) :
    OutP P (execMgtRemapWrite a0 a1) := by
  unfold execMgtRemapWrite
  refine outP_next ?_
  refine State.setSwap_writes (H.sub rfl) ?_
  exact h1

end Sys2Proof.Machine
end

