-- ==== Sys2Proof/Laws/WritesRack.lean ====
section
/-! SUPPORT. Which components of the state each operation and command of Machine/Rack.lean may write. -/

namespace Sys2Proof.Machine

theorem State.describe_writes {P : State → Prop} {a0 : State} {a1 : Trig} {a2 : Nat} {a3 : Nat} (H : Stable P 2) (h0 : P a0) :
    P (State.describe a0 a1 a2 a3) := by
  unfold State.describe
  extract_lets +onlyGivenNames x10
  extract_lets +onlyGivenNames x11
  have h10 : P x11 := by
    unfold x11
    refine State.setF_writes (H.sub rfl) ?_
    refine State.setF_writes (H.sub rfl) ?_
    exact h0
  refine State.setF_writes (H.sub rfl) ?_
  refine State.setF_writes (H.sub rfl) ?_
  exact h10

theorem State.setRepair_writes {P : State → Prop} {a0 : State} {a1 : Nat} {a2 : List Nat} (H : Stable P 32) (h0 : P a0) :
    P (State.setRepair a0 a1 a2) := by
  unfold State.setRepair
  extract_lets +onlyGivenNames x10
  refine H.set_fab rfl   ?_
  exact h0

theorem State.freshRepair_writes {P : State → Prop} {a0 : State} {a1 : Trig} (H : Stable P 32) (h0 : P a0) :
    P (State.freshRepair a0 a1) := by
  unfold State.freshRepair
  refine keep_ite ?_ ?_
  · exact h0
  · split
    · refine State.setRepair_writes (H.sub rfl) ?_
      exact h0

theorem State.darkHold_writes {P : State → Prop} {a0 : State} {a1 : Nat} {a2 : Bool} (H : Stable P 1026) (h0 : P a0) :
    P (State.darkHold a0 a1 a2) := by
  unfold State.darkHold
  refine keep_ite ?_ ?_
  · refine keep_ite ?_ ?_
    · refine State.unhold_writes (H.sub rfl) ?_
      exact h0
    · exact h0
  · refine keep_ite ?_ ?_
    · exact h0
    · refine State.parkHold_writes (H.sub rfl) ?_
      exact h0

theorem State.darkPorts_writes {P : State → Prop} {a0 : State} (H : Stable P 1026) (h0 : P a0) :
    P (State.darkPorts a0) := by
  unfold State.darkPorts
  extract_lets +onlyGivenNames x10
  extract_lets +onlyGivenNames x11
  extract_lets +onlyGivenNames x12
  refine forUp_keep ?_ ?_
  · intro n10 n11 n12
    refine State.darkHold_writes (H.sub rfl) ?_
    refine State.darkHold_writes (H.sub rfl) ?_
    exact n12
  · exact h0

theorem State.showPorts_writes {P : State → Prop} {a0 : State} (H : Stable P 2) (h0 : P a0) :
    P (State.showPorts a0) := by
  unfold State.showPorts
  extract_lets +onlyGivenNames x10
  extract_lets +onlyGivenNames x11
  extract_lets +onlyGivenNames x12
  refine forUp_keep ?_ ?_
  · intro n10 n11 n12
    extract_lets +onlyGivenNames x13
    have h10 : P x13 := by
      unfold x13
      refine State.wr_writes (H.sub rfl) ?_
      exact n12
    refine State.wr_writes (H.sub rfl) ?_
    exact h10
  · exact h0

theorem State.goDark_writes {P : State → Prop} {a0 : State} {a1 : List Nat} (H : Stable P 1058) (h0 : P a0) :
    P (State.goDark a0 a1) := by
  unfold State.goDark
  extract_lets +onlyGivenNames x10
  extract_lets +onlyGivenNames x11
  have h10 : P x11 := by
    unfold x11
    refine H.set_fab rfl   ?_
    exact h0
  refine State.showPorts_writes (H.sub rfl) ?_
  refine State.darkPorts_writes (H.sub rfl) ?_
  exact h10

theorem State.resolveDone_writes {P : State → Prop} {a0 : State} (H : Stable P 288) (h0 : P a0) :
    P (State.resolveDone a0) := by
  unfold State.resolveDone
  extract_lets +onlyGivenNames x10
  extract_lets +onlyGivenNames x11
  extract_lets +onlyGivenNames x12
  have h10 : P x12 := by
    unfold x12
    refine H.set_flt rfl   ?_
    exact h0
  refine H.set_fab rfl   ?_
  exact h10

theorem State.showRack_writes {P : State → Prop} {a0 : State} (H : Stable P 2) (h0 : P a0) :
    P (State.showRack a0) := by
  unfold State.showRack
  extract_lets +onlyGivenNames x10
  refine State.setF_writes (H.sub rfl) ?_
  refine State.setF_writes (H.sub rfl) ?_
  exact h0

theorem State.outcomeOf_writes {P : State → Prop} {a0 : State} {a1 : Trig} {a2 : Nat} (H : Stable P 1330) (h0 : P a0) :
    P (State.outcomeOf a0 a1 a2) := by
  unfold State.outcomeOf
  extract_lets +onlyGivenNames x10
  have h10 : P x10 := by
    unfold x10
    refine State.setF_writes (H.sub rfl) ?_
    refine State.showRack_writes (H.sub rfl) ?_
    exact h0
  split
  · extract_lets +onlyGivenNames x11
    refine State.finishOpt_writes (H.sub rfl) ?_
    exact h10
  · refine State.finishOpt_writes (H.sub rfl) ?_
    exact h10
  · refine keep_ite ?_ ?_
    · exact h10
    · refine State.attn_writes (H.sub rfl) ?_
      exact h10
  · refine State.attn_writes (H.sub rfl) ?_
    exact h10
  · refine State.resolveDone_writes (H.sub rfl) ?_
    refine keep_ite ?_ ?_
    · refine State.attn_writes (H.sub rfl) ?_
      exact h10
    · refine State.goDark_writes (H.sub rfl) ?_
      refine State.attn_writes (H.sub rfl) ?_
      exact h10

theorem State.endTrig_writes {P : State → Prop} {a0 : State} {a1 : Trig} {a2 : Nat} {a3 : Nat} {a4 : Nat} (H : Stable P 1330) (h0 : P a0) :
    P (State.endTrig a0 a1 a2 a3 a4) := by
  unfold State.endTrig
  refine State.outcomeOf_writes (H.sub rfl) ?_
  refine keep_ite ?_ ?_
  · refine State.describe_writes (H.sub rfl) ?_
    exact h0
  · exact h0

theorem State.refuseTrig_writes {P : State → Prop} {a0 : State} {a1 : Trig} {a2 : Nat} (H : Stable P 1330) (h0 : P a0) :
    P (State.refuseTrig a0 a1 a2) := by
  unfold State.refuseTrig
  extract_lets +onlyGivenNames x10
  have h10 : P x10 := by
    unfold x10
    refine State.count_writes (H.sub rfl) ?_
    exact h0
  refine keep_ite ?_ ?_
  · refine State.endTrig_writes (H.sub rfl) ?_
    exact h10
  · refine State.endTrig_writes (H.sub rfl) ?_
    exact h10

theorem State.setRack_writes {P : State → Prop} {a0 : State} {a1 : RackSt → RackSt} (H : Stable P 64) (h0 : P a0) :
    P (State.setRack a0 a1) := by
  unfold State.setRack
  refine H.set_rack rfl   ?_
  exact h0

theorem State.shadowEval_writes {P : State → Prop} {a0 : State} {a1 : Bool} (H : Stable P 2) (h0 : P a0) :
    P (State.shadowEval a0 a1) := by
  unfold State.shadowEval
  refine forUp_keep ?_ ?_
  · intro n10 n11 n12
    refine State.setF_writes (H.sub rfl) ?_
    exact n12
  · exact h0

theorem State.admitRack_writes {P : State → Prop} {a0 : State} {a1 : Trig} (H : Stable P 9586) (h0 : P a0) :
    P (State.admitRack a0 a1) := by
  unfold State.admitRack
  split
  · refine State.refuseTrig_writes (H.sub rfl) ?_
    exact h0
  · extract_lets +onlyGivenNames x10
    have h10 : P x10 := by
      unfold x10
      refine State.freshRepair_writes (H.sub rfl) ?_
      exact h0
    extract_lets +onlyGivenNames x11
    extract_lets +onlyGivenNames x12
    extract_lets +onlyGivenNames x13
    have h11 : P x13 := by
      unfold x13
      refine State.setRack_writes (H.sub rfl) ?_
      refine State.describe_writes (H.sub rfl) ?_
      exact h10
    extract_lets +onlyGivenNames x14
    have h12 : P x14 := by
      unfold x14
      refine keep_ite ?_ ?_
      · refine State.shadowEval_writes (H.sub rfl) ?_
        exact h11
      · exact h11
    refine State.fireP_writes (H.sub rfl) ?_
    refine State.showRack_writes (H.sub rfl) ?_
    exact h12

theorem State.setRackActive_writes {P : State → Prop} {a0 : State} {a1 : Tab Word} (H : Stable P 2) (h0 : P a0) :
    P (State.setRackActive a0 a1) := by
  unfold State.setRackActive
  extract_lets +onlyGivenNames x10
  have h10 : P x10 := by
    unfold x10
    refine State.resetRange_writes (H.sub rfl) ?_
    refine State.resetRange_writes (H.sub rfl) ?_
    exact h0
  extract_lets +onlyGivenNames x11
  have h11 : P x11 := by
    unfold x11
    refine forUp_keep ?_ ?_
    · intro n10 n11 n12
      refine State.wr_writes (H.sub rfl) ?_
      exact n12
    · exact h10
  refine foldl_keep ?_ ?_
  · intro n13 n14 n15
    refine keep_ite ?_ ?_
    · refine State.wr_writes (H.sub rfl) ?_
      exact n15
    · refine keep_ite ?_ ?_
      · refine State.wr_writes (H.sub rfl) ?_
        exact n15
      · refine State.wr_writes (H.sub rfl) ?_
        exact n15
  · exact h11

theorem State.swapRackSeq_writes {P : State → Prop} {a0 : State} (H : Stable P 4098) (h0 : P a0) :
    P (State.swapRackSeq a0) := by
  unfold State.swapRackSeq
  extract_lets +onlyGivenNames x10
  extract_lets +onlyGivenNames x11
  have h10 : P x11 := by
    unfold x11
    refine State.setRackActive_writes (H.sub rfl) ?_
    exact h0
  refine H.set_seq rfl   ?_
  exact h10

theorem State.swapWindows_writes {P : State → Prop} {a0 : State} {a1 : List (Nat × Nat × Nat)} (H : Stable P 2) (h0 : P a0) :
    P (State.swapWindows a0 a1) := by
  unfold State.swapWindows
  refine foldl_keep ?_ ?_
  · intro n10 n11 n12
    refine State.swapRange_writes (H.sub rfl) ?_
    exact n12
  · exact h0

theorem State.applyFabric_writes {P : State → Prop} {a0 : State} {a1 : RackRun} (H : Stable P 4130) (h0 : P a0) :
    P (State.applyFabric a0 a1) := by
  unfold State.applyFabric
  extract_lets +onlyGivenNames x10
  refine keep_ite ?_ ?_
  · extract_lets +onlyGivenNames x11
    extract_lets +onlyGivenNames x12
    have h10 : P x12 := by
      unfold x12
      refine H.set_fab rfl   ?_
      exact h0
    refine foldl_keep ?_ ?_
    · intro n10 n11 n12
      refine State.setLoopWords_writes (H.sub rfl) ?_
      exact n12
    · exact h10
  · extract_lets +onlyGivenNames x13
    have h11 : P x13 := by
      unfold x13
      refine State.swapRackSeq_writes (H.sub rfl) ?_
      refine State.swapWindows_writes (H.sub rfl) ?_
      exact h0
    extract_lets +onlyGivenNames x14
    extract_lets +onlyGivenNames x15
    have h12 : P x15 := by
      unfold x15
      refine H.set_fab rfl   ?_
      exact h11
    refine State.setF_writes (H.sub rfl) ?_
    exact h12

theorem State.carryWaiting_writes {P : State → Prop} {a0 : State} (H : Stable P 528498) (h0 : P a0) :
    P (State.carryWaiting a0) := by
  unfold State.carryWaiting
  extract_lets +onlyGivenNames x10
  extract_lets +onlyGivenNames x11
  have h10 : P x11 := by
    unfold x11
    refine State.setRack_writes (H.sub rfl) ?_
    exact h0
  refine foldl_keep ?_ ?_
  · intro n10 n11 n12
    split
    · refine State.shadowDone_writes (H.sub rfl) ?_
      exact n12
    · refine State.solveArrive_writes (H.sub rfl) ?_
      exact n12
  · exact h10

theorem State.elemCalIn_writes {P : State → Prop} {a0 : State} {a1 : Nat} (H : Stable P 262146) (h0 : P a0) :
    P (State.elemCalIn a0 a1) := by
  unfold State.elemCalIn
  extract_lets +onlyGivenNames x10
  have h10 : P x10 := by
    unfold x10
    refine State.copyRange_writes (H.sub rfl) ?_
    exact h0
  extract_lets +onlyGivenNames x11
  have h11 : P x11 := by
    unfold x11
    refine State.wr_writes (H.sub rfl) ?_
    exact h10
  extract_lets +onlyGivenNames x12
  have h12 : P x12 := by
    unfold x12
    refine keep_ite ?_ ?_
    · refine State.resetRange_writes (H.sub rfl) ?_
      exact h11
    · exact h0
  extract_lets +onlyGivenNames x13
  have h13 : P x13 := by
    unfold x13
    refine forUp_keep ?_ ?_
    · intro n10 n11 n12
      split
      · extract_lets +onlyGivenNames x14
        have h14 : P x14 := by
          unfold x14
          refine State.wr_writes (H.sub rfl) ?_
          exact n12
        refine H.set_cal rfl   ?_
        exact h14
      · exact n12
    · exact h12
  split
  · extract_lets +onlyGivenNames x15
    have h15 : P x15 := by
      unfold x15
      refine State.wr_writes (H.sub rfl) ?_
      exact h13
    refine H.set_cal rfl   ?_
    exact h15
  · exact h13

theorem State.endMuted_writes {P : State → Prop} {a0 : State} (H : Stable P 14594) (h0 : P a0) :
    P (State.endMuted a0) := by
  unfold State.endMuted
  refine forUp_keep ?_ ?_
  · intro n10 n11 n12
    refine keep_ite ?_ ?_
    · refine State.endSeq_writes (H.sub rfl) ?_
      exact n12
    · exact n12
  · exact h0

theorem State.loopsAtCommit_writes {P : State → Prop} {a0 : State} {a1 : Nat → Nat} (H : Stable P 3074) (h0 : P a0) :
    P (State.loopsAtCommit a0 a1) := by
  unfold State.loopsAtCommit
  extract_lets +onlyGivenNames x10
  extract_lets +onlyGivenNames x11
  have h10 : P x11 := by
    unfold x11
    refine foldl_keep ?_ ?_
    · intro n10 n11 n12
      refine State.beginHandover_writes (H.sub rfl) ?_
      refine State.setLx_writes (H.sub rfl) ?_
      exact n12
    · exact h0
  refine forUp_keep ?_ ?_
  · intro n13 n14 n15
    refine State.loopAtCommit_writes (H.sub rfl) ?_
    exact n15
  · exact h10

theorem State.lossDueAt_writes {P : State → Prop} {a0 : State} {a1 : Nat} (H : Stable P 256) (h0 : P a0) :
    P (State.lossDueAt a0 a1) := by
  unfold State.lossDueAt
  refine H.set_flt rfl   ?_
  exact h0

theorem State.tapLight_writes {P : State → Prop} {a0 : State} {a1 : List Solver.Conn} (H : Stable P 401666) (h0 : P a0) :
    P (State.tapLight a0 a1) := by
  unfold State.tapLight
  extract_lets +onlyGivenNames x10
  extract_lets +onlyGivenNames x11
  refine forUp_keep ?_ ?_
  · intro n10 n11 n12
    refine keep_ite ?_ ?_
    · exact n12
    · refine State.tapFabric_writes (H.sub rfl) ?_
      exact n12
  · exact h0

theorem State.commitFabric_writes {P : State → Prop} {a0 : State} {a1 : RackRun} (H : Stable P 408866) (h0 : P a0) :
    P (State.commitFabric a0 a1) := by
  unfold State.commitFabric
  extract_lets +onlyGivenNames x10
  extract_lets +onlyGivenNames x11
  extract_lets +onlyGivenNames x12
  extract_lets +onlyGivenNames x13
  have h10 : P x13 := by
    unfold x13
    refine State.wr_writes (H.sub rfl) ?_
    exact h0
  extract_lets +onlyGivenNames x14
  have h11 : P x14 := by
    unfold x14
    refine State.applyFabric_writes (H.sub rfl) ?_
    exact h10
  extract_lets +onlyGivenNames x15
  have h12 : P x15 := by
    unfold x15
    refine foldl_keep ?_ ?_
    · intro n10 n11 n12
      refine State.elemCalIn_writes (H.sub rfl) ?_
      exact n12
    · exact h11
  extract_lets +onlyGivenNames x16
  have h13 : P x16 := by
    unfold x16
    refine State.endMuted_writes (H.sub rfl) ?_
    refine State.loopsAtCommit_writes (H.sub rfl) ?_
    exact h12
  extract_lets +onlyGivenNames x17
  have h14 : P x17 := by
    unfold x17
    refine State.tapLight_writes (H.sub rfl) ?_
    refine State.showPorts_writes (H.sub rfl) ?_
    refine State.darkPorts_writes (H.sub rfl) ?_
    exact h13
  refine foldl_keep ?_ ?_
  · intro n13 n14 n15
    split
    · refine State.lossDueAt_writes (H.sub rfl) ?_
      exact n15
    · exact n15
  · exact h14

theorem State.commitPacket_writes {P : State → Prop} {a0 : State} {a1 : Trig} (H : Stable P 3022858) (h0 : P a0) :
    P (State.commitPacket a0 a1) := by
  unfold State.commitPacket
  extract_lets +onlyGivenNames x10
  extract_lets +onlyGivenNames x11
  extract_lets +onlyGivenNames x12
  extract_lets +onlyGivenNames x13
  extract_lets +onlyGivenNames x14
  have h10 : P x14 := by
    unfold x14
    refine State.swapWindows_writes (H.sub rfl) ?_
    refine State.wr_writes (H.sub rfl) ?_
    exact h0
  extract_lets +onlyGivenNames x15
  extract_lets +onlyGivenNames x16
  have h11 : P x16 := by
    unfold x16
    refine H.set_pk rfl   ?_
    exact h10
  extract_lets +onlyGivenNames x17
  have h12 : P x17 := by
    unfold x17
    refine State.setF_writes (H.sub rfl) ?_
    exact h11
  extract_lets +onlyGivenNames x18
  have h13 : P x18 := by
    unfold x18
    refine forUp_keep ?_ ?_
    · intro n10 n11 n12
      refine State.setF_writes (H.sub rfl) ?_
      exact n12
    · refine State.shadowEval_writes (H.sub rfl) ?_
      exact h12
  refine State.replayAll_writes (H.sub rfl) ?_
  refine State.coopApply_writes (H.sub rfl) ?_
  refine State.applyPortRecords_writes (H.sub rfl) ?_
  exact h13

theorem State.playOn_writes {P : State → Prop} {a0 : Play} {a1 : List Nat} {a2 : Nat} {a3 : State} (H : Stable P 1026) (h3 : P a3) :
    P (State.playOn a0 a1 a2 a3) := by
  induction a1 generalizing a2 a3
  · unfold State.playOn
    exact h3
  · rename_i v10 v11 v12
    unfold State.playOn
    extract_lets +onlyGivenNames x10
    have h10 : P x10 := by
      unfold x10
      refine State.writeCode_writes (H.sub rfl) ?_
      exact h3
    extract_lets +onlyGivenNames x11
    extract_lets +onlyGivenNames x12
    refine keep_ite ?_ ?_
    · exact h10
    · refine v12 ?_
      exact h10

theorem State.drive1_writes {P : State → Prop} {a0 : State} {a1 : Word} {a2 : RackMove} {a3 : Nat} (H : Stable P 1026) (h0 : P a0) :
    P (State.drive1 a0 a1 a2 a3) := by
  unfold State.drive1
  extract_lets +onlyGivenNames x10
  extract_lets +onlyGivenNames x11
  extract_lets +onlyGivenNames x12
  refine State.playOn_writes (H.sub rfl) ?_
  exact h0

theorem State.drivePhase_writes {P : State → Prop} {a0 : State} {a1 : Word} {a2 : List RackMove} (H : Stable P 1026) (h0 : P a0) :
    P (State.drivePhase a0 a1 a2) := by
  unfold State.drivePhase
  refine foldl_keep ?_ ?_
  · intro n10 n11 n12
    refine State.drive1_writes (H.sub rfl) ?_
    exact n12
  · exact h0

theorem State.muteLive_writes {P : State → Prop} {a0 : State} {a1 : Trig} (H : Stable P 4096) (h0 : P a0) :
    P (State.muteLive a0 a1) := by
  unfold State.muteLive
  extract_lets +onlyGivenNames x10
  refine forUp_keep ?_ ?_
  · intro n10 n11 n12
    extract_lets +onlyGivenNames x11
    refine keep_ite ?_ ?_
    · refine State.setSeqSt_writes (H.sub rfl) ?_
      exact n12
    · exact n12
  · exact h0

theorem State.openHold_writes {P : State → Prop} {a0 : State} {a1 : Trig} {a2 : RackMove} (H : Stable P 1026) (h0 : P a0) :
    P (State.openHold a0 a1 a2) := by
  unfold State.openHold
  refine keep_ite ?_ ?_
  · refine State.unhold_writes (H.sub rfl) ?_
    exact h0
  · exact h0

theorem State.takeForRack_writes {P : State → Prop} {a0 : State} {a1 : List Nat} (H : Stable P 14594) (h0 : P a0) :
    P (State.takeForRack a0 a1) := by
  unfold State.takeForRack
  extract_lets +onlyGivenNames x10
  have h10 : P x10 := by
    unfold x10
    refine forUp_keep ?_ ?_
    · intro n10 n11 n12
      extract_lets +onlyGivenNames x11
      refine keep_ite ?_ ?_
      · exact n12
      · extract_lets +onlyGivenNames x12
        have h11 : P x12 := by
          unfold x12
          refine State.endSeq_writes (H.sub rfl) ?_
          exact n12
        refine foldl_keep ?_ ?_
        · intro n13 n14 n15
          refine State.setLx_writes (H.sub rfl) ?_
          exact n15
        · exact h11
    · exact h0
  refine foldl_keep ?_ ?_
  · intro n16 n17 n18
    refine State.takeElem_writes (H.sub rfl) ?_
    exact n18
  · exact h10

theorem State.driveWindow_writes {P : State → Prop} {a0 : State} {a1 : RackRun} (H : Stable P 15618) (h0 : P a0) :
    P (State.driveWindow a0 a1) := by
  unfold State.driveWindow
  extract_lets +onlyGivenNames x10
  extract_lets +onlyGivenNames x11
  have h10 : P x11 := by
    unfold x11
    refine State.takeForRack_writes (H.sub rfl) ?_
    exact h0
  extract_lets +onlyGivenNames x12
  have h11 : P x12 := by
    unfold x12
    refine State.muteLive_writes (H.sub rfl) ?_
    exact h10
  extract_lets +onlyGivenNames x13
  have h12 : P x13 := by
    unfold x13
    refine State.drivePhase_writes (H.sub rfl) ?_
    exact h11
  extract_lets +onlyGivenNames x14
  have h13 : P x14 := by
    unfold x14
    refine forUp_keep ?_ ?_
    · intro n10 n11 n12
      refine State.drivePhase_writes (H.sub rfl) ?_
      exact n12
    · exact h12
  extract_lets +onlyGivenNames x15
  have h14 : P x15 := by
    unfold x15
    refine foldl_keep ?_ ?_
    · intro n13 n14 n15
      refine State.openHold_writes (H.sub rfl) ?_
      exact n15
    · exact h13
  refine State.drivePhase_writes (H.sub rfl) ?_
  exact h14

theorem State.rollBack_writes {P : State → Prop} {a0 : State} {a1 : Nat} (H : Stable P 3074) (h0 : P a0) :
    P (State.rollBack a0 a1) := by
  unfold State.rollBack
  extract_lets +onlyGivenNames x10
  have h10 : P x10 := by
    unfold x10
    refine State.writeCode_writes (H.sub rfl) ?_
    exact h0
  extract_lets +onlyGivenNames x11
  refine keep_ite ?_ ?_
  · refine State.beginHandover_writes (H.sub rfl) ?_
    refine State.setLx_writes (H.sub rfl) ?_
    exact h10
  · refine keep_ite ?_ ?_
    · refine State.park_writes (H.sub rfl) ?_
      refine State.setLoopState_writes (H.sub rfl) ?_
      exact h10
    · refine State.setLoopState_writes (H.sub rfl) ?_
      exact h10

theorem State.rollBackAll_writes {P : State → Prop} {a0 : State} {a1 : RackRun} (H : Stable P 3074) (h0 : P a0) :
    P (State.rollBackAll a0 a1) := by
  unfold State.rollBackAll
  refine foldl_keep ?_ ?_
  · intro n10 n11 n12
    refine State.rollBack_writes (H.sub rfl) ?_
    exact n12
  · exact h0

theorem State.endRack_writes {P : State → Prop} {a0 : State} {a1 : RackRun} {a2 : Nat} (H : Stable P 540018) (h0 : P a0) :
    P (State.endRack a0 a1 a2) := by
  unfold State.endRack
  extract_lets +onlyGivenNames x10
  have h10 : P x10 := by
    unfold x10
    refine State.rollBackAll_writes (H.sub rfl) ?_
    exact h0
  extract_lets +onlyGivenNames x11
  have h11 : P x11 := by
    unfold x11
    refine keep_ite ?_ ?_
    · refine State.shadowEval_writes (H.sub rfl) ?_
      exact h10
    · exact h10
  extract_lets +onlyGivenNames x12
  have h12 : P x12 := by
    unfold x12
    refine State.setRack_writes (H.sub rfl) ?_
    exact h11
  extract_lets +onlyGivenNames x13
  have h13 : P x13 := by
    unfold x13
    refine State.count_writes (H.sub rfl) ?_
    exact h12
  refine State.carryWaiting_writes (H.sub rfl) ?_
  refine State.fireP_writes (H.sub rfl) ?_
  refine State.outcomeOf_writes (H.sub rfl) ?_
  exact h13

theorem State.takeTrig_writes {P : State → Prop} {a0 : State} {a1 : Trig} (H : Stable P 9586) (h0 : P a0) :
    P (State.takeTrig a0 a1) := by
  unfold State.takeTrig
  refine keep_ite ?_ ?_
  · refine State.refuseTrig_writes (H.sub rfl) ?_
    exact h0
  · refine keep_ite ?_ ?_
    · refine keep_ite ?_ ?_
      · refine State.refuseTrig_writes (H.sub rfl) ?_
        exact h0
      · refine keep_ite ?_ ?_
        · refine State.refuseTrig_writes (H.sub rfl) ?_
          exact h0
        · refine State.showRack_writes (H.sub rfl) ?_
          refine State.setRack_writes (H.sub rfl) ?_
          exact h0
    · refine keep_ite ?_ ?_
      · refine State.refuseTrig_writes (H.sub rfl) ?_
        exact h0
      · extract_lets +onlyGivenNames x10
        refine keep_ite ?_ ?_
        · refine State.showRack_writes (H.sub rfl) ?_
          refine State.setRack_writes (H.sub rfl) ?_
          exact h0
        · refine State.admitRack_writes (H.sub rfl) ?_
          exact h0

theorem State.judgePending_writes {P : State → Prop} {a0 : State} (H : Stable P 9586) (h0 : P a0) :
    P (State.judgePending a0) := by
  unfold State.judgePending
  split
  · refine State.takeTrig_writes (H.sub rfl) ?_
    refine State.showRack_writes (H.sub rfl) ?_
    refine State.setRack_writes (H.sub rfl) ?_
    exact h0
  · exact h0

theorem State.powerReg_writes {P : State → Prop} {a0 : State} {a1 : Nat} {a2 : Nat} {a3 : Bool} {a4 : Int} (H : Stable P 2) (h0 : P a0) :
    P (State.powerReg a0 a1 a2 a3 a4) := by
  unfold State.powerReg
  refine keep_ite ?_ ?_
  · refine State.setF_writes (H.sub rfl) ?_
    exact h0
  · extract_lets +onlyGivenNames x10
    extract_lets +onlyGivenNames x11
    extract_lets +onlyGivenNames x12
    have h10 : P x12 := by
      unfold x12
      refine State.setF_writes (H.sub rfl) ?_
      refine State.setF_writes (H.sub rfl) ?_
      exact h0
    extract_lets +onlyGivenNames x13
    have h11 : P x13 := by
      unfold x13
      refine State.setF_writes (H.sub rfl) ?_
      refine State.setF_writes (H.sub rfl) ?_
      exact h10
    refine keep_ite ?_ ?_
    · exact h11
    · refine State.setF_writes (H.sub rfl) ?_
      exact h11

theorem State.prebias_writes {P : State → Prop} {a0 : State} {a1 : RackRun} (H : Stable P 15682) (h0 : P a0) :
    P (State.prebias a0 a1) := by
  unfold State.prebias
  extract_lets +onlyGivenNames x10
  extract_lets +onlyGivenNames x11
  have h10 : P x11 := by
    unfold x11
    refine State.takeForRack_writes (H.sub rfl) ?_
    exact h0
  extract_lets +onlyGivenNames x12
  extract_lets +onlyGivenNames x13
  have h11 : P x13 := by
    unfold x13
    refine foldl_keep ?_ ?_
    · intro n10 n11 n12
      refine State.drive1_writes (H.sub rfl) ?_
      exact n12
    · exact h10
  refine State.setRack_writes (H.sub rfl) ?_
  exact h11

theorem State.preempt_writes {P : State → Prop} {a0 : State} (H : Stable P 540018) (h0 : P a0) :
    P (State.preempt a0) := by
  unfold State.preempt
  split
  · refine keep_ite ?_ ?_
    · exact h0
    · refine State.endRack_writes (H.sub rfl) ?_
      exact h0
  · exact h0

theorem State.rackBroadcast_writes {P : State → Prop} {a0 : State} (H : Stable P 15683) (h0 : P a0) :
    P (State.rackBroadcast a0) := by
  unfold State.rackBroadcast
  split
  · refine keep_ite ?_ ?_
    · exact h0
    · extract_lets +onlyGivenNames x10
      have h10 : P x10 := by
        unfold x10
        refine State.at__writes (H.sub rfl) ?_
        exact h0
      extract_lets +onlyGivenNames x11
      have h11 : P x11 := by
        unfold x11
        refine State.driveWindow_writes (H.sub rfl) ?_
        exact h10
      refine State.showRack_writes (H.sub rfl) ?_
      refine State.setRack_writes (H.sub rfl) ?_
      exact h11
  · exact h0

theorem State.rackReady_writes {P : State → Prop} {a0 : State} (H : Stable P 3139) (h0 : P a0) :
    P (State.rackReady a0) := by
  unfold State.rackReady
  split
  · refine keep_ite ?_ ?_
    · exact h0
    · extract_lets +onlyGivenNames x10
      have h10 : P x10 := by
        unfold x10
        refine State.at__writes (H.sub rfl) ?_
        exact h0
      refine keep_ite ?_ ?_
      · refine State.setRack_writes (H.sub rfl) ?_
        exact h10
      · extract_lets +onlyGivenNames x11
        have h11 : P x11 := by
          unfold x11
          refine State.count_writes (H.sub rfl) ?_
          refine State.rollBackAll_writes (H.sub rfl) ?_
          exact h10
        refine State.showRack_writes (H.sub rfl) ?_
        refine State.setRack_writes (H.sub rfl) ?_
        exact h11
  · exact h0

theorem State.unitRefusal_writes {P : State → Prop} {a0 : State} {a1 : RackRun} {a2 : Nat} (H : Stable P 2) (h0 : P a0) :
    P (State.unitRefusal a0 a1 a2).1 := by
  unfold State.unitRefusal
  extract_lets +onlyGivenNames x10
  have h10 : (∀ (z0 : Nat) (z1 : Fld) (z2 : Fld) (z3 : Option (Nat × Nat)), P (x10 z0 z1 z2 z3).1) := by
    intro n10 n11 n12
    intro n13
    unfold x10
    split
    · refine keep_mk1 ?_
      refine State.setF_writes (H.sub rfl) ?_
      refine State.setF_writes (H.sub rfl) ?_
      exact h0
    · refine keep_mk1 ?_
      exact h0
  clear_value x10
  split
  · refine keep_mk1 ?_
    exact h0
  · split
    · extract_lets +onlyGivenNames x11
      extract_lets +onlyGivenNames x12
      have h11 : P x12 := by
        unfold x12
        refine foldl_keep ?_ ?_
        · intro n14 n15 n16
          refine State.setF_writes (H.sub rfl) ?_
          exact n16
        · exact h0
      extract_lets +onlyGivenNames x13
      refine keep_mk1 ?_
      exact h11
    · split
      · refine h10 _ _ _ _
      · split
        · refine h10 _ _ _ _
        · refine h10 _ _ _ _

theorem State.rackReport_writes {P : State → Prop} {a0 : State} {a1 : Fin 23} (H : Stable P 540018) (h0 : P a0) :
    P (State.rackReport a0 a1) := by
  unfold State.rackReport
  split
  · refine keep_ite ?_ ?_
    · exact h0
    · split
      · rename_i v10 v11 v12 v13
        have h10 : P v11 := keep_fst v13 (by
          refine State.unitRefusal_writes (H.sub rfl) ?_
          exact h0)
        split
        · refine State.endRack_writes (H.sub rfl) ?_
          refine State.wr_writes (H.sub rfl) ?_
          exact h10
        · extract_lets +onlyGivenNames x10
          have h11 : P x10 := by
            unfold x10
            refine State.setRack_writes (H.sub rfl) ?_
            exact h10
          refine keep_ite ?_ ?_
          · refine State.prebias_writes (H.sub rfl) ?_
            exact h11
          · exact h11
  · exact h0

theorem State.rackTimeout_writes {P : State → Prop} {a0 : State} (H : Stable P 540018) (h0 : P a0) :
    P (State.rackTimeout a0) := by
  unfold State.rackTimeout
  split
  · extract_lets +onlyGivenNames x10
    refine keep_ite ?_ ?_
    · exact h0
    · refine State.endRack_writes (H.sub rfl) ?_
      refine State.wr_writes (H.sub rfl) ?_
      exact h0
  · exact h0

theorem State.refuseDeferred_writes {P : State → Prop} {a0 : State} {a1 : Nat} (H : Stable P 1394) (h0 : P a0) :
    P (State.refuseDeferred a0 a1) := by
  unfold State.refuseDeferred
  split
  · refine State.refuseTrig_writes (H.sub rfl) ?_
    refine State.setRack_writes (H.sub rfl) ?_
    exact h0
  · exact h0

theorem State.stampRack_writes {P : State → Prop} {a0 : State} (H : Stable P 2) (h0 : P a0) :
    P (State.stampRack a0) := by
  unfold State.stampRack
  extract_lets +onlyGivenNames x10
  refine State.wr_writes (H.sub rfl) ?_
  refine State.wr_writes (H.sub rfl) ?_
  exact h0

theorem State.toTick_writes {P : State → Prop} {a0 : State} (H : Stable P 1) (h0 : P a0) :
    P (State.toTick a0) := by
  unfold State.toTick
  refine H.set_now rfl (State.toTick_le _)  ?_
  exact h0

theorem State.toTickAfter_writes {P : State → Prop} {a0 : State} {a1 : Nat} (H : Stable P 1) (h0 : P a0) :
    P (State.toTickAfter a0 a1) := by
  unfold State.toTickAfter
  refine H.set_now rfl (State.toTickAfter_le _ _)  ?_
  exact h0

theorem State.withdraw_writes {P : State → Prop} {a0 : State} (H : Stable P 540018) (h0 : P a0) :
    P (State.withdraw a0).1 := by
  unfold State.withdraw
  split
  · rename_i v10 v11 v12 v13 v14
    have h10 : P v13 := keep_snd2 v14 (by
      split
      · split
        · refine keep_mk2 ?_
          exact h0
        · split
          · refine keep_mk2 ?_
            exact h0
          · refine keep_mk2 ?_
            refine State.endRack_writes (H.sub rfl) ?_
            exact h0
      · refine keep_mk2 ?_
        exact h0)
    split
    · rename_i v15 v16 v17 v18
      have h11 : P v17 := keep_snd v18 (by
        split
        · split
          · refine keep_mk2 ?_
            refine State.endTrig_writes (H.sub rfl) ?_
            refine State.setRack_writes (H.sub rfl) ?_
            exact h10
          · refine keep_mk2 ?_
            exact h10
        · refine keep_mk2 ?_
          exact h10)
      split
      · rename_i v19 v20 v21 v22
        have h12 : P v21 := keep_snd v22 (by
          split
          · split
            · refine keep_mk2 ?_
              refine State.endTrig_writes (H.sub rfl) ?_
              refine State.setRack_writes (H.sub rfl) ?_
              exact h11
            · refine keep_mk2 ?_
              exact h11
          · refine keep_mk2 ?_
            exact h11)
        refine keep_mk1 ?_
        exact h12

theorem execCommitSkew_writes {P : State → Prop} {a0 : State} (H : Stable P 9586) (h0 : P a0) :
    OutP P (execCommitSkew a0) := by
  unfold execCommitSkew
  refine outP_next ?_
  split
  · extract_lets +onlyGivenNames x10
    have h10 : P x10 := by
      unfold x10
      refine State.wr_writes (H.sub rfl) ?_
      exact h0
    extract_lets +onlyGivenNames x11
    have h11 : P x11 := by
      unfold x11
      refine State.raiseD_writes (H.sub rfl) ?_
      refine State.setRack_writes (H.sub rfl) ?_
      exact h10
    refine State.outcomeOf_writes (H.sub rfl) ?_
    exact h11
  · exact h0

theorem execCommitTick_writes {P : State → Prop} {a0 : BitVec 23} {a1 : State} (H : Stable P 4078971) (h1 : P a1) :
    OutP P (execCommitTick a0 a1) := by
  unfold execCommitTick
  refine outP_next ?_
  split
  · refine keep_ite ?_ ?_
    · exact h1
    · extract_lets +onlyGivenNames x10
      extract_lets +onlyGivenNames x11
      have h10 : P x11 := by
        unfold x11
        refine State.toTick_writes (H.sub rfl) ?_
        exact h1
      extract_lets +onlyGivenNames x12
      have h11 : P x12 := by
        unfold x12
        refine keep_ite ?_ ?_
        · refine State.commitFabric_writes (H.sub rfl) ?_
          exact h10
        · exact h10
      extract_lets +onlyGivenNames x13
      have h12 : P x13 := by
        unfold x13
        refine keep_ite ?_ ?_
        · refine State.commitPacket_writes (H.sub rfl) ?_
          exact h11
        · exact h11
      extract_lets +onlyGivenNames x14
      have h13 : P x14 := by
        unfold x14
        refine State.stampRack_writes (H.sub rfl) ?_
        exact h12
      extract_lets +onlyGivenNames x15
      have h14 : P x15 := by
        unfold x15
        refine State.wr_writes (H.sub rfl) ?_
        exact h13
      extract_lets +onlyGivenNames x16
      extract_lets +onlyGivenNames x17
      have h15 : P x17 := by
        unfold x17
        refine State.setRack_writes (H.sub rfl) ?_
        exact h14
      extract_lets +onlyGivenNames x18
      have h16 : P x18 := by
        unfold x18
        refine State.fireP_writes (H.sub rfl) ?_
        exact h15
      extract_lets +onlyGivenNames x19
      have h17 : P x19 := by
        unfold x19
        refine keep_ite ?_ ?_
        · refine State.fire_writes (H.sub rfl) ?_
          exact h16
        · exact h16
      extract_lets +onlyGivenNames x20
      have h18 : P x20 := by
        unfold x20
        refine State.mirrorOut_writes (H.sub rfl) ?_
        exact h17
      extract_lets +onlyGivenNames x21
      have h19 : P x21 := by
        unfold x21
        refine keep_ite ?_ ?_
        · refine State.outcomeOf_writes (H.sub rfl) ?_
          exact h18
        · refine State.showRack_writes (H.sub rfl) ?_
          exact h18
      refine State.solveNext_writes (H.sub rfl) ?_
      refine State.carryWaiting_writes (H.sub rfl) ?_
      exact h19
  · exact h1

theorem execFaultResolveResult_writes {P : State → Prop} {a0 : Option (Fin 256 × Fin 5)} {a1 : State} (H : Stable P 9570) (h1 : P a1) :
    OutP P (execFaultResolveResult a0 a1) := by
  unfold execFaultResolveResult
  refine outP_next ?_
  split
  · exact h1
  · extract_lets +onlyGivenNames x10
    split
    · extract_lets +onlyGivenNames x11
      extract_lets +onlyGivenNames x12
      extract_lets +onlyGivenNames x13
      extract_lets +onlyGivenNames x14
      have h10 : P x14 := by
        unfold x14
        refine H.set_fab rfl   ?_
        exact h1
      clear_value x12
      split
      · rename_i v10 v11 v12
        refine State.solveNext_writes (H.sub rfl) ?_
        refine State.resolveDone_writes (H.sub rfl) ?_
        refine State.goDark_writes (H.sub rfl) ?_
        refine State.raiseD_writes (H.sub rfl) ?_
        refine State.checkFailed_writes (H.sub rfl) ?_
        exact h10
      · rename_i v13
        extract_lets +onlyGivenNames x15
        have h11 : P x15 := by
          unfold x15
          refine State.setRepair_writes (H.sub rfl) ?_
          exact h10
        refine State.showSolver_writes (H.sub rfl) ?_
        refine State.trigger_writes (H.sub rfl) ?_
        exact h11

theorem execFaultResolveStart_writes {P : State → Prop} {a0 : State} (H : Stable P 540018) (h0 : P a0) :
    OutP P (execFaultResolveStart a0) := by
  unfold execFaultResolveStart
  refine outP_next ?_
  split
  · exact h0
  · refine H.set_fab rfl   ?_
    exact h0
  · refine keep_ite ?_ ?_
    · exact h0
    · refine keep_ite ?_ ?_
      · refine State.resolveDone_writes (H.sub rfl) ?_
        refine State.goDark_writes (H.sub rfl) ?_
        refine H.set_fab rfl   ?_
        exact h0
      · refine keep_ite ?_ ?_
        · extract_lets +onlyGivenNames x10
          have h10 : P x10 := by
            unfold x10
            refine State.preempt_writes (H.sub rfl) ?_
            exact h0
          refine State.showSolver_writes (H.sub rfl) ?_
          refine H.set_fab rfl   ?_
          exact h10
        · exact h0

theorem execLimpDeferralEnd_writes {P : State → Prop} {a0 : State} (H : Stable P 9587) (h0 : P a0) :
    OutP P (execLimpDeferralEnd a0) := by
  unfold execLimpDeferralEnd
  refine outP_next ?_
  split
  · refine keep_ite ?_ ?_
    · exact h0
    · extract_lets +onlyGivenNames x10
      have h10 : P x10 := by
        unfold x10
        refine State.toTick_writes (H.sub rfl) ?_
        refine H.set_now rfl (Nat.le_max_left _ _)  ?_
        exact h0
      refine State.takeTrig_writes (H.sub rfl) ?_
      refine State.showRack_writes (H.sub rfl) ?_
      refine State.setRack_writes (H.sub rfl) ?_
      exact h10
  · exact h0

theorem execPendingTriggerJudged_writes {P : State → Prop} {a0 : State} (H : Stable P 9587) (h0 : P a0) :
    OutP P (execPendingTriggerJudged a0) := by
  unfold execPendingTriggerJudged
  refine outP_next ?_
  split
  · refine keep_ite ?_ ?_
    · exact h0
    · refine State.judgePending_writes (H.sub rfl) ?_
      refine State.toTickAfter_writes (H.sub rfl) ?_
      exact h0
  · exact h0

theorem execPortPowerUpdate_writes {P : State → Prop} {a0 : State} (H : Stable P 2) (h0 : P a0) :
    OutP P (execPortPowerUpdate a0) := by
  unfold execPortPowerUpdate
  refine outP_next ?_
  refine forUp_keep ?_ ?_
  · intro n10 n11 n12
    extract_lets +onlyGivenNames x10
    extract_lets +onlyGivenNames x11
    extract_lets +onlyGivenNames x12
    extract_lets +onlyGivenNames x13
    have h10 : P x13 := by
      unfold x13
      refine State.powerReg_writes (H.sub rfl) ?_
      exact n12
    refine State.powerReg_writes (H.sub rfl) ?_
    exact h10
  · exact h0

theorem execRack_writes {P : State → Prop} {a0 : Fin 32} {a1 : Desc} {a2 : State} (H : Stable P 82) (h2 : P a2) :
    OutP P (execRack a0 a1 a2) := by
  unfold execRack
  refine outP_next ?_
  refine State.launch_writes (H.sub rfl) ?_ ?_
  · exact h2
  · intro n10 n11 n12
    refine State.trigger_writes (H.sub rfl) ?_
    exact n12

theorem execRackTriggerTick_writes {P : State → Prop} {a0 : State} (H : Stable P 9587) (h0 : P a0) :
    OutP P (execRackTriggerTick a0) := by
  unfold execRackTriggerTick
  refine outP_next ?_
  split
  · refine keep_ite ?_ ?_
    · exact h0
    · extract_lets +onlyGivenNames x10
      have h10 : P x10 := by
        unfold x10
        refine State.toTickAfter_writes (H.sub rfl) ?_
        exact h0
      extract_lets +onlyGivenNames x11
      have h11 : P x11 := by
        unfold x11
        refine State.judgePending_writes (H.sub rfl) ?_
        exact h10
      extract_lets +onlyGivenNames x12
      extract_lets +onlyGivenNames x13
      extract_lets +onlyGivenNames x14
      have h12 : P x14 := by
        unfold x14
        refine State.setRack_writes (H.sub rfl) ?_
        exact h11
      refine foldl_keep ?_ ?_
      · intro n10 n11 n12
        refine State.takeTrig_writes (H.sub rfl) ?_
        exact n12
      · exact h12
  · exact h0

theorem execRackWithdraw_writes {P : State → Prop} {a0 : Fin 32} {a1 : Desc} {a2 : State} (H : Stable P 540018) (h2 : P a2) :
    OutP P (execRackWithdraw a0 a1 a2) := by
  unfold execRackWithdraw
  refine outP_next ?_
  refine State.launch_writes (H.sub rfl) ?_ ?_
  · exact h2
  · intro n10 n11 n12
    split
    · rename_i v10 v11 v12 v13
      have h10 : P v11 := keep_fst v13 (by
        refine State.withdraw_writes (H.sub rfl) ?_
        exact n12)
      refine State.finish_writes (H.sub rfl) ?_
      exact h10

theorem execWithdrawWrite_writes {P : State → Prop} {a0 : State} (H : Stable P 540018) (h0 : P a0) :
    OutP P (execWithdrawWrite a0) := by
  unfold execWithdrawWrite
  refine outP_next ?_
  refine State.withdraw_writes (H.sub rfl) ?_
  exact h0

end Sys2Proof.Machine
end

