-- ==== Sys2Proof/Laws/WritesCal.lean ====
section
/-! SUPPORT. Which components of the state each operation and command of Machine/Cal.lean may write. -/

namespace Sys2Proof.Machine

theorem State.dropStaged_writes {P : State → Prop} {a0 : State} (H : Stable P 262146) (h0 : P a0) :
    P (State.dropStaged a0) := by
  unfold State.dropStaged
  extract_lets +onlyGivenNames x10
  have h10 : (∀ (z0 : Nat) (z1 : State) (z2 : Nat), P z1 → P (x10 z0 z1 z2)) := by
    intro n10 n11 n12
    intro n13
    unfold x10
    refine State.wr_writes (H.sub rfl) ?_
    exact n13
  clear_value x10
  extract_lets +onlyGivenNames x11
  have h11 : P x11 := by
    unfold x11
    refine foldl_keep ?_ ?_
    · intro n14 n15 n16
      refine h10 _ _ _ ?_
      exact n16
    · exact h0
  extract_lets +onlyGivenNames x12
  have h12 : P x12 := by
    unfold x12
    refine foldl_keep ?_ ?_
    · intro n17 n18 n19
      refine h10 _ _ _ ?_
      exact n19
    · exact h11
  extract_lets +onlyGivenNames x13
  have h13 : P x13 := by
    unfold x13
    refine foldl_keep ?_ ?_
    · intro n20 n21 n22
      refine h10 _ _ _ ?_
      exact n22
    · exact h12
  extract_lets +onlyGivenNames x14
  have h14 : P x14 := by
    unfold x14
    refine foldl_keep ?_ ?_
    · intro n23 n24 n25
      refine h10 _ _ _ ?_
      exact n25
    · exact h13
  extract_lets +onlyGivenNames x15
  have h15 : P x15 := by
    unfold x15
    refine foldl_keep ?_ ?_
    · intro n26 n27 n28
      refine h10 _ _ _ ?_
      exact n28
    · exact h14
  extract_lets +onlyGivenNames x16
  have h16 : P x16 := by
    unfold x16
    refine foldl_keep ?_ ?_
    · intro n29 n30 n31
      refine h10 _ _ _ ?_
      exact n31
    · exact h15
  extract_lets +onlyGivenNames x17
  have h17 : P x17 := by
    unfold x17
    refine keep_ite ?_ ?_
    · refine h10 _ _ _ ?_
      exact h16
    · exact h16
  extract_lets +onlyGivenNames x18
  extract_lets +onlyGivenNames x19
  have h18 : P x19 := by
    unfold x19
    refine foldl_keep ?_ ?_
    · intro n32 n33 n34
      refine h10 _ _ _ ?_
      exact n34
    · exact h17
  extract_lets +onlyGivenNames x20
  have h19 : P x20 := by
    unfold x20
    refine State.resetRange_writes (H.sub rfl) ?_
    exact h18
  refine H.set_cal rfl   ?_
  exact h19

theorem State.showCal_writes {P : State → Prop} {a0 : State} (H : Stable P 2) (h0 : P a0) :
    P (State.showCal a0) := by
  unfold State.showCal
  split
  · extract_lets +onlyGivenNames x10
    extract_lets +onlyGivenNames x11
    refine State.setF_writes (H.sub rfl) ?_
    refine State.setF_writes (H.sub rfl) ?_
    refine State.setF_writes (H.sub rfl) ?_
    exact h0

theorem State.endRun_writes {P : State → Prop} {a0 : State} {a1 : CalRun} {a2 : Nat} (H : Stable P 262162) (h0 : P a0) :
    P (State.endRun a0 a1 a2) := by
  unfold State.endRun
  extract_lets +onlyGivenNames x10
  extract_lets +onlyGivenNames x11
  have h10 : P x11 := by
    unfold x11
    refine State.showCal_writes (H.sub rfl) ?_
    refine H.set_cal rfl   ?_
    exact h0
  refine State.finish_writes (H.sub rfl) ?_
  refine State.setF_writes (H.sub rfl) ?_
  exact h10

theorem State.calInterrupt_writes {P : State → Prop} {a0 : State} (H : Stable P 262162) (h0 : P a0) :
    P (State.calInterrupt a0) := by
  unfold State.calInterrupt
  extract_lets +onlyGivenNames x10
  have h10 : P x10 := by
    unfold x10
    split
    · refine State.endRun_writes (H.sub rfl) ?_
      exact h0
    · exact h0
  refine State.dropStaged_writes (H.sub rfl) ?_
  exact h10

theorem State.runOn_writes {P : State → Prop} {a0 : Nat} {a1 : CalRun} {a2 : State} (H : Stable P 262162) (h2 : P a2) :
    P (State.runOn a0 a1 a2) := by
  induction a0 generalizing a1 a2
  · unfold State.runOn
    refine H.set_cal rfl   ?_
    exact h2
  · rename_i v10 v11
    unfold State.runOn
    refine keep_ite ?_ ?_
    · refine State.showCal_writes (H.sub rfl) ?_
      refine H.set_cal rfl   ?_
      exact h2
    · refine keep_ite ?_ ?_
      · refine v11 ?_
        exact h2
      · extract_lets +onlyGivenNames x10
        refine State.endRun_writes (H.sub rfl) ?_
        exact h2

theorem State.calRun_writes {P : State → Prop} {a0 : State} {a1 : Desc} {a2 : Bool} {a3 : Req} (H : Stable P 262162) (h0 : P a0) :
    P (State.calRun a0 a1 a2 a3) := by
  unfold State.calRun
  extract_lets +onlyGivenNames x10
  have h10 : (∀ (z0 : Nat), P (x10 z0)) := by
    intro n10
    unfold x10
    refine State.finish_writes (H.sub rfl) ?_
    refine State.setF_writes (H.sub rfl) ?_
    exact h0
  clear_value x10
  extract_lets +onlyGivenNames x11
  refine keep_ite ?_ ?_
  · refine h10 _
  · refine keep_ite ?_ ?_
    · refine h10 _
    · refine keep_ite ?_ ?_
      · refine h10 _
      · extract_lets +onlyGivenNames x12
        extract_lets +onlyGivenNames x13
        refine keep_ite ?_ ?_
        · refine h10 _
        · extract_lets +onlyGivenNames x14
          have h11 : P x14 := by
            unfold x14
            refine State.wr_writes (H.sub rfl) ?_
            refine State.wr_writes (H.sub rfl) ?_
            exact h0
          extract_lets +onlyGivenNames x15
          extract_lets +onlyGivenNames x16
          have h12 : P x16 := by
            unfold x16
            refine H.set_cal rfl   ?_
            exact h11
          refine State.runOn_writes (H.sub rfl) ?_
          exact h12

theorem State.stagedBit_writes {P : State → Prop} {a0 : State} {a1 : Nat} {a2 : Nat} (H : Stable P 2) (h0 : P a0) :
    P (State.stagedBit a0 a1 a2) := by
  unfold State.stagedBit
  refine State.wr_writes (H.sub rfl) ?_
  exact h0

theorem State.stageChSkew_writes {P : State → Prop} {a0 : State} {a1 : Nat} {a2 : Word} (H : Stable P 262146) (h0 : P a0) :
    P (State.stageChSkew a0 a1 a2) := by
  unfold State.stageChSkew
  refine State.stagedBit_writes (H.sub rfl) ?_
  refine H.set_cal rfl   ?_
  exact h0

theorem State.stageCurve_writes {P : State → Prop} {a0 : State} {a1 : Nat} {a2 : List Word} (H : Stable P 2) (h0 : P a0) :
    P (State.stageCurve a0 a1 a2) := by
  unfold State.stageCurve
  extract_lets +onlyGivenNames x10
  have h10 : P x10 := by
    unfold x10
    refine forUp_keep ?_ ?_
    · intro n10 n11 n12
      refine State.wr_writes (H.sub rfl) ?_
      exact n12
    · exact h0
  refine State.stagedBit_writes (H.sub rfl) ?_
  exact h10

theorem State.stageDac_writes {P : State → Prop} {a0 : State} {a1 : Nat} {a2 : Nat} {a3 : Word} (H : Stable P 262146) (h0 : P a0) :
    P (State.stageDac a0 a1 a2 a3) := by
  unfold State.stageDac
  refine State.stagedBit_writes (H.sub rfl) ?_
  refine H.set_cal rfl   ?_
  exact h0

theorem State.stageHk_writes {P : State → Prop} {a0 : State} {a1 : Nat} {a2 : Word} (H : Stable P 262146) (h0 : P a0) :
    P (State.stageHk a0 a1 a2) := by
  unfold State.stageHk
  refine State.stagedBit_writes (H.sub rfl) ?_
  refine H.set_cal rfl   ?_
  exact h0

theorem State.stageLane_writes {P : State → Prop} {a0 : State} {a1 : Nat} {a2 : Word × Word} (H : Stable P 262146) (h0 : P a0) :
    P (State.stageLane a0 a1 a2) := by
  unfold State.stageLane
  refine State.stagedBit_writes (H.sub rfl) ?_
  refine H.set_cal rfl   ?_
  exact h0

theorem State.stageOsc_writes {P : State → Prop} {a0 : State} {a1 : Word} (H : Stable P 262146) (h0 : P a0) :
    P (State.stageOsc a0 a1) := by
  unfold State.stageOsc
  refine State.stagedBit_writes (H.sub rfl) ?_
  refine H.set_cal rfl   ?_
  exact h0

theorem State.stageSeqSkew_writes {P : State → Prop} {a0 : State} {a1 : Nat} {a2 : Word} (H : Stable P 262144) (h0 : P a0) :
    P (State.stageSeqSkew a0 a1 a2) := by
  unfold State.stageSeqSkew
  refine H.set_cal rfl   ?_
  exact h0

theorem State.stageSlice_writes {P : State → Prop} {a0 : State} {a1 : Nat} {a2 : Nat} {a3 : Word} (H : Stable P 262146) (h0 : P a0) :
    P (State.stageSlice a0 a1 a2 a3) := by
  unfold State.stageSlice
  refine State.stagedBit_writes (H.sub rfl) ?_
  refine H.set_cal rfl   ?_
  exact h0

theorem State.stageTap_writes {P : State → Prop} {a0 : State} {a1 : Nat} {a2 : Word} (H : Stable P 262146) (h0 : P a0) :
    P (State.stageTap a0 a1 a2) := by
  unfold State.stageTap
  refine State.stagedBit_writes (H.sub rfl) ?_
  refine H.set_cal rfl   ?_
  exact h0

theorem State.restoreRec_writes {P : State → Prop} {a0 : State} {a1 : CalRec} (H : Stable P 262146) (h0 : P a0) :
    P (State.restoreRec a0 a1) := by
  unfold State.restoreRec
  extract_lets +onlyGivenNames x10
  extract_lets +onlyGivenNames x11
  split
  · refine State.stageCurve_writes (H.sub rfl) ?_
    exact h0
  · refine State.stageCurve_writes (H.sub rfl) ?_
    exact h0
  · refine State.stageChSkew_writes (H.sub rfl) ?_
    refine forUp_keep ?_ ?_
    · intro n10 n11 n12
      refine State.stageDac_writes (H.sub rfl) ?_
      exact n12
    · exact h0
  · refine forUp_keep ?_ ?_
    · intro n13 n14 n15
      refine State.stageSlice_writes (H.sub rfl) ?_
      exact n15
    · exact h0
  · refine State.stageHk_writes (H.sub rfl) ?_
    exact h0
  · refine State.stageSeqSkew_writes (H.sub rfl) ?_
    exact h0
  · refine State.stageTap_writes (H.sub rfl) ?_
    exact h0
  · refine State.stageLane_writes (H.sub rfl) ?_
    exact h0
  · refine State.stageOsc_writes (H.sub rfl) ?_
    exact h0

theorem State.retireSlice_writes {P : State → Prop} {a0 : State} {a1 : Nat} {a2 : Nat} (H : Stable P 9474) (h0 : P a0) :
    P (State.retireSlice a0 a1 a2) := by
  unfold State.retireSlice
  extract_lets +onlyGivenNames x10
  extract_lets +onlyGivenNames x11
  extract_lets +onlyGivenNames x12
  extract_lets +onlyGivenNames x13
  extract_lets +onlyGivenNames x14
  have h10 : P x14 := by
    unfold x14
    refine State.setF_writes (H.sub rfl) ?_
    refine State.setF_writes (H.sub rfl) ?_
    exact h0
  extract_lets +onlyGivenNames x15
  extract_lets +onlyGivenNames x16
  have h11 : P x16 := by
    unfold x16
    refine State.raise_writes (H.sub rfl) ?_
    exact h10
  refine keep_ite ?_ ?_
  · refine State.setBank_writes (H.sub rfl) ?_
    exact h11
  · refine keep_ite ?_ ?_
    · extract_lets +onlyGivenNames x17
      have h12 : P x17 := by
        unfold x17
        refine State.setBank_writes (H.sub rfl) ?_
        exact h11
      extract_lets +onlyGivenNames x18
      refine forUp_keep ?_ ?_
      · intro n10 n11 n12
        refine State.raise_writes (H.sub rfl) ?_
        exact n12
      · exact h12
    · refine State.setF_writes (H.sub rfl) ?_
      refine State.setBank_writes (H.sub rfl) ?_
      exact h11

theorem State.runItem_writes {P : State → Prop} {a0 : State} {a1 : Nat × Nat} {a2 : Nat} {a3 : Fld} (H : Stable P 262162) (h0 : P a0) :
    P (State.runItem a0 a1 a2 a3) := by
  unfold State.runItem
  split
  · refine keep_ite ?_ ?_
    · refine State.runOn_writes (H.sub rfl) ?_
      refine State.count_writes (H.sub rfl) ?_
      exact h0
    · exact h0
  · exact h0

theorem State.setTriesOf_writes {P : State → Prop} {a0 : State} {a1 : Nat × Nat} {a2 : Nat} (H : Stable P 262144) (h0 : P a0) :
    P (State.setTriesOf a0 a1 a2) := by
  unfold State.setTriesOf
  refine H.set_cal rfl   ?_
  exact h0

theorem State.stageResult_writes {P : State → Prop} {a0 : State} {a1 : Nat} {a2 : Nat} {a3 : Nat} {a4 : Nat} {a5 : List Int} {a6 : List Int} (H : Stable P 262146) (h0 : P a0) :
    P (State.stageResult a0 a1 a2 a3 a4 a5 a6) := by
  unfold State.stageResult
  extract_lets +onlyGivenNames x10
  extract_lets +onlyGivenNames x11
  extract_lets +onlyGivenNames x12
  split
  · refine State.stageCurve_writes (H.sub rfl) ?_
    refine State.stageCurve_writes (H.sub rfl) ?_
    exact h0
  · refine State.stageCurve_writes (H.sub rfl) ?_
    exact h0
  · refine forUp_keep ?_ ?_
    · intro n10 n11 n12
      refine State.stageDac_writes (H.sub rfl) ?_
      exact n12
    · exact h0
  · refine State.stageSlice_writes (H.sub rfl) ?_
    exact h0
  · refine State.stageHk_writes (H.sub rfl) ?_
    exact h0
  · extract_lets +onlyGivenNames x13
    refine keep_ite ?_ ?_
    · refine State.stageSeqSkew_writes (H.sub rfl) ?_
      exact h0
    · refine State.stageChSkew_writes (H.sub rfl) ?_
      exact h0
  · refine State.stageTap_writes (H.sub rfl) ?_
    exact h0
  · extract_lets +onlyGivenNames x14
    refine State.stageLane_writes (H.sub rfl) ?_
    exact h0
  · refine State.stageOsc_writes (H.sub rfl) ?_
    exact h0

theorem State.tasted_writes {P : State → Prop} {a0 : State} {a1 : Nat} {a2 : Nat} {a3 : Nat} {a4 : List Int} {a5 : List Int} {a6 : Nat} (H : Stable P 271634) (h0 : P a0) :
    P (State.tasted a0 a1 a2 a3 a4 a5 a6) := by
  unfold State.tasted
  extract_lets +onlyGivenNames x10
  extract_lets +onlyGivenNames x11
  extract_lets +onlyGivenNames x12
  extract_lets +onlyGivenNames x13
  refine keep_ite ?_ ?_
  · refine State.setTriesOf_writes (H.sub rfl) ?_
    exact h0
  · extract_lets +onlyGivenNames x14
    have h10 : P x14 := by
      unfold x14
      refine State.setTriesOf_writes (H.sub rfl) ?_
      exact h0
    refine keep_ite ?_ ?_
    · extract_lets +onlyGivenNames x15
      have h11 : P x15 := by
        unfold x15
        refine State.stageResult_writes (H.sub rfl) ?_
        exact h10
      extract_lets +onlyGivenNames x16
      extract_lets +onlyGivenNames x17
      have h12 : P x17 := by
        unfold x17
        refine keep_ite ?_ ?_
        · refine keep_ite ?_ ?_
          · refine State.swapByTime_writes (H.sub rfl) ?_
            refine State.setBank_writes (H.sub rfl) ?_
            exact h11
          · exact h11
        · exact h11
      refine State.runItem_writes (H.sub rfl) ?_
      exact h12
    · extract_lets +onlyGivenNames x18
      have h13 : P x18 := by
        unfold x18
        refine keep_ite ?_ ?_
        · refine State.retireSlice_writes (H.sub rfl) ?_
          exact h10
        · refine State.raiseD_writes (H.sub rfl) ?_
          exact h10
      refine State.runItem_writes (H.sub rfl) ?_
      exact h13

theorem execCalRestore_writes {P : State → Prop} {a0 : Fin 32} {a1 : Desc} {a2 : Buf} {a3 : State} (H : Stable P 262162) (h3 : P a3) :
    OutP P (execCalRestore a0 a1 a2 a3) := by
  unfold execCalRestore
  refine outP_next ?_
  refine State.launch_writes (H.sub rfl) ?_ ?_
  · exact h3
  · intro n10 n11 n12
    refine keep_ite ?_ ?_
    · refine State.finish_writes (H.sub rfl) ?_
      exact n12
    · split
      · refine State.finish_writes (H.sub rfl) ?_
        exact n12
      · refine State.finish_writes (H.sub rfl) ?_
        refine foldl_keep ?_ ?_
        · intro n13 n14 n15
          refine State.restoreRec_writes (H.sub rfl) ?_
          exact n15
        · exact n12

theorem execCalRun_writes {P : State → Prop} {a0 : Fin 32} {a1 : Desc} {a2 : Bool} {a3 : State} (H : Stable P 262162) (h3 : P a3) :
    OutP P (execCalRun a0 a1 a2 a3) := by
  unfold execCalRun
  refine outP_next ?_
  refine State.launch_writes (H.sub rfl) ?_ ?_
  · exact h3
  · intro n10 n11 n12
    refine State.calRun_writes (H.sub rfl) ?_
    exact n12

theorem execCalRunAbort_writes {P : State → Prop} {a0 : Fin 32} {a1 : Desc} {a2 : State} (H : Stable P 262162) (h2 : P a2) :
    OutP P (execCalRunAbort a0 a1 a2) := by
  unfold execCalRunAbort
  refine outP_next ?_
  refine State.launch_writes (H.sub rfl) ?_ ?_
  · exact h2
  · intro n10 n11 n12
    split
    · extract_lets +onlyGivenNames x10
      have h10 : P x10 := by
        unfold x10
        refine State.endRun_writes (H.sub rfl) ?_
        exact n12
      refine State.finish_writes (H.sub rfl) ?_
      exact h10
    · refine State.finish_writes (H.sub rfl) ?_
      exact n12

theorem execCalSave_writes {P : State → Prop} {a0 : Fin 32} {a1 : Desc} {a2 : Buf} {a3 : State} (H : Stable P 18) (h3 : P a3) :
    OutP P (execCalSave a0 a1 a2 a3) := by
  unfold execCalSave
  refine outP_next ?_
  refine State.launch_writes (H.sub rfl) ?_ ?_
  · exact h3
  · intro n10 n11 n12
    refine keep_ite ?_ ?_
    · refine State.finish_writes (H.sub rfl) ?_
      exact n12
    · extract_lets +onlyGivenNames x10
      extract_lets +onlyGivenNames x11
      extract_lets +onlyGivenNames x12
      refine keep_ite ?_ ?_
      · refine State.finish_writes (H.sub rfl) ?_
        exact n12
      · refine State.finishBuf_writes (H.sub rfl) ?_
        exact n12

theorem execHkSelfTasting_writes {P : State → Prop} {a0 : Fin 8} {a1 : List Int} {a2 : List Int} {a3 : Nat} {a4 : State} (H : Stable P 271634) (h4 : P a4) :
    OutP P (execHkSelfTasting a0 a1 a2 a3 a4) := by
  unfold execHkSelfTasting
  extract_lets +onlyGivenNames x10
  refine outP_next ?_
  refine keep_ite ?_ ?_
  · refine State.tasted_writes (H.sub rfl) ?_
    exact h4
  · exact h4

theorem execStagedValueInForce_writes {P : State → Prop} {a0 : CalItem} {a1 : State} (H : Stable P 262146) (h1 : P a1) :
    OutP P (execStagedValueInForce a0 a1) := by
  unfold execStagedValueInForce
  extract_lets +onlyGivenNames x10
  refine outP_next ?_
  split
  · refine keep_ite ?_ ?_
    · refine State.elemCalIn_writes (H.sub rfl) ?_
      exact h1
    · exact h1
  · split
    · refine keep_ite ?_ ?_
      · extract_lets +onlyGivenNames x11
        have h10 : P x11 := by
          unfold x11
          refine State.wr_writes (H.sub rfl) ?_
          exact h1
        refine H.set_cal rfl   ?_
        exact h10
      · exact h1
    · exact h1
  · split
    · refine keep_ite ?_ ?_
      · extract_lets +onlyGivenNames x12
        have h11 : P x12 := by
          unfold x12
          refine State.wr_writes (H.sub rfl) ?_
          exact h1
        refine H.set_cal rfl   ?_
        exact h11
      · exact h1
    · exact h1
  · extract_lets +onlyGivenNames x13
    split
    · refine keep_ite ?_ ?_
      · extract_lets +onlyGivenNames x14
        have h12 : P x14 := by
          unfold x14
          refine State.wr_writes (H.sub rfl) ?_
          exact h1
        refine H.set_cal rfl   ?_
        exact h12
      · exact h1
    · exact h1
  · split
    · refine keep_ite ?_ ?_
      · extract_lets +onlyGivenNames x15
        have h13 : P x15 := by
          unfold x15
          refine State.wr_writes (H.sub rfl) ?_
          exact h1
        refine H.set_cal rfl   ?_
        exact h13
      · exact h1
    · exact h1

theorem execTastingMeasurementDone_writes {P : State → Prop} {a0 : Fin 9} {a1 : Fin 9233} {a2 : Fin 25} {a3 : List Int} {a4 : List Int} {a5 : Nat} {a6 : State} (H : Stable P 271634) (h6 : P a6) :
    OutP P (execTastingMeasurementDone a0 a1 a2 a3 a4 a5 a6) := by
  unfold execTastingMeasurementDone
  extract_lets +onlyGivenNames x10
  extract_lets +onlyGivenNames x11
  extract_lets +onlyGivenNames x12
  refine outP_next ?_
  refine keep_ite ?_ ?_
  · exact h6
  · refine keep_ite ?_ ?_
    · refine State.runItem_writes (H.sub rfl) ?_
      exact h6
    · refine keep_ite ?_ ?_
      · refine State.runItem_writes (H.sub rfl) ?_
        exact h6
      · refine State.tasted_writes (H.sub rfl) ?_
        exact h6

end Sys2Proof.Machine
end

