-- ==== Sys2Proof/Laws/WritesFault.lean ====
section
/-! SUPPORT. Which components of the state each operation and command of Machine/Fault.lean may write. -/

namespace Sys2Proof.Machine

theorem State.showFaults_writes {P : State → Prop} {a0 : State} (H : Stable P 2) (h0 : P a0) :
    P (State.showFaults a0) := by
  unfold State.showFaults
  extract_lets +onlyGivenNames x10
  extract_lets +onlyGivenNames x11
  extract_lets +onlyGivenNames x12
  extract_lets +onlyGivenNames x13
  have h10 : P x13 := by
    unfold x13
    refine State.setF_writes (H.sub rfl) ?_
    refine State.setF_writes (H.sub rfl) ?_
    exact h0
  extract_lets +onlyGivenNames x14
  have h11 : P x14 := by
    unfold x14
    refine State.setF_writes (H.sub rfl) ?_
    exact h10
  extract_lets +onlyGivenNames x15
  have h12 : P x15 := by
    unfold x15
    refine State.setF_writes (H.sub rfl) ?_
    exact h11
  extract_lets +onlyGivenNames x16
  have h13 : P x16 := by
    unfold x16
    refine keep_ite ?_ ?_
    · refine State.attnClear_writes (H.sub rfl) ?_
      exact h12
    · exact h12
  refine keep_ite ?_ ?_
  · exact h13
  · refine State.attnClear_writes (H.sub rfl) ?_
    exact h13

theorem State.ackDone_writes {P : State → Prop} {a0 : State} {a1 : Req} {a2 : Nat} {a3 : Nat} (H : Stable P 18) (h0 : P a0) :
    P (State.ackDone a0 a1 a2 a3) := by
  unfold State.ackDone
  extract_lets +onlyGivenNames x10
  have h10 : P x10 := by
    unfold x10
    refine State.showFaults_writes (H.sub rfl) ?_
    exact h0
  refine State.finish_writes (H.sub rfl) ?_
  exact h10

theorem State.setFrec_writes {P : State → Prop} {a0 : State} {a1 : Nat} {a2 : Option FRec} (H : Stable P 258) (h0 : P a0) :
    P (State.setFrec a0 a1 a2) := by
  unfold State.setFrec
  extract_lets +onlyGivenNames x10
  extract_lets +onlyGivenNames x11
  have h10 : P x11 := by
    unfold x11
    refine H.set_flt rfl   ?_
    exact h0
  refine keep_ite ?_ ?_
  · refine State.wr_writes (H.sub rfl) ?_
    exact h10
  · exact h10

theorem State.ackRec_writes {P : State → Prop} {a0 : State} {a1 : Nat} {a2 : FRec} (H : Stable P 258) (h0 : P a0) :
    P (State.ackRec a0 a1 a2) := by
  unfold State.ackRec
  extract_lets +onlyGivenNames x10
  refine State.setFrec_writes (H.sub rfl) ?_
  exact h0

theorem State.seqsLose_writes {P : State → Prop} {a0 : State} {a1 : List Nat} (H : Stable P 14594) (h0 : P a0) :
    P (State.seqsLose a0 a1) := by
  unfold State.seqsLose
  refine forUp_keep ?_ ?_
  · intro n10 n11 n12
    extract_lets +onlyGivenNames x10
    refine keep_ite ?_ ?_
    · refine State.endSeq_writes (H.sub rfl) ?_
      exact n12
    · exact n12
  · exact h0

theorem State.blockOff_writes {P : State → Prop} {a0 : State} {a1 : Nat} (H : Stable P 15618) (h0 : P a0) :
    P (State.blockOff a0 a1) := by
  unfold State.blockOff
  extract_lets +onlyGivenNames x10
  extract_lets +onlyGivenNames x11
  have h10 : P x11 := by
    unfold x11
    refine foldl_keep ?_ ?_
    · intro n10 n11 n12
      refine State.park_writes (H.sub rfl) ?_
      refine State.loopOff_writes (H.sub rfl) ?_
      exact n12
    · refine State.seqsLose_writes (H.sub rfl) ?_
      exact h0
  extract_lets +onlyGivenNames x12
  have h11 : P x12 := by
    unfold x12
    refine State.resetRange_writes (H.sub rfl) ?_
    refine State.resetRange_writes (H.sub rfl) ?_
    refine State.resetRange_writes (H.sub rfl) ?_
    exact h10
  refine H.set_drive rfl   ?_
  exact h11

theorem State.markSafe_writes {P : State → Prop} {a0 : State} {a1 : Bool} (H : Stable P 8470) (h0 : P a0) :
    P (State.markSafe a0 a1) := by
  unfold State.markSafe
  extract_lets +onlyGivenNames x10
  extract_lets +onlyGivenNames x11
  have h10 : P x11 := by
    unfold x11
    refine keep_ite ?_ ?_
    · refine H.set_flt rfl   ?_
      exact h0
    · exact h0
  refine State.showFaults_writes (H.sub rfl) ?_
  refine State.attn_writes (H.sub rfl) ?_
  refine State.setMode_writes (H.sub rfl) ?_
  exact h10

theorem State.exchEnd_writes {P : State → Prop} {a0 : State} {a1 : Nat} (H : Stable P 1048594) (h0 : P a0) :
    P (State.exchEnd a0 a1) := by
  unfold State.exchEnd
  split
  · refine keep_ite ?_ ?_
    · refine State.finishOpt_writes (H.sub rfl) ?_
      refine H.set_pair rfl   ?_
      exact h0
    · exact h0
  · exact h0

theorem State.modeOutcome_writes {P : State → Prop} {a0 : State} {a1 : ModeReq} {a2 : Nat} {a3 : Nat} {a4 : Mode} (H : Stable P 1057170) (h0 : P a0) :
    P (State.modeOutcome a0 a1 a2 a3 a4) := by
  unfold State.modeOutcome
  split
  · refine State.finishOpt_writes (H.sub rfl) ?_
    exact h0
  · extract_lets +onlyGivenNames x10
    extract_lets +onlyGivenNames x11
    have h10 : P x11 := by
      unfold x11
      refine H.set_pair rfl   ?_
      exact h0
    refine State.finishOpt_writes (H.sub rfl) ?_
    exact h10
  · split
    · refine State.finishOpt_writes (H.sub rfl) ?_
      refine H.set_pair rfl   ?_
      exact h0
    · exact h0
  · refine keep_ite ?_ ?_
    · exact h0
    · refine State.logNote_writes (H.sub rfl) ?_
      refine State.count_writes (H.sub rfl) ?_
      exact h0
  · exact h0

theorem State.preemptMode_writes {P : State → Prop} {a0 : State} (H : Stable P 1057682) (h0 : P a0) :
    P (State.preemptMode a0) := by
  unfold State.preemptMode
  split
  · refine State.exchEnd_writes (H.sub rfl) ?_
    refine State.modeOutcome_writes (H.sub rfl) ?_
    refine H.set_start rfl   ?_
    exact h0
  · refine State.exchEnd_writes (H.sub rfl) ?_
    exact h0

theorem State.releaseLine_writes {P : State → Prop} {a0 : State} (H : Stable P 2) (h0 : P a0) :
    P (State.releaseLine a0) := by
  unfold State.releaseLine
  extract_lets +onlyGivenNames x10
  refine keep_ite ?_ ?_
  · refine State.setF_writes (H.sub rfl) ?_
    refine State.setF_writes (H.sub rfl) ?_
    exact h0
  · exact h0

theorem State.seqsSafeStop_writes {P : State → Prop} {a0 : State} (H : Stable P 14594) (h0 : P a0) :
    P (State.seqsSafeStop a0) := by
  unfold State.seqsSafeStop
  refine forUp_keep ?_ ?_
  · intro n10 n11 n12
    split
    · refine State.endSeq_writes (H.sub rfl) ?_
      refine State.setSeqSt_writes (H.sub rfl) ?_
      exact n12
    · refine State.setSeqSt_writes (H.sub rfl) ?_
      exact n12
    · refine State.endSeq_writes (H.sub rfl) ?_
      exact n12
    · exact n12
  · exact h0

theorem State.broadcast_writes {P : State → Prop} {a0 : State} {a1 : Bool} (H : Stable P 1851382) (h0 : P a0) :
    P (State.broadcast a0 a1) := by
  unfold State.broadcast
  extract_lets +onlyGivenNames x10
  have h10 : P x10 := by
    unfold x10
    refine State.refuseDeferred_writes (H.sub rfl) ?_
    refine State.preemptMode_writes (H.sub rfl) ?_
    refine State.preempt_writes (H.sub rfl) ?_
    exact h0
  extract_lets +onlyGivenNames x11
  extract_lets +onlyGivenNames x12
  have h11 : P x12 := by
    unfold x12
    refine H.set_start rfl   ?_
    exact h10
  extract_lets +onlyGivenNames x13
  have h12 : P x13 := by
    unfold x13
    refine State.markSafe_writes (H.sub rfl) ?_
    refine State.releaseLine_writes (H.sub rfl) ?_
    exact h11
  extract_lets +onlyGivenNames x14
  have h13 : P x14 := by
    unfold x14
    refine forUp_keep ?_ ?_
    · intro n10 n11 n12
      refine State.parkHold_writes (H.sub rfl) ?_
      refine State.parkHold_writes (H.sub rfl) ?_
      exact n12
    · exact h12
  extract_lets +onlyGivenNames x15
  have h14 : P x15 := by
    unfold x15
    refine State.calInterrupt_writes (H.sub rfl) ?_
    refine State.seqsSafeStop_writes (H.sub rfl) ?_
    refine State.showTx_writes (H.sub rfl) ?_
    refine State.ingressStop_writes (H.sub rfl) ?_
    exact h13
  refine H.set_flt rfl   ?_
  exact h14

theorem State.forceSafe_writes {P : State → Prop} {a0 : State} {a1 : Bool} (H : Stable P 1851382) (h0 : P a0) :
    P (State.forceSafe a0 a1) := by
  unfold State.forceSafe
  split
  · exact h0
  · exact h0
  · refine keep_ite ?_ ?_
    · refine State.markSafe_writes (H.sub rfl) ?_
      exact h0
    · exact h0
  · extract_lets +onlyGivenNames x10
    refine keep_ite ?_ ?_
    · refine H.set_start rfl   ?_
      exact h0
    · refine State.broadcast_writes (H.sub rfl) ?_
      exact h0

theorem State.isolateElem_writes {P : State → Prop} {a0 : State} {a1 : Nat} (H : Stable P 3074) (h0 : P a0) :
    P (State.isolateElem a0 a1) := by
  unfold State.isolateElem
  extract_lets +onlyGivenNames x10
  have h10 : P x10 := by
    unfold x10
    refine State.parkHold_writes (H.sub rfl) ?_
    exact h0
  refine State.loopOff_writes (H.sub rfl) ?_
  refine State.setLx_writes (H.sub rfl) ?_
  exact h10

theorem State.markIso_writes {P : State → Prop} {a0 : State} {a1 : IsoTarget} {a2 : Bool} (H : Stable P 131170) (h0 : P a0) :
    P (State.markIso a0 a1 a2) := by
  unfold State.markIso
  split
  · refine H.set_fab rfl   ?_
    exact h0
  · refine H.set_fab rfl   ?_
    exact h0
  · refine H.set_fab rfl   ?_
    exact h0
  · refine State.setF_writes (H.sub rfl) ?_
    refine H.set_fab rfl   ?_
    exact h0
  · refine State.setRack_writes (H.sub rfl) ?_
    exact h0
  · exact h0
  · refine H.set_lane rfl   ?_
    exact h0
  · refine H.set_lane rfl   ?_
    exact h0

theorem State.isolate_writes {P : State → Prop} {a0 : State} {a1 : IsoTarget} (H : Stable P 3063146) (h0 : P a0) :
    P (State.isolate a0 a1) := by
  unfold State.isolate
  extract_lets +onlyGivenNames x10
  extract_lets +onlyGivenNames x11
  have h10 : P x11 := by
    unfold x11
    refine State.markIso_writes (H.sub rfl) ?_
    exact h0
  split
  · rename_i v10
    exact h10
  · rename_i v11 v12
    refine State.stageClear_writes (H.sub rfl) ?_
    exact h10
  · rename_i v13 v14
    refine State.showTx_writes (H.sub rfl) ?_
    refine foldl_keep ?_ ?_
    · intro n10 n11 n12
      refine State.linkDown_writes (H.sub rfl) ?_
      exact n12
    · exact h10
  · rename_i v15 v16
    refine State.showTx_writes (H.sub rfl) ?_
    exact h10
  · extract_lets +onlyGivenNames x12
    have h11 : P x12 := by
      unfold x12
      refine foldl_keep ?_ ?_
      · intro n13 n14 n15
        refine State.isolateElem_writes (H.sub rfl) ?_
        exact n15
      · refine State.seqsLose_writes (H.sub rfl) ?_
        exact h10
    refine State.tapLight_writes (H.sub rfl) ?_
    refine State.showPorts_writes (H.sub rfl) ?_
    refine State.darkPorts_writes (H.sub rfl) ?_
    exact h11

theorem State.collect_writes {P : State → Prop} {a0 : State} {a1 : Report} (H : Stable P 4112382) (h0 : P a0) :
    P (State.collect a0 a1) := by
  unfold State.collect
  extract_lets +onlyGivenNames x10
  extract_lets +onlyGivenNames x11
  extract_lets +onlyGivenNames x12
  have h10 : P x12 := by
    unfold x12
    refine H.set_flt rfl   ?_
    exact h0
  extract_lets +onlyGivenNames x13
  have h11 : P x13 := by
    unfold x13
    split
    · refine keep_ite ?_ ?_
      · refine State.isolate_writes (H.sub rfl) ?_
        exact h10
      · exact h10
    · exact h10
  refine keep_ite ?_ ?_
  · refine State.forceSafe_writes (H.sub rfl) ?_
    exact h11
  · exact h11

theorem State.markFailed_writes {P : State → Prop} {a0 : State} {a1 : Nat} {a2 : List Nat} (H : Stable P 32) (h0 : P a0) :
    P (State.markFailed a0 a1 a2) := by
  unfold State.markFailed
  refine H.set_fab rfl   ?_
  exact h0

theorem State.fabricReaction_writes {P : State → Prop} {a0 : State} {a1 : Nat} {a2 : Nat} {a3 : IsoTarget} (H : Stable P 1058) (h0 : P a0) :
    P (State.fabricReaction a0 a1 a2 a3).1 := by
  unfold State.fabricReaction
  extract_lets +onlyGivenNames x10
  have h10 : P x10 := by
    unfold x10
    refine State.markFailed_writes (H.sub rfl) ?_
    exact h0
  extract_lets +onlyGivenNames x11
  split
  · extract_lets +onlyGivenNames x12
    extract_lets +onlyGivenNames x13
    have h11 : P x13 := by
      unfold x13
      refine H.set_fab rfl   ?_
      exact h10
    refine keep_mk1 ?_
    refine State.showPorts_writes (H.sub rfl) ?_
    refine State.darkPorts_writes (H.sub rfl) ?_
    exact h11
  · split
    · extract_lets +onlyGivenNames x14
      refine keep_mk1 ?_
      refine H.set_fab rfl   ?_
      exact h10
    · refine keep_mk1 ?_
      refine State.goDark_writes (H.sub rfl) ?_
      exact h10

theorem State.forgetLogs_writes {P : State → Prop} {a0 : State} (H : Stable P 256) (h0 : P a0) :
    P (State.forgetLogs a0) := by
  unfold State.forgetLogs
  refine H.set_flt rfl   ?_
  exact h0

theorem State.formed_writes {P : State → Prop} {a0 : State} {a1 : List Nat} (H : Stable P 8210) (h0 : P a0) :
    P (State.formed a0 a1) := by
  unfold State.formed
  refine State.fireP_writes (H.sub rfl) ?_
  refine State.attn_writes (H.sub rfl) ?_
  exact h0

theorem State.lift_writes {P : State → Prop} {a0 : State} {a1 : IsoTarget} (H : Stable P 402786) (h0 : P a0) :
    P (State.lift a0 a1) := by
  unfold State.lift
  refine keep_ite ?_ ?_
  · exact h0
  · extract_lets +onlyGivenNames x10
    extract_lets +onlyGivenNames x11
    have h10 : P x11 := by
      unfold x11
      refine State.markIso_writes (H.sub rfl) ?_
      exact h0
    split
    · rename_i v10
      exact h10
    · rename_i v11 v12
      exact h10
    · rename_i v13 v14
      refine State.showTx_writes (H.sub rfl) ?_
      exact h10
    · rename_i v15 v16
      refine State.showTx_writes (H.sub rfl) ?_
      exact h10
    · extract_lets +onlyGivenNames x12
      have h11 : P x12 := by
        unfold x12
        refine foldl_keep ?_ ?_
        · intro n10 n11 n12
          refine keep_ite ?_ ?_
          · exact n12
          · refine State.unhold_writes (H.sub rfl) ?_
            exact n12
        · exact h10
      refine State.tapLight_writes (H.sub rfl) ?_
      refine State.showPorts_writes (H.sub rfl) ?_
      refine State.darkPorts_writes (H.sub rfl) ?_
      exact h11

theorem State.logEdit_writes {P : State → Prop} {a0 : State} {a1 : Nat} {a2 : LogRec → LogRec} (H : Stable P 128) (h0 : P a0) :
    P (State.logEdit a0 a1 a2) := by
  unfold State.logEdit
  extract_lets +onlyGivenNames x10
  refine H.set_mgmt rfl   ?_
  exact h0

theorem State.react_writes {P : State → Prop} {a0 : State} {a1 : Report} {a2 : Nat} {a3 : FRec} (H : Stable P 1851382) (h0 : P a0) :
    P (State.react a0 a1 a2 a3).1 := by
  unfold State.react
  split
  · rename_i v10 v11 v12 v13
    have h10 : P v11 := keep_fst v13 (by
      split
      · split
        · refine keep_mk1 ?_
          exact h0
        · split
          · split
            · rename_i v14 v15 v16 v17 v18
              have h11 : P v15 := keep_fst v18 (by
                refine State.fabricReaction_writes (H.sub rfl) ?_
                exact h0)
              refine keep_mk1 ?_
              exact h11
          · extract_lets +onlyGivenNames x10
            have h12 : P x10 := by
              unfold x10
              split
              · rename_i v19 v20 v21 v22
                refine keep_ite ?_ ?_
                · refine State.askMode_writes (H.sub rfl) ?_
                  exact h0
                · exact h0
              · exact h0
            refine keep_mk1 ?_
            exact h12
      · refine keep_mk1 ?_
        exact h0)
    refine keep_mk1 ?_
    refine keep_ite ?_ ?_
    · refine State.forceSafe_writes (H.sub rfl) ?_
      exact h10
    · exact h10

theorem State.untrack_writes {P : State → Prop} {a0 : State} {a1 : FRec} (H : Stable P 258) (h0 : P a0) :
    P (State.untrack a0 a1) := by
  unfold State.untrack
  refine State.count_writes (H.sub rfl) ?_
  refine State.setFrec_writes (H.sub rfl) ?_
  exact h0

theorem State.track_writes {P : State → Prop} {a0 : State} {a1 : FRec} (H : Stable P 258) (h0 : P a0) :
    P (State.track a0 a1) := by
  unfold State.track
  split
  · refine State.setFrec_writes (H.sub rfl) ?_
    exact h0
  · refine keep_ite ?_ ?_
    · refine State.untrack_writes (H.sub rfl) ?_
      exact h0
    · split
      · split
        · refine State.setFrec_writes (H.sub rfl) ?_
          refine State.untrack_writes (H.sub rfl) ?_
          exact h0
        · refine State.setFrec_writes (H.sub rfl) ?_
          exact h0
      · refine State.untrack_writes (H.sub rfl) ?_
        exact h0

theorem State.mergeRecord_writes {P : State → Prop} {a0 : State} {a1 : Nat} {a2 : FRec} {a3 : Report} {a4 : Nat} (H : Stable P 1851382) (h0 : P a0) :
    P (State.mergeRecord a0 a1 a2 a3 a4) := by
  unfold State.mergeRecord
  extract_lets +onlyGivenNames x10
  extract_lets +onlyGivenNames x11
  have h10 : P x11 := by
    unfold x11
    refine State.logEdit_writes (H.sub rfl) ?_
    exact h0
  extract_lets +onlyGivenNames x12
  extract_lets +onlyGivenNames x13
  extract_lets +onlyGivenNames x14
  have h11 : P x14 := by
    unfold x14
    refine keep_ite ?_ ?_
    · refine State.formed_writes (H.sub rfl) ?_
      exact h10
    · exact h10
  split
  · rename_i v10 v11 v12 v13
    have h12 : P v11 := keep_fst v13 (by
      refine State.react_writes (H.sub rfl) ?_
      exact h11)
    refine keep_ite ?_ ?_
    · refine State.track_writes (H.sub rfl) ?_
      refine State.setFrec_writes (H.sub rfl) ?_
      exact h12
    · refine State.setFrec_writes (H.sub rfl) ?_
      exact h12

theorem State.newRecord_writes {P : State → Prop} {a0 : State} {a1 : Report} {a2 : Nat} (H : Stable P 1851382) (h0 : P a0) :
    P (State.newRecord a0 a1 a2) := by
  unfold State.newRecord
  split
  · split
    · rename_i v10 v11 v12 v13
      have h10 : P v12 := keep_snd v13 (by
        refine State.logPut_writes (H.sub rfl) ?_
        exact h0)
      extract_lets +onlyGivenNames x10
      extract_lets +onlyGivenNames x11
      have h11 : P x11 := by
        unfold x11
        refine keep_ite ?_ ?_
        · refine State.formed_writes (H.sub rfl) ?_
          exact h10
        · exact h10
      split
      · rename_i v14 v15 v16 v17
        have h12 : P v15 := keep_fst v17 (by
          refine State.react_writes (H.sub rfl) ?_
          exact h11)
        refine keep_ite ?_ ?_
        · refine State.track_writes (H.sub rfl) ?_
          exact h12
        · refine State.setFrec_writes (H.sub rfl) ?_
          exact h12

theorem State.unitError_writes {P : State → Prop} {a0 : State} {a1 : Nat} {a2 : Nat} (H : Stable P 2621466) (h0 : P a0) :
    P (State.unitError a0 a1 a2) := by
  unfold State.unitError
  refine keep_ite ?_ ?_
  · extract_lets +onlyGivenNames x10
    extract_lets +onlyGivenNames x11
    extract_lets +onlyGivenNames x12
    have h10 : P x12 := by
      unfold x12
      refine forUp_keep ?_ ?_
      · intro n10 n11 n12
        split
        · refine State.invalidate_writes (H.sub rfl) ?_
          refine State.clearEntry_writes (H.sub rfl) ?_
          exact n12
        · exact n12
      · exact h0
    refine State.setReason_writes (H.sub rfl) ?_
    refine State.recount_writes (H.sub rfl) ?_
    exact h10
  · refine keep_ite ?_ ?_
    · refine State.invalidate_writes (H.sub rfl) ?_
      exact h0
    · refine keep_ite ?_ ?_
      · extract_lets +onlyGivenNames x13
        extract_lets +onlyGivenNames x14
        have h11 : P x14 := by
          unfold x14
          refine foldl_keep ?_ ?_
          · intro n13 n14 n15
            extract_lets +onlyGivenNames x15
            extract_lets +onlyGivenNames x16
            have h12 : P x16 := by
              unfold x16
              refine foldl_keep ?_ ?_
              · intro n16 n17 n18
                refine State.countDrop_writes (H.sub rfl) ?_
                refine State.discharge_writes (H.sub rfl) ?_
                exact n18
              · exact n15
            refine State.setQueue_writes (H.sub rfl) ?_
            exact h12
          · exact h0
        refine H.set_pk rfl   ?_
        exact h11
      · refine keep_ite ?_ ?_
        · refine State.nodeLost_writes (H.sub rfl) ?_
          exact h0
        · refine keep_ite ?_ ?_
          · refine State.emptyQueue_writes (H.sub rfl) ?_
            exact h0
          · refine keep_ite ?_ ?_
            · refine keep_ite ?_ ?_
              · refine State.cClear_writes (H.sub rfl) ?_
                refine H.set_pk rfl   ?_
                exact h0
              · exact h0
            · exact h0

theorem execFaultAck_writes {P : State → Prop} {a0 : Fin 32} {a1 : Desc} {a2 : State} (H : Stable P 274) (h2 : P a2) :
    OutP P (execFaultAck a0 a1 a2) := by
  unfold execFaultAck
  refine outP_next ?_
  refine State.launch_writes (H.sub rfl) ?_ ?_
  · exact h2
  · intro n10 n11 n12
    extract_lets +onlyGivenNames x10
    split
    · refine keep_ite ?_ ?_
      · refine State.ackDone_writes (H.sub rfl) ?_
        refine State.ackRec_writes (H.sub rfl) ?_
        exact n12
      · refine State.ackDone_writes (H.sub rfl) ?_
        exact n12
    · refine State.ackDone_writes (H.sub rfl) ?_
      exact n12

theorem execFaultAckUpTo_writes {P : State → Prop} {a0 : Fin 32} {a1 : Desc} {a2 : State} (H : Stable P 274) (h2 : P a2) :
    OutP P (execFaultAckUpTo a0 a1 a2) := by
  unfold execFaultAckUpTo
  refine outP_next ?_
  refine State.launch_writes (H.sub rfl) ?_ ?_
  · exact h2
  · intro n10 n11 n12
    extract_lets +onlyGivenNames x10
    refine State.ackDone_writes (H.sub rfl) ?_
    refine foldl_keep ?_ ?_
    · intro n13 n14 n15
      refine State.ackRec_writes (H.sub rfl) ?_
      exact n15
    · exact n12

theorem execFaultClassification_writes {P : State → Prop} {a0 : State} (H : Stable P 1851382) (h0 : P a0) :
    OutP P (execFaultClassification a0) := by
  unfold execFaultClassification
  refine outP_next ?_
  split
  · refine keep_ite ?_ ?_
    · exact h0
    · extract_lets +onlyGivenNames x10
      extract_lets +onlyGivenNames x11
      have h10 : P x11 := by
        unfold x11
        refine State.forgetLogs_writes (H.sub rfl) ?_
        refine H.set_flt rfl   ?_
        exact h0
      extract_lets +onlyGivenNames x12
      have h11 : P x12 := by
        unfold x12
        refine State.count_writes (H.sub rfl) ?_
        exact h10
      refine State.showFaults_writes (H.sub rfl) ?_
      split
      · refine State.mergeRecord_writes (H.sub rfl) ?_
        exact h11
      · refine State.newRecord_writes (H.sub rfl) ?_
        exact h11
  · exact h0

theorem execFaultRelease_writes {P : State → Prop} {a0 : Fin 32} {a1 : Desc} {a2 : Bool} {a3 : State} (H : Stable P 402802) (h3 : P a3) :
    OutP P (execFaultRelease a0 a1 a2 a3) := by
  unfold execFaultRelease
  refine outP_next ?_
  refine State.launch_writes (H.sub rfl) ?_ ?_
  · exact h3
  · intro n10 n11 n12
    extract_lets +onlyGivenNames x10
    split
    · refine keep_ite ?_ ?_
      · refine State.ackDone_writes (H.sub rfl) ?_
        exact n12
      · refine keep_ite ?_ ?_
        · refine State.ackDone_writes (H.sub rfl) ?_
          exact n12
        · extract_lets +onlyGivenNames x11
          extract_lets +onlyGivenNames x12
          refine keep_ite ?_ ?_
          · refine State.ackDone_writes (H.sub rfl) ?_
            refine State.ackRec_writes (H.sub rfl) ?_
            exact n12
          · extract_lets +onlyGivenNames x13
            have h10 : P x13 := by
              unfold x13
              refine State.setFrec_writes (H.sub rfl) ?_
              exact n12
            refine State.ackDone_writes (H.sub rfl) ?_
            split
            · refine State.lift_writes (H.sub rfl) ?_
              exact h10
            · exact h10
    · split
      · refine State.ackDone_writes (H.sub rfl) ?_
        exact n12
      · refine State.ackDone_writes (H.sub rfl) ?_
        exact n12
      · refine State.ackDone_writes (H.sub rfl) ?_
        exact n12

theorem execFaultReport_writes {P : State → Prop} {a0 : Report} {a1 : State} (H : Stable P 4112382) (h1 : P a1) :
    OutP P (execFaultReport a0 a1) := by
  unfold execFaultReport
  refine outP_next ?_
  refine keep_ite ?_ ?_
  · exact h1
  · split
    · refine State.collect_writes (H.sub rfl) ?_
      refine H.set_flt rfl   ?_
      exact h1
    · extract_lets +onlyGivenNames x10
      have h10 : (∀ (z0 : Inject) (z1 : State), P z1 → P (x10 z0 z1)) := by
        intro n10 n11 n12
        unfold x10
        refine H.set_flt rfl   ?_
        exact n12
      clear_value x10
      split
      · refine keep_ite ?_ ?_
        · refine State.collect_writes (H.sub rfl) ?_
          refine h10 _ _ ?_
          exact h1
        · refine State.count_writes (H.sub rfl) ?_
          refine h10 _ _ ?_
          exact h1
      · extract_lets +onlyGivenNames x11
        have h11 : P x11 := by
          unfold x11
          refine keep_ite ?_ ?_
          · refine State.fire_writes (H.sub rfl) ?_
            exact h1
          · exact h1
        refine State.collect_writes (H.sub rfl) ?_
        refine State.unitError_writes (H.sub rfl) ?_
        exact h11

theorem execSafeReadback_writes {P : State → Prop} {a0 : List (Fin 512)} {a1 : Bool} {a2 : State} (H : Stable P 15619) (h2 : P a2) :
    OutP P (execSafeReadback a0 a1 a2) := by
  unfold execSafeReadback
  refine outP_next ?_
  split
  · extract_lets +onlyGivenNames x10
    extract_lets +onlyGivenNames x11
    have h10 : P x11 := by
      unfold x11
      refine H.set_now_flt rfl rfl (Nat.le_max_left _ _)  ?_
      exact h2
    refine keep_ite ?_ ?_
    · exact h10
    · extract_lets +onlyGivenNames x12
      extract_lets +onlyGivenNames x13
      have h11 : P x13 := by
        unfold x13
        refine State.raise_writes (H.sub rfl) ?_
        refine State.setF_writes (H.sub rfl) ?_
        exact h10
      refine foldl_keep ?_ ?_
      · intro n10 n11 n12
        refine State.blockOff_writes (H.sub rfl) ?_
        exact n12
      · exact h11
  · exact h2

end Sys2Proof.Machine
end

