-- ==== Sys2Proof/Laws/WritesMonitor.lean ====
section
/-! SUPPORT. Which components of the state each operation and command of Machine/Monitor.lean may write. -/

namespace Sys2Proof.Machine

theorem State.inject_writes {P : State → Prop} {a0 : State} {a1 : Nat} {a2 : Nat} {a3 : Bool} (H : Stable P 256) (h0 : P a0) :
    P (State.inject a0 a1 a2 a3) := by
  unfold State.inject
  refine keep_ite ?_ ?_
  · exact h0
  · refine H.set_flt rfl   ?_
    exact h0

theorem State.injWrite_writes {P : State → Prop} {a0 : State} {a1 : Word} (H : Stable P 258) (h0 : P a0) :
    P (State.injWrite a0 a1) := by
  unfold State.injWrite
  extract_lets +onlyGivenNames x10
  have h10 : P x10 := by
    unfold x10
    refine State.wr_writes (H.sub rfl) ?_
    exact h0
  extract_lets +onlyGivenNames x11
  extract_lets +onlyGivenNames x12
  refine keep_ite ?_ ?_
  · exact h10
  · refine keep_ite ?_ ?_
    · refine State.inject_writes (H.sub rfl) ?_
      exact h10
    · refine State.setF_writes (H.sub rfl) ?_
      exact h10

theorem State.lkResult_writes {P : State → Prop} {a0 : State} {a1 : Nat} (H : Stable P 2) (h0 : P a0) :
    P (State.lkResult a0 a1) := by
  unfold State.lkResult
  refine State.setF_writes (H.sub rfl) ?_
  exact h0

theorem State.safetyWrite_writes {P : State → Prop} {a0 : State} {a1 : Nat} {a2 : Word} (H : Stable P 258) (h0 : P a0) :
    P (State.safetyWrite a0 a1 a2) := by
  unfold State.safetyWrite
  refine keep_ite ?_ ?_
  · refine State.injWrite_writes (H.sub rfl) ?_
    exact h0
  · refine keep_ite ?_ ?_
    · refine State.sensorOverride_writes (H.sub rfl) ?_
      exact h0
    · extract_lets +onlyGivenNames x10
      extract_lets +onlyGivenNames x11
      have h10 : P x11 := by
        unfold x11
        refine State.wr_writes (H.sub rfl) ?_
        exact h0
      extract_lets +onlyGivenNames x12
      extract_lets +onlyGivenNames x13
      have h11 : P x13 := by
        unfold x13
        refine H.set_flt rfl   ?_
        exact h10
      extract_lets +onlyGivenNames x14
      extract_lets +onlyGivenNames x15
      have h12 : P x15 := by
        unfold x15
        refine keep_ite ?_ ?_
        · refine H.set_flt rfl   ?_
          exact h11
        · exact h11
      refine State.showFaults_writes (H.sub rfl) ?_
      exact h12

theorem State.lkWrite_writes {P : State → Prop} {a0 : State} {a1 : Nat} {a2 : Word} (H : Stable P 258) (h0 : P a0) :
    P (State.lkWrite a0 a1 a2) := by
  unfold State.lkWrite
  refine keep_ite ?_ ?_
  · extract_lets +onlyGivenNames x10
    have h10 : P x10 := by
      unfold x10
      refine State.safetyWrite_writes (H.sub rfl) ?_
      exact h0
    refine keep_ite ?_ ?_
    · exact h10
    · refine H.set_flt rfl   ?_
      exact h10
  · refine State.safetyWrite_writes (H.sub rfl) ?_
    exact h0

theorem State.setProposal_writes {P : State → Prop} {a0 : State} {a1 : Option (Nat × Word × Nat)} (H : Stable P 256) (h0 : P a0) :
    P (State.setProposal a0 a1) := by
  unfold State.setProposal
  refine H.set_flt rfl   ?_
  exact h0

theorem State.supplyJudge_writes {P : State → Prop} {a0 : State} {a1 : Nat} {a2 : Nat} {a3 : Nat} {a4 : Nat} {a5 : Bool} (H : Stable P 8448) (h0 : P a0) :
    P (State.supplyJudge a0 a1 a2 a3 a4 a5) := by
  unfold State.supplyJudge
  extract_lets +onlyGivenNames x10
  extract_lets +onlyGivenNames x11
  have h10 : (∀ (z0 : Nat) (z1 : State), P z1 → P (x11 z0 z1)) := by
    intro n10 n11 n12
    unfold x11
    refine H.set_flt rfl   ?_
    exact n12
  clear_value x11
  refine keep_ite ?_ ?_
  · refine h10 _ _ ?_
    exact h0
  · refine keep_ite ?_ ?_
    · refine h10 _ _ ?_
      exact h0
    · refine keep_ite ?_ ?_
      · refine State.raiseD_writes (H.sub rfl) ?_
        refine h10 _ _ ?_
        exact h0
      · exact h0

theorem State.upsetCopy_writes {P : State → Prop} {a0 : State} {a1 : Nat} {a2 : Nat} (H : Stable P 256) (h0 : P a0) :
    P (State.upsetCopy a0 a1 a2) := by
  unfold State.upsetCopy
  extract_lets +onlyGivenNames x10
  refine H.set_flt rfl   ?_
  exact h0

theorem State.upsetReg_writes {P : State → Prop} {a0 : State} {a1 : Nat} {a2 : Word} (H : Stable P 258) (h0 : P a0) :
    P (State.upsetReg a0 a1 a2) := by
  unfold State.upsetReg
  extract_lets +onlyGivenNames x10
  extract_lets +onlyGivenNames x11
  extract_lets +onlyGivenNames x12
  extract_lets +onlyGivenNames x13
  extract_lets +onlyGivenNames x14
  have h10 : P x14 := by
    unfold x14
    refine State.wr_writes (H.sub rfl) ?_
    exact h0
  refine H.set_flt rfl   ?_
  exact h10

theorem execCheckerDead_writes {P : State → Prop} {a0 : State} (H : Stable P 8451) (h0 : P a0) :
    OutP P (execCheckerDead a0) := by
  unfold execCheckerDead
  refine outP_next ?_
  split
  · extract_lets +onlyGivenNames x10
    extract_lets +onlyGivenNames x11
    have h10 : P x11 := by
      unfold x11
      refine H.set_now_flt rfl rfl (Nat.le_max_left _ _)  ?_
      exact h0
    extract_lets +onlyGivenNames x12
    have h11 : P x12 := by
      unfold x12
      refine keep_ite ?_ ?_
      · exact h10
      · refine State.count_writes (H.sub rfl) ?_
        exact h10
    refine State.raiseD_writes (H.sub rfl) ?_
    exact h11
  · exact h0

theorem execCheckerInjection_writes {P : State → Prop} {a0 : BitVec 10} {a1 : BitVec 14} {a2 : State} (H : Stable P 258) (h2 : P a2) :
    OutP P (execCheckerInjection a0 a1 a2) := by
  unfold execCheckerInjection
  refine outP_next ?_
  refine keep_ite ?_ ?_
  · refine State.injWrite_writes (H.sub rfl) ?_
    exact h2
  · exact h2

theorem execClockMonitorWindow_writes {P : State → Prop} {a0 : List Int} {a1 : State} (H : Stable P 8448) (h1 : P a1) :
    OutP P (execClockMonitorWindow a0 a1) := by
  unfold execClockMonitorWindow
  refine outP_next ?_
  refine keep_ite ?_ ?_
  · exact h1
  · refine forUp_keep ?_ ?_
    · intro n10 n11 n12
      split
      · extract_lets +onlyGivenNames x10
        extract_lets +onlyGivenNames x11
        have h10 : (∀ (z0 : Nat) (z1 : State), P z1 → P (x11 z0 z1)) := by
          intro n13 n14 n15
          unfold x11
          refine H.set_flt rfl   ?_
          exact n15
        clear_value x11
        refine keep_ite ?_ ?_
        · refine h10 _ _ ?_
          exact n12
        · refine keep_ite ?_ ?_
          · refine h10 _ _ ?_
            exact n12
          · refine keep_ite ?_ ?_
            · refine State.raiseD_writes (H.sub rfl) ?_
              refine h10 _ _ ?_
              exact n12
            · exact n12
      · exact n12
    · exact h1

theorem execConfigScrub_writes {P : State → Prop} {a0 : Option (BitVec 24 × Word)} {a1 : Option (Fin 1024 × Fin 8)} {a2 : State} (H : Stable P 8450) (h2 : P a2) :
    OutP P (execConfigScrub a0 a1 a2) := by
  unfold execConfigScrub
  extract_lets +onlyGivenNames x10
  have h10 : P x10 := by
    unfold x10
    split
    · rename_i v10 v11 v12
      refine State.upsetReg_writes (H.sub rfl) ?_
      exact h2
    · rename_i v13
      exact h2
  extract_lets +onlyGivenNames x11
  have h11 : P x11 := by
    unfold x11
    split
    · rename_i v14 v15 v16
      refine State.upsetCopy_writes (H.sub rfl) ?_
      exact h10
    · rename_i v17
      exact h10
  extract_lets +onlyGivenNames x12
  refine outP_next ?_
  refine keep_ite ?_ ?_
  · exact h11
  · clear_value x12
    split
    · refine State.raiseD_writes (H.sub rfl) ?_
      exact h11
    · exact h11

theorem execFltTestInjWrite_writes {P : State → Prop} {a0 : Word} {a1 : State} (H : Stable P 258) (h1 : P a1) :
    OutP P (execFltTestInjWrite a0 a1) := by
  unfold execFltTestInjWrite
  extract_lets +onlyGivenNames x10
  have h10 : P x10 := by
    unfold x10
    refine State.wr_writes (H.sub rfl) ?_
    exact h1
  extract_lets +onlyGivenNames x11
  extract_lets +onlyGivenNames x12
  refine outP_next ?_
  refine keep_ite ?_ ?_
  · exact h10
  · refine keep_ite ?_ ?_
    · refine State.inject_writes (H.sub rfl) ?_
      exact h10
    · refine State.setF_writes (H.sub rfl) ?_
      exact h10

theorem execLatchFlagClear_writes {P : State → Prop} {a0 : State} (H : Stable P 258) (h0 : P a0) :
    OutP P (execLatchFlagClear a0) := by
  unfold execLatchFlagClear
  refine outP_next ?_
  refine State.setF_writes (H.sub rfl) ?_
  refine H.set_flt rfl   ?_
  exact h0

theorem execLightPathCheck_writes {P : State → Prop} {a0 : State} (H : Stable P 8448) (h0 : P a0) :
    OutP P (execLightPathCheck a0) := by
  unfold execLightPathCheck
  extract_lets +onlyGivenNames x10
  extract_lets +onlyGivenNames x11
  refine outP_next ?_
  refine keep_ite ?_ ?_
  · exact h0
  · refine forUp_keep ?_ ?_
    · intro n10 n11 n12
      extract_lets +onlyGivenNames x12
      extract_lets +onlyGivenNames x13
      clear_value x13
      split
      · refine State.raiseD_writes (H.sub rfl) ?_
        exact n12
      · exact n12
    · exact h0

theorem execLkConfirm_writes {P : State → Prop} {a0 : BitVec 16} {a1 : State} (H : Stable P 8578) (h1 : P a1) :
    OutP P (execLkConfirm a0 a1) := by
  unfold execLkConfirm
  refine outP_next ?_
  refine keep_ite ?_ ?_
  · refine State.lkResult_writes (H.sub rfl) ?_
    exact h1
  · split
    · refine State.lkResult_writes (H.sub rfl) ?_
      exact h1
    · extract_lets +onlyGivenNames x10
      have h10 : P x10 := by
        unfold x10
        refine State.setProposal_writes (H.sub rfl) ?_
        exact h1
      refine keep_ite ?_ ?_
      · refine State.lkResult_writes (H.sub rfl) ?_
        exact h10
      · refine keep_ite ?_ ?_
        · refine State.lkResult_writes (H.sub rfl) ?_
          exact h10
        · refine keep_ite ?_ ?_
          · refine State.lkResult_writes (H.sub rfl) ?_
            exact h10
          · split
            · refine State.lkResult_writes (H.sub rfl) ?_
              exact h10
            · refine State.logNote_writes (H.sub rfl) ?_
              refine State.lkResult_writes (H.sub rfl) ?_
              refine State.lkWrite_writes (H.sub rfl) ?_
              exact h10

theorem execLkPropose_writes {P : State → Prop} {a0 : State} (H : Stable P 258) (h0 : P a0) :
    OutP P (execLkPropose a0) := by
  unfold execLkPropose
  refine outP_next ?_
  refine keep_ite ?_ ?_
  · refine State.lkResult_writes (H.sub rfl) ?_
    exact h0
  · refine State.lkResult_writes (H.sub rfl) ?_
    refine State.setProposal_writes (H.sub rfl) ?_
    exact h0

theorem execReferenceLossMeasure_writes {P : State → Prop} {a0 : Fin 256} {a1 : State} (H : Stable P 257) (h1 : P a1) :
    OutP P (execReferenceLossMeasure a0 a1) := by
  unfold execReferenceLossMeasure
  refine outP_next ?_
  split
  · extract_lets +onlyGivenNames x10
    have h10 : P x10 := by
      unfold x10
      refine H.set_now rfl (Nat.le_max_left _ _)  ?_
      exact h1
    extract_lets +onlyGivenNames x11
    refine H.set_flt rfl   ?_
    exact h10
  · exact h1

theorem execSupplyMonitorSample_writes {P : State → Prop} {a0 : List Nat} {a1 : State} (H : Stable P 8448) (h1 : P a1) :
    OutP P (execSupplyMonitorSample a0 a1) := by
  unfold execSupplyMonitorSample
  refine outP_next ?_
  refine keep_ite ?_ ?_
  · exact h1
  · refine forUp_keep ?_ ?_
    · intro n10 n11 n12
      split
      · split
        · extract_lets +onlyGivenNames x10
          have h10 : P x10 := by
            unfold x10
            refine State.supplyJudge_writes (H.sub rfl) ?_
            exact n12
          refine State.supplyJudge_writes (H.sub rfl) ?_
          exact h10
      · exact n12
    · exact h1

end Sys2Proof.Machine
end

