-- ==== Sys2Proof/Laws/WritesEvent.lean ====
section
/-! SUPPORT. Which components of the state each operation and command of Machine/Event.lean may write. -/

namespace Sys2Proof.Machine

theorem State.setHu_writes {P : State → Prop} {a0 : State} {a1 : Nat} {a2 : Hrv} (H : Stable P 16384) (h0 : P a0) :
    P (State.setHu a0 a1 a2) := by
  unfold State.setHu
  refine H.set_hrv rfl   ?_
  exact h0

theorem State.captureTask_writes {P : State → Prop} {a0 : State} {a1 : Nat} {a2 : Nat} {a3 : List Nat} (H : Stable P 16384) (h0 : P a0) :
    P (State.captureTask a0 a1 a2 a3) := by
  unfold State.captureTask
  extract_lets +onlyGivenNames x10
  refine keep_ite ?_ ?_
  · refine State.setHu_writes (H.sub rfl) ?_
    exact h0
  · exact h0

theorem State.evoTask_writes {P : State → Prop} {a0 : State} {a1 : Nat} (H : Stable P 8194) (h0 : P a0) :
    P (State.evoTask a0 a1) := by
  unfold State.evoTask
  extract_lets +onlyGivenNames x10
  refine keep_ite ?_ ?_
  · refine State.setF_writes (H.sub rfl) ?_
    exact h0
  · extract_lets +onlyGivenNames x11
    extract_lets +onlyGivenNames x12
    have h10 : P x12 := by
      unfold x12
      refine State.setF_writes (H.sub rfl) ?_
      exact h0
    refine H.set_evt rfl   ?_
    exact h10

theorem State.modeTask_writes {P : State → Prop} {a0 : State} {a1 : List Nat} (H : Stable P 530) (h0 : P a0) :
    P (State.modeTask a0 a1) := by
  unfold State.modeTask
  split
  · refine State.askMode_writes (H.sub rfl) ?_
    exact h0
  · refine State.askMode_writes (H.sub rfl) ?_
    exact h0
  · refine State.askMode_writes (H.sub rfl) ?_
    exact h0
  · refine State.askMode_writes (H.sub rfl) ?_
    exact h0
  · refine State.count_writes (H.sub rfl) ?_
    exact h0

theorem State.rackTask_writes {P : State → Prop} {a0 : State} {a1 : List Nat} (H : Stable P 73) (h0 : P a0) :
    P (State.rackTask a0 a1) := by
  unfold State.rackTask
  extract_lets +onlyGivenNames x10
  have h10 : P x10 := by
    unfold x10
    refine H.set_now rfl (Nat.le_add_right _ _)  ?_
    exact h0
  refine State.trigger_writes (H.sub rfl) ?_
  refine State.drawn_writes (H.sub rfl) ?_
  exact h10

theorem State.stampTask_writes {P : State → Prop} {a0 : State} {a1 : Nat} {a2 : Nat} (H : Stable P 2) (h0 : P a0) :
    P (State.stampTask a0 a1 a2) := by
  unfold State.stampTask
  extract_lets +onlyGivenNames x10
  extract_lets +onlyGivenNames x11
  extract_lets +onlyGivenNames x12
  have h10 : P x12 := by
    unfold x12
    refine keep_ite ?_ ?_
    · refine State.setF_writes (H.sub rfl) ?_
      exact h0
    · exact h0
  extract_lets +onlyGivenNames x13
  have h11 : P x13 := by
    unfold x13
    refine State.wr_writes (H.sub rfl) ?_
    refine State.setF_writes (H.sub rfl) ?_
    exact h10
  refine State.wr_writes (H.sub rfl) ?_
  refine State.wr_writes (H.sub rfl) ?_
  exact h11

theorem State.doTask_writes {P : State → Prop} {a0 : State} {a1 : Nat} {a2 : Nat} {a3 : List Nat} {a4 : Nat} (H : Stable P 30555) (h0 : P a0) :
    P (State.doTask a0 a1 a2 a3 a4) := by
  unfold State.doTask
  refine keep_ite ?_ ?_
  · refine State.rackTask_writes (H.sub rfl) ?_
    exact h0
  · refine keep_ite ?_ ?_
    · refine State.modeTask_writes (H.sub rfl) ?_
      exact h0
    · refine keep_ite ?_ ?_
      · refine State.raiseD_writes (H.sub rfl) ?_
        exact h0
      · refine keep_ite ?_ ?_
        · refine State.captureTask_writes (H.sub rfl) ?_
          exact h0
        · refine keep_ite ?_ ?_
          · refine State.stampTask_writes (H.sub rfl) ?_
            exact h0
          · refine keep_ite ?_ ?_
            · refine State.seqRequest_writes (H.sub rfl) ?_
              exact h0
            · refine keep_ite ?_ ?_
              · refine State.jumpRequest_writes (H.sub rfl) ?_
                exact h0
              · refine keep_ite ?_ ?_
                · refine State.injActivate_writes (H.sub rfl) ?_
                  exact h0
                · refine keep_ite ?_ ?_
                  · refine State.evoTask_writes (H.sub rfl) ?_
                    exact h0
                  · refine State.countWrap_writes (H.sub rfl) ?_
                    exact h0

theorem State.reach_writes {P : State → Prop} {a0 : State} {a1 : Act} {a2 : List Act} (H : Stable P 30555) (h0 : P a0) :
    P (State.reach a0 a1 a2) := by
  unfold State.reach
  extract_lets +onlyGivenNames x10
  have h10 : P x10 := by
    unfold x10
    refine H.set_now rfl (Nat.le_max_left _ _)  ?_
    exact h0
  extract_lets +onlyGivenNames x11
  have h11 : P x11 := by
    unfold x11
    refine State.count_writes (H.sub rfl) ?_
    exact h10
  extract_lets +onlyGivenNames x12
  have h12 : P x12 := by
    unfold x12
    refine State.count_writes (H.sub rfl) ?_
    exact h11
  extract_lets +onlyGivenNames x13
  extract_lets +onlyGivenNames x14
  extract_lets +onlyGivenNames x15
  refine State.doTask_writes (H.sub rfl) ?_
  exact h12

theorem State.deliver_writes {P : State → Prop} {a0 : Nat} {a1 : List Act} {a2 : State} (H : Stable P 30555) (h2 : P a2) :
    P (State.deliver a0 a1 a2) := by
  induction a0 generalizing a1 a2 with
  | zero => exact h2
  | succ n ih => cases a1 with
    | nil => exact h2
    | cons a l => exact ih (State.reach_writes H h2)

theorem State.dropRefs_writes {P : State → Prop} {a0 : State} {a1 : List Nat} (H : Stable P 256) (h0 : P a0) :
    P (State.dropRefs a0 a1) := by
  unfold State.dropRefs
  refine H.set_flt rfl   ?_
  exact h0

theorem State.evtRefuse_writes {P : State → Prop} {a0 : State} {a1 : Nat} {a2 : Nat} {a3 : Nat} (H : Stable P 2) (h0 : P a0) :
    P (State.evtRefuse a0 a1 a2 a3) := by
  unfold State.evtRefuse
  extract_lets +onlyGivenNames x10
  extract_lets +onlyGivenNames x11
  have h10 : P x11 := by
    unfold x11
    refine State.setF_writes (H.sub rfl) ?_
    refine State.setF_writes (H.sub rfl) ?_
    exact h0
  extract_lets +onlyGivenNames x12
  have h11 : P x12 := by
    unfold x12
    refine State.setF_writes (H.sub rfl) ?_
    refine State.setF_writes (H.sub rfl) ?_
    exact h10
  refine State.count_writes (H.sub rfl) ?_
  exact h11

theorem State.forkTo_writes {P : State → Prop} {a0 : Fire} {a1 : Nat} {a2 : Nat} {a3 : State} {a4 : List Act} (H : Stable P 10) (h3 : P a3) :
    P (State.forkTo a0 a1 a2 a3 a4).1 := by
  unfold State.forkTo
  split
  · refine keep_mk1 ?_
    exact h3
  · split
    · refine keep_mk1 ?_
      exact h3
    · split
      · refine keep_mk1 ?_
        refine State.evtRefuse_writes (H.sub rfl) ?_
        exact h3
      · extract_lets +onlyGivenNames x10
        refine keep_mk1 ?_
        refine State.drawn_writes (H.sub rfl) ?_
        exact h3

theorem State.lkDirect_writes {P : State → Prop} {a0 : State} (H : Stable P 2) (h0 : P a0) :
    P (State.lkDirect a0) := by
  unfold State.lkDirect
  refine State.count_writes (H.sub rfl) ?_
  exact h0

theorem State.pass_writes {P : State → Prop} {a0 : Fire} {a1 : Nat} {a2 : State} {a3 : List Act} (H : Stable P 8458) (h2 : P a2) :
    P (State.pass a0 a1 a2 a3).1 := by
  unfold State.pass
  extract_lets +onlyGivenNames x10
  extract_lets +onlyGivenNames x11
  split
  · extract_lets +onlyGivenNames x12
    have h10 : P x12 := by
      unfold x12
      refine State.setF_writes (H.sub rfl) ?_
      exact h2
    refine keep_mk1 ?_
    refine State.raise_writes (H.sub rfl) ?_
    refine State.count_writes (H.sub rfl) ?_
    refine State.setF_writes (H.sub rfl) ?_
    exact h10
  · extract_lets +onlyGivenNames x13
    have h11 : P x13 := by
      unfold x13
      refine State.count_writes (H.sub rfl) ?_
      exact h2
    refine foldl_keep1 ?_ ?_
    · intro n10 n11 n12
      refine State.forkTo_writes (H.sub rfl) ?_
      exact n12
    · refine keep_mk1 ?_
      exact h11

theorem State.passAll_writes {P : State → Prop} {a0 : State} {a1 : List Act} {a2 : Fire} (H : Stable P 8458) (h0 : P a0) :
    P (State.passAll a0 a1 a2).1 := by
  unfold State.passAll
  split
  · refine keep_mk1 ?_
    exact h0
  · refine foldl_keep1 ?_ ?_
    · intro n10 n11 n12
      split
      · refine State.pass_writes (H.sub rfl) ?_
        exact n12
      · exact n12
    · refine keep_mk1 ?_
      exact h0

theorem State.releaseChan_writes {P : State → Prop} {a0 : State} {a1 : Nat} (H : Stable P 2) (h0 : P a0) :
    P (State.releaseChan a0 a1) := by
  unfold State.releaseChan
  refine State.wr_writes (H.sub rfl) ?_
  refine State.setF_writes (H.sub rfl) ?_
  exact h0

theorem execEventActivation_writes {P : State → Prop} {a0 : State} (H : Stable P 30555) (h0 : P a0) :
    OutP P (execEventActivation a0) := by
  unfold execEventActivation
  extract_lets +onlyGivenNames x10
  extract_lets +onlyGivenNames x11
  extract_lets +onlyGivenNames x12
  have h10 : P x12 := by
    unfold x12
    refine H.set_evt rfl   ?_
    exact h0
  split
  · rename_i v10 v11 v12 v13
    have h11 : P v11 := keep_fst v13 (by
      refine foldl_keep1 ?_ ?_
      · intro n10 n11 n12
        refine State.passAll_writes (H.sub rfl) ?_
        exact n12
      · refine keep_mk1 ?_
        exact h10)
    refine outP_next ?_
    refine State.deliver_writes (H.sub rfl) ?_
    exact h11

theorem execEviEdge_writes {P : State → Prop} {a0 : Fin 16} {a1 : Bool} {a2 : Bool} {a3 : Fin 1000} {a4 : State} (H : Stable P 8195) (h4 : P a4) :
    OutP P (execEviEdge a0 a1 a2 a3 a4) := by
  unfold execEviEdge
  extract_lets +onlyGivenNames x10
  have h10 : P x10 := by
    unfold x10
    refine State.at__writes (H.sub rfl) ?_
    exact h4
  extract_lets +onlyGivenNames x11
  extract_lets +onlyGivenNames x12
  have h11 : P x12 := by
    unfold x12
    refine keep_ite ?_ ?_
    · refine State.setF_writes (H.sub rfl) ?_
      exact h10
    · exact h10
  refine outP_next ?_
  refine keep_ite ?_ ?_
  · exact h11
  · extract_lets +onlyGivenNames x13
    refine keep_ite ?_ ?_
    · refine State.count_writes (H.sub rfl) ?_
      exact h11
    · extract_lets +onlyGivenNames x14
      refine H.set_evt rfl   ?_
      exact h11

theorem execEvoPulseEnd_writes {P : State → Prop} {a0 : Fin 8} {a1 : State} (H : Stable P 8195) (h1 : P a1) :
    OutP P (execEvoPulseEnd a0 a1) := by
  unfold execEvoPulseEnd
  refine outP_next ?_
  split
  · extract_lets +onlyGivenNames x10
    extract_lets +onlyGivenNames x11
    have h10 : P x11 := by
      unfold x11
      refine H.set_now_evt rfl rfl (Nat.le_max_left _ _)  ?_
      exact h1
    refine State.setF_writes (H.sub rfl) ?_
    exact h10
  · exact h1

theorem execEvtChCfgWrite_writes {P : State → Prop} {a0 : Owner} {a1 : Fin 64} {a2 : Bool} {a3 : Word} {a4 : State} (H : Stable P 258) (h4 : P a4) :
    OutP P (execEvtChCfgWrite a0 a1 a2 a3 a4) := by
  unfold execEvtChCfgWrite
  extract_lets +onlyGivenNames x10
  extract_lets +onlyGivenNames x11
  have h10 : (∀ (z0 : State), P z0 → P (x11 z0)) := by
    intro n10 n11
    unfold x11
    refine keep_ite ?_ ?_
    · refine State.wr_writes (H.sub rfl) ?_
      exact n11
    · refine State.wr_writes (H.sub rfl) ?_
      exact n11
  clear_value x11
  refine outP_next ?_
  refine keep_ite ?_ ?_
  · refine State.dropRefs_writes (H.sub rfl) ?_
    refine h10 _ ?_
    exact h4
  · refine keep_ite ?_ ?_
    · refine State.lkDirect_writes (H.sub rfl) ?_
      refine State.evtRefuse_writes (H.sub rfl) ?_
      exact h4
    · refine keep_ite ?_ ?_
      · refine h10 _ ?_
        exact h4
      · refine State.evtRefuse_writes (H.sub rfl) ?_
        exact h4

theorem execEvtChOwnWrite_writes {P : State → Prop} {a0 : Owner} {a1 : Fin 64} {a2 : Word} {a3 : State} (H : Stable P 258) (h3 : P a3) :
    OutP P (execEvtChOwnWrite a0 a1 a2 a3) := by
  unfold execEvtChOwnWrite
  extract_lets +onlyGivenNames x10
  extract_lets +onlyGivenNames x11
  extract_lets +onlyGivenNames x12
  extract_lets +onlyGivenNames x13
  extract_lets +onlyGivenNames x14
  refine outP_next ?_
  refine keep_ite ?_ ?_
  · extract_lets +onlyGivenNames x15
    have h10 : P x15 := by
      unfold x15
      refine State.dropRefs_writes (H.sub rfl) ?_
      refine State.wr_writes (H.sub rfl) ?_
      exact h3
    refine keep_ite ?_ ?_
    · refine State.releaseChan_writes (H.sub rfl) ?_
      exact h10
    · exact h10
  · refine keep_ite ?_ ?_
    · refine State.lkDirect_writes (H.sub rfl) ?_
      refine State.evtRefuse_writes (H.sub rfl) ?_
      exact h3
    · refine keep_ite ?_ ?_
      · refine State.setF_writes (H.sub rfl) ?_
        refine State.setF_writes (H.sub rfl) ?_
        exact h3
      · refine keep_ite ?_ ?_
        · refine State.releaseChan_writes (H.sub rfl) ?_
          refine State.setF_writes (H.sub rfl) ?_
          refine State.setF_writes (H.sub rfl) ?_
          exact h3
        · refine State.evtRefuse_writes (H.sub rfl) ?_
          exact h3

theorem execEvtSwPulse_writes {P : State → Prop} {a0 : BitVec 8} {a1 : State} (H : Stable P 8192) (h1 : P a1) :
    OutP P (execEvtSwPulse a0 a1) := by
  unfold execEvtSwPulse
  refine outP_next ?_
  refine forUp_keep ?_ ?_
  · intro n10 n11 n12
    refine keep_ite ?_ ?_
    · refine State.fire_writes (H.sub rfl) ?_
      exact n12
    · exact n12
  · exact h1

end Sys2Proof.Machine
end

