-- ==== Sys2Proof/Laws/WritesHarvest.lean ====
section
/-! SUPPORT. Which components of the state each operation and command of Machine/Harvest.lean may write. -/

namespace Sys2Proof.Machine

theorem State.setHuState_writes {P : State → Prop} {a0 : State} {a1 : Nat} {a2 : Nat} (H : Stable P 2) (h0 : P a0) :
    P (State.setHuState a0 a1 a2) := by
  unfold State.setHuState
  refine State.setF_writes (H.sub rfl) ?_
  exact h0

theorem State.acceptTrigger_writes {P : State → Prop} {a0 : State} {a1 : Nat} {a2 : Nat} {a3 : Nat} {a4 : Nat} {a5 : List Nat} (H : Stable P 24578) (h0 : P a0) :
    P (State.acceptTrigger a0 a1 a2 a3 a4 a5) := by
  unfold State.acceptTrigger
  extract_lets +onlyGivenNames x10
  extract_lets +onlyGivenNames x11
  extract_lets +onlyGivenNames x12
  extract_lets +onlyGivenNames x13
  have h10 : P x13 := by
    unfold x13
    refine State.setHu_writes (H.sub rfl) ?_
    exact h0
  refine State.fireP_writes (H.sub rfl) ?_
  refine State.setHuState_writes (H.sub rfl) ?_
  refine State.setF_writes (H.sub rfl) ?_
  exact h10

theorem State.armDone_writes {P : State → Prop} {a0 : State} {a1 : Req} {a2 : Nat} {a3 : Nat} (H : Stable P 18) (h0 : P a0) :
    P (State.armDone a0 a1 a2 a3) := by
  unfold State.armDone
  refine State.finish_writes (H.sub rfl) ?_
  exact h0

theorem State.dropRecords_writes {P : State → Prop} {a0 : State} {a1 : Nat} {a2 : Nat} (H : Stable P 16384) (h0 : P a0) :
    P (State.dropRecords a0 a1 a2) := by
  unfold State.dropRecords
  refine forUp_keep ?_ ?_
  · intro n10 n11 n12
    refine State.setHu_writes (H.sub rfl) ?_
    exact n12
  · exact h0

theorem State.hrvWrite_writes {P : State → Prop} {a0 : State} {a1 : Nat} {a2 : Nat} {a3 : Word} (H : Stable P 2) (h0 : P a0) :
    P (State.hrvWrite a0 a1 a2 a3) := by
  unfold State.hrvWrite
  extract_lets +onlyGivenNames x10
  split
  · exact h0
  · refine keep_ite ?_ ?_
    · refine State.wr_writes (H.sub rfl) ?_
      exact h0
    · refine keep_ite ?_ ?_
      · refine State.setF_writes (H.sub rfl) ?_
        exact h0
      · refine keep_ite ?_ ?_
        · refine State.setF_writes (H.sub rfl) ?_
          exact h0
        · extract_lets +onlyGivenNames x11
          have h10 : P x11 := by
            unfold x11
            refine State.wr_writes (H.sub rfl) ?_
            exact h0
          refine keep_ite ?_ ?_
          · refine State.setF_writes (H.sub rfl) ?_
            exact h0
          · exact h10

theorem State.huFill_writes {P : State → Prop} {a0 : State} {a1 : Nat} {a2 : Nat} (H : Stable P 16386) (h0 : P a0) :
    P (State.huFill a0 a1 a2) := by
  unfold State.huFill
  extract_lets +onlyGivenNames x10
  extract_lets +onlyGivenNames x11
  have h10 : P x11 := by
    unfold x11
    refine State.setHu_writes (H.sub rfl) ?_
    exact h0
  refine State.setHuState_writes (H.sub rfl) ?_
  refine State.dropRecords_writes (H.sub rfl) ?_
  exact h10

theorem State.storeRow_writes {P : State → Prop} {a0 : State} {a1 : Nat} (H : Stable P 2113536) (h0 : P a0) :
    P (State.storeRow a0 a1) := by
  unfold State.storeRow
  extract_lets +onlyGivenNames x10
  extract_lets +onlyGivenNames x11
  extract_lets +onlyGivenNames x12
  extract_lets +onlyGivenNames x13
  extract_lets +onlyGivenNames x14
  extract_lets +onlyGivenNames x15
  extract_lets +onlyGivenNames x16
  extract_lets +onlyGivenNames x17
  have h10 : P x17 := by
    unfold x17
    refine State.setHu_writes (H.sub rfl) ?_
    exact h0
  refine State.cWrite_writes (H.sub rfl) ?_
  exact h10

theorem State.storeSample_writes {P : State → Prop} {a0 : State} {a1 : Nat} {a2 : List Int} (H : Stable P 2113538) (h0 : P a0) :
    P (State.storeSample a0 a1 a2) := by
  unfold State.storeSample
  extract_lets +onlyGivenNames x10
  refine keep_ite ?_ ?_
  · exact h0
  · refine keep_ite ?_ ?_
    · refine State.count_writes (H.sub rfl) ?_
      refine State.setHu_writes (H.sub rfl) ?_
      exact h0
    · extract_lets +onlyGivenNames x11
      extract_lets +onlyGivenNames x12
      have h10 : P x12 := by
        unfold x12
        refine State.setHu_writes (H.sub rfl) ?_
        exact h0
      refine keep_ite ?_ ?_
      · refine State.storeRow_writes (H.sub rfl) ?_
        exact h10
      · exact h10

theorem State.huSample_writes {P : State → Prop} {a0 : Nat} {a1 : Nat} {a2 : State} (H : Stable P 2113546) (h2 : P a2) :
    P (State.huSample a0 a1 a2) := by
  unfold State.huSample
  extract_lets +onlyGivenNames x10
  refine keep_ite ?_ ?_
  · exact h2
  · extract_lets +onlyGivenNames x11
    extract_lets +onlyGivenNames x12
    extract_lets +onlyGivenNames x13
    extract_lets +onlyGivenNames x14
    extract_lets +onlyGivenNames x15
    extract_lets +onlyGivenNames x16
    extract_lets +onlyGivenNames x17
    extract_lets +onlyGivenNames x18
    extract_lets +onlyGivenNames x19
    extract_lets +onlyGivenNames x20
    extract_lets +onlyGivenNames x21
    have h10 : P x21 := by
      unfold x21
      refine State.drawn_writes (H.sub rfl) ?_
      exact h2
    refine keep_ite ?_ ?_
    · refine State.storeSample_writes (H.sub rfl) ?_
      refine State.setHu_writes (H.sub rfl) ?_
      exact h10
    · refine State.setHu_writes (H.sub rfl) ?_
      exact h10

theorem State.huSamples_writes {P : State → Prop} {a0 : Nat} {a1 : State} (H : Stable P 2113546) (h1 : P a1) :
    P (State.huSamples a0 a1) := by
  unfold State.huSamples
  refine keep_ite ?_ ?_
  · extract_lets +onlyGivenNames x10
    extract_lets +onlyGivenNames x11
    refine keep_ite ?_ ?_
    · exact h1
    · refine forUp_keep ?_ ?_
      · intro n10 n11 n12
        refine State.huSample_writes (H.sub rfl) ?_
        exact n12
      · exact h1
  · exact h1

theorem State.keepRecord_writes {P : State → Prop} {a0 : State} {a1 : Nat} {a2 : Bool} (H : Stable P 16384) (h0 : P a0) :
    P (State.keepRecord a0 a1 a2) := by
  unfold State.keepRecord
  extract_lets +onlyGivenNames x10
  split
  · extract_lets +onlyGivenNames x11
    refine State.setHu_writes (H.sub rfl) ?_
    exact h0
  · exact h0

theorem State.huStop_writes {P : State → Prop} {a0 : State} {a1 : Nat} (H : Stable P 16386) (h0 : P a0) :
    P (State.huStop a0 a1) := by
  unfold State.huStop
  extract_lets +onlyGivenNames x10
  have h10 : P x10 := by
    unfold x10
    refine State.keepRecord_writes (H.sub rfl) ?_
    exact h0
  refine State.setHuState_writes (H.sub rfl) ?_
  refine State.setHu_writes (H.sub rfl) ?_
  exact h10

theorem State.idle_writes {P : State → Prop} {a0 : State} (H : Stable P 2113547) (h0 : P a0) :
    P (State.idle a0) := by
  unfold State.idle
  extract_lets +onlyGivenNames x10
  have h10 : P x10 := by
    unfold x10
    refine H.set_now rfl (State.tick_next_le _)  ?_
    exact h0
  refine forUp_keep ?_ ?_
  · intro n10 n11 n12
    refine State.huSamples_writes (H.sub rfl) ?_
    exact n12
  · exact h10

theorem execHarvestArm_writes {P : State → Prop} {a0 : Fin 32} {a1 : Desc} {a2 : State} (H : Stable P 16402) (h2 : P a2) :
    OutP P (execHarvestArm a0 a1 a2) := by
  unfold execHarvestArm
  refine outP_next ?_
  refine State.launch_writes (H.sub rfl) ?_ ?_
  · exact h2
  · intro n10 n11 n12
    extract_lets +onlyGivenNames x10
    refine keep_ite ?_ ?_
    · refine State.armDone_writes (H.sub rfl) ?_
      exact n12
    · refine keep_ite ?_ ?_
      · refine State.armDone_writes (H.sub rfl) ?_
        exact n12
      · refine keep_ite ?_ ?_
        · refine State.armDone_writes (H.sub rfl) ?_
          exact n12
        · refine keep_ite ?_ ?_
          · refine State.armDone_writes (H.sub rfl) ?_
            exact n12
          · extract_lets +onlyGivenNames x11
            have h10 : P x11 := by
              unfold x11
              refine State.setF_writes (H.sub rfl) ?_
              refine State.setF_writes (H.sub rfl) ?_
              exact n12
            extract_lets +onlyGivenNames x12
            extract_lets +onlyGivenNames x13
            have h11 : P x13 := by
              unfold x13
              refine State.setHu_writes (H.sub rfl) ?_
              exact h10
            refine State.armDone_writes (H.sub rfl) ?_
            refine State.huFill_writes (H.sub rfl) ?_
            exact h11

theorem execHarvestForce_writes {P : State → Prop} {a0 : Fin 32} {a1 : Desc} {a2 : State} (H : Stable P 16402) (h2 : P a2) :
    OutP P (execHarvestForce a0 a1 a2) := by
  unfold execHarvestForce
  refine outP_next ?_
  refine State.launch_writes (H.sub rfl) ?_ ?_
  · exact h2
  · intro n10 n11 n12
    extract_lets +onlyGivenNames x10
    refine keep_ite ?_ ?_
    · refine State.armDone_writes (H.sub rfl) ?_
      exact n12
    · refine keep_ite ?_ ?_
      · refine State.armDone_writes (H.sub rfl) ?_
        exact n12
      · extract_lets +onlyGivenNames x11
        refine State.armDone_writes (H.sub rfl) ?_
        refine State.setHu_writes (H.sub rfl) ?_
        exact n12

theorem execHarvestRead_writes {P : State → Prop} {a0 : Fin 32} {a1 : Desc} {a2 : Buf} {a3 : Bool} {a4 : State} (H : Stable P 8466) (h4 : P a4) :
    OutP P (execHarvestRead a0 a1 a2 a3 a4) := by
  unfold execHarvestRead
  refine outP_next ?_
  refine State.launch_writes (H.sub rfl) ?_ ?_
  · exact h4
  · intro n10 n11 n12
    extract_lets +onlyGivenNames x10
    extract_lets +onlyGivenNames x11
    extract_lets +onlyGivenNames x12
    extract_lets +onlyGivenNames x13
    extract_lets +onlyGivenNames x14
    extract_lets +onlyGivenNames x15
    have h10 : (∀ (z0 : Nat), P (x15 z0)) := by
      intro n13
      unfold x15
      refine State.finish_writes (H.sub rfl) ?_
      exact n12
    clear_value x15
    refine keep_ite ?_ ?_
    · refine h10 _
    · clear_value x12
      split
      · rename_i v10
        refine h10 _
      · rename_i v11 v12
        split
        · refine h10 _
        · extract_lets +onlyGivenNames x16
          refine keep_ite ?_ ?_
          · refine h10 _
          · refine keep_ite ?_ ?_
            · refine h10 _
            · extract_lets +onlyGivenNames x17
              extract_lets +onlyGivenNames x18
              extract_lets +onlyGivenNames x19
              extract_lets +onlyGivenNames x20
              have h11 : P x20 := by
                unfold x20
                refine keep_ite ?_ ?_
                · refine State.raise_writes (H.sub rfl) ?_
                  exact n12
                · exact n12
              extract_lets +onlyGivenNames x21
              refine State.finishBuf_writes (H.sub rfl) ?_
              exact h11

theorem execHarvestStop_writes {P : State → Prop} {a0 : Fin 32} {a1 : Desc} {a2 : State} (H : Stable P 16402) (h2 : P a2) :
    OutP P (execHarvestStop a0 a1 a2) := by
  unfold execHarvestStop
  refine outP_next ?_
  refine State.launch_writes (H.sub rfl) ?_ ?_
  · exact h2
  · intro n10 n11 n12
    extract_lets +onlyGivenNames x10
    refine keep_ite ?_ ?_
    · refine State.armDone_writes (H.sub rfl) ?_
      exact n12
    · refine keep_ite ?_ ?_
      · refine State.armDone_writes (H.sub rfl) ?_
        exact n12
      · refine State.armDone_writes (H.sub rfl) ?_
        refine State.huStop_writes (H.sub rfl) ?_
        exact n12

theorem execHrvConfigWrite_writes {P : State → Prop} {a0 : Fin 16} {a1 : Fin 64} {a2 : Word} {a3 : State} (H : Stable P 2) (h3 : P a3) :
    OutP P (execHrvConfigWrite a0 a1 a2 a3) := by
  unfold execHrvConfigWrite
  refine outP_next ?_
  refine State.hrvWrite_writes (H.sub rfl) ?_
  exact h3

theorem execHrvGap_writes {P : State → Prop} {a0 : Fin 16} {a1 : Nat} {a2 : State} (H : Stable P 24832) (h2 : P a2) :
    OutP P (execHrvGap a0 a1 a2) := by
  unfold execHrvGap
  refine outP_next ?_
  refine keep_ite ?_ ?_
  · refine State.raise_writes (H.sub rfl) ?_
    refine State.setHu_writes (H.sub rfl) ?_
    exact h2
  · exact h2

theorem execHrvPretriggerFull_writes {P : State → Prop} {a0 : Fin 16} {a1 : State} (H : Stable P 16386) (h1 : P a1) :
    OutP P (execHrvPretriggerFull a0 a1) := by
  unfold execHrvPretriggerFull
  refine outP_next ?_
  split
  · refine State.setHuState_writes (H.sub rfl) ?_
    refine State.setHu_writes (H.sub rfl) ?_
    exact h1
  · exact h1

theorem execHrvRearmEnd_writes {P : State → Prop} {a0 : Fin 16} {a1 : State} (H : Stable P 16386) (h1 : P a1) :
    OutP P (execHrvRearmEnd a0 a1) := by
  unfold execHrvRearmEnd
  refine outP_next ?_
  refine keep_ite ?_ ?_
  · refine State.huFill_writes (H.sub rfl) ?_
    exact h1
  · exact h1

theorem execHrvRecordComplete_writes {P : State → Prop} {a0 : Fin 16} {a1 : State} (H : Stable P 24594) (h1 : P a1) :
    OutP P (execHrvRecordComplete a0 a1) := by
  unfold execHrvRecordComplete
  refine outP_next ?_
  split
  · extract_lets +onlyGivenNames x10
    extract_lets +onlyGivenNames x11
    have h10 : P x11 := by
      unfold x11
      refine State.setF_writes (H.sub rfl) ?_
      refine State.keepRecord_writes (H.sub rfl) ?_
      exact h1
    extract_lets +onlyGivenNames x12
    have h11 : P x12 := by
      unfold x12
      refine State.setHuState_writes (H.sub rfl) ?_
      exact h10
    extract_lets +onlyGivenNames x13
    extract_lets +onlyGivenNames x14
    have h12 : P x14 := by
      unfold x14
      refine State.setHu_writes (H.sub rfl) ?_
      exact h11
    refine State.attn_writes (H.sub rfl) ?_
    refine State.fireP_writes (H.sub rfl) ?_
    exact h12
  · exact h1

theorem execHrvTrigger_writes {P : State → Prop} {a0 : Fin 16} {a1 : State} (H : Stable P 2121730) (h1 : P a1) :
    OutP P (execHrvTrigger a0 a1) := by
  unfold execHrvTrigger
  refine outP_next ?_
  split
  · extract_lets +onlyGivenNames x10
    extract_lets +onlyGivenNames x11
    have h10 : P x11 := by
      unfold x11
      refine State.setHu_writes (H.sub rfl) ?_
      exact h1
    extract_lets +onlyGivenNames x12
    have h11 : P x12 := by
      unfold x12
      split
      · refine State.count_writes (H.sub rfl) ?_
        exact h10
      · refine State.acceptTrigger_writes (H.sub rfl) ?_
        exact h10
      · refine State.count_writes (H.sub rfl) ?_
        exact h10
      · exact h10
    refine State.storeSample_writes (H.sub rfl) ?_
    exact h11
  · exact h1

end Sys2Proof.Machine
end

