-- ==== Sys2Proof/Laws/WritesStart.lean ====
section
/-! SUPPORT. Which components of the state each operation and command of Machine/Start.lean may write. -/

namespace Sys2Proof.Machine

theorem State.acqDrive_writes {P : State → Prop} {a0 : State} {a1 : List RackMove} (H : Stable P 15618) (h0 : P a0) :
    P (State.acqDrive a0 a1) := by
  unfold State.acqDrive
  extract_lets +onlyGivenNames x10
  extract_lets +onlyGivenNames x11
  have h10 : P x11 := by
    unfold x11
    refine State.takeForRack_writes (H.sub rfl) ?_
    exact h0
  extract_lets +onlyGivenNames x12
  have h11 : P x12 := by
    unfold x12
    refine foldl_keep ?_ ?_
    · intro n10 n11 n12
      refine State.drive1_writes (H.sub rfl) ?_
      exact n12
    · exact h10
  extract_lets +onlyGivenNames x13
  extract_lets +onlyGivenNames x14
  have h12 : P x14 := by
    unfold x14
    refine foldl_keep ?_ ?_
    · intro n13 n14 n15
      refine keep_ite ?_ ?_
      · refine State.unhold_writes (H.sub rfl) ?_
        exact n15
      · exact n15
    · exact h11
  extract_lets +onlyGivenNames x15
  have h13 : P x15 := by
    unfold x15
    refine foldl_keep ?_ ?_
    · intro n16 n17 n18
      refine State.drive1_writes (H.sub rfl) ?_
      exact n18
    · exact h12
  extract_lets +onlyGivenNames x16
  refine foldl_keep ?_ ?_
  · intro n19 n20 n21
    refine State.beginHandover_writes (H.sub rfl) ?_
    refine State.setLx_writes (H.sub rfl) ?_
    exact n21
  · exact h13

theorem State.setStart_writes {P : State → Prop} {a0 : State} {a1 : StartSt → StartSt} (H : Stable P 512) (h0 : P a0) :
    P (State.setStart a0 a1) := by
  unfold State.setStart
  refine H.set_start rfl   ?_
  exact h0

theorem State.acqApply_writes {P : State → Prop} {a0 : State} {a1 : Nat} (H : Stable P 16131) (h0 : P a0) :
    P (State.acqApply a0 a1) := by
  unfold State.acqApply
  extract_lets +onlyGivenNames x10
  have h10 : P x10 := by
    unfold x10
    refine State.toTick_writes (H.sub rfl) ?_
    exact h0
  extract_lets +onlyGivenNames x11
  extract_lets +onlyGivenNames x12
  have h11 : P x12 := by
    unfold x12
    refine State.setStart_writes (H.sub rfl) ?_
    exact h10
  split
  · refine State.raiseD_writes (H.sub rfl) ?_
    exact h11
  · refine foldl_keep ?_ ?_
    · intro n10 n11 n12
      refine State.leaveOff_writes (H.sub rfl) ?_
      exact n12
    · refine State.acqDrive_writes (H.sub rfl) ?_
      exact h11

theorem State.acqFinish_writes {P : State → Prop} {a0 : State} (H : Stable P 16131) (h0 : P a0) :
    P (State.acqFinish a0) := by
  unfold State.acqFinish
  extract_lets +onlyGivenNames x10
  have h10 : P x10 := by
    unfold x10
    refine State.toTick_writes (H.sub rfl) ?_
    exact h0
  extract_lets +onlyGivenNames x11
  extract_lets +onlyGivenNames x12
  have h11 : P x12 := by
    unfold x12
    refine State.acqDrive_writes (H.sub rfl) ?_
    exact h10
  extract_lets +onlyGivenNames x13
  have h12 : P x13 := by
    unfold x13
    refine foldl_keep ?_ ?_
    · intro n10 n11 n12
      refine State.parkHold_writes (H.sub rfl) ?_
      exact n12
    · exact h11
  refine State.setStart_writes (H.sub rfl) ?_
  exact h12

theorem State.bareKept_writes {P : State → Prop} {a0 : State} (H : Stable P 4194304) (h0 : P a0) : P (State.bareKept a0) :=
  H.bare rfl a0 _ rfl rfl rfl rfl rfl h0

theorem State.keepBits_writes {P : State → Prop} {a0 : State} {a1 : State} {a2 : Nat} {a3 : Nat} (H : Stable P 2) (h0 : P a0) (h1 : P a1) :
    P (State.keepBits a0 a1 a2 a3) := by
  unfold State.keepBits
  extract_lets +onlyGivenNames x10
  refine State.wr_writes (H.sub rfl) ?_
  exact h0

theorem State.bare_writes {P : State → Prop} {a0 : State} (H : Stable P 4227074) (h0 : P a0) :
    P (State.bare a0) := by
  unfold State.bare
  extract_lets +onlyGivenNames x10
  extract_lets +onlyGivenNames x11
  extract_lets +onlyGivenNames x12
  have h10 : P x12 := by
    unfold x12
    refine forUp_keep ?_ ?_
    · intro n10 n11 n12
      refine State.setTb_writes (H.sub rfl) ?_
      exact n12
    · refine State.bareKept_writes (H.sub rfl) ?_
      exact h0
  extract_lets +onlyGivenNames x13
  have h11 : P x13 := by
    unfold x13
    refine State.setF_writes (H.sub rfl) ?_
    refine State.keepBits_writes (H.sub rfl) ?_ ?_
    · exact h10
    · exact h0
  extract_lets +onlyGivenNames x14
  have h12 : P x14 := by
    unfold x14
    refine State.keepBits_writes (H.sub rfl) ?_ ?_
    · refine State.keepBits_writes (H.sub rfl) ?_ ?_
      · exact h11
      · exact h0
    · exact h0
  refine forUp_keep ?_ ?_
  · intro n13 n14 n15
    refine State.keepBits_writes (H.sub rfl) ?_ ?_
    · exact n15
    · exact h0
  · exact h12

theorem State.loadLoops_writes {P : State → Prop} {a0 : State} {a1 : List Byte} (H : Stable P 2) (h0 : P a0) :
    P (State.loadLoops a0 a1) := by
  unfold State.loadLoops
  refine forUp_keep ?_ ?_
  · intro n10 n11 n12
    refine forUp_keep ?_ ?_
    · intro n13 n14 n15
      refine State.wr_writes (H.sub rfl) ?_
      exact n15
    · exact n12
  · exact h0

theorem State.loadTones_writes {P : State → Prop} {a0 : State} {a1 : List Byte} (H : Stable P 2) (h0 : P a0) :
    P (State.loadTones a0 a1) := by
  unfold State.loadTones
  refine forUp_keep ?_ ?_
  · intro n10 n11 n12
    refine State.wr_writes (H.sub rfl) ?_
    exact n12
  · exact h0

theorem State.blocksUp_writes {P : State → Prop} {a0 : State} (H : Stable P 4098) (h0 : P a0) :
    P (State.blocksUp a0) := by
  unfold State.blocksUp
  extract_lets +onlyGivenNames x10
  have h10 : P x10 := by
    unfold x10
    refine forUp_keep ?_ ?_
    · intro n10 n11 n12
      refine State.setF_writes (H.sub rfl) ?_
      exact n12
    · exact h0
  extract_lets +onlyGivenNames x11
  extract_lets +onlyGivenNames x12
  have h11 : P x12 := by
    unfold x12
    split
    · refine State.loadLoops_writes (H.sub rfl) ?_
      exact h10
    · exact h10
  extract_lets +onlyGivenNames x13
  have h12 : P x13 := by
    unfold x13
    split
    · refine State.loadTones_writes (H.sub rfl) ?_
      exact h11
    · exact h11
  extract_lets +onlyGivenNames x14
  have h13 : P x14 := by
    unfold x14
    refine State.setRackActive_writes (H.sub rfl) ?_
    exact h12
  refine H.set_seq rfl   ?_
  exact h13

theorem State.firmwareUp_writes {P : State → Prop} {a0 : State} (H : Stable P 258) (h0 : P a0) :
    P (State.firmwareUp a0) := by
  unfold State.firmwareUp
  extract_lets +onlyGivenNames x10
  have h10 : P x10 := by
    unfold x10
    refine forUp_keep ?_ ?_
    · intro n10 n11 n12
      refine State.setF_writes (H.sub rfl) ?_
      exact n12
    · exact h0
  refine State.showFaults_writes (H.sub rfl) ?_
  refine State.showLog_writes (H.sub rfl) ?_
  refine H.set_flt rfl   ?_
  exact h10

theorem State.loadSeverities_writes {P : State → Prop} {a0 : State} {a1 : List Byte} (H : Stable P 2) (h0 : P a0) :
    P (State.loadSeverities a0 a1) := by
  unfold State.loadSeverities
  refine forUp_keep ?_ ?_
  · intro n10 n11 n12
    split
    · refine State.setF_writes (H.sub rfl) ?_
      exact n12
    · exact n12
  · exact h0

theorem State.bootSlot_writes {P : State → Prop} {a0 : State} {a1 : Nat} (H : Stable P 8578) (h0 : P a0) :
    P (State.bootSlot a0 a1) := by
  unfold State.bootSlot
  extract_lets +onlyGivenNames x10
  have h10 : P x10 := by
    unfold x10
    refine State.wr_writes (H.sub rfl) ?_
    exact h0
  extract_lets +onlyGivenNames x11
  extract_lets +onlyGivenNames x12
  have h11 : P x12 := by
    unfold x12
    refine keep_ite ?_ ?_
    · refine State.raiseD_writes (H.sub rfl) ?_
      exact h10
    · exact h10
  extract_lets +onlyGivenNames x13
  have h12 : P x13 := by
    unfold x13
    refine State.setF_writes (H.sub rfl) ?_
    refine State.setF_writes (H.sub rfl) ?_
    exact h11
  extract_lets +onlyGivenNames x14
  have h13 : P x14 := by
    unfold x14
    refine State.setF_writes (H.sub rfl) ?_
    exact h12
  refine State.recordBoot_writes (H.sub rfl) ?_
  refine State.setSwap_writes (H.sub rfl) ?_
  refine H.set_mgmt rfl   ?_
  exact h13

theorem State.showSlot_writes {P : State → Prop} {a0 : State} {a1 : Nat} (H : Stable P 2) (h0 : P a0) :
    P (State.showSlot a0 a1) := by
  unfold State.showSlot
  extract_lets +onlyGivenNames x10
  extract_lets +onlyGivenNames x11
  extract_lets +onlyGivenNames x12
  have h10 : P x12 := by
    unfold x12
    refine State.setF_writes (H.sub rfl) ?_
    refine State.setF_writes (H.sub rfl) ?_
    exact h0
  refine State.wr_writes (H.sub rfl) ?_
  exact h10

theorem State.loadBoot_writes {P : State → Prop} {a0 : State} (H : Stable P 2) (h0 : P a0) :
    P (State.loadBoot a0) := by
  unfold State.loadBoot
  extract_lets +onlyGivenNames x10
  extract_lets +onlyGivenNames x11
  have h10 : P x11 := by
    unfold x11
    refine forUp_keep ?_ ?_
    · intro n10 n11 n12
      refine State.showSlot_writes (H.sub rfl) ?_
      refine State.setTries_writes (H.sub rfl) ?_
      refine State.setSlotState_writes (H.sub rfl) ?_
      exact n12
    · exact h0
  extract_lets +onlyGivenNames x12
  have h11 : P x12 := by
    unfold x12
    refine State.setF_writes (H.sub rfl) ?_
    exact h10
  refine State.wr_writes (H.sub rfl) ?_
  exact h11

theorem State.reject_writes {P : State → Prop} {a0 : State} {a1 : Nat} (H : Stable P 8450) (h0 : P a0) :
    P (State.reject a0 a1) := by
  unfold State.reject
  refine State.raiseD_writes (H.sub rfl) ?_
  refine State.setSlotState_writes (H.sub rfl) ?_
  exact h0

theorem State.trySlot_writes {P : State → Prop} {a0 : State} {a1 : Nat} (H : Stable P 8450) (h0 : P a0) :
    P (State.trySlot a0 a1).1 := by
  unfold State.trySlot
  extract_lets +onlyGivenNames x10
  have h10 : (∀ (z0 : State), P z0 → P (x10 z0).1) := by
    intro n10 n11
    unfold x10
    split
    · refine keep_mk1 ?_
      exact n11
    · refine keep_mk1 ?_
      refine State.reject_writes (H.sub rfl) ?_
      exact n11
  clear_value x10
  split
  · refine h10 _ ?_
    exact h0
  · split
    · refine keep_mk1 ?_
      refine State.reject_writes (H.sub rfl) ?_
      exact h0
    · split
      · refine h10 _ ?_
        refine State.setTries_writes (H.sub rfl) ?_
        exact h0
      · refine keep_mk1 ?_
        exact h0
  · refine keep_mk1 ?_
    exact h0

theorem State.rootstock_writes {P : State → Prop} {a0 : State} (H : Stable P 9090) (h0 : P a0) :
    P (State.rootstock a0) := by
  unfold State.rootstock
  extract_lets +onlyGivenNames x10
  extract_lets +onlyGivenNames x11
  have h10 : P x11 := by
    unfold x11
    refine H.set_mgmt rfl   ?_
    exact h0
  extract_lets +onlyGivenNames x12
  have h11 : P x12 := by
    unfold x12
    refine State.loadBoot_writes (H.sub rfl) ?_
    refine State.setSwap_writes (H.sub rfl) ?_
    exact h10
  extract_lets +onlyGivenNames x13
  extract_lets +onlyGivenNames x14
  have h12 : P x14 := by
    unfold x14
    refine H.set_mgmt rfl   ?_
    exact h11
  extract_lets +onlyGivenNames x15
  split
  · rename_i v10 v11 v12 v13
    have h13 : P v11 := keep_fst v13 (by
      refine State.trySlot_writes (H.sub rfl) ?_
      exact h12)
    refine keep_ite ?_ ?_
    · refine State.bootSlot_writes (H.sub rfl) ?_
      exact h13
    · split
      · rename_i v14 v15 v16 v17
        have h14 : P v15 := keep_fst v17 (by
          refine State.trySlot_writes (H.sub rfl) ?_
          exact h13)
        refine keep_ite ?_ ?_
        · refine State.bootSlot_writes (H.sub rfl) ?_
          exact h14
        · extract_lets +onlyGivenNames x16
          have h15 : P x16 := by
            unfold x16
            refine State.setF_writes (H.sub rfl) ?_
            refine State.recordBoot_writes (H.sub rfl) ?_
            exact h14
          refine State.setStart_writes (H.sub rfl) ?_
          refine State.setF_writes (H.sub rfl) ?_
          exact h15

theorem State.bootCold_writes {P : State → Prop} {a0 : State} (H : Stable P 9106) (h0 : P a0) :
    P (State.bootCold a0) := by
  unfold State.bootCold
  extract_lets +onlyGivenNames x10
  have h10 : P x10 := by
    unfold x10
    refine State.rootstock_writes (H.sub rfl) ?_
    exact h0
  refine keep_ite ?_ ?_
  · exact h10
  · extract_lets +onlyGivenNames x11
    extract_lets +onlyGivenNames x12
    have h11 : P x12 := by
      unfold x12
      refine State.firmwareUp_writes (H.sub rfl) ?_
      exact h10
    extract_lets +onlyGivenNames x13
    have h12 : P x13 := by
      unfold x13
      split
      · refine State.loadSeverities_writes (H.sub rfl) ?_
        exact h11
      · exact h11
    split
    · refine H.set_hif rfl   ?_
      exact h12
    · exact h12

theorem State.coldStart_writes {P : State → Prop} {a0 : State} (H : Stable P 4227586) (h0 : P a0) :
    P (State.coldStart a0) := by
  unfold State.coldStart
  extract_lets +onlyGivenNames x10
  refine State.setStart_writes (H.sub rfl) ?_
  refine State.bare_writes (H.sub rfl) ?_
  refine State.releaseLine_writes (H.sub rfl) ?_
  exact h0

theorem State.eraseLeftover_writes {P : State → Prop} {a0 : State} (H : Stable P 130) (h0 : P a0) :
    P (State.eraseLeftover a0) := by
  unfold State.eraseLeftover
  refine forUp_keep ?_ ?_
  · intro n10 n11 n12
    refine keep_ite ?_ ?_
    · refine State.setF_writes (H.sub rfl) ?_
      refine State.recordBoot_writes (H.sub rfl) ?_
      refine State.setSlotState_writes (H.sub rfl) ?_
      exact n12
    · exact n12
  · exact h0

theorem State.startTests_writes {P : State → Prop} {a0 : State} {a1 : BitVec 4} {a2 : Bool} {a3 : List (BitVec 10 × Bool)} (H : Stable P 8450) (h0 : P a0) :
    P (State.startTests a0 a1 a2 a3) := by
  unfold State.startTests
  extract_lets +onlyGivenNames x10
  have h10 : (∀ (z0 : Nat) (z1 : Nat) (z2 : State), P z2 → P (x10 z0 z1 z2)) := by
    intro n10 n11 n12
    intro n13
    unfold x10
    refine keep_ite ?_ ?_
    · refine State.raise_writes (H.sub rfl) ?_
      exact n13
    · exact n13
  clear_value x10
  extract_lets +onlyGivenNames x11
  have h11 : P x11 := by
    unfold x11
    refine h10 _ _ _ ?_
    refine h10 _ _ _ ?_
    refine h10 _ _ _ ?_
    refine h10 _ _ _ ?_
    exact h0
  extract_lets +onlyGivenNames x12
  have h12 : P x12 := by
    unfold x12
    refine keep_ite ?_ ?_
    · exact h11
    · refine State.raise_writes (H.sub rfl) ?_
      exact h11
  refine foldl_keep ?_ ?_
  · intro n14 n15 n16
    refine keep_ite ?_ ?_
    · exact n16
    · refine keep_ite ?_ ?_
      · refine State.count_writes (H.sub rfl) ?_
        exact n16
      · refine State.raiseD_writes (H.sub rfl) ?_
        refine State.count_writes (H.sub rfl) ?_
        exact n16
  · exact h12

theorem State.coldStep_writes {P : State → Prop} {a0 : State} {a1 : ColdStep} (H : Stable P 2636690) (h0 : P a0) :
    OptP P (State.coldStep a0 a1) := by
  unfold State.coldStep
  split
  · extract_lets +onlyGivenNames x10
    extract_lets +onlyGivenNames x11
    have h10 : P x11 := by
      unfold x11
      refine State.setF_writes (H.sub rfl) ?_
      refine State.setF_writes (H.sub rfl) ?_
      exact h0
    refine optP_some ?_
    refine State.setF_writes (H.sub rfl) ?_
    exact h10
  · refine optP_some ?_
    exact h0
  · refine optP_some ?_
    exact h0
  · refine optP_some ?_
    refine State.bootCold_writes (H.sub rfl) ?_
    exact h0
  · refine optP_some ?_
    refine State.startTests_writes (H.sub rfl) ?_
    exact h0
  · refine optP_some ?_
    refine State.eraseLeftover_writes (H.sub rfl) ?_
    refine State.setF_writes (H.sub rfl) ?_
    exact h0
  · refine optP_some ?_
    refine H.set_pk rfl   ?_
    exact h0
  · exact optP_none
  · refine optP_some ?_
    refine State.blocksUp_writes (H.sub rfl) ?_
    exact h0
  · split
    · exact optP_none
    · refine optP_some ?_
      refine forUp_keep ?_ ?_
      · intro n10 n11 n12
        refine keep_ite ?_ ?_
        · refine State.leaveOff_writes (H.sub rfl) ?_
          exact n12
        · exact n12
      · exact h0
  · refine optP_some ?_
    refine H.set_cellar rfl  (Tab.wf_clear _ _ _ _) ?_
    exact h0
  · refine optP_some ?_
    exact h0
  · refine optP_some ?_
    refine H.set_cellar rfl  (fun _ => rfl) ?_
    exact h0

theorem State.driveLine_writes {P : State → Prop} {a0 : State} (H : Stable P 2) (h0 : P a0) :
    P (State.driveLine a0) := by
  unfold State.driveLine
  refine State.setF_writes (H.sub rfl) ?_
  refine State.setF_writes (H.sub rfl) ?_
  exact h0

theorem State.startResync_writes {P : State → Prop} {a0 : State} (H : Stable P 1048578) (h0 : P a0) :
    P (State.startResync a0) := by
  unfold State.startResync
  refine keep_ite ?_ ?_
  · extract_lets +onlyGivenNames x10
    have h10 : P x10 := by
      unfold x10
      refine State.count_writes (H.sub rfl) ?_
      refine State.setF_writes (H.sub rfl) ?_
      exact h0
    extract_lets +onlyGivenNames x11
    extract_lets +onlyGivenNames x12
    have h11 : P x12 := by
      unfold x12
      refine H.set_pair rfl   ?_
      exact h10
    refine foldl_keep ?_ ?_
    · intro n10 n11 n12
      refine State.mirrorOut_writes (H.sub rfl) ?_
      exact n12
    · exact h11
  · exact h0

theorem State.warmCommit_writes {P : State → Prop} {a0 : State} (H : Stable P 394786) (h0 : P a0) :
    P (State.warmCommit a0) := by
  unfold State.warmCommit
  extract_lets +onlyGivenNames x10
  extract_lets +onlyGivenNames x11
  have h10 : P x11 := by
    unfold x11
    refine State.setStart_writes (H.sub rfl) ?_
    exact h0
  extract_lets +onlyGivenNames x12
  have h11 : P x12 := by
    unfold x12
    refine keep_ite ?_ ?_
    · refine forUp_keep ?_ ?_
      · intro n10 n11 n12
        refine State.unhold_writes (H.sub rfl) ?_
        refine State.unhold_writes (H.sub rfl) ?_
        exact n12
      · exact h10
    · exact h10
  extract_lets +onlyGivenNames x13
  extract_lets +onlyGivenNames x14
  have h12 : P x14 := by
    unfold x14
    refine H.set_fab rfl   ?_
    exact h11
  extract_lets +onlyGivenNames x15
  have h13 : P x15 := by
    unfold x15
    refine forUp_keep ?_ ?_
    · intro n13 n14 n15
      refine keep_ite ?_ ?_
      · refine State.bringStart_writes (H.sub rfl) ?_
        exact n15
      · exact n15
    · exact h12
  refine State.showTx_writes (H.sub rfl) ?_
  exact h13

theorem State.commitStart_writes {P : State → Prop} {a0 : State} {a1 : BitVec 23} (H : Stable P 1451959) (h0 : P a0) :
    P (State.commitStart a0 a1) := by
  unfold State.commitStart
  extract_lets +onlyGivenNames x10
  have h10 : P x10 := by
    unfold x10
    refine H.set_now rfl (State.tick_two_le _)  ?_
    exact h0
  extract_lets +onlyGivenNames x11
  extract_lets +onlyGivenNames x12
  have h11 : P x12 := by
    unfold x12
    refine keep_ite ?_ ?_
    · refine State.driveLine_writes (H.sub rfl) ?_
      exact h10
    · exact h10
  extract_lets +onlyGivenNames x13
  have h12 : P x13 := by
    unfold x13
    refine keep_ite ?_ ?_
    · refine State.warmCommit_writes (H.sub rfl) ?_
      exact h11
    · exact h11
  extract_lets +onlyGivenNames x14
  have h13 : P x14 := by
    unfold x14
    refine State.setStart_writes (H.sub rfl) ?_
    exact h12
  extract_lets +onlyGivenNames x15
  have h14 : P x15 := by
    unfold x15
    refine State.showFaults_writes (H.sub rfl) ?_
    refine State.logNote_writes (H.sub rfl) ?_
    refine State.attn_writes (H.sub rfl) ?_
    refine State.setMode_writes (H.sub rfl) ?_
    exact h13
  extract_lets +onlyGivenNames x16
  have h15 : P x16 := by
    unfold x16
    refine State.startResync_writes (H.sub rfl) ?_
    exact h14
  extract_lets +onlyGivenNames x17
  refine keep_ite ?_ ?_
  · exact h15
  · refine State.raiseD_writes (H.sub rfl) ?_
    refine State.wr_writes (H.sub rfl) ?_
    exact h15

theorem State.darkened_writes {P : State → Prop} {a0 : State} (H : Stable P 6324230) (h0 : P a0) :
    P (State.darkened a0) := by
  unfold State.darkened
  extract_lets +onlyGivenNames x10
  have h10 : P x10 := by
    unfold x10
    refine State.keepBits_writes (H.sub rfl) ?_ ?_
    · refine State.bare_writes (H.sub rfl) ?_
      refine State.releaseLine_writes (H.sub rfl) ?_
      exact h0
    · exact h0
  refine H.set_mode_cellar rfl rfl  (fun _ => rfl) ?_
  exact h10

theorem State.dropImageOp_writes {P : State → Prop} {a0 : State} (H : Stable P 128) (h0 : P a0) :
    P (State.dropImageOp a0) := by
  unfold State.dropImageOp
  refine H.set_mgmt rfl   ?_
  exact h0

theorem State.rehashDrop_writes {P : State → Prop} {a0 : State} {a1 : Nat} (H : Stable P 2621442) (h0 : P a0) :
    P (State.rehashDrop a0 a1) := by
  unfold State.rehashDrop
  refine keep_ite ?_ ?_
  · exact h0
  · extract_lets +onlyGivenNames x10
    extract_lets +onlyGivenNames x11
    have h10 : P x11 := by
      unfold x11
      refine State.setF_writes (H.sub rfl) ?_
      refine State.wr_writes (H.sub rfl) ?_
      refine State.setRehash_writes (H.sub rfl) ?_
      exact h0
    refine State.cClear_writes (H.sub rfl) ?_
    exact h10

theorem State.relatch_writes {P : State → Prop} {a0 : State} (H : Stable P 1851382) (h0 : P a0) :
    P (State.relatch a0) := by
  unfold State.relatch
  refine keep_ite ?_ ?_
  · refine State.setStart_writes (H.sub rfl) ?_
    refine State.logNote_writes (H.sub rfl) ?_
    refine State.forceSafe_writes (H.sub rfl) ?_
    exact h0
  · exact h0

theorem State.showDrill_writes {P : State → Prop} {a0 : State} (H : Stable P 2) (h0 : P a0) :
    P (State.showDrill a0) := by
  unfold State.showDrill
  extract_lets +onlyGivenNames x10
  refine State.setF_writes (H.sub rfl) ?_
  exact h0

theorem State.setRole_writes {P : State → Prop} {a0 : State} {a1 : Nat} (H : Stable P 1056786) (h0 : P a0) :
    P (State.setRole a0 a1) := by
  unfold State.setRole
  refine keep_ite ?_ ?_
  · exact h0
  · extract_lets +onlyGivenNames x10
    have h10 : P x10 := by
      unfold x10
      refine State.showDrill_writes (H.sub rfl) ?_
      refine State.setF_writes (H.sub rfl) ?_
      refine State.setF_writes (H.sub rfl) ?_
      exact h0
    refine State.attn_writes (H.sub rfl) ?_
    refine State.fire_writes (H.sub rfl) ?_
    refine H.set_pair rfl   ?_
    exact h10

theorem State.stepEnded_writes {P : State → Prop} {a0 : State} {a1 : Nat} (H : Stable P 512) (h0 : P a0) :
    P (State.stepEnded a0 a1) := by
  unfold State.stepEnded
  extract_lets +onlyGivenNames x10
  have h10 : P x10 := by
    unfold x10
    refine State.setStart_writes (H.sub rfl) ?_
    exact h0
  refine keep_ite ?_ ?_
  · refine State.setStart_writes (H.sub rfl) ?_
    exact h10
  · exact h10

theorem State.unpowered_writes {P : State → Prop} {a0 : State} (H : Stable P 6324870) (h0 : P a0) :
    P (State.unpowered a0) := by
  unfold State.unpowered
  extract_lets +onlyGivenNames x10
  have h10 : P x10 := by
    unfold x10
    refine State.darkened_writes (H.sub rfl) ?_
    exact h0
  extract_lets +onlyGivenNames x11
  extract_lets +onlyGivenNames x12
  have h11 : P x12 := by
    unfold x12
    refine H.set_mgmt rfl   ?_
    exact h10
  refine State.setStart_writes (H.sub rfl) ?_
  refine State.setF_writes (H.sub rfl) ?_
  refine State.setF_writes (H.sub rfl) ?_
  refine State.wr_writes (H.sub rfl) ?_
  exact h11

theorem State.warmBoot_writes {P : State → Prop} {a0 : State} (H : Stable P 2630626) (h0 : P a0) :
    P (State.warmBoot a0) := by
  unfold State.warmBoot
  extract_lets +onlyGivenNames x10
  have h10 : P x10 := by
    unfold x10
    refine forUp_keep ?_ ?_
    · intro n10 n11 n12
      refine State.rehashDrop_writes (H.sub rfl) ?_
      exact n12
    · refine State.dropImageOp_writes (H.sub rfl) ?_
      exact h0
  extract_lets +onlyGivenNames x11
  extract_lets +onlyGivenNames x12
  extract_lets +onlyGivenNames x13
  extract_lets +onlyGivenNames x14
  extract_lets +onlyGivenNames x15
  extract_lets +onlyGivenNames x16
  have h11 : P x16 := by
    unfold x16
    refine H.set_fab_rack_mgmt_flt_start rfl rfl rfl rfl rfl   ?_
    exact h10
  refine State.rootstock_writes (H.sub rfl) ?_
  refine State.showSolver_writes (H.sub rfl) ?_
  exact h11

theorem State.warmDown_writes {P : State → Prop} {a0 : State} (H : Stable P 524290) (h0 : P a0) :
    P (State.warmDown a0) := by
  unfold State.warmDown
  extract_lets +onlyGivenNames x10
  have h10 : P x10 := by
    unfold x10
    refine State.bufferClear_writes (H.sub rfl) ?_
    exact h0
  extract_lets +onlyGivenNames x11
  extract_lets +onlyGivenNames x12
  have h11 : P x12 := by
    unfold x12
    refine H.set_pk rfl   ?_
    exact h10
  refine forUp_keep ?_ ?_
  · intro n10 n11 n12
    refine State.resetRange_writes (H.sub rfl) ?_
    exact n12
  · exact h11

theorem State.warmStop_writes {P : State → Prop} {a0 : State} (H : Stable P 1997074) (h0 : P a0) :
    P (State.warmStop a0) := by
  unfold State.warmStop
  extract_lets +onlyGivenNames x10
  have h10 : P x10 := by
    unfold x10
    refine State.ingressStop_writes (H.sub rfl) ?_
    exact h0
  extract_lets +onlyGivenNames x11
  have h11 : P x11 := by
    unfold x11
    refine forUp_keep ?_ ?_
    · intro n10 n11 n12
      refine keep_ite ?_ ?_
      · exact n12
      · refine State.portOff_writes (H.sub rfl) ?_
        exact n12
    · exact h10
  extract_lets +onlyGivenNames x12
  have h12 : P x12 := by
    unfold x12
    refine State.calInterrupt_writes (H.sub rfl) ?_
    refine State.setF_writes (H.sub rfl) ?_
    refine State.ringReset_writes (H.sub rfl) ?_
    exact h11
  extract_lets +onlyGivenNames x13
  have h13 : P x13 := by
    unfold x13
    refine forUp_keep ?_ ?_
    · intro n13 n14 n15
      split
      · exact n15
      · refine State.setSeqSt_writes (H.sub rfl) ?_
        exact n15
      · refine State.endSeq_writes (H.sub rfl) ?_
        exact n15
    · exact h12
  extract_lets +onlyGivenNames x14
  have h14 : P x14 := by
    unfold x14
    refine forUp_keep ?_ ?_
    · intro n16 n17 n18
      refine keep_ite ?_ ?_
      · refine State.huStop_writes (H.sub rfl) ?_
        exact n18
      · exact n18
    · exact h13
  extract_lets +onlyGivenNames x15
  have h15 : P x15 := by
    unfold x15
    refine State.setF_writes (H.sub rfl) ?_
    exact h14
  extract_lets +onlyGivenNames x16
  have h16 : P x16 := by
    unfold x16
    refine forUp_keep ?_ ?_
    · intro n19 n20 n21
      refine State.setF_writes (H.sub rfl) ?_
      exact n21
    · exact h15
  refine H.set_flt_pair rfl rfl   ?_
  exact h16

theorem State.warmStep_writes {P : State → Prop} {a0 : State} {a1 : WarmStep} (H : Stable P 4094962) (h0 : P a0) :
    P (State.warmStep a0 a1) := by
  unfold State.warmStep
  split
  · refine State.warmStop_writes (H.sub rfl) ?_
    exact h0
  · refine State.warmDown_writes (H.sub rfl) ?_
    exact h0
  · refine State.warmBoot_writes (H.sub rfl) ?_
    exact h0
  · refine State.firmwareUp_writes (H.sub rfl) ?_
    exact h0
  · refine State.eraseLeftover_writes (H.sub rfl) ?_
    refine State.setF_writes (H.sub rfl) ?_
    exact h0
  · refine State.fillPolicers_writes (H.sub rfl) ?_
    refine H.set_pk rfl   ?_
    exact h0

theorem execAcqImageAdvance_writes {P : State → Prop} {a0 : State} (H : Stable P 16131) (h0 : P a0) :
    OutP P (execAcqImageAdvance a0) := by
  unfold execAcqImageAdvance
  extract_lets +onlyGivenNames x10
  refine outP_next ?_
  refine keep_ite ?_ ?_
  · exact h0
  · refine keep_ite ?_ ?_
    · refine State.acqApply_writes (H.sub rfl) ?_
      exact h0
    · refine keep_ite ?_ ?_
      · exact h0
      · refine keep_ite ?_ ?_
        · refine State.acqApply_writes (H.sub rfl) ?_
          exact h0
        · refine State.acqFinish_writes (H.sub rfl) ?_
          exact h0

theorem execColdResetInput_writes {P : State → Prop} {a0 : Nat} {a1 : State} (H : Stable P 4227586) (h1 : P a1) :
    OutP P (execColdResetInput a0 a1) := by
  unfold execColdResetInput
  refine outP_next ?_
  refine keep_ite ?_ ?_
  · refine State.coldStart_writes (H.sub rfl) ?_
    exact h1
  · exact h1

theorem execColdStart_writes {P : State → Prop} {a0 : ColdStep} {a1 : State} (H : Stable P 3948534) (h1 : P a1) :
    OutP P (execColdStart a0 a1) := by
  unfold execColdStart
  refine outP_next ?_
  refine keep_ite ?_ ?_
  · exact h1
  · split
    · rename_i v10 v11 v12 v13
      refine State.setStart_writes (H.sub rfl) ?_
      refine State.logNote_writes (H.sub rfl) ?_
      exact h1
    · rename_i v14 v15 v16 v17 v18 v19
      have h10 : P v17 := keep_some v19 (by
        refine State.coldStep_writes (H.sub rfl) ?_
        exact h1)
      extract_lets +onlyGivenNames x10
      have h11 : P x10 := by
        unfold x10
        refine State.stepEnded_writes (H.sub rfl) ?_
        exact h10
      refine keep_ite ?_ ?_
      · refine State.relatch_writes (H.sub rfl) ?_
        exact h11
      · refine keep_ite ?_ ?_
        · refine State.showTx_writes (H.sub rfl) ?_
          exact h11
        · exact h11
    · rename_i v20 v21 v22 v23 v24
      exact h1

theorem execDormantPowerDown_writes {P : State → Prop} {a0 : State} (H : Stable P 6324230) (h0 : P a0) :
    OutP P (execDormantPowerDown a0) := by
  unfold execDormantPowerDown
  refine outP_next ?_
  refine keep_ite ?_ ?_
  · refine State.darkened_writes (H.sub rfl) ?_
    exact h0
  · exact h0

theorem execEvi0Wake_writes {P : State → Prop} {a0 : Bool} {a1 : State} (H : Stable P 4227586) (h1 : P a1) :
    OutP P (execEvi0Wake a0 a1) := by
  unfold execEvi0Wake
  refine outP_next ?_
  refine keep_ite ?_ ?_
  · refine State.setF_writes (H.sub rfl) ?_
    refine State.coldStart_writes (H.sub rfl) ?_
    exact h1
  · exact h1

theorem execHoldupExhausted_writes {P : State → Prop} {a0 : State} (H : Stable P 6324870) (h0 : P a0) :
    OutP P (execHoldupExhausted a0) := by
  unfold execHoldupExhausted
  refine outP_next ?_
  refine keep_ite ?_ ?_
  · refine State.unpowered_writes (H.sub rfl) ?_
    exact h0
  · exact h0

theorem execNegotiateTimeout_writes {P : State → Prop} {a0 : Bool} {a1 : State} (H : Stable P 1056787) (h1 : P a1) :
    OutP P (execNegotiateTimeout a0 a1) := by
  unfold execNegotiateTimeout
  refine outP_next ?_
  split
  · refine keep_ite ?_ ?_
    · exact h1
    · extract_lets +onlyGivenNames x10
      refine State.setRole_writes (H.sub rfl) ?_
      refine H.set_now rfl (Nat.le_max_left _ _)  ?_
      exact h1
  · exact h1

theorem execPowerOn_writes {P : State → Prop} {a0 : State} (H : Stable P 6324870) (h0 : P a0) :
    OutP P (execPowerOn a0) := by
  unfold execPowerOn
  refine outP_next ?_
  refine keep_ite ?_ ?_
  · refine State.bare_writes (H.sub rfl) ?_
    exact h0
  · refine keep_ite ?_ ?_
    · refine State.bare_writes (H.sub rfl) ?_
      refine State.unpowered_writes (H.sub rfl) ?_
      exact h0
    · exact h0

theorem execStartCommit_writes {P : State → Prop} {a0 : BitVec 23} {a1 : Bool} {a2 : State} (H : Stable P 1451959) (h2 : P a2) :
    OutP P (execStartCommit a0 a1 a2) := by
  unfold execStartCommit
  refine outP_next ?_
  refine keep_ite ?_ ?_
  · exact h2
  · refine keep_ite ?_ ?_
    · refine State.commitStart_writes (H.sub rfl) ?_
      exact h2
    · extract_lets +onlyGivenNames x10
      have h10 : P x10 := by
        unfold x10
        refine keep_ite ?_ ?_
        · refine State.setF_writes (H.sub rfl) ?_
          exact h2
        · exact h2
      split
      · refine State.commitStart_writes (H.sub rfl) ?_
        refine State.setF_writes (H.sub rfl) ?_
        refine State.setRole_writes (H.sub rfl) ?_
        exact h10
      · exact h10

theorem execTestPortReset_writes {P : State → Prop} {a0 : State} (H : Stable P 0) (h0 : P a0) :
    OutP P (execTestPortReset a0) := by
  unfold execTestPortReset
  refine outP_next ?_
  exact h0

theorem execWarmStart_writes {P : State → Prop} {a0 : WarmStep} {a1 : State} (H : Stable P 4094962) (h1 : P a1) :
    OutP P (execWarmStart a0 a1) := by
  unfold execWarmStart
  extract_lets +onlyGivenNames x10
  extract_lets +onlyGivenNames x11
  refine outP_next ?_
  refine keep_ite ?_ ?_
  · refine State.stepEnded_writes (H.sub rfl) ?_
    refine State.warmStep_writes (H.sub rfl) ?_
    exact h1
  · exact h1

end Sys2Proof.Machine
end

