-- ==== Sys2Proof/Laws/WritesMode.lean ====
section
/-! SUPPORT. Which components of the state each operation and command of Machine/Mode.lean may write. -/

namespace Sys2Proof.Machine

theorem State.leaveLimp_writes {P : State → Prop} {a0 : State} {a1 : Bool} (H : Stable P 1394) (h0 : P a0) :
    P (State.leaveLimp a0 a1) := by
  unfold State.leaveLimp
  refine keep_ite ?_ ?_
  · refine State.refuseDeferred_writes (H.sub rfl) ?_
    exact h0
  · split
    · refine State.showRack_writes (H.sub rfl) ?_
      refine State.setRack_writes (H.sub rfl) ?_
      exact h0
    · exact h0

theorem State.parkAll_writes {P : State → Prop} {a0 : State} (H : Stable P 1026) (h0 : P a0) :
    P (State.parkAll a0) := by
  unfold State.parkAll
  refine forUp_keep ?_ ?_
  · intro n10 n11 n12
    refine State.parkHold_writes (H.sub rfl) ?_
    refine State.parkHold_writes (H.sub rfl) ?_
    exact n12
  · exact h0

theorem State.giveUp_writes {P : State → Prop} {a0 : State} {a1 : ModeReq} (H : Stable P 1975670) (h0 : P a0) :
    P (State.giveUp a0 a1) := by
  unfold State.giveUp
  extract_lets +onlyGivenNames x10
  extract_lets +onlyGivenNames x11
  have h10 : P x11 := by
    unfold x11
    refine State.setMode_writes (H.sub rfl) ?_
    refine State.setRole_writes (H.sub rfl) ?_
    refine State.leaveLimp_writes (H.sub rfl) ?_
    exact h0
  extract_lets +onlyGivenNames x12
  have h11 : P x12 := by
    unfold x12
    refine State.tapLight_writes (H.sub rfl) ?_
    refine State.showPorts_writes (H.sub rfl) ?_
    refine State.darkPorts_writes (H.sub rfl) ?_
    refine State.releaseLine_writes (H.sub rfl) ?_
    refine State.ingressStop_writes (H.sub rfl) ?_
    refine State.parkAll_writes (H.sub rfl) ?_
    exact h10
  extract_lets +onlyGivenNames x13
  have h12 : P x13 := by
    unfold x13
    refine State.showTx_writes (H.sub rfl) ?_
    exact h11
  refine H.set_pair rfl   ?_
  exact h12

theorem State.goDormant_writes {P : State → Prop} {a0 : State} {a1 : ModeReq} (H : Stable P 927606) (h0 : P a0) :
    P (State.goDormant a0 a1) := by
  unfold State.goDormant
  extract_lets +onlyGivenNames x10
  have h10 : P x10 := by
    unfold x10
    refine State.releaseLine_writes (H.sub rfl) ?_
    refine State.bufferClear_writes (H.sub rfl) ?_
    refine State.ingressStop_writes (H.sub rfl) ?_
    refine State.parkAll_writes (H.sub rfl) ?_
    refine State.calInterrupt_writes (H.sub rfl) ?_
    refine State.leaveLimp_writes (H.sub rfl) ?_
    exact h0
  extract_lets +onlyGivenNames x11
  have h11 : P x11 := by
    unfold x11
    refine forUp_keep ?_ ?_
    · intro n10 n11 n12
      refine State.portOff_writes (H.sub rfl) ?_
      exact n12
    · exact h10
  extract_lets +onlyGivenNames x12
  have h12 : P x12 := by
    unfold x12
    refine State.setF_writes (H.sub rfl) ?_
    refine State.configReset_writes (H.sub rfl) ?_
    refine State.ringReset_writes (H.sub rfl) ?_
    refine State.setMode_writes (H.sub rfl) ?_
    exact h11
  refine H.set_hif_start rfl rfl   ?_
  exact h12

theorem State.goWarm_writes {P : State → Prop} {a0 : State} {a1 : ModeReq} (H : Stable P 10102) (h0 : P a0) :
    P (State.goWarm a0 a1) := by
  unfold State.goWarm
  extract_lets +onlyGivenNames x10
  extract_lets +onlyGivenNames x11
  extract_lets +onlyGivenNames x12
  have h10 : P x12 := by
    unfold x12
    refine keep_ite ?_ ?_
    · refine State.setF_writes (H.sub rfl) ?_
      exact h0
    · exact h0
  refine State.setMode_writes (H.sub rfl) ?_
  refine State.setStart_writes (H.sub rfl) ?_
  refine State.leaveLimp_writes (H.sub rfl) ?_
  exact h10

theorem State.modeAdmit_writes {P : State → Prop} {a0 : State} {a1 : ModeReq} (H : Stable P 514) (h0 : P a0) :
    P (State.modeAdmit a0 a1) := by
  unfold State.modeAdmit
  extract_lets +onlyGivenNames x10
  have h10 : P x10 := by
    unfold x10
    refine State.setStart_writes (H.sub rfl) ?_
    exact h0
  refine keep_ite ?_ ?_
  · refine State.driveLine_writes (H.sub rfl) ?_
    exact h10
  · exact h10

theorem State.takeOver_writes {P : State → Prop} {a0 : State} {a1 : ModeReq} (H : Stable P 1978134) (h0 : P a0) :
    P (State.takeOver a0 a1) := by
  unfold State.takeOver
  extract_lets +onlyGivenNames x10
  extract_lets +onlyGivenNames x11
  extract_lets +onlyGivenNames x12
  have h10 : P x12 := by
    unfold x12
    refine State.setStart_writes (H.sub rfl) ?_
    refine State.setMode_writes (H.sub rfl) ?_
    refine State.setRole_writes (H.sub rfl) ?_
    exact h0
  extract_lets +onlyGivenNames x13
  have h11 : P x13 := by
    unfold x13
    refine State.count_writes (H.sub rfl) ?_
    exact h10
  extract_lets +onlyGivenNames x14
  extract_lets +onlyGivenNames x15
  have h12 : P x15 := by
    unfold x15
    refine State.setF_writes (H.sub rfl) ?_
    exact h11
  extract_lets +onlyGivenNames x16
  extract_lets +onlyGivenNames x17
  have h13 : P x17 := by
    unfold x17
    refine H.set_pair rfl   ?_
    exact h12
  extract_lets +onlyGivenNames x18
  have h14 : P x18 := by
    unfold x18
    refine State.tapLight_writes (H.sub rfl) ?_
    refine State.loopsAtCommit_writes (H.sub rfl) ?_
    refine State.showPorts_writes (H.sub rfl) ?_
    refine State.darkPorts_writes (H.sub rfl) ?_
    refine State.fillPolicers_writes (H.sub rfl) ?_
    exact h13
  extract_lets +onlyGivenNames x19
  have h15 : P x19 := by
    unfold x19
    refine forUp_keep ?_ ?_
    · intro n10 n11 n12
      refine keep_ite ?_ ?_
      · refine State.bringStart_writes (H.sub rfl) ?_
        exact n12
      · exact n12
    · exact h14
  refine State.showTx_writes (H.sub rfl) ?_
  exact h15

theorem State.modeApply_writes {P : State → Prop} {a0 : State} {a1 : ModeReq} (H : Stable P 6205302) (h0 : P a0) :
    P (State.modeApply a0 a1) := by
  unfold State.modeApply
  refine keep_ite ?_ ?_
  · refine State.takeOver_writes (H.sub rfl) ?_
    exact h0
  · split
    · refine State.setStart_writes (H.sub rfl) ?_
      refine State.setMode_writes (H.sub rfl) ?_
      exact h0
    · refine State.leaveLimp_writes (H.sub rfl) ?_
      refine State.setMode_writes (H.sub rfl) ?_
      exact h0
    · refine State.giveUp_writes (H.sub rfl) ?_
      exact h0
    · refine State.goDormant_writes (H.sub rfl) ?_
      exact h0
    · refine State.goWarm_writes (H.sub rfl) ?_
      exact h0
    · refine State.coldStart_writes (H.sub rfl) ?_
      exact h0

theorem State.modeEarly_writes {P : State → Prop} {a0 : State} {a1 : ModeReq} (H : Stable P 18) (h0 : P a0) :
    P (State.modeEarly a0 a1) := by
  unfold State.modeEarly
  split
  · refine State.finishOpt_writes (H.sub rfl) ?_
    exact h0
  · refine State.finishOpt_writes (H.sub rfl) ?_
    exact h0
  · refine State.finishOpt_writes (H.sub rfl) ?_
    exact h0
  · exact h0

theorem State.modeReport_writes {P : State → Prop} {a0 : State} {a1 : Nat} (H : Stable P 512) (h0 : P a0) :
    P (State.modeReport a0 a1) := by
  unfold State.modeReport
  extract_lets +onlyGivenNames x10
  refine State.setStart_writes (H.sub rfl) ?_
  exact h0

theorem State.modeSet_writes {P : State → Prop} {a0 : State} {a1 : Fin 32} {a2 : Desc} {a3 : Nat} {a4 : Target} (H : Stable P 530) (h0 : P a0) :
    P (State.modeSet a0 a1 a2 a3 a4) := by
  unfold State.modeSet
  refine State.launch_writes (H.sub rfl) ?_ ?_
  · exact h0
  · intro n10 n11 n12
    refine keep_ite ?_ ?_
    · refine State.finish_writes (H.sub rfl) ?_
      exact n12
    · refine keep_ite ?_ ?_
      · refine State.finish_writes (H.sub rfl) ?_
        exact n12
      · refine State.askMode_writes (H.sub rfl) ?_
        exact n12

theorem State.openAll_writes {P : State → Prop} {a0 : State} (H : Stable P 15618) (h0 : P a0) :
    P (State.openAll a0) := by
  unfold State.openAll
  extract_lets +onlyGivenNames x10
  extract_lets +onlyGivenNames x11
  have h10 : P x11 := by
    unfold x11
    refine State.takeForRack_writes (H.sub rfl) ?_
    exact h0
  extract_lets +onlyGivenNames x12
  have h11 : P x12 := by
    unfold x12
    refine foldl_keep ?_ ?_
    · intro n10 n11 n12
      refine keep_ite ?_ ?_
      · refine State.unhold_writes (H.sub rfl) ?_
        exact n12
      · exact n12
    · exact h10
  refine foldl_keep ?_ ?_
  · intro n13 n14 n15
    refine State.drive1_writes (H.sub rfl) ?_
    exact n15
  · exact h11

theorem execCommitBroadcast_writes {P : State → Prop} {a0 : State} (H : Stable P 16211) (h0 : P a0) :
    OutP P (execCommitBroadcast a0) := by
  unfold execCommitBroadcast
  refine outP_next ?_
  refine keep_ite ?_ ?_
  · refine State.rackBroadcast_writes (H.sub rfl) ?_
    exact h0
  · split
    · refine keep_ite ?_ ?_
      · exact h0
      · extract_lets +onlyGivenNames x10
        have h10 : P x10 := by
          unfold x10
          refine State.modeEarly_writes (H.sub rfl) ?_
          refine State.setStart_writes (H.sub rfl) ?_
          refine State.at__writes (H.sub rfl) ?_
          exact h0
        refine keep_ite ?_ ?_
        · refine State.openAll_writes (H.sub rfl) ?_
          exact h10
        · exact h10
    · exact h0

theorem execModeChangeCommitTick_writes {P : State → Prop} {a0 : BitVec 23} {a1 : State} (H : Stable P 6209527) (h1 : P a1) :
    OutP P (execModeChangeCommitTick a0 a1) := by
  unfold execModeChangeCommitTick
  refine outP_next ?_
  split
  · refine keep_ite ?_ ?_
    · exact h1
    · extract_lets +onlyGivenNames x10
      have h10 : P x10 := by
        unfold x10
        refine State.toTick_writes (H.sub rfl) ?_
        exact h1
      extract_lets +onlyGivenNames x11
      extract_lets +onlyGivenNames x12
      extract_lets +onlyGivenNames x13
      extract_lets +onlyGivenNames x14
      extract_lets +onlyGivenNames x15
      extract_lets +onlyGivenNames x16
      have h11 : P x16 := by
        unfold x16
        refine State.modeApply_writes (H.sub rfl) ?_
        refine State.setStart_writes (H.sub rfl) ?_
        exact h10
      extract_lets +onlyGivenNames x17
      have h12 : P x17 := by
        unfold x17
        refine State.logNote_writes (H.sub rfl) ?_
        refine keep_ite ?_ ?_
        · refine State.attn_writes (H.sub rfl) ?_
          exact h11
        · exact h11
      extract_lets +onlyGivenNames x18
      have h13 : P x18 := by
        unfold x18
        refine keep_ite ?_ ?_
        · exact h12
        · refine State.raiseD_writes (H.sub rfl) ?_
          refine State.wr_writes (H.sub rfl) ?_
          exact h12
      extract_lets +onlyGivenNames x19
      have h14 : P x19 := by
        unfold x19
        refine State.modeOutcome_writes (H.sub rfl) ?_
        exact h13
      clear_value x13
      split
      · rename_i v10 v11
        refine keep_ite ?_ ?_
        · refine State.showFaults_writes (H.sub rfl) ?_
          exact h14
        · refine State.broadcast_writes (H.sub rfl) ?_
          exact h14
      · rename_i v12
        refine State.showFaults_writes (H.sub rfl) ?_
        exact h14
  · exact h1

theorem execModeChangeTriggerTick_writes {P : State → Prop} {a0 : State} (H : Stable P 1057683) (h0 : P a0) :
    OutP P (execModeChangeTriggerTick a0) := by
  unfold execModeChangeTriggerTick
  refine outP_next ?_
  split
  · refine keep_ite ?_ ?_
    · exact h0
    · extract_lets +onlyGivenNames x10
      have h10 : P x10 := by
        unfold x10
        refine State.setStart_writes (H.sub rfl) ?_
        refine State.toTickAfter_writes (H.sub rfl) ?_
        exact h0
      refine keep_ite ?_ ?_
      · exact h10
      · refine keep_ite ?_ ?_
        · refine State.modeAdmit_writes (H.sub rfl) ?_
          exact h10
        · split
          · refine State.modeOutcome_writes (H.sub rfl) ?_
            exact h10
          · refine State.modeAdmit_writes (H.sub rfl) ?_
            exact h10
  · exact h0

theorem execModeSetColdStart_writes {P : State → Prop} {a0 : Fin 32} {a1 : Desc} {a2 : State} (H : Stable P 530) (h2 : P a2) :
    OutP P (execModeSetColdStart a0 a1 a2) := by
  unfold execModeSetColdStart
  refine outP_next ?_
  refine State.modeSet_writes (H.sub rfl) ?_
  exact h2

theorem execModeSetDormant_writes {P : State → Prop} {a0 : Fin 32} {a1 : Desc} {a2 : State} (H : Stable P 530) (h2 : P a2) :
    OutP P (execModeSetDormant a0 a1 a2) := by
  unfold execModeSetDormant
  refine outP_next ?_
  refine State.modeSet_writes (H.sub rfl) ?_
  exact h2

theorem execModeSetLimp_writes {P : State → Prop} {a0 : Fin 32} {a1 : Desc} {a2 : State} (H : Stable P 530) (h2 : P a2) :
    OutP P (execModeSetLimp a0 a1 a2) := by
  unfold execModeSetLimp
  refine outP_next ?_
  refine State.modeSet_writes (H.sub rfl) ?_
  exact h2

theorem execModeSetServe_writes {P : State → Prop} {a0 : Fin 32} {a1 : Desc} {a2 : State} (H : Stable P 530) (h2 : P a2) :
    OutP P (execModeSetServe a0 a1 a2) := by
  unfold execModeSetServe
  refine outP_next ?_
  refine State.modeSet_writes (H.sub rfl) ?_
  exact h2

theorem execModeSetWarmStart_writes {P : State → Prop} {a0 : Fin 32} {a1 : Desc} {a2 : State} (H : Stable P 530) (h2 : P a2) :
    OutP P (execModeSetWarmStart a0 a1 a2) := by
  unfold execModeSetWarmStart
  refine outP_next ?_
  refine State.modeSet_writes (H.sub rfl) ?_
  exact h2

theorem execPrepareTimeout_writes {P : State → Prop} {a0 : State} (H : Stable P 1589234) (h0 : P a0) :
    OutP P (execPrepareTimeout a0) := by
  unfold execPrepareTimeout
  refine outP_next ?_
  refine keep_ite ?_ ?_
  · refine State.rackTimeout_writes (H.sub rfl) ?_
    exact h0
  · split
    · extract_lets +onlyGivenNames x10
      refine keep_ite ?_ ?_
      · exact h0
      · extract_lets +onlyGivenNames x11
        have h10 : P x11 := by
          unfold x11
          refine State.setStart_writes (H.sub rfl) ?_
          exact h0
        extract_lets +onlyGivenNames x12
        have h11 : P x12 := by
          unfold x12
          refine keep_ite ?_ ?_
          · refine State.releaseLine_writes (H.sub rfl) ?_
            exact h10
          · exact h10
        refine State.modeOutcome_writes (H.sub rfl) ?_
        exact h11
    · exact h0

theorem execReadyCollection_writes {P : State → Prop} {a0 : State} (H : Stable P 3651) (h0 : P a0) :
    OutP P (execReadyCollection a0) := by
  unfold execReadyCollection
  refine outP_next ?_
  refine keep_ite ?_ ?_
  · refine State.rackReady_writes (H.sub rfl) ?_
    exact h0
  · split
    · refine keep_ite ?_ ?_
      · exact h0
      · refine State.setStart_writes (H.sub rfl) ?_
        refine State.at__writes (H.sub rfl) ?_
        exact h0
    · exact h0

theorem execUnitPrepareReport_writes {P : State → Prop} {a0 : Fin 23} {a1 : State} (H : Stable P 540530) (h1 : P a1) :
    OutP P (execUnitPrepareReport a0 a1) := by
  unfold execUnitPrepareReport
  refine outP_next ?_
  refine keep_ite ?_ ?_
  · refine State.rackReport_writes (H.sub rfl) ?_
    exact h1
  · refine State.modeReport_writes (H.sub rfl) ?_
    exact h1

end Sys2Proof.Machine
end

