-- ==== Sys2Proof/Laws/WritesImage.lean ====
section
/-! SUPPORT. Which components of the state each operation and command of Machine/Image.lean may write. -/

namespace Sys2Proof.Machine

theorem State.beginImage_writes {P : State → Prop} {a0 : State} {a1 : Nat} (H : Stable P 130) (h0 : P a0) :
    P (State.beginImage a0 a1) := by
  unfold State.beginImage
  extract_lets +onlyGivenNames x10
  have h10 : P x10 := by
    unfold x10
    refine State.setSlotFlag_writes (H.sub rfl) ?_
    exact h0
  extract_lets +onlyGivenNames x11
  extract_lets +onlyGivenNames x12
  have h11 : P x12 := by
    unfold x12
    refine H.set_mgmt rfl   ?_
    exact h10
  refine State.recordBoot_writes (H.sub rfl) ?_
  refine State.showSlot_writes (H.sub rfl) ?_
  refine State.setSlotState_writes (H.sub rfl) ?_
  exact h11

theorem State.imageEnd_writes {P : State → Prop} {a0 : State} {a1 : Req} {a2 : Nat} {a3 : List Word} (H : Stable P 146) (h0 : P a0) :
    P (State.imageEnd a0 a1 a2 a3) := by
  unfold State.imageEnd
  refine State.finish_writes (H.sub rfl) ?_
  refine H.set_mgmt rfl   ?_
  exact h0

theorem State.imageJob_writes {P : State → Prop} {a0 : State} {a1 : Req} {a2 : Nat} {a3 : ImageJob} (H : Stable P 128) (h0 : P a0) :
    P (State.imageJob a0 a1 a2 a3) := by
  unfold State.imageJob
  refine H.set_mgmt rfl   ?_
  exact h0

theorem State.beginPart_writes {P : State → Prop} {a0 : State} {a1 : Req} {a2 : Nat} {a3 : Nat} {a4 : List Byte} (H : Stable P 146) (h0 : P a0) :
    P (State.beginPart a0 a1 a2 a3 a4) := by
  unfold State.beginPart
  refine keep_ite ?_ ?_
  · refine State.imageEnd_writes (H.sub rfl) ?_
    exact h0
  · refine State.imageJob_writes (H.sub rfl) ?_
    refine keep_ite ?_ ?_
    · refine State.beginImage_writes (H.sub rfl) ?_
      exact h0
    · exact h0

theorem State.eraseSector_writes {P : State → Prop} {a0 : State} {a1 : Nat} {a2 : Nat} (H : Stable P 128) (h0 : P a0) :
    P (State.eraseSector a0 a1 a2) := by
  unfold State.eraseSector
  extract_lets +onlyGivenNames x10
  have h10 : P x10 := by
    unfold x10
    refine State.setSlotTab_writes (H.sub rfl) ?_
    exact h0
  refine H.set_mgmt rfl   ?_
  exact h10

theorem State.flagWritten_writes {P : State → Prop} {a0 : State} {a1 : Req} {a2 : Nat} (H : Stable P 4227730) (h0 : P a0) :
    P (State.flagWritten a0 a1 a2) := by
  unfold State.flagWritten
  extract_lets +onlyGivenNames x10
  have h10 : P x10 := by
    unfold x10
    refine State.setSlotState_writes (H.sub rfl) ?_
    refine State.setSlotFlag_writes (H.sub rfl) ?_
    exact h0
  extract_lets +onlyGivenNames x11
  have h11 : P x11 := by
    unfold x11
    refine State.showSlot_writes (H.sub rfl) ?_
    refine State.setF_writes (H.sub rfl) ?_
    refine State.setTries_writes (H.sub rfl) ?_
    exact h10
  extract_lets +onlyGivenNames x12
  have h12 : P x12 := by
    unfold x12
    refine State.recordBoot_writes (H.sub rfl) ?_
    exact h11
  extract_lets +onlyGivenNames x13
  have h13 : P x13 := by
    unfold x13
    refine State.imageEnd_writes (H.sub rfl) ?_
    exact h12
  refine keep_ite ?_ ?_
  · refine State.coldStart_writes (H.sub rfl) ?_
    exact h13
  · exact h13

theorem State.norFollow_writes {P : State → Prop} {a0 : State} (H : Stable P 146) (h0 : P a0) :
    P (State.norFollow a0) := by
  unfold State.norFollow
  extract_lets +onlyGivenNames x10
  have h10 : (∀ (z0 : State) (z1 : Req) (z2 : Nat), P z0 → P (x10 z0 z1 z2)) := by
    intro n10 n11 n12
    intro n13
    unfold x10
    split
    · refine State.imageEnd_writes (H.sub rfl) ?_
      exact n13
    · exact n13
  clear_value x10
  extract_lets +onlyGivenNames x11
  have h11 : P x11 := by
    unfold x11
    split
    · refine keep_ite ?_ ?_
      · exact h0
      · refine h10 _ _ _ ?_
        exact h0
    · refine h10 _ _ _ ?_
      exact h0
    · exact h0
  split
  · refine keep_ite ?_ ?_
    · refine State.writeBoot_writes (H.sub rfl) ?_
      exact h11
    · exact h11
  · exact h11

theorem State.procStops_writes {P : State → Prop} {a0 : State} {a1 : Nat} (H : Stable P 1319826) (h0 : P a0) :
    P (State.procStops a0 a1) := by
  unfold State.procStops
  refine keep_ite ?_ ?_
  · extract_lets +onlyGivenNames x10
    have h10 : P x10 := by
      unfold x10
      refine State.dropImageOp_writes (H.sub rfl) ?_
      refine State.ringReset_writes (H.sub rfl) ?_
      exact h0
    split
    · refine keep_ite ?_ ?_
      · exact h10
      · extract_lets +onlyGivenNames x11
        have h11 : P x11 := by
          unfold x11
          refine State.setStart_writes (H.sub rfl) ?_
          exact h10
        extract_lets +onlyGivenNames x12
        have h12 : P x12 := by
          unfold x12
          refine keep_ite ?_ ?_
          · refine State.releaseLine_writes (H.sub rfl) ?_
            exact h11
          · exact h11
        refine State.modeOutcome_writes (H.sub rfl) ?_
        exact h12
    · exact h10
  · refine keep_ite ?_ ?_
    · refine H.set_cal rfl   ?_
      exact h0
    · refine H.set_mgmt rfl   ?_
      exact h0

theorem execImageCommit_writes {P : State → Prop} {a0 : Fin 32} {a1 : Desc} {a2 : State} (H : Stable P 146) (h2 : P a2) :
    OutP P (execImageCommit a0 a1 a2) := by
  unfold execImageCommit
  refine outP_next ?_
  refine State.launch_writes (H.sub rfl) ?_ ?_
  · exact h2
  · intro n10 n11 n12
    extract_lets +onlyGivenNames x10
    split
    · refine State.finish_writes (H.sub rfl) ?_
      exact n12
    · split
      · refine State.finish_writes (H.sub rfl) ?_
        exact n12
      · refine State.imageJob_writes (H.sub rfl) ?_
        exact n12

theorem execImageConfirm_writes {P : State → Prop} {a0 : Fin 32} {a1 : Desc} {a2 : State} (H : Stable P 146) (h2 : P a2) :
    OutP P (execImageConfirm a0 a1 a2) := by
  unfold execImageConfirm
  refine outP_next ?_
  refine State.launch_writes (H.sub rfl) ?_ ?_
  · exact h2
  · intro n10 n11 n12
    extract_lets +onlyGivenNames x10
    split
    · refine State.finish_writes (H.sub rfl) ?_
      exact n12
    · extract_lets +onlyGivenNames x11
      have h10 : P x11 := by
        unfold x11
        refine State.recordBoot_writes (H.sub rfl) ?_
        refine State.setSlotState_writes (H.sub rfl) ?_
        exact n12
      extract_lets +onlyGivenNames x12
      have h11 : P x12 := by
        unfold x12
        refine State.setF_writes (H.sub rfl) ?_
        exact h10
      refine State.finish_writes (H.sub rfl) ?_
      exact h11

theorem execImageSelect_writes {P : State → Prop} {a0 : Fin 32} {a1 : Desc} {a2 : State} (H : Stable P 146) (h2 : P a2) :
    OutP P (execImageSelect a0 a1 a2) := by
  unfold execImageSelect
  refine outP_next ?_
  refine State.launch_writes (H.sub rfl) ?_ ?_
  · exact h2
  · intro n10 n11 n12
    extract_lets +onlyGivenNames x10
    split
    · refine State.finish_writes (H.sub rfl) ?_
      exact n12
    · extract_lets +onlyGivenNames x11
      have h10 : P x11 := by
        unfold x11
        refine State.recordBoot_writes (H.sub rfl) ?_
        refine State.setF_writes (H.sub rfl) ?_
        exact n12
      refine State.finish_writes (H.sub rfl) ?_
      exact h10

theorem execImageWrite_writes {P : State → Prop} {a0 : Fin 32} {a1 : Desc} {a2 : Buf} {a3 : State} (H : Stable P 146) (h3 : P a3) :
    OutP P (execImageWrite a0 a1 a2 a3) := by
  unfold execImageWrite
  refine outP_next ?_
  refine State.launch_writes (H.sub rfl) ?_ ?_
  · exact h3
  · intro n10 n11 n12
    extract_lets +onlyGivenNames x10
    extract_lets +onlyGivenNames x11
    extract_lets +onlyGivenNames x12
    have h10 : (∀ (z0 : Nat), P (x12 z0)) := by
      intro n13
      unfold x12
      refine State.finish_writes (H.sub rfl) ?_
      exact n12
    clear_value x12
    refine keep_ite ?_ ?_
    · refine h10 _
    · refine keep_ite ?_ ?_
      · refine h10 _
      · refine keep_ite ?_ ?_
        · refine h10 _
        · refine keep_ite ?_ ?_
          · refine h10 _
          · refine keep_ite ?_ ?_
            · refine h10 _
            · extract_lets +onlyGivenNames x13
              refine keep_ite ?_ ?_
              · refine State.imageJob_writes (H.sub rfl) ?_
                exact n12
              · refine State.beginPart_writes (H.sub rfl) ?_
                exact n12

theorem execNorEraseDone_writes {P : State → Prop} {a0 : Bool} {a1 : State} (H : Stable P 8594) (h1 : P a1) :
    OutP P (execNorEraseDone a0 a1) := by
  unfold execNorEraseDone
  extract_lets +onlyGivenNames x10
  have h10 : (∀ (z0 : State), P z0 → P (x10 z0)) := by
    intro n10 n11
    unfold x10
    split
    · refine keep_ite ?_ ?_
      · exact n11
      · refine keep_ite ?_ ?_
        · refine State.raise_writes (H.sub rfl) ?_
          exact n11
        · refine State.setF_writes (H.sub rfl) ?_
          refine State.eraseSector_writes (H.sub rfl) ?_
          exact n11
    · exact n11
  clear_value x10
  refine outP_next ?_
  split
  · refine keep_ite ?_ ?_
    · refine h10 _ ?_
      exact h1
    · refine keep_ite ?_ ?_
      · refine State.imageEnd_writes (H.sub rfl) ?_
        refine State.raise_writes (H.sub rfl) ?_
        exact h1
      · refine State.eraseSector_writes (H.sub rfl) ?_
        exact h1
  · refine h10 _ ?_
    exact h1

theorem execNorPageProgramDone_writes {P : State → Prop} {a0 : Bool} {a1 : State} (H : Stable P 4236178) (h1 : P a1) :
    OutP P (execNorPageProgramDone a0 a1) := by
  unfold execNorPageProgramDone
  refine outP_next ?_
  split
  · refine keep_ite ?_ ?_
    · exact h1
    · refine keep_ite ?_ ?_
      · refine State.imageEnd_writes (H.sub rfl) ?_
        refine State.raise_writes (H.sub rfl) ?_
        exact h1
      · extract_lets +onlyGivenNames x10
        have h10 : P x10 := by
          unfold x10
          refine State.setSlotTab_writes (H.sub rfl) ?_
          exact h1
        extract_lets +onlyGivenNames x11
        extract_lets +onlyGivenNames x12
        extract_lets +onlyGivenNames x13
        refine keep_ite ?_ ?_
        · refine State.imageEnd_writes (H.sub rfl) ?_
          exact h10
        · split
          · refine State.imageEnd_writes (H.sub rfl) ?_
            exact h10
          · refine State.imageJob_writes (H.sub rfl) ?_
            exact h10
  · refine keep_ite ?_ ?_
    · refine State.flagWritten_writes (H.sub rfl) ?_
      exact h1
    · refine State.imageEnd_writes (H.sub rfl) ?_
      refine State.raise_writes (H.sub rfl) ?_
      exact h1
  · exact h1

theorem execNorTempConversion_writes {P : State → Prop} {a0 : Option (BitVec 16)} {a1 : Option (BitVec 16)} {a2 : Option (BitVec 16)} {a3 : State} (H : Stable P 74130) (h3 : P a3) :
    OutP P (execNorTempConversion a0 a1 a2 a3) := by
  unfold execNorTempConversion
  refine outP_next ?_
  refine State.norFollow_writes (H.sub rfl) ?_
  refine State.norConversion_writes (H.sub rfl) ?_
  exact h3

theorem execPfailAssert_writes {P : State → Prop} {a0 : Nat} {a1 : Nat} {a2 : State} (H : Stable P 8338) (h2 : P a2) :
    OutP P (execPfailAssert a0 a1 a2) := by
  unfold execPfailAssert
  refine outP_next ?_
  refine State.norFollow_writes (H.sub rfl) ?_
  refine State.pfailAssert_writes (H.sub rfl) ?_
  exact h2

theorem execPfailRelease_writes {P : State → Prop} {a0 : Nat} {a1 : Nat} {a2 : State} (H : Stable P 146) (h2 : P a2) :
    OutP P (execPfailRelease a0 a1 a2) := by
  unfold execPfailRelease
  refine outP_next ?_
  refine State.norFollow_writes (H.sub rfl) ?_
  refine State.pfailRelease_writes (H.sub rfl) ?_
  exact h2

theorem execProcessorRestartDone_writes {P : State → Prop} {a0 : Fin 4} {a1 : Bool} {a2 : State} (H : Stable P 8610) (h2 : P a2) :
    OutP P (execProcessorRestartDone a0 a1 a2) := by
  unfold execProcessorRestartDone
  extract_lets +onlyGivenNames x10
  refine outP_next ?_
  refine keep_ite ?_ ?_
  · exact h2
  · refine keep_ite ?_ ?_
    · refine State.raise_writes (H.sub rfl) ?_
      refine State.setF_writes (H.sub rfl) ?_
      exact h2
    · extract_lets +onlyGivenNames x11
      have h10 : P x11 := by
        unfold x11
        refine State.setF_writes (H.sub rfl) ?_
        exact h2
      refine keep_ite ?_ ?_
      · refine H.set_mgmt rfl   ?_
        exact h10
      · refine keep_ite ?_ ?_
        · refine State.solveNext_writes (H.sub rfl) ?_
          exact h10
        · exact h10

theorem execSensorSweep_writes {P : State → Prop} {a0 : Vector (Option (BitVec 16)) 80} {a1 : State} (H : Stable P 74642) (h1 : P a1) :
    OutP P (execSensorSweep a0 a1) := by
  unfold execSensorSweep
  refine outP_next ?_
  refine State.norFollow_writes (H.sub rfl) ?_
  refine State.sensorSweep_writes (H.sub rfl) ?_
  exact h1

theorem execSlotEraseDone_writes {P : State → Prop} {a0 : State} (H : Stable P 146) (h0 : P a0) :
    OutP P (execSlotEraseDone a0) := by
  unfold execSlotEraseDone
  refine outP_next ?_
  split
  · refine keep_ite ?_ ?_
    · exact h0
    · extract_lets +onlyGivenNames x10
      have h10 : P x10 := by
        unfold x10
        refine State.recordBoot_writes (H.sub rfl) ?_
        refine State.showSlot_writes (H.sub rfl) ?_
        refine State.setSlotState_writes (H.sub rfl) ?_
        exact h0
      split
      · refine keep_ite ?_ ?_
        · refine State.beginPart_writes (H.sub rfl) ?_
          exact h10
        · exact h10
      · exact h10
  · exact h0

theorem execWatchdogExpiry_writes {P : State → Prop} {a0 : Fin 4} {a1 : Bool} {a2 : State} (H : Stable P 4112382) (h2 : P a2) :
    OutP P (execWatchdogExpiry a0 a1 a2) := by
  unfold execWatchdogExpiry
  extract_lets +onlyGivenNames x10
  refine outP_next ?_
  refine keep_ite ?_ ?_
  · exact h2
  · refine keep_ite ?_ ?_
    · refine State.collect_writes (H.sub rfl) ?_
      exact h2
    · extract_lets +onlyGivenNames x11
      extract_lets +onlyGivenNames x12
      extract_lets +onlyGivenNames x13
      have h10 : P x13 := by
        unfold x13
        refine H.set_mgmt rfl   ?_
        exact h2
      extract_lets +onlyGivenNames x14
      have h11 : P x14 := by
        unfold x14
        refine State.raise_writes (H.sub rfl) ?_
        refine State.count_writes (H.sub rfl) ?_
        refine State.setF_writes (H.sub rfl) ?_
        exact h10
      extract_lets +onlyGivenNames x15
      have h12 : P x15 := by
        unfold x15
        refine keep_ite ?_ ?_
        · refine State.raise_writes (H.sub rfl) ?_
          exact h11
        · exact h11
      refine State.procStops_writes (H.sub rfl) ?_
      exact h12

end Sys2Proof.Machine
end

