-- ==== Sys2Proof/Laws/WritesPair.lean ====
section
/-! SUPPORT. Which components of the state each operation and command of Machine/Pair.lean may write. -/

namespace Sys2Proof.Machine

theorem State.linkEvent_writes {P : State → Prop} {a0 : State} (H : Stable P 8210) (h0 : P a0) :
    P (State.linkEvent a0) := by
  unfold State.linkEvent
  refine State.attn_writes (H.sub rfl) ?_
  refine State.fire_writes (H.sub rfl) ?_
  exact h0

theorem State.graftUp_writes {P : State → Prop} {a0 : State} {a1 : BitVec 16} {a2 : BitVec 64} (H : Stable P 1056786) (h0 : P a0) :
    P (State.graftUp a0 a1 a2) := by
  unfold State.graftUp
  extract_lets +onlyGivenNames x10
  extract_lets +onlyGivenNames x11
  extract_lets +onlyGivenNames x12
  have h10 : P x12 := by
    unfold x12
    refine State.setF_writes (H.sub rfl) ?_
    refine State.setF_writes (H.sub rfl) ?_
    exact h0
  extract_lets +onlyGivenNames x13
  have h11 : P x13 := by
    unfold x13
    refine State.wr_writes (H.sub rfl) ?_
    refine State.wr_writes (H.sub rfl) ?_
    exact h10
  extract_lets +onlyGivenNames x14
  extract_lets +onlyGivenNames x15
  have h12 : P x15 := by
    unfold x15
    refine State.setF_writes (H.sub rfl) ?_
    exact h11
  extract_lets +onlyGivenNames x16
  have h13 : P x16 := by
    unfold x16
    refine State.linkEvent_writes (H.sub rfl) ?_
    refine State.setF_writes (H.sub rfl) ?_
    exact h12
  extract_lets +onlyGivenNames x17
  have h14 : P x17 := by
    unfold x17
    refine keep_ite ?_ ?_
    · refine State.attn_writes (H.sub rfl) ?_
      exact h13
    · exact h13
  refine keep_ite ?_ ?_
  · exact h14
  · refine State.startResync_writes (H.sub rfl) ?_
    exact h14

theorem State.ownRehash_writes {P : State → Prop} {a0 : State} {a1 : Nat} (H : Stable P 2621466) (h0 : P a0) :
    P (State.ownRehash a0 a1) := by
  unfold State.ownRehash
  refine keep_ite ?_ ?_
  · refine State.rehashStart_writes (H.sub rfl) ?_
    exact h0
  · exact h0

theorem State.mirrorFdb_writes {P : State → Prop} {a0 : State} {a1 : Nat} {a2 : FEntry} (H : Stable P 2621466) (h0 : P a0) :
    P (State.mirrorFdb a0 a1 a2) := by
  unfold State.mirrorFdb
  refine State.ownRehash_writes (H.sub rfl) ?_
  refine State.putAll_writes (H.sub rfl) ?_
  exact h0

theorem State.mirrorRack_writes {P : State → Prop} {a0 : State} {a1 : Nat} {a2 : Nat} (H : Stable P 9586) (h0 : P a0) :
    P (State.mirrorRack a0 a1 a2) := by
  unfold State.mirrorRack
  extract_lets +onlyGivenNames x10
  extract_lets +onlyGivenNames x11
  extract_lets +onlyGivenNames x12
  extract_lets +onlyGivenNames x13
  have h10 : (∀ (z0 : Nat) (z1 : State), P z1 → P (x13 z0 z1)) := by
    intro n10 n11 n12
    unfold x13
    refine State.refuseTrig_writes (H.sub rfl) ?_
    exact n12
  clear_value x13
  split
  · refine h10 _ _ ?_
    exact h0
  · refine h10 _ _ ?_
    exact h0
  · extract_lets +onlyGivenNames x14
    split
    · refine h10 _ _ ?_
      exact h0
    · split
      · refine h10 _ _ ?_
        refine State.raiseD_writes (H.sub rfl) ?_
        refine State.checkFailed_writes (H.sub rfl) ?_
        exact h0
      · refine State.trigger_writes (H.sub rfl) ?_
        refine State.writePorts_writes (H.sub rfl) ?_
        refine State.holdImage_writes (H.sub rfl) ?_
        exact h0

theorem State.takeSet_writes {P : State → Prop} {a0 : State} {a1 : Tab Word} {a2 : Tab Word} {a3 : Tab Word} {a4 : Tab Word} (H : Stable P 528386) (h0 : P a0) :
    P (State.takeSet a0 a1 a2 a3 a4) := by
  unfold State.takeSet
  extract_lets +onlyGivenNames x10
  extract_lets +onlyGivenNames x11
  have h10 : P x11 := by
    unfold x11
    refine foldl_keep ?_ ?_
    · intro n10 n11 n12
      refine State.resetRange_writes (H.sub rfl) ?_
      exact n12
    · exact h0
  extract_lets +onlyGivenNames x12
  have h11 : P x12 := by
    unfold x12
    refine foldl_keep ?_ ?_
    · intro n13 n14 n15
      refine keep_ite ?_ ?_
      · refine State.wr_writes (H.sub rfl) ?_
        exact n15
      · exact n15
    · exact h10
  extract_lets +onlyGivenNames x13
  extract_lets +onlyGivenNames x14
  extract_lets +onlyGivenNames x15
  have h12 : P x15 := by
    unfold x15
    refine H.set_seq_pk rfl rfl   ?_
    exact h11
  refine State.setF_writes (H.sub rfl) ?_
  exact h12

theorem State.mirrorApply_writes {P : State → Prop} {a0 : State} {a1 : Bool} {a2 : MirrorRec} (H : Stable P 2635130) (h0 : P a0) :
    P (State.mirrorApply a0 a1 a2) := by
  unfold State.mirrorApply
  split
  · refine keep_ite ?_ ?_
    · refine State.mirrorFdb_writes (H.sub rfl) ?_
      exact h0
    · exact h0
  · refine keep_ite ?_ ?_
    · refine State.removeAll_writes (H.sub rfl) ?_
      exact h0
    · exact h0
  · refine keep_ite ?_ ?_
    · refine State.lpmPut_writes (H.sub rfl) ?_
      exact h0
    · exact h0
  · refine keep_ite ?_ ?_
    · refine State.lpmCutOut_writes (H.sub rfl) ?_
      exact h0
    · exact h0
  · refine keep_ite ?_ ?_
    · refine State.wr_writes (H.sub rfl) ?_
      exact h0
    · exact h0
  · refine keep_ite ?_ ?_
    · refine State.refuseTrig_writes (H.sub rfl) ?_
      exact h0
    · extract_lets +onlyGivenNames x10
      have h10 : P x10 := by
        unfold x10
        refine State.wr_writes (H.sub rfl) ?_
        refine State.wr_writes (H.sub rfl) ?_
        exact h0
      refine State.mirrorRack_writes (H.sub rfl) ?_
      refine State.takeSet_writes (H.sub rfl) ?_
      exact h10
  · exact h0

theorem State.pairCmd_writes {P : State → Prop} {a0 : State} {a1 : Fin 32} {a2 : Desc} {a3 : Nat} {a4 : Nat} {a5 : State → Bool} {a6 : Req → State → State} (H : Stable P 18) (h0 : P a0) (h6 : (∀ (z0 : Req) (z1 : State), P z1 → P (a6 z0 z1))) :
    P (State.pairCmd a0 a1 a2 a3 a4 a5 a6) := by
  unfold State.pairCmd
  refine State.launch_writes (H.sub rfl) ?_ ?_
  · exact h0
  · intro n10 n11 n12
    extract_lets +onlyGivenNames x10
    have h10 : (∀ (z0 : Nat), P (x10 z0)) := by
      intro n13
      unfold x10
      refine State.finish_writes (H.sub rfl) ?_
      exact n12
    clear_value x10
    refine keep_ite ?_ ?_
    · refine h10 _
    · refine keep_ite ?_ ?_
      · refine h10 _
      · refine keep_ite ?_ ?_
        · refine h10 _
        · refine keep_ite ?_ ?_
          · refine h10 _
          · refine keep_ite ?_ ?_
            · refine h10 _
            · refine h6 _ _ ?_
              exact n12

theorem State.setPair_writes {P : State → Prop} {a0 : State} {a1 : PairSt → PairSt} (H : Stable P 1048576) (h0 : P a0) :
    P (State.setPair a0 a1) := by
  unfold State.setPair
  refine H.set_pair rfl   ?_
  exact h0

theorem execDrillHour_writes {P : State → Prop} {a0 : State} (H : Stable P 2) (h0 : P a0) :
    OutP P (execDrillHour a0) := by
  unfold execDrillHour
  extract_lets +onlyGivenNames x10
  refine outP_next ?_
  refine keep_ite ?_ ?_
  · refine State.showDrill_writes (H.sub rfl) ?_
    refine State.count_writes (H.sub rfl) ?_
    exact h0
  · exact h0

theorem execExchangeRelayed_writes {P : State → Prop} {a0 : State} (H : Stable P 1049106) (h0 : P a0) :
    OutP P (execExchangeRelayed a0) := by
  unfold execExchangeRelayed
  refine outP_next ?_
  refine keep_ite ?_ ?_
  · refine State.askMode_writes (H.sub rfl) ?_
    refine State.setPair_writes (H.sub rfl) ?_
    exact h0
  · exact h0

theorem execGraftLaneDown_writes {P : State → Prop} {a0 : Fin 2} {a1 : Fin 1000} {a2 : State} (H : Stable P 1056787) (h2 : P a2) :
    OutP P (execGraftLaneDown a0 a1 a2) := by
  unfold execGraftLaneDown
  extract_lets +onlyGivenNames x10
  extract_lets +onlyGivenNames x11
  have h10 : P x11 := by
    unfold x11
    refine State.at__writes (H.sub rfl) ?_
    exact h2
  refine outP_next ?_
  refine keep_ite ?_ ?_
  · exact h10
  · extract_lets +onlyGivenNames x12
    have h11 : P x12 := by
      unfold x12
      refine State.setF_writes (H.sub rfl) ?_
      exact h10
    refine keep_ite ?_ ?_
    · exact h11
    · extract_lets +onlyGivenNames x13
      have h12 : P x13 := by
        unfold x13
        refine State.setPair_writes (H.sub rfl) ?_
        exact h11
      refine State.linkEvent_writes (H.sub rfl) ?_
      refine State.setF_writes (H.sub rfl) ?_
      refine State.setF_writes (H.sub rfl) ?_
      exact h12

theorem execGraftLinkUp_writes {P : State → Prop} {a0 : Fin 2} {a1 : BitVec 16} {a2 : BitVec 64} {a3 : Fin 4} {a4 : Bool} {a5 : State} (H : Stable P 1056786) (h5 : P a5) :
    OutP P (execGraftLinkUp a0 a1 a2 a3 a4 a5) := by
  unfold execGraftLinkUp
  extract_lets +onlyGivenNames x10
  refine outP_next ?_
  refine keep_ite ?_ ?_
  · exact h5
  · extract_lets +onlyGivenNames x11
    extract_lets +onlyGivenNames x12
    have h10 : P x12 := by
      unfold x12
      refine State.setF_writes (H.sub rfl) ?_
      exact h5
    extract_lets +onlyGivenNames x13
    have h11 : P x13 := by
      unfold x13
      refine State.setPair_writes (H.sub rfl) ?_
      exact h10
    refine keep_ite ?_ ?_
    · exact h11
    · refine State.graftUp_writes (H.sub rfl) ?_
      exact h11

theorem execGraftTimeSample_writes {P : State → Prop} {a0 : Fin 4} {a1 : BitVec 48} {a2 : Fin 1000} {a3 : State} (H : Stable P 41219) (h3 : P a3) :
    OutP P (execGraftTimeSample a0 a1 a2 a3) := by
  unfold execGraftTimeSample
  extract_lets +onlyGivenNames x10
  have h10 : P x10 := by
    unfold x10
    refine State.at__writes (H.sub rfl) ?_
    exact h3
  refine outP_next ?_
  refine keep_ite ?_ ?_
  · refine State.servoSample_writes (H.sub rfl) ?_
    exact h10
  · exact h10

theorem execHoldReleaseSeen_writes {P : State → Prop} {a0 : Bool} {a1 : Fin 1000} {a2 : State} (H : Stable P 1048579) (h2 : P a2) :
    OutP P (execHoldReleaseSeen a0 a1 a2) := by
  unfold execHoldReleaseSeen
  extract_lets +onlyGivenNames x10
  have h10 : P x10 := by
    unfold x10
    refine State.at__writes (H.sub rfl) ?_
    exact h2
  refine outP_next ?_
  refine keep_ite ?_ ?_
  · exact h10
  · extract_lets +onlyGivenNames x11
    have h11 : P x11 := by
      unfold x11
      refine State.setF_writes (H.sub rfl) ?_
      exact h10
    refine State.setPair_writes (H.sub rfl) ?_
    exact h11

theorem execMirrorRecord_writes {P : State → Prop} {a0 : MirrorRec} {a1 : Bool} {a2 : BitVec 16} {a3 : State} (H : Stable P 3683706) (h3 : P a3) :
    OutP P (execMirrorRecord a0 a1 a2 a3) := by
  unfold execMirrorRecord
  refine outP_next ?_
  refine keep_ite ?_ ?_
  · exact h3
  · extract_lets +onlyGivenNames x10
    have h10 : P x10 := by
      unfold x10
      refine State.setPair_writes (H.sub rfl) ?_
      exact h3
    extract_lets +onlyGivenNames x11
    have h11 : P x11 := by
      unfold x11
      refine State.setF_writes (H.sub rfl) ?_
      refine State.mirrorApply_writes (H.sub rfl) ?_
      exact h10
    refine keep_ite ?_ ?_
    · refine State.startResync_writes (H.sub rfl) ?_
      exact h11
    · exact h11

theorem execPairExchange_writes {P : State → Prop} {a0 : Fin 32} {a1 : Desc} {a2 : Bool} {a3 : State} (H : Stable P 1049106) (h3 : P a3) :
    OutP P (execPairExchange a0 a1 a2 a3) := by
  unfold execPairExchange
  refine outP_next ?_
  refine State.pairCmd_writes (H.sub rfl) ?_ ?_
  · exact h3
  · intro n10 n11 n12
    extract_lets +onlyGivenNames x10
    have h10 : P x10 := by
      unfold x10
      refine State.setPair_writes (H.sub rfl) ?_
      exact n12
    refine keep_ite ?_ ?_
    · refine keep_ite ?_ ?_
      · refine State.graft_writes (H.sub rfl) ?_
        exact h10
      · exact h10
    · refine State.askMode_writes (H.sub rfl) ?_
      exact h10

theorem execPairHoldMismatch_writes {P : State → Prop} {a0 : Bool} {a1 : State} (H : Stable P 1057026) (h1 : P a1) :
    OutP P (execPairHoldMismatch a0 a1) := by
  unfold execPairHoldMismatch
  extract_lets +onlyGivenNames x10
  refine outP_next ?_
  refine keep_ite ?_ ?_
  · refine keep_ite ?_ ?_
    · refine State.raise_writes (H.sub rfl) ?_
      refine State.setF_writes (H.sub rfl) ?_
      exact h1
    · exact h1
  · refine keep_ite ?_ ?_
    · refine State.raise_writes (H.sub rfl) ?_
      refine State.setPair_writes (H.sub rfl) ?_
      exact h1
    · exact h1

theorem execPairLinkLost_writes {P : State → Prop} {a0 : State} (H : Stable P 1057024) (h0 : P a0) :
    OutP P (execPairLinkLost a0) := by
  unfold execPairLinkLost
  extract_lets +onlyGivenNames x10
  refine outP_next ?_
  refine keep_ite ?_ ?_
  · refine State.raise_writes (H.sub rfl) ?_
    refine State.setPair_writes (H.sub rfl) ?_
    exact h0
  · exact h0

theorem execPairResync_writes {P : State → Prop} {a0 : Fin 32} {a1 : Desc} {a2 : State} (H : Stable P 1048594) (h2 : P a2) :
    OutP P (execPairResync a0 a1 a2) := by
  unfold execPairResync
  refine outP_next ?_
  refine State.pairCmd_writes (H.sub rfl) ?_ ?_
  · exact h2
  · intro n10 n11 n12
    refine State.startResync_writes (H.sub rfl) ?_
    refine State.setPair_writes (H.sub rfl) ?_
    exact n12

theorem execResyncComplete_writes {P : State → Prop} {a0 : State} (H : Stable P 1048594) (h0 : P a0) :
    OutP P (execResyncComplete a0) := by
  unfold execResyncComplete
  extract_lets +onlyGivenNames x10
  refine outP_next ?_
  refine keep_ite ?_ ?_
  · exact h0
  · extract_lets +onlyGivenNames x11
    have h10 : P x11 := by
      unfold x11
      refine State.setF_writes (H.sub rfl) ?_
      refine State.setF_writes (H.sub rfl) ?_
      exact h0
    extract_lets +onlyGivenNames x12
    extract_lets +onlyGivenNames x13
    have h11 : P x13 := by
      unfold x13
      refine State.setPair_writes (H.sub rfl) ?_
      exact h10
    clear_value x12
    split
    · rename_i v10 v11 v12
      refine State.finish_writes (H.sub rfl) ?_
      exact h11
    · rename_i v13
      exact h11

theorem execTakeoverGuardEnd_writes {P : State → Prop} {a0 : Bool} {a1 : State} (H : Stable P 1049107) (h1 : P a1) :
    OutP P (execTakeoverGuardEnd a0 a1) := by
  unfold execTakeoverGuardEnd
  refine outP_next ?_
  split
  · refine keep_ite ?_ ?_
    · refine State.setF_writes (H.sub rfl) ?_
      refine State.setPair_writes (H.sub rfl) ?_
      exact h1
    · extract_lets +onlyGivenNames x10
      have h10 : P x10 := by
        unfold x10
        refine H.set_now rfl (Nat.le_max_left _ _)  ?_
        exact h1
      refine State.askMode_writes (H.sub rfl) ?_
      refine State.setPair_writes (H.sub rfl) ?_
      exact h10
  · exact h1

end Sys2Proof.Machine
end

