-- ==== Sys2Proof/Laws/WritesRegAccess.lean ====
section
/-! SUPPORT. Which components of the state each operation and command of Machine/RegAccess.lean may write. -/

namespace Sys2Proof.Machine

theorem State.setSnap_writes {P : State → Prop} {a0 : State} {a1 : Owner} {a2 : Nat} {a3 : Option Word} (H : Stable P 16) (h0 : P a0) :
    P (State.setSnap a0 a1 a2 a3) := by
  unfold State.setSnap
  extract_lets +onlyGivenNames x10
  refine H.set_hif rfl   ?_
  exact h0

theorem State.readWord_writes {P : State → Prop} {a0 : State} {a1 : Owner} {a2 : Nat} {a3 : Bool} (H : Stable P 18) (h0 : P a0) :
    P (State.readWord a0 a1 a2 a3).2 := by
  unfold State.readWord
  split
  · refine keep_mk2 ?_
    exact h0
  · extract_lets +onlyGivenNames x10
    extract_lets +onlyGivenNames x11
    have h10 : P x11 := by
      unfold x11
      refine keep_ite ?_ ?_
      · exact h0
      · refine State.wr_writes (H.sub rfl) ?_
        exact h0
    split
    · refine keep_mk2 ?_
      refine keep_ite ?_ ?_
      · refine State.setSnap_writes (H.sub rfl) ?_
        exact h10
      · exact h10
    · split
      · split
        · split
          · refine keep_mk2 ?_
            refine State.setSnap_writes (H.sub rfl) ?_
            exact h10
          · refine keep_mk2 ?_
            exact h10
        · refine keep_mk2 ?_
          exact h10
      · refine keep_mk2 ?_
        exact h10

theorem State.readWords_writes {P : State → Prop} {a0 : Owner} {a1 : Bool} {a2 : Nat} {a3 : Nat} {a4 : State} (H : Stable P 18) (h4 : P a4) :
    P (State.readWords a0 a1 a2 a3 a4).2 := by
  induction a2 generalizing a3 a4
  · unfold State.readWords
    refine keep_mk2 ?_
    exact h4
  · rename_i v10 v11
    unfold State.readWords
    split
    · rename_i v12 v13 v14 v15
      have h10 : P v14 := keep_snd v15 (by
        refine State.readWord_writes (H.sub rfl) ?_
        exact h4)
      split
      · rename_i v16 v17 v18 v19
        have h11 : P v18 := keep_snd v19 (by
          refine v11 ?_
          exact h10)
        refine keep_mk2 ?_
        exact h11

theorem State.busRead_writes {P : State → Prop} {a0 : State} {a1 : Owner} {a2 : Nat} {a3 : Nat} (H : Stable P 18) (h0 : P a0) :
    P (State.busRead a0 a1 a2 a3) := by
  unfold State.busRead
  extract_lets +onlyGivenNames x10
  extract_lets +onlyGivenNames x11
  split
  · rename_i v10 v11 v12 v13
    have h10 : P v12 := keep_snd v13 (by
      refine State.readWords_writes (H.sub rfl) ?_
      exact h0)
    extract_lets +onlyGivenNames x12
    refine H.set_hif rfl   ?_
    exact h10

theorem State.flagsCleared_writes {P : State → Prop} {a0 : State} {a1 : Nat} {a2 : Word} {a3 : Word} (H : Stable P 2) (h0 : P a0) :
    P (State.flagsCleared a0 a1 a2 a3) := by
  unfold State.flagsCleared
  extract_lets +onlyGivenNames x10
  extract_lets +onlyGivenNames x11
  have h10 : (∀ (z0 : Fld) (z1 : Nat) (z2 : State), P z2 → P (x11 z0 z1 z2)) := by
    intro n10 n11 n12
    intro n13
    unfold x11
    refine keep_ite ?_ ?_
    · refine State.setF_writes (H.sub rfl) ?_
      exact n13
    · exact n13
  clear_value x11
  refine h10 _ _ _ ?_
  refine h10 _ _ _ ?_
  exact h0

theorem State.ringOff_writes {P : State → Prop} {a0 : State} {a1 : Nat} (H : Stable P 18) (h0 : P a0) :
    P (State.ringOff a0 a1) := by
  unfold State.ringOff
  extract_lets +onlyGivenNames x10
  have h10 : P x10 := by
    unfold x10
    refine State.wr_writes (H.sub rfl) ?_
    exact h0
  refine keep_ite ?_ ?_
  · refine State.setSq_writes (H.sub rfl) ?_
    exact h10
  · refine State.cqFullBits_writes (H.sub rfl) ?_
    refine State.setCq_writes (H.sub rfl) ?_
    exact h10

theorem State.ringWrite_writes {P : State → Prop} {a0 : State} {a1 : RegDesc} {a2 : Nat} {a3 : Nat} {a4 : Word} (H : Stable P 18) (h0 : P a0) :
    P (State.ringWrite a0 a1 a2 a3 a4) := by
  unfold State.ringWrite
  extract_lets +onlyGivenNames x10
  refine keep_ite ?_ ?_
  · refine keep_ite ?_ ?_
    · refine State.ringOff_writes (H.sub rfl) ?_
      exact h0
    · exact h0
  · refine keep_ite ?_ ?_
    · refine keep_ite ?_ ?_
      · exact h0
      · refine State.wr_writes (H.sub rfl) ?_
        exact h0
    · refine State.wr_writes (H.sub rfl) ?_
      exact h0

theorem State.written_writes {P : State → Prop} {a0 : State} {a1 : Nat} {a2 : Word} {a3 : Word} (H : Stable P 1089554) (h0 : P a0) :
    P (State.written a0 a1 a2 a3) := by
  unfold State.written
  refine keep_ite ?_ ?_
  · refine keep_ite ?_ ?_
    · refine H.set_hif rfl   ?_
      exact h0
    · exact h0
  · refine keep_ite ?_ ?_
    · refine keep_ite ?_ ?_
      · refine H.set_hif rfl   ?_
        exact h0
      · exact h0
    · refine keep_ite ?_ ?_
      · refine State.showDrill_writes (H.sub rfl) ?_
        exact h0
      · refine keep_ite ?_ ?_
        · refine keep_ite ?_ ?_
          · refine State.setOsc_writes (H.sub rfl) ?_
            exact h0
          · exact h0
        · refine keep_ite ?_ ?_
          · refine State.setF_writes (H.sub rfl) ?_
            exact h0
          · refine keep_ite ?_ ?_
            · refine State.flagsCleared_writes (H.sub rfl) ?_
              exact h0
            · refine keep_ite ?_ ?_
              · refine State.retune_writes (H.sub rfl) ?_
                exact h0
              · refine keep_ite ?_ ?_
                · extract_lets +onlyGivenNames x10
                  refine keep_ite ?_ ?_
                  · refine State.setF_writes (H.sub rfl) ?_
                    refine State.setServoX_writes (H.sub rfl) ?_
                    exact h0
                  · refine keep_ite ?_ ?_
                    · refine State.setF_writes (H.sub rfl) ?_
                      exact h0
                    · exact h0
                · refine keep_ite ?_ ?_
                  · extract_lets +onlyGivenNames x11
                    refine keep_ite ?_ ?_
                    · refine State.setPps_writes (H.sub rfl) ?_
                      exact h0
                    · exact h0
                  · refine keep_ite ?_ ?_
                    · extract_lets +onlyGivenNames x12
                      extract_lets +onlyGivenNames x13
                      refine keep_ite ?_ ?_
                      · refine State.cmpFire_writes (H.sub rfl) ?_
                        exact h0
                      · exact h0
                    · refine keep_ite ?_ ?_
                      · refine State.mirrorOut_writes (H.sub rfl) ?_
                        exact h0
                      · exact h0

theorem State.writeWord_writes {P : State → Prop} {a0 : State} {a1 : Owner} {a2 : Nat} {a3 : Word} (H : Stable P 1089810) (h0 : P a0) :
    P (State.writeWord a0 a1 a2 a3) := by
  unfold State.writeWord
  split
  · exact h0
  · extract_lets +onlyGivenNames x10
    extract_lets +onlyGivenNames x11
    have h10 : (∀ (z0 : State), P z0 → P (x11 z0)) := by
      intro n10 n11
      unfold x11
      refine State.setF_writes (H.sub rfl) ?_
      exact n11
    clear_value x11
    refine keep_ite ?_ ?_
    · exact h0
    · refine keep_ite ?_ ?_
      · refine State.count_writes (H.sub rfl) ?_
        exact h0
      · refine keep_ite ?_ ?_
        · refine State.safetyWrite_writes (H.sub rfl) ?_
          exact h0
        · extract_lets +onlyGivenNames x12
          have h11 : P x12 := by
            unfold x12
            refine keep_ite ?_ ?_
            · refine State.lkDirect_writes (H.sub rfl) ?_
              exact h0
            · exact h0
          split
          · refine State.ringWrite_writes (H.sub rfl) ?_
            exact h11
          · refine keep_ite ?_ ?_
            · refine State.hrvWrite_writes (H.sub rfl) ?_
              exact h11
            · refine keep_ite ?_ ?_
              · refine h10 _ ?_
                exact h11
              · refine keep_ite ?_ ?_
                · refine h10 _ ?_
                  exact h11
                · refine keep_ite ?_ ?_
                  · exact h11
                  · extract_lets +onlyGivenNames x13
                    extract_lets +onlyGivenNames x14
                    refine State.written_writes (H.sub rfl) ?_
                    refine State.wr_writes (H.sub rfl) ?_
                    exact h11

theorem execBeaconWrite_writes {P : State → Prop} {a0 : State} (H : Stable P 16) (h0 : P a0) :
    OutP P (execBeaconWrite a0) := by
  unfold execBeaconWrite
  extract_lets +onlyGivenNames x10
  extract_lets +onlyGivenNames x11
  refine outP_next ?_
  refine keep_ite ?_ ?_
  · exact h0
  · extract_lets +onlyGivenNames x12
    extract_lets +onlyGivenNames x13
    have h10 : P x13 := by
      unfold x13
      refine State.post_writes (H.sub rfl) ?_
      exact h0
    refine H.set_hif rfl   ?_
    exact h10

theorem execReadClear_writes {P : State → Prop} {a0 : Owner} {a1 : BitVec 24} {a2 : Fin 9} {a3 : State} (H : Stable P 18) (h3 : P a3) :
    OutP P (execReadClear a0 a1 a2 a3) := by
  unfold execReadClear
  refine outP_next ?_
  refine keep_ite ?_ ?_
  · exact h3
  · refine State.busRead_writes (H.sub rfl) ?_
    exact h3

theorem execRegisterWrite_writes {P : State → Prop} {a0 : Owner} {a1 : BitVec 24} {a2 : Fin 9} {a3 : BitVec 64} {a4 : State} (H : Stable P 1089810) (h4 : P a4) :
    OutP P (execRegisterWrite a0 a1 a2 a3 a4) := by
  unfold execRegisterWrite
  refine outP_next ?_
  refine keep_ite ?_ ?_
  · exact h4
  · refine keep_ite ?_ ?_
    · refine State.writeWord_writes (H.sub rfl) ?_
      exact h4
    · refine keep_ite ?_ ?_
      · refine State.writeWord_writes (H.sub rfl) ?_
        refine State.writeWord_writes (H.sub rfl) ?_
        exact h4
      · exact h4

theorem execSnapshotReadLo_writes {P : State → Prop} {a0 : Owner} {a1 : BitVec 24} {a2 : Fin 9} {a3 : State} (H : Stable P 18) (h3 : P a3) :
    OutP P (execSnapshotReadLo a0 a1 a2 a3) := by
  unfold execSnapshotReadLo
  refine outP_next ?_
  refine keep_ite ?_ ?_
  · exact h3
  · refine State.busRead_writes (H.sub rfl) ?_
    exact h3

end Sys2Proof.Machine
end

