-- ==== Sys2Proof/Laws/Frames.lean ====
section
/-! SUPPORT. What every command leaves alone, what every step keeps: corollaries of the components each operation writes. -/

namespace Sys2Proof.Machine

/-- The place set of a list of parts. -/
def maskOf (l : List Part) : Nat := l.foldl (fun m p => m ||| 1 <<< p.bit) 0

/-- The frame of a set w of components: the queue and every part outside w hold what they held. -/
def FrameOf (w : Nat) (s t : State) : Prop := t.pending = s.pending ∧ ∀ p : Part, w.testBit p.bit = false → p.kept s t

theorem FrameOf.refl (w : Nat) (s : State) : FrameOf w s s := ⟨rfl, fun p _ => by cases p <;> rfl⟩

/-- A write of a component in w keeps the frame of w. -/
theorem FrameOf.step {w : Nat} {s t u : State} (q : Part) (hq : w.testBit q.bit = true) (hp : u.pending = t.pending)
    (hk : ∀ p : Part, p ≠ q → p.kept t u) (h : FrameOf w s t) : FrameOf w s u := by
  refine ⟨hp.trans h.1, fun p hw => ?_⟩
  have hne : p ≠ q := by
    rintro rfl
    rw [hq] at hw
    cases hw
  have a := hk p hne
  have b := h.2 p hw
  cases p <;> exact Eq.trans a b

theorem stable_frame (w : Nat) (s : State) (hw : w.testBit 22 = true → ∀ p ∈ Part.returned, w.testBit p.bit = true) :
    Stable (FrameOf w s) w where
  now := fun b t _ _ h => FrameOf.step (t := t) .clock b rfl (fun p hp => by cases p <;> first | rfl | exact absurd rfl hp) h
  wr := fun b t _ _ h => FrameOf.step (t := t) .registers b rfl (fun p hp => by cases p <;> first | rfl | exact absurd rfl hp) h
  reset := fun b t _ _ h => FrameOf.step (t := t) .registers b rfl (fun p hp => by cases p <;> first | rfl | exact absurd rfl hp) h
  copy := fun b t _ _ _ h => FrameOf.step (t := t) .registers b rfl (fun p hp => by cases p <;> first | rfl | exact absurd rfl hp) h
  swap := fun b t _ _ _ h => FrameOf.step (t := t) .registers b rfl (fun p hp => by cases p <;> first | rfl | exact absurd rfl hp) h
  drawn := fun b t h => FrameOf.step (t := t) .freeValues b rfl (fun p hp => by cases p <;> first | rfl | exact absurd rfl hp) h
  mode := fun b t _ h => FrameOf.step (t := t) .mode b rfl (fun p hp => by cases p <;> first | rfl | exact absurd rfl hp) h
  hif := fun b t _ h => FrameOf.step (t := t) .hostInterface b rfl (fun p hp => by cases p <;> first | rfl | exact absurd rfl hp) h
  fab := fun b t _ h => FrameOf.step (t := t) .fabric b rfl (fun p hp => by cases p <;> first | rfl | exact absurd rfl hp) h
  rack := fun b t _ h => FrameOf.step (t := t) .rack b rfl (fun p hp => by cases p <;> first | rfl | exact absurd rfl hp) h
  mgmt := fun b t _ h => FrameOf.step (t := t) .management b rfl (fun p hp => by cases p <;> first | rfl | exact absurd rfl hp) h
  flt := fun b t _ h => FrameOf.step (t := t) .faults b rfl (fun p hp => by cases p <;> first | rfl | exact absurd rfl hp) h
  start := fun b t _ h => FrameOf.step (t := t) .startup b rfl (fun p hp => by cases p <;> first | rfl | exact absurd rfl hp) h
  drive := fun b t _ h => FrameOf.step (t := t) .drive b rfl (fun p hp => by cases p <;> first | rfl | exact absurd rfl hp) h
  loop := fun b t _ h => FrameOf.step (t := t) .loops b rfl (fun p hp => by cases p <;> first | rfl | exact absurd rfl hp) h
  seq := fun b t _ h => FrameOf.step (t := t) .sequencers b rfl (fun p hp => by cases p <;> first | rfl | exact absurd rfl hp) h
  evt := fun b t _ h => FrameOf.step (t := t) .events b rfl (fun p hp => by cases p <;> first | rfl | exact absurd rfl hp) h
  hrv := fun b t _ h => FrameOf.step (t := t) .harvest b rfl (fun p hp => by cases p <;> first | rfl | exact absurd rfl hp) h
  tim := fun b t _ h => FrameOf.step (t := t) .netTime b rfl (fun p hp => by cases p <;> first | rfl | exact absurd rfl hp) h
  thm := fun b t _ h => FrameOf.step (t := t) .thermal b rfl (fun p hp => by cases p <;> first | rfl | exact absurd rfl hp) h
  lane := fun b t _ h => FrameOf.step (t := t) .lanes b rfl (fun p hp => by cases p <;> first | rfl | exact absurd rfl hp) h
  cal := fun b t _ h => FrameOf.step (t := t) .calibration b rfl (fun p hp => by cases p <;> first | rfl | exact absurd rfl hp) h
  pk := fun b t _ h => FrameOf.step (t := t) .pipeline b rfl (fun p hp => by cases p <;> first | rfl | exact absurd rfl hp) h
  pair := fun b t _ h => FrameOf.step (t := t) .pair b rfl (fun p hp => by cases p <;> first | rfl | exact absurd rfl hp) h
  cellar := fun b t _ _ h => FrameOf.step (t := t) .cellar b rfl (fun p hp => by cases p <;> first | rfl | exact absurd rfl hp) h
  bare := fun b t k hn hf hq hc _ h => by
    refine ⟨hq.trans h.1, fun p hp => ?_⟩
    have r := hw b p
    cases p with
    | clock => exact hn.trans (h.2 .clock hp)
    | freeValues => exact hf.trans (h.2 .freeValues hp)
    | cellar => exact hc.trans (h.2 .cellar hp)
    | _ => exact absurd (r (by decide)) (by rw [hp]; decide)

theorem mayWrite_mask (l : List Part) (m : Nat) (h : maskOf l = m) (p : Part) (hp : m.testBit p.bit = true) : p ∈ l := by
  have key : ∀ (l : List Part) (a : Nat), (l.foldl (fun m p => m ||| 1 <<< p.bit) a).testBit p.bit = true → a.testBit p.bit = true ∨ p ∈ l := by
    intro l
    induction l with
    | nil => intro a ha; exact .inl ha
    | cons q l ih =>
      intro a ha
      rcases ih _ ha with h1 | h1
      · rw [Nat.testBit_or, Bool.or_eq_true] at h1
        rcases h1 with h1 | h1
        · exact .inl h1
        · right
          have : q.bit = p.bit := by
            rw [Nat.one_shiftLeft, Nat.testBit_two_pow] at h1
            exact of_decide_eq_true h1
          have : q = p := by revert this; cases q <;> cases p <;> decide
          subst this
          exact List.mem_cons_self ..
      · exact .inr (List.mem_cons_of_mem _ h1)
  rcases key l 0 (by rw [← h] at hp; exact hp) with h1 | h1
  · simp at h1
  · exact h1


/-- The components a command with these parts may write, as a mask; the last bit stands for a cold start's return of every unit. -/
def maskFor (l : List Part) : Nat :=
  maskOf l ||| if Part.returned.all (fun p => l.contains p) then 4194304 else 0

/-- What is stable under the writes of a command's components holds on after the command. -/
theorem exec_writes {P : State → Prop} {s : State} (i : Instr) (H : Stable P (maskFor (mayWrite i))) (h : P s) : OutP P (exec i s) := by
  cases i with
  | registerWrite => exact execRegisterWrite_writes (Stable.sub (w := maskFor [.registers, .hostInterface, .faults, .events, .netTime, .pair]) H rfl) h
  | readClear => exact execReadClear_writes (Stable.sub (w := maskFor [.registers, .hostInterface]) H rfl) h
  | snapshotReadLo => exact execSnapshotReadLo_writes (Stable.sub (w := maskFor [.registers, .hostInterface]) H rfl) h
  | nop => exact execNop_writes (Stable.sub (w := maskFor [.registers, .hostInterface]) H rfl) h
  | shadowWriteFabMap => exact execShadowWriteFabMap_writes (Stable.sub (w := maskFor [.registers, .hostInterface, .fabric, .rack, .faults, .sequencers, .events, .netTime, .pipeline]) H rfl) h
  | shadowWriteFabCells => exact execShadowWriteFabCells_writes (Stable.sub (w := maskFor [.registers, .hostInterface, .fabric, .rack, .faults, .sequencers, .events, .netTime, .pipeline]) H rfl) h
  | shadowWriteLoopCfg => exact execShadowWriteLoopCfg_writes (Stable.sub (w := maskFor [.registers, .hostInterface, .fabric, .rack, .faults, .sequencers, .events, .netTime, .pipeline]) H rfl) h
  | shadowWriteRackSeq => exact execShadowWriteRackSeq_writes (Stable.sub (w := maskFor [.registers, .hostInterface, .fabric, .rack, .faults, .sequencers, .events, .netTime, .pipeline]) H rfl) h
  | shadowWritePipeGraph => exact execShadowWritePipeGraph_writes (Stable.sub (w := maskFor [.registers, .hostInterface, .fabric, .rack, .faults, .sequencers, .events, .netTime, .pipeline]) H rfl) h
  | shadowWritePipeTmpl => exact execShadowWritePipeTmpl_writes (Stable.sub (w := maskFor [.registers, .hostInterface, .fabric, .rack, .faults, .sequencers, .events, .netTime, .pipeline]) H rfl) h
  | shadowWritePipePort => exact execShadowWritePipePort_writes (Stable.sub (w := maskFor [.registers, .hostInterface, .fabric, .rack, .faults, .sequencers, .events, .netTime, .pipeline]) H rfl) h
  | shadowWritePipeClass => exact execShadowWritePipeClass_writes (Stable.sub (w := maskFor [.registers, .hostInterface, .fabric, .rack, .faults, .sequencers, .events, .netTime, .pipeline]) H rfl) h
  | shadowWriteSch => exact execShadowWriteSch_writes (Stable.sub (w := maskFor [.registers, .hostInterface, .fabric, .rack, .faults, .sequencers, .events, .netTime, .pipeline]) H rfl) h
  | shadowWriteLanePort => exact execShadowWriteLanePort_writes (Stable.sub (w := maskFor [.registers, .hostInterface, .fabric, .rack, .faults, .sequencers, .events, .netTime, .pipeline]) H rfl) h
  | pktSeal => exact execPktSeal_writes (Stable.sub (w := maskFor [.registers, .hostInterface, .fabric, .rack, .faults, .sequencers, .events, .netTime, .pipeline]) H rfl) h
  | timOffset => exact execTimOffset_writes (Stable.sub (w := maskFor [.registers, .hostInterface, .fabric, .rack, .faults, .sequencers, .events, .netTime, .pipeline]) H rfl) h
  | solve => exact execSolve_writes (Stable.sub (w := maskFor [.registers, .hostInterface, .fabric, .rack]) H rfl) h
  | checkOnly => exact execCheckOnly_writes (Stable.sub (w := maskFor [.registers, .hostInterface, .fabric, .rack]) H rfl) h
  | solveRackAfterAccept => exact execSolveRackAfterAccept_writes (Stable.sub (w := maskFor [.clock, .registers, .fabric]) H rfl) h
  | solveResultHeld => exact execSolveResultHeld_writes (Stable.sub (w := maskFor [.registers, .hostInterface, .fabric, .rack, .faults, .events]) H rfl) h
  | solveAbort => exact execSolveAbort_writes (Stable.sub (w := maskFor [.registers, .hostInterface, .fabric]) H rfl) h
  | failedCellMark => exact execFailedCellMark_writes (Stable.sub (w := maskFor [.fabric]) H rfl) h
  | failedCellClear => exact execFailedCellClear_writes (Stable.sub (w := maskFor [.registers, .fabric]) H rfl) h
  | faultResolveStart => exact execFaultResolveStart_writes (Stable.sub (w := maskFor [.registers, .hostInterface, .fabric, .rack, .faults, .drive, .loops, .sequencers, .events, .pipeline]) H rfl) h
  | faultResolveResult => exact execFaultResolveResult_writes (Stable.sub (w := maskFor [.registers, .fabric, .rack, .faults, .drive, .events]) H rfl) h
  | rack => exact execRack_writes (Stable.sub (w := maskFor [.registers, .hostInterface, .rack]) H rfl) h
  | rackWithdraw => exact execRackWithdraw_writes (Stable.sub (w := maskFor [.registers, .hostInterface, .fabric, .rack, .faults, .drive, .loops, .sequencers, .events, .pipeline]) H rfl) h
  | withdrawWrite => exact execWithdrawWrite_writes (Stable.sub (w := maskFor [.registers, .hostInterface, .fabric, .rack, .faults, .drive, .loops, .sequencers, .events, .pipeline]) H rfl) h
  | rackTriggerTick => exact execRackTriggerTick_writes (Stable.sub (w := maskFor [.clock, .registers, .hostInterface, .fabric, .rack, .faults, .drive, .events]) H rfl) h
  | unitPrepareReport => exact execUnitPrepareReport_writes (Stable.sub (w := maskFor [.registers, .hostInterface, .fabric, .rack, .faults, .startup, .drive, .loops, .sequencers, .events, .pipeline]) H rfl) h
  | readyCollection => exact execReadyCollection_writes (Stable.sub (w := maskFor [.clock, .registers, .rack, .startup, .drive, .loops]) H rfl) h
  | commitBroadcast => exact execCommitBroadcast_writes (Stable.sub (w := maskFor [.clock, .registers, .hostInterface, .rack, .faults, .startup, .drive, .loops, .sequencers, .events]) H rfl) h
  | commitTick => exact execCommitTick_writes (Stable.sub (w := maskFor [.clock, .registers, .freeValues, .hostInterface, .fabric, .rack, .faults, .drive, .loops, .sequencers, .events, .lanes, .calibration, .pipeline, .pair, .cellar]) H rfl) h
  | commitSkew => exact execCommitSkew_writes (Stable.sub (w := maskFor [.registers, .hostInterface, .fabric, .rack, .faults, .drive, .events]) H rfl) h
  | prepareTimeout => exact execPrepareTimeout_writes (Stable.sub (w := maskFor [.registers, .hostInterface, .fabric, .rack, .management, .faults, .startup, .drive, .loops, .sequencers, .events, .pipeline, .pair]) H rfl) h
  | pendingTriggerJudged => exact execPendingTriggerJudged_writes (Stable.sub (w := maskFor [.clock, .registers, .hostInterface, .fabric, .rack, .faults, .drive, .events]) H rfl) h
  | limpDeferralEnd => exact execLimpDeferralEnd_writes (Stable.sub (w := maskFor [.clock, .registers, .hostInterface, .fabric, .rack, .faults, .drive, .events]) H rfl) h
  | fdbInsert => exact execFdbInsert_writes (Stable.sub (w := maskFor [.registers, .freeValues, .hostInterface, .pipeline, .pair, .cellar]) H rfl) h
  | fdbRemove => exact execFdbRemove_writes (Stable.sub (w := maskFor [.registers, .freeValues, .hostInterface, .pipeline, .pair, .cellar]) H rfl) h
  | fdbRead => exact execFdbRead_writes (Stable.sub (w := maskFor [.registers, .hostInterface]) H rfl) h
  | fdbFlush => exact execFdbFlush_writes (Stable.sub (w := maskFor [.registers, .freeValues, .hostInterface, .pipeline, .pair, .cellar]) H rfl) h
  | rehash => exact execRehash_writes (Stable.sub (w := maskFor [.registers, .freeValues, .hostInterface, .pipeline, .cellar]) H rfl) h
  | fdbDump => exact execFdbDump_writes (Stable.sub (w := maskFor [.registers, .hostInterface]) H rfl) h
  | lpmInsert => exact execLpmInsert_writes (Stable.sub (w := maskFor [.registers, .hostInterface, .pipeline, .pair]) H rfl) h
  | lpmRemove => exact execLpmRemove_writes (Stable.sub (w := maskFor [.registers, .hostInterface, .pipeline, .pair]) H rfl) h
  | streamWrite => exact execStreamWrite_writes (Stable.sub (w := maskFor [.registers, .hostInterface, .cellar]) H rfl) h
  | rehashSwap => exact execRehashSwap_writes (Stable.sub (w := maskFor [.registers, .freeValues, .hostInterface, .pipeline, .pair, .cellar]) H rfl) h
  | counterDump => exact execCounterDump_writes (Stable.sub (w := maskFor [.registers, .hostInterface, .pipeline, .cellar]) H rfl) h
  | calRun => exact execCalRun_writes (Stable.sub (w := maskFor [.registers, .hostInterface, .calibration]) H rfl) h
  | calRunAbort => exact execCalRunAbort_writes (Stable.sub (w := maskFor [.registers, .hostInterface, .calibration]) H rfl) h
  | calSave => exact execCalSave_writes (Stable.sub (w := maskFor [.registers, .hostInterface]) H rfl) h
  | calRestore => exact execCalRestore_writes (Stable.sub (w := maskFor [.registers, .hostInterface, .calibration]) H rfl) h
  | harvestArm => exact execHarvestArm_writes (Stable.sub (w := maskFor [.registers, .hostInterface, .harvest]) H rfl) h
  | harvestStop => exact execHarvestStop_writes (Stable.sub (w := maskFor [.registers, .hostInterface, .harvest]) H rfl) h
  | harvestForce => exact execHarvestForce_writes (Stable.sub (w := maskFor [.registers, .hostInterface, .harvest]) H rfl) h
  | harvestRead => exact execHarvestRead_writes (Stable.sub (w := maskFor [.registers, .hostInterface, .faults, .events]) H rfl) h
  | logRead => exact execLogRead_writes (Stable.sub (w := maskFor [.registers, .hostInterface]) H rfl) h
  | imageWrite => exact execImageWrite_writes (Stable.sub (w := maskFor [.registers, .hostInterface, .management]) H rfl) h
  | imageCommit => exact execImageCommit_writes (Stable.sub (w := maskFor [.registers, .hostInterface, .management]) H rfl) h
  | imageConfirm => exact execImageConfirm_writes (Stable.sub (w := maskFor [.registers, .hostInterface, .management]) H rfl) h
  | imageSelect => exact execImageSelect_writes (Stable.sub (w := maskFor [.registers, .hostInterface, .management]) H rfl) h
  | modeSetLimp => exact execModeSetLimp_writes (Stable.sub (w := maskFor [.registers, .hostInterface, .startup]) H rfl) h
  | modeSetServe => exact execModeSetServe_writes (Stable.sub (w := maskFor [.registers, .hostInterface, .startup]) H rfl) h
  | modeSetDormant => exact execModeSetDormant_writes (Stable.sub (w := maskFor [.registers, .hostInterface, .startup]) H rfl) h
  | modeSetWarmStart => exact execModeSetWarmStart_writes (Stable.sub (w := maskFor [.registers, .hostInterface, .startup]) H rfl) h
  | modeSetColdStart => exact execModeSetColdStart_writes (Stable.sub (w := maskFor [.registers, .hostInterface, .startup]) H rfl) h
  | pairExchange => exact execPairExchange_writes (Stable.sub (w := maskFor [.registers, .hostInterface, .startup, .pair]) H rfl) h
  | pairResync => exact execPairResync_writes (Stable.sub (w := maskFor [.registers, .hostInterface, .pair]) H rfl) h
  | faultAck => exact execFaultAck_writes (Stable.sub (w := maskFor [.registers, .hostInterface, .faults]) H rfl) h
  | faultRelease => exact execFaultRelease_writes (Stable.sub (w := maskFor [.registers, .hostInterface, .fabric, .rack, .faults, .drive, .events, .lanes, .calibration]) H rfl) h
  | faultAckUpTo => exact execFaultAckUpTo_writes (Stable.sub (w := maskFor [.registers, .hostInterface, .faults]) H rfl) h
  | doorbellPoll => exact execDoorbellPoll_writes (Stable.sub (w := maskFor [.registers, .hostInterface]) H rfl) h
  | hifNudge => exact execHifNudge_writes (Stable.sub (w := maskFor [.hostInterface]) H rfl) h
  | descriptorFetch => exact execDescriptorFetch_writes (Stable.sub (w := maskFor [.registers, .hostInterface]) H rfl) h
  | completionWrite => exact execCompletionWrite_writes (Stable.sub (w := maskFor [.registers, .hostInterface]) H rfl) h
  | beaconWrite => exact execBeaconWrite_writes (Stable.sub (w := maskFor [.hostInterface]) H rfl) h
  | hostMemoryError => exact execHostMemoryError_writes (Stable.sub (w := maskFor [.registers, .hostInterface]) H rfl) h
  | attnAck => exact execAttnAck_writes (Stable.sub (w := maskFor [.registers]) H rfl) h
  | hifEnable => exact execHifEnable_writes (Stable.sub (w := maskFor [.registers, .hostInterface]) H rfl) h
  | sqEnable => exact execSqEnable_writes (Stable.sub (w := maskFor [.registers, .hostInterface]) H rfl) h
  | cqEnable => exact execCqEnable_writes (Stable.sub (w := maskFor [.registers, .hostInterface]) H rfl) h
  | busMasterDisable => exact execBusMasterDisable_writes (Stable.sub (w := maskFor [.hostInterface]) H rfl) h
  | softReset => exact execSoftReset_writes (Stable.sub (w := maskFor [.registers, .hostInterface]) H rfl) h
  | functionLevelReset => exact execFunctionLevelReset_writes (Stable.sub (w := maskFor [.registers, .hostInterface]) H rfl) h
  | hotReset => exact execHotReset_writes (Stable.sub (w := maskFor [.registers, .hostInterface]) H rfl) h
  | pcieLinkLoss => exact execPcieLinkLoss_writes (Stable.sub (w := maskFor [.registers, .hostInterface]) H rfl) h
  | perstNAssert => exact execPerstNAssert_writes (Stable.sub (w := maskFor [.registers, .hostInterface]) H rfl) h
  | d3hotEntry => exact execD3hotEntry_writes (Stable.sub (w := maskFor [.registers, .hostInterface]) H rfl) h
  | hostDirectDrive => exact execHostDirectDrive_writes (Stable.sub (w := maskFor [.registers, .drive]) H rfl) h
  | rangeChange => exact execRangeChange_writes (Stable.sub (w := maskFor [.registers, .drive]) H rfl) h
  | rangeBreakEnd => exact execRangeBreakEnd_writes (Stable.sub (w := maskFor [.registers, .drive]) H rfl) h
  | drvLimitDetect => exact execDrvLimitDetect_writes (Stable.sub (w := maskFor [.registers, .faults, .events]) H rfl) h
  | drvOpenDetect => exact execDrvOpenDetect_writes (Stable.sub (w := maskFor [.registers, .faults, .events]) H rfl) h
  | monitorConversionDone => exact execMonitorConversionDone_writes (Stable.sub (w := maskFor [.registers]) H rfl) h
  | spareSwap => exact execSpareSwap_writes (Stable.sub (w := maskFor [.registers, .drive]) H rfl) h
  | hkTimerTrigger => exact execHkTimerTrigger_writes (Stable.sub (w := maskFor [.registers, .drive]) H rfl) h
  | hkConverterEdge => exact execHkConverterEdge_writes (Stable.sub (w := maskFor [.registers, .drive]) H rfl) h
  | hkConversionDone => exact execHkConversionDone_writes (Stable.sub (w := maskFor [.registers, .freeValues, .drive, .thermal]) H rfl) h
  | injectedConversionDone => exact execInjectedConversionDone_writes (Stable.sub (w := maskFor [.registers, .freeValues, .drive, .events, .thermal]) H rfl) h
  | loopFrameStart => exact execLoopFrameStart_writes (Stable.sub (w := maskFor [.registers, .drive, .loops, .sequencers, .thermal]) H rfl) h
  | ffStale => exact execFfStale_writes (Stable.sub (w := maskFor [.faults, .loops, .events]) H rfl) h
  | loopGroupWindow => exact execLoopGroupWindow_writes (Stable.sub (w := maskFor [.registers, .faults, .drive, .loops, .events]) H rfl) h
  | acqTimeout => exact execAcqTimeout_writes (Stable.sub (w := maskFor [.registers, .faults, .loops, .events]) H rfl) h
  | loopLaneLost => exact execLoopLaneLost_writes (Stable.sub (w := maskFor [.registers, .faults, .loops, .events]) H rfl) h
  | loopCmdReacquire => exact execLoopCmdReacquire_writes (Stable.sub (w := maskFor [.registers, .loops]) H rfl) h
  | seqCmdStart => exact execSeqCmdStart_writes (Stable.sub (w := maskFor [.registers, .sequencers]) H rfl) h
  | seqCmdStop => exact execSeqCmdStop_writes (Stable.sub (w := maskFor [.registers, .faults, .loops, .sequencers, .events]) H rfl) h
  | seqCmdJump => exact execSeqCmdJump_writes (Stable.sub (w := maskFor [.registers]) H rfl) h
  | seqStartTick => exact execSeqStartTick_writes (Stable.sub (w := maskFor [.registers, .faults, .loops, .sequencers, .events]) H rfl) h
  | seqPassEnd => exact execSeqPassEnd_writes (Stable.sub (w := maskFor [.registers, .faults, .loops, .sequencers, .events]) H rfl) h
  | seqStreamDataArrival => exact execSeqStreamDataArrival_writes (Stable.sub (w := maskFor [.clock, .registers, .faults, .drive, .sequencers, .events]) H rfl) h
  | seqStarveAbort => exact execSeqStarveAbort_writes (Stable.sub (w := maskFor [.registers, .faults, .loops, .sequencers, .events]) H rfl) h
  | seqSyncLost => exact execSeqSyncLost_writes (Stable.sub (w := maskFor [.faults, .events]) H rfl) h
  | seqMemDataAccess => exact execSeqMemDataAccess_writes (Stable.sub (w := maskFor [.registers, .hostInterface, .sequencers]) H rfl) h
  | tastingMeasurementDone => exact execTastingMeasurementDone_writes (Stable.sub (w := maskFor [.registers, .hostInterface, .faults, .drive, .events, .calibration]) H rfl) h
  | stagedValueInForce => exact execStagedValueInForce_writes (Stable.sub (w := maskFor [.registers, .calibration]) H rfl) h
  | hkSelfTasting => exact execHkSelfTasting_writes (Stable.sub (w := maskFor [.registers, .hostInterface, .faults, .drive, .events, .calibration]) H rfl) h
  | frameIngress => exact execFrameIngress_writes (Stable.sub (w := maskFor [.clock, .registers, .freeValues, .netTime, .thermal, .pipeline, .cellar]) H rfl) h
  | frameEnd => exact execFrameEnd_writes (Stable.sub (w := maskFor [.clock, .registers, .freeValues, .netTime, .pipeline, .cellar]) H rfl) h
  | cellarReadAnswer => exact execCellarReadAnswer_writes (Stable.sub (w := maskFor [.clock, .registers, .freeValues, .netTime, .pipeline, .cellar]) H rfl) h
  | readLimitExpiry => exact execReadLimitExpiry_writes (Stable.sub (w := maskFor [.clock, .registers, .freeValues, .faults, .events, .netTime, .pipeline, .cellar]) H rfl) h
  | ingressFailAfterCommit => exact execIngressFailAfterCommit_writes (Stable.sub (w := maskFor [.clock, .registers, .pipeline]) H rfl) h
  | learnNoticeApply => exact execLearnNoticeApply_writes (Stable.sub (w := maskFor [.registers, .freeValues, .hostInterface, .pipeline, .pair, .cellar]) H rfl) h
  | stashPlacement => exact execStashPlacement_writes (Stable.sub (w := maskFor [.registers, .freeValues, .hostInterface, .pipeline, .cellar]) H rfl) h
  | ageSweep => exact execAgeSweep_writes (Stable.sub (w := maskFor [.registers, .freeValues, .hostInterface, .pipeline, .pair, .cellar]) H rfl) h
  | hitWriteback => exact execHitWriteback_writes (Stable.sub (w := maskFor [.pipeline, .cellar]) H rfl) h
  | egressSelect => exact execEgressSelect_writes (Stable.sub (w := maskFor [.clock, .registers, .freeValues, .netTime, .pipeline, .cellar]) H rfl) h
  | gateEntryStart => exact execGateEntryStart_writes (Stable.sub (w := maskFor [.clock, .registers, .pipeline, .cellar]) H rfl) h
  | counterFold => exact execCounterFold_writes (Stable.sub (w := maskFor [.pipeline, .cellar]) H rfl) h
  | schIndSelWrite => exact execSchIndSelWrite_writes (Stable.sub (w := maskFor [.registers]) H rfl) h
  | timSet => exact execTimSet_writes (Stable.sub (w := maskFor [.clock, .registers, .netTime]) H rfl) h
  | timAdd => exact execTimAdd_writes (Stable.sub (w := maskFor [.clock, .registers, .netTime]) H rfl) h
  | timClearInt => exact execTimClearInt_writes (Stable.sub (w := maskFor [.registers, .netTime]) H rfl) h
  | timSnapCmd => exact execTimSnapCmd_writes (Stable.sub (w := maskFor [.clock, .registers, .netTime]) H rfl) h
  | ppsInputEdge => exact execPpsInputEdge_writes (Stable.sub (w := maskFor [.clock, .registers, .faults, .events, .netTime]) H rfl) h
  | ppsLost => exact execPpsLost_writes (Stable.sub (w := maskFor [.faults, .events, .netTime]) H rfl) h
  | servoHoldover => exact execServoHoldover_writes (Stable.sub (w := maskFor [.registers, .faults, .events]) H rfl) h
  | compareFire => exact execCompareFire_writes (Stable.sub (w := maskFor [.clock, .registers, .events, .netTime]) H rfl) h
  | ppsoFall => exact execPpsoFall_writes (Stable.sub (w := maskFor [.clock, .netTime]) H rfl) h
  | compareTargetHiWrite => exact execCompareTargetHiWrite_writes (Stable.sub (w := maskFor [.registers, .events, .netTime]) H rfl) h
  | tsqHeadLatch => exact execTsqHeadLatch_writes (Stable.sub (w := maskFor [.registers, .hostInterface]) H rfl) h
  | tsqRecordRemove => exact execTsqRecordRemove_writes (Stable.sub (w := maskFor [.registers, .hostInterface, .netTime]) H rfl) h
  | oscCompUpdate => exact execOscCompUpdate_writes (Stable.sub (w := maskFor [.registers, .netTime]) H rfl) h
  | bringupStepDone => exact execBringupStepDone_writes (Stable.sub (w := maskFor [.registers, .events, .lanes]) H rfl) h
  | bringupStepLimit => exact execBringupStepLimit_writes (Stable.sub (w := maskFor [.registers, .lanes, .calibration]) H rfl) h
  | linkDown => exact execLinkDown_writes (Stable.sub (w := maskFor [.registers, .faults, .events, .lanes, .calibration]) H rfl) h
  | laneCfgWrite => exact execLaneCfgWrite_writes (Stable.sub (w := maskFor [.registers, .faults, .events, .lanes, .calibration]) H rfl) h
  | lanePrbsWrite => exact execLanePrbsWrite_writes (Stable.sub (w := maskFor [.registers]) H rfl) h
  | lpiTxEnter => exact execLpiTxEnter_writes (Stable.sub (w := maskFor [.registers]) H rfl) h
  | lpiTxWake => exact execLpiTxWake_writes (Stable.sub (w := maskFor [.registers]) H rfl) h
  | lpiRxSleep => exact execLpiRxSleep_writes (Stable.sub (w := maskFor [.registers]) H rfl) h
  | lpiRxWake => exact execLpiRxWake_writes (Stable.sub (w := maskFor [.registers]) H rfl) h
  | tapLos => exact execTapLos_writes (Stable.sub (w := maskFor [.registers, .faults, .events, .lanes, .calibration]) H rfl) h
  | tapLaserLow => exact execTapLaserLow_writes (Stable.sub (w := maskFor [.registers, .faults, .events]) H rfl) h
  | tapLaserRestore => exact execTapLaserRestore_writes (Stable.sub (w := maskFor [.registers]) H rfl) h
  | tapTxFault => exact execTapTxFault_writes (Stable.sub (w := maskFor [.registers, .faults, .events]) H rfl) h
  | lanePllUnlock => exact execLanePllUnlock_writes (Stable.sub (w := maskFor [.faults, .events]) H rfl) h
  | eviEdge => exact execEviEdge_writes (Stable.sub (w := maskFor [.clock, .registers, .events]) H rfl) h
  | evtSwPulse => exact execEvtSwPulse_writes (Stable.sub (w := maskFor [.events]) H rfl) h
  | eventActivation => exact execEventActivation_writes (Stable.sub (w := maskFor [.clock, .registers, .freeValues, .hostInterface, .rack, .faults, .startup, .drive, .sequencers, .events, .harvest]) H rfl) h
  | evoPulseEnd => exact execEvoPulseEnd_writes (Stable.sub (w := maskFor [.clock, .registers, .events]) H rfl) h
  | evtChOwnWrite => exact execEvtChOwnWrite_writes (Stable.sub (w := maskFor [.registers, .faults]) H rfl) h
  | evtChCfgWrite => exact execEvtChCfgWrite_writes (Stable.sub (w := maskFor [.registers, .faults]) H rfl) h
  | hrvPretriggerFull => exact execHrvPretriggerFull_writes (Stable.sub (w := maskFor [.registers, .harvest]) H rfl) h
  | hrvTrigger => exact execHrvTrigger_writes (Stable.sub (w := maskFor [.registers, .events, .harvest, .cellar]) H rfl) h
  | hrvRecordComplete => exact execHrvRecordComplete_writes (Stable.sub (w := maskFor [.registers, .hostInterface, .events, .harvest]) H rfl) h
  | hrvRearmEnd => exact execHrvRearmEnd_writes (Stable.sub (w := maskFor [.registers, .harvest]) H rfl) h
  | hrvGap => exact execHrvGap_writes (Stable.sub (w := maskFor [.faults, .events, .harvest]) H rfl) h
  | hrvConfigWrite => exact execHrvConfigWrite_writes (Stable.sub (w := maskFor [.registers]) H rfl) h
  | faultReport => exact execFaultReport_writes (Stable.sub (w := maskFor [.registers, .mode, .freeValues, .hostInterface, .fabric, .rack, .management, .faults, .startup, .drive, .loops, .sequencers, .events, .netTime, .lanes, .calibration, .pipeline, .pair, .cellar]) H rfl) h
  | faultClassification => exact execFaultClassification_writes (Stable.sub (w := maskFor [.registers, .mode, .hostInterface, .fabric, .rack, .management, .faults, .startup, .drive, .loops, .sequencers, .events, .calibration, .pipeline, .pair]) H rfl) h
  | safeReadback => exact execSafeReadback_writes (Stable.sub (w := maskFor [.clock, .registers, .faults, .drive, .loops, .sequencers, .events]) H rfl) h
  | checkerInjection => exact execCheckerInjection_writes (Stable.sub (w := maskFor [.registers, .faults]) H rfl) h
  | checkerDead => exact execCheckerDead_writes (Stable.sub (w := maskFor [.clock, .registers, .faults, .events]) H rfl) h
  | fltTestInjWrite => exact execFltTestInjWrite_writes (Stable.sub (w := maskFor [.registers, .faults]) H rfl) h
  | configScrub => exact execConfigScrub_writes (Stable.sub (w := maskFor [.registers, .faults, .events]) H rfl) h
  | lkPropose => exact execLkPropose_writes (Stable.sub (w := maskFor [.registers, .faults]) H rfl) h
  | lkConfirm => exact execLkConfirm_writes (Stable.sub (w := maskFor [.registers, .management, .faults, .events]) H rfl) h
  | lightPathCheck => exact execLightPathCheck_writes (Stable.sub (w := maskFor [.faults, .events]) H rfl) h
  | referenceLossMeasure => exact execReferenceLossMeasure_writes (Stable.sub (w := maskFor [.clock, .faults]) H rfl) h
  | portPowerUpdate => exact execPortPowerUpdate_writes (Stable.sub (w := maskFor [.registers]) H rfl) h
  | supplyMonitorSample => exact execSupplyMonitorSample_writes (Stable.sub (w := maskFor [.faults, .events]) H rfl) h
  | clockMonitorWindow => exact execClockMonitorWindow_writes (Stable.sub (w := maskFor [.faults, .events]) H rfl) h
  | latchFlagClear => exact execLatchFlagClear_writes (Stable.sub (w := maskFor [.registers, .faults]) H rfl) h
  | watchdogExpiry => exact execWatchdogExpiry_writes (Stable.sub (w := maskFor [.registers, .mode, .freeValues, .hostInterface, .fabric, .rack, .management, .faults, .startup, .drive, .loops, .sequencers, .events, .netTime, .lanes, .calibration, .pipeline, .pair, .cellar]) H rfl) h
  | processorRestartDone => exact execProcessorRestartDone_writes (Stable.sub (w := maskFor [.registers, .fabric, .management, .faults, .events]) H rfl) h
  | busDefaultAccess => exact execBusDefaultAccess_writes (Stable.sub (w := maskFor [.registers, .faults, .events]) H rfl) h
  | mgtRemapWrite => exact execMgtRemapWrite_writes (Stable.sub (w := maskFor [.registers, .management]) H rfl) h
  | norPageProgramDone => exact execNorPageProgramDone_writes (Stable.sub (w := maskFor (Part.returned)) H rfl) h
  | norEraseDone => exact execNorEraseDone_writes (Stable.sub (w := maskFor [.registers, .hostInterface, .management, .faults, .events]) H rfl) h
  | logRecordWrite => exact execLogRecordWrite_writes (Stable.sub (w := maskFor [.registers, .management, .faults, .events]) H rfl) h
  | slotEraseDone => exact execSlotEraseDone_writes (Stable.sub (w := maskFor [.registers, .hostInterface, .management]) H rfl) h
  | sensorSweep => exact execSensorSweep_writes (Stable.sub (w := maskFor [.registers, .hostInterface, .management, .faults, .startup, .events, .thermal]) H rfl) h
  | norTempConversion => exact execNorTempConversion_writes (Stable.sub (w := maskFor [.registers, .hostInterface, .management, .faults, .events, .thermal]) H rfl) h
  | powerOn => exact execPowerOn_writes (Stable.sub (w := maskFor ([.cellar] ++ Part.returned)) H rfl) h
  | coldResetInput => exact execColdResetInput_writes (Stable.sub (w := maskFor (Part.returned)) H rfl) h
  | evi0Wake => exact execEvi0Wake_writes (Stable.sub (w := maskFor (Part.returned)) H rfl) h
  | testPortReset => exact execTestPortReset_writes (Stable.sub (w := maskFor []) H rfl) h
  | pfailAssert => exact execPfailAssert_writes (Stable.sub (w := maskFor [.registers, .hostInterface, .management, .events]) H rfl) h
  | pfailRelease => exact execPfailRelease_writes (Stable.sub (w := maskFor [.registers, .hostInterface, .management]) H rfl) h
  | holdupExhausted => exact execHoldupExhausted_writes (Stable.sub (w := maskFor ([.cellar] ++ Part.returned)) H rfl) h
  | coldStart => exact execColdStart_writes (Stable.sub (w := maskFor [.registers, .mode, .hostInterface, .fabric, .rack, .management, .faults, .startup, .drive, .loops, .sequencers, .events, .calibration, .pipeline, .pair, .cellar]) H rfl) h
  | acqImageAdvance => exact execAcqImageAdvance_writes (Stable.sub (w := maskFor [.clock, .registers, .faults, .startup, .drive, .loops, .sequencers, .events]) H rfl) h
  | warmStart => exact execWarmStart_writes (Stable.sub (w := maskFor [.registers, .hostInterface, .fabric, .rack, .management, .faults, .startup, .loops, .sequencers, .events, .harvest, .lanes, .calibration, .pipeline, .pair, .cellar]) H rfl) h
  | startCommit => exact execStartCommit_writes (Stable.sub (w := maskFor [.clock, .registers, .mode, .hostInterface, .fabric, .management, .faults, .startup, .drive, .events, .lanes, .calibration, .pair]) H rfl) h
  | negotiateTimeout => exact execNegotiateTimeout_writes (Stable.sub (w := maskFor [.clock, .registers, .hostInterface, .events, .pair]) H rfl) h
  | modeChangeTriggerTick => exact execModeChangeTriggerTick_writes (Stable.sub (w := maskFor [.clock, .registers, .hostInterface, .management, .faults, .startup, .events, .pair]) H rfl) h
  | modeChangeCommitTick => exact execModeChangeCommitTick_writes (Stable.sub (w := maskFor ([.clock] ++ Part.returned)) H rfl) h
  | dormantPowerDown => exact execDormantPowerDown_writes (Stable.sub (w := maskFor ([.cellar] ++ Part.returned)) H rfl) h
  | holdReleaseSeen => exact execHoldReleaseSeen_writes (Stable.sub (w := maskFor [.clock, .registers, .pair]) H rfl) h
  | takeoverGuardEnd => exact execTakeoverGuardEnd_writes (Stable.sub (w := maskFor [.clock, .registers, .hostInterface, .startup, .pair]) H rfl) h
  | pairHoldMismatch => exact execPairHoldMismatch_writes (Stable.sub (w := maskFor [.registers, .faults, .events, .pair]) H rfl) h
  | pairLinkLost => exact execPairLinkLost_writes (Stable.sub (w := maskFor [.faults, .events, .pair]) H rfl) h
  | graftLinkUp => exact execGraftLinkUp_writes (Stable.sub (w := maskFor [.registers, .hostInterface, .events, .pair]) H rfl) h
  | mirrorRecord => exact execMirrorRecord_writes (Stable.sub (w := maskFor [.registers, .freeValues, .hostInterface, .fabric, .rack, .faults, .drive, .sequencers, .events, .pipeline, .pair, .cellar]) H rfl) h
  | resyncComplete => exact execResyncComplete_writes (Stable.sub (w := maskFor [.registers, .hostInterface, .pair]) H rfl) h
  | graftTimeSample => exact execGraftTimeSample_writes (Stable.sub (w := maskFor [.clock, .registers, .faults, .events, .netTime]) H rfl) h
  | drillHour => exact execDrillHour_writes (Stable.sub (w := maskFor [.registers]) H rfl) h
  | busMasterEnable => exact execBusMasterEnable_writes (Stable.sub (w := maskFor [.hostInterface]) H rfl) h
  | perstNRelease => exact execPerstNRelease_writes (Stable.sub (w := maskFor [.hostInterface]) H rfl) h
  | pcieLinkUp => exact execPcieLinkUp_writes (Stable.sub (w := maskFor [.registers, .hostInterface]) H rfl) h
  | remoteFault => exact execRemoteFault_writes (Stable.sub (w := maskFor [.registers]) H rfl) h
  | graftLaneDown => exact execGraftLaneDown_writes (Stable.sub (w := maskFor [.clock, .registers, .hostInterface, .events, .pair]) H rfl) h
  | exchangeRelayed => exact execExchangeRelayed_writes (Stable.sub (w := maskFor [.registers, .hostInterface, .startup, .pair]) H rfl) h
  | toneUpdate => exact execToneUpdate_writes (Stable.sub (w := maskFor [.clock, .sequencers]) H rfl) h
  | sequenceSample => exact execSequenceSample_writes (Stable.sub (w := maskFor [.clock, .registers, .faults, .drive, .loops, .sequencers, .events]) H rfl) h

end Sys2Proof.Machine
end

