-- ==== Sys2Proof/Laws/Hif.lean ====
section
/-! SUPPORT. What starting and ending a ring request do: one lemma each for the start of a descriptor, for launch, and for an end. -/

namespace Sys2Proof.Machine

theorem State.startedDesc_fst (s : State) (n : Nat) (d : Desc) : (s.startedDesc n d).1 = s.nextReq n := rfl
theorem State.startedDesc_snd (s : State) (n : Nat) (d : Desc) : (s.startedDesc n d).2 = s.begun n d := rfl

/-! ### The start of a descriptor -/

@[simp] theorem State.begun_now (s : State) (n : Nat) (d : Desc) : (s.begun n d).now = s.now := rfl
@[simp] theorem State.begun_mode (s : State) (n : Nat) (d : Desc) : (s.begun n d).mode = s.mode := rfl
@[simp] theorem State.begun_freeCtr (s : State) (n : Nat) (d : Desc) : (s.begun n d).freeCtr = s.freeCtr := rfl
@[simp] theorem State.begun_fab (s : State) (n : Nat) (d : Desc) : (s.begun n d).fab = s.fab := rfl
@[simp] theorem State.begun_rack (s : State) (n : Nat) (d : Desc) : (s.begun n d).rack = s.rack := rfl
@[simp] theorem State.begun_mgmt (s : State) (n : Nat) (d : Desc) : (s.begun n d).mgmt = s.mgmt := rfl
@[simp] theorem State.begun_flt (s : State) (n : Nat) (d : Desc) : (s.begun n d).flt = s.flt := rfl
@[simp] theorem State.begun_start (s : State) (n : Nat) (d : Desc) : (s.begun n d).start = s.start := rfl
@[simp] theorem State.begun_drive (s : State) (n : Nat) (d : Desc) : (s.begun n d).drive = s.drive := rfl
@[simp] theorem State.begun_loop (s : State) (n : Nat) (d : Desc) : (s.begun n d).loop = s.loop := rfl
@[simp] theorem State.begun_seq (s : State) (n : Nat) (d : Desc) : (s.begun n d).seq = s.seq := rfl
@[simp] theorem State.begun_evt (s : State) (n : Nat) (d : Desc) : (s.begun n d).evt = s.evt := rfl
@[simp] theorem State.begun_hrv (s : State) (n : Nat) (d : Desc) : (s.begun n d).hrv = s.hrv := rfl
@[simp] theorem State.begun_tim (s : State) (n : Nat) (d : Desc) : (s.begun n d).tim = s.tim := rfl
@[simp] theorem State.begun_thm (s : State) (n : Nat) (d : Desc) : (s.begun n d).thm = s.thm := rfl
@[simp] theorem State.begun_lane (s : State) (n : Nat) (d : Desc) : (s.begun n d).lane = s.lane := rfl
@[simp] theorem State.begun_cal (s : State) (n : Nat) (d : Desc) : (s.begun n d).cal = s.cal := rfl
@[simp] theorem State.begun_pk (s : State) (n : Nat) (d : Desc) : (s.begun n d).pk = s.pk := rfl
@[simp] theorem State.begun_pair (s : State) (n : Nat) (d : Desc) : (s.begun n d).pair = s.pair := rfl
@[simp] theorem State.begun_cellar (s : State) (n : Nat) (d : Desc) : (s.begun n d).cellar = s.cellar := rfl
@[simp] theorem State.begun_pending (s : State) (n : Nat) (d : Desc) : (s.begun n d).pending = s.pending := rfl

/-- Starting a descriptor leaves every register but its ring's status. -/
theorem State.begun_rd (s : State) (n : Nat) (d : Desc) (o : Nat) (h : o ≠ R.HIF_SQ_STATUS n) : (s.begun n d).rd o = s.rd o := by
  unfold State.begun State.startedDesc
  simp only
  rw [State.rd_setF_ne _ _ _ _ _ h, State.rd_setF_ne _ _ _ _ _ h, State.rd_mk]
  rfl

theorem State.begun_fld (s : State) (n : Nat) (d : Desc) (o : Nat) (g : Fld) (h : o ≠ R.HIF_SQ_STATUS n) :
    (s.begun n d).fld o g = s.fld o g := by
  unfold State.fld; rw [State.begun_rd s n d o h]

@[simp] theorem State.begun_sqRing (s : State) (n : Nat) (d : Desc) :
    (s.begun n d).sqRing n = { s.sqRing n with fetched := (s.sqRing n).fetched.drop 1, exec := some (s.hif.job, d) } :=
  Tab.get_set_same _ _ _ _

theorem State.begun_sqRing_ne (s : State) (n k : Nat) (d : Desc) (h : k ≠ n) : (s.begun n d).sqRing k = s.sqRing k :=
  Tab.get_set_ne _ _ _ _ _ h

@[simp] theorem State.begun_cqRing (s : State) (n k : Nat) (d : Desc) : (s.begun n d).cqRing k = s.cqRing k := rfl

/-- HEAD has passed the descriptor, and the ring is busy. -/
theorem State.begun_status (s : State) (n : Nat) (d : Desc) :
    (s.begun n d).fld (R.HIF_SQ_STATUS n) F.HIF_SQ_STATUS_HEAD = (s.fld (R.HIF_SQ_STATUS n) F.HIF_SQ_STATUS_HEAD + 1) % s.sqSize n % 2 ^ 16 ∧
    (s.begun n d).fld (R.HIF_SQ_STATUS n) F.HIF_SQ_STATUS_BUSY = 1 := by
  unfold State.begun State.startedDesc
  refine ⟨?_, ?_⟩
  · simp only
    rw [State.fld_setF_disjoint _ _ _ _ _ (by decide) (by decide), State.fld_setF_same _ _ _ _ (by decide)]
    simp [State.fld, State.rd, State.setSq, State.sqSize]
  · simp only
    rw [State.fld_setF_same _ _ _ _ (by decide)]
    rfl

/-! ### Launch -/

/-- A descriptor that its ring offers, and that selects the row, runs the row's meaning in the state in which it has begun. -/
theorem State.launch_offered (s : State) (n : Nat) (d : Desc) (want needsBuf bufOk : Bool) (k : Req → State → State)
    (hw : want = true) (h : s.offers n d needsBuf bufOk = true) :
    s.launch n d want needsBuf bufOk k = k (s.nextReq n) (s.begun n d) := by
  simp only [State.offers, Bool.and_eq_true, beq_iff_eq, Option.isNone_iff_eq_none] at h
  obtain ⟨⟨⟨⟨hc, hf⟩, hr⟩, ht⟩, hh⟩ := h
  have hh' : (s.begun n d).headerResult d needsBuf bufOk = none := by
    rw [← hh]
    unfold State.headerResult State.inRecovery State.flag
    rw [State.begun_fld s n d _ _ (by simp <;> omega)]
  unfold State.launch
  rw [hw, hc, hf, hr, ht]
  simp only [Bool.and_true, BEq.rfl, if_true, Option.isNone_none]
  unfold State.begun at hh' ⊢
  rcases hs : s.startedDesc n d with ⟨r, u⟩
  rw [hs] at hh'
  have hr' : r = s.nextReq n := by
    have := congrArg Prod.fst hs
    simpa [State.startedDesc_fst] using this.symm
  subst hr'
  simp [hh']

/-- A descriptor that its ring may not start, or that is not its next, changes nothing. -/
theorem State.launch_held (s : State) (n : Nat) (d : Desc) (want needsBuf bufOk : Bool) (k : Req → State → State)
    (h : (want && !(d.opcode == 4 && s.restarting 3) && s.canStart n && (s.sqRing n).fetched.head? == some d && (s.rowless d).isNone) = false) :
    s.launch n d want needsBuf bufOk k = s := by
  unfold State.launch; rw [h]; rfl

/-! ### The end of a request -/

@[simp] theorem State.finish_now (s : State) (r : Req) (c : Nat) (w : List Word) (l : Nat) (v : Bool) :
    (s.finish r c w l v).now = s.now := by
  unfold State.finish; dsimp only; split <;> (try split) <;> (try split) <;> rfl
@[simp] theorem State.finish_mode (s : State) (r : Req) (c : Nat) (w : List Word) (l : Nat) (v : Bool) :
    (s.finish r c w l v).mode = s.mode := by
  unfold State.finish; dsimp only; split <;> (try split) <;> (try split) <;> rfl
@[simp] theorem State.finish_freeCtr (s : State) (r : Req) (c : Nat) (w : List Word) (l : Nat) (v : Bool) :
    (s.finish r c w l v).freeCtr = s.freeCtr := by
  unfold State.finish; dsimp only; split <;> (try split) <;> (try split) <;> rfl
@[simp] theorem State.finish_fab (s : State) (r : Req) (c : Nat) (w : List Word) (l : Nat) (v : Bool) :
    (s.finish r c w l v).fab = s.fab := by
  unfold State.finish; dsimp only; split <;> (try split) <;> (try split) <;> rfl
@[simp] theorem State.finish_rack (s : State) (r : Req) (c : Nat) (w : List Word) (l : Nat) (v : Bool) :
    (s.finish r c w l v).rack = s.rack := by
  unfold State.finish; dsimp only; split <;> (try split) <;> (try split) <;> rfl
@[simp] theorem State.finish_mgmt (s : State) (r : Req) (c : Nat) (w : List Word) (l : Nat) (v : Bool) :
    (s.finish r c w l v).mgmt = s.mgmt := by
  unfold State.finish; dsimp only; split <;> (try split) <;> (try split) <;> rfl
@[simp] theorem State.finish_flt (s : State) (r : Req) (c : Nat) (w : List Word) (l : Nat) (v : Bool) :
    (s.finish r c w l v).flt = s.flt := by
  unfold State.finish; dsimp only; split <;> (try split) <;> (try split) <;> rfl
@[simp] theorem State.finish_start (s : State) (r : Req) (c : Nat) (w : List Word) (l : Nat) (v : Bool) :
    (s.finish r c w l v).start = s.start := by
  unfold State.finish; dsimp only; split <;> (try split) <;> (try split) <;> rfl
@[simp] theorem State.finish_drive (s : State) (r : Req) (c : Nat) (w : List Word) (l : Nat) (v : Bool) :
    (s.finish r c w l v).drive = s.drive := by
  unfold State.finish; dsimp only; split <;> (try split) <;> (try split) <;> rfl
@[simp] theorem State.finish_loop (s : State) (r : Req) (c : Nat) (w : List Word) (l : Nat) (v : Bool) :
    (s.finish r c w l v).loop = s.loop := by
  unfold State.finish; dsimp only; split <;> (try split) <;> (try split) <;> rfl
@[simp] theorem State.finish_seq (s : State) (r : Req) (c : Nat) (w : List Word) (l : Nat) (v : Bool) :
    (s.finish r c w l v).seq = s.seq := by
  unfold State.finish; dsimp only; split <;> (try split) <;> (try split) <;> rfl
@[simp] theorem State.finish_evt (s : State) (r : Req) (c : Nat) (w : List Word) (l : Nat) (v : Bool) :
    (s.finish r c w l v).evt = s.evt := by
  unfold State.finish; dsimp only; split <;> (try split) <;> (try split) <;> rfl
@[simp] theorem State.finish_hrv (s : State) (r : Req) (c : Nat) (w : List Word) (l : Nat) (v : Bool) :
    (s.finish r c w l v).hrv = s.hrv := by
  unfold State.finish; dsimp only; split <;> (try split) <;> (try split) <;> rfl
@[simp] theorem State.finish_tim (s : State) (r : Req) (c : Nat) (w : List Word) (l : Nat) (v : Bool) :
    (s.finish r c w l v).tim = s.tim := by
  unfold State.finish; dsimp only; split <;> (try split) <;> (try split) <;> rfl
@[simp] theorem State.finish_thm (s : State) (r : Req) (c : Nat) (w : List Word) (l : Nat) (v : Bool) :
    (s.finish r c w l v).thm = s.thm := by
  unfold State.finish; dsimp only; split <;> (try split) <;> (try split) <;> rfl
@[simp] theorem State.finish_lane (s : State) (r : Req) (c : Nat) (w : List Word) (l : Nat) (v : Bool) :
    (s.finish r c w l v).lane = s.lane := by
  unfold State.finish; dsimp only; split <;> (try split) <;> (try split) <;> rfl
@[simp] theorem State.finish_cal (s : State) (r : Req) (c : Nat) (w : List Word) (l : Nat) (v : Bool) :
    (s.finish r c w l v).cal = s.cal := by
  unfold State.finish; dsimp only; split <;> (try split) <;> (try split) <;> rfl
@[simp] theorem State.finish_pk (s : State) (r : Req) (c : Nat) (w : List Word) (l : Nat) (v : Bool) :
    (s.finish r c w l v).pk = s.pk := by
  unfold State.finish; dsimp only; split <;> (try split) <;> (try split) <;> rfl
@[simp] theorem State.finish_pair (s : State) (r : Req) (c : Nat) (w : List Word) (l : Nat) (v : Bool) :
    (s.finish r c w l v).pair = s.pair := by
  unfold State.finish; dsimp only; split <;> (try split) <;> (try split) <;> rfl
@[simp] theorem State.finish_cellar (s : State) (r : Req) (c : Nat) (w : List Word) (l : Nat) (v : Bool) :
    (s.finish r c w l v).cellar = s.cellar := by
  unfold State.finish; dsimp only; split <;> (try split) <;> (try split) <;> rfl
@[simp] theorem State.finish_pending (s : State) (r : Req) (c : Nat) (w : List Word) (l : Nat) (v : Bool) :
    (s.finish r c w l v).pending = s.pending := by
  unfold State.finish; dsimp only; split <;> (try split) <;> (try split) <;> rfl

/-- An end of a request leaves every register but its ring's status and its completion ring's status and full bit. -/
theorem State.finish_rd (s : State) (r : Req) (c : Nat) (w : List Word) (l : Nat) (v : Bool) (o : Nat)
    (h1 : o ≠ R.HIF_SQ_STATUS r.sq) (h2 : o ≠ R.HIF_CQ_STATUS (s.boundCq r.sq)) (h3 : o ≠ R.HIF_CQ_FULL) :
    (s.finish r c w l v).rd o = s.rd o := by
  unfold State.finish
  dsimp only
  split
  · split
    · have hb : ∀ x, ((s.setSq r.sq x).setF (R.HIF_SQ_STATUS r.sq) F.HIF_SQ_STATUS_BUSY 0).boundCq r.sq = s.boundCq r.sq := by
        intro x
        unfold State.boundCq
        rw [State.fld_setF_ne _ _ _ _ _ _ (by simp <;> omega), State.fld_setSq]
      split
      · unfold State.cqFullBits
        dsimp only
        rw [State.rd_setF_ne _ _ _ _ _ h3, State.rd_setF_ne _ _ _ _ _ (by rw [hb]; exact h2), State.rd_setCq,
          State.rd_setF_ne _ _ _ _ _ h1, State.rd_setSq]
      · rw [State.rd_setF_ne _ _ _ _ _ h1, State.rd_setSq]
    · rfl
  · rfl

/-- The completion of the request that a ring has in execution is the newest held for its completion ring, while that ring keeps completions;
the ring has nothing in execution then. -/
theorem State.finish_done (s : State) (r : Req) (d : Desc) (c : Nat) (w : List Word) (l : Nat) (v : Bool)
    (hr : r.sq < 32) (he : (s.sqRing r.sq).exec = some (r.job, d)) (hc : s.cqUp (s.boundCq r.sq) = true) :
    (s.finish r c w l v).lastDone r.sq = some (r.sq, d.tag, c, (w ++ [0, 0, 0, 0]).take 4) ∧
    ((s.finish r c w l v).sqRing r.sq).exec = none := by
  have hb : ∀ x, ((s.setSq r.sq x).setF (R.HIF_SQ_STATUS r.sq) F.HIF_SQ_STATUS_BUSY 0).boundCq r.sq = s.boundCq r.sq := by
    intro x
    unfold State.boundCq
    rw [State.fld_setF_ne _ _ _ _ _ _ (by simp <;> omega), State.fld_setSq]
  have hu : ∀ x, ((s.setSq r.sq x).setF (R.HIF_SQ_STATUS r.sq) F.HIF_SQ_STATUS_BUSY 0).cqUp (s.boundCq r.sq) = true := by
    intro x
    rw [← hc]
    unfold State.cqUp State.flag
    have hlt : s.boundCq r.sq < 32 := Fld.get_lt _ _
    rw [State.fld_setF_ne _ _ _ _ _ _ (by simp <;> omega), State.fld_setF_ne _ _ _ _ _ _ (by simp <;> omega), State.fld_setSq, State.fld_setSq]
  have hbf : ∀ (u : State) k, (u.cqFullBits k).boundCq r.sq = u.boundCq r.sq := by
    intro u k
    unfold State.cqFullBits State.boundCq
    dsimp only
    rw [State.fld_setF_ne _ _ _ _ _ _ (by simp <;> omega), State.fld_setF_ne _ _ _ _ _ _ (by simp <;> omega)]
  have hq : ∀ (u : State) k j, (u.cqFullBits k).cqRing j = u.cqRing j := fun u k j => rfl
  have hs : ∀ (u : State) k j, (u.cqFullBits k).sqRing j = u.sqRing j := fun u k j => rfl
  unfold State.finish
  dsimp only
  rw [he]
  dsimp only
  rw [if_pos rfl, hb, hu, if_pos rfl]
  refine ⟨?_, ?_⟩
  · unfold State.lastDone
    rw [hbf, hq]
    have : ∀ (u : State) k x, (u.setCq k x).boundCq r.sq = u.boundCq r.sq := fun u k x => by
      unfold State.boundCq; rw [State.fld_setCq]
    rw [this, hb, State.cqRing_setCq]
    simp
  · rw [hs]
    show ((State.setSq s r.sq _).sqRing r.sq).exec = none
    rw [State.sqRing_setSq]

theorem State.begun_boundCq (s : State) (n k : Nat) (d : Desc) : (s.begun n d).boundCq k = s.boundCq k := by
  unfold State.boundCq
  rw [State.begun_fld _ _ _ _ _ (by simp <;> omega)]

theorem State.boundCq_lt (s : State) (n : Nat) : s.boundCq n < 32 := Fld.get_lt _ _

/-- A request that has begun, has left the rings and their registers alone and ends: its completion is the newest held. -/
theorem State.ended (s X : State) (n : Nat) (d : Desc) (c : Nat) (w : List Word) (l : Nat) (v : Bool) (hn : n < 32)
    (hh : X.hif = (s.begun n d).hif) (hr : ∀ o, o < 0x20000 → X.rd o = (s.begun n d).rd o) (hc : s.cqUp (s.boundCq n) = true) :
    (X.finish (s.nextReq n) c w l v).lastDone n = some (n, d.tag, c, (w ++ [0, 0, 0, 0]).take 4) ∧
    ((X.finish (s.nextReq n) c w l v).sqRing n).exec = none := by
  have hs : ∀ k, X.sqRing k = (s.begun n d).sqRing k := fun k => by unfold State.sqRing; rw [hh]
  have hb : X.boundCq n = s.boundCq n := by
    unfold State.boundCq State.fld
    rw [hr _ (by simp <;> omega), State.begun_rd _ _ _ _ (by simp <;> omega)]
  have hlt := s.boundCq_lt n
  have := State.finish_done X (s.nextReq n) d c w l v hn (by rw [hs]; simp [State.nextReq]) (by
    show X.cqUp (X.boundCq n) = true
    rw [hb, ← hc]
    unfold State.cqUp State.flag State.fld
    rw [hr _ (by simp <;> omega), State.begun_rd _ _ _ _ (by simp <;> omega), hr _ (by simp <;> omega), State.begun_rd _ _ _ _ (by simp <;> omega)])
  exact this

/-- What the end of a request that has begun leaves: every register but its ring's status, its completion ring's status and full bit. -/
theorem State.ended_rd (s X : State) (n : Nat) (d : Desc) (c : Nat) (w : List Word) (l : Nat) (v : Bool) (hn : n < 32)
    (hr : ∀ o, o < 0x20000 → X.rd o = (s.begun n d).rd o) (o : Nat)
    (h1 : o ≠ R.HIF_SQ_STATUS n) (h2 : o ≠ R.HIF_CQ_STATUS (s.boundCq n)) (h3 : o ≠ R.HIF_CQ_FULL) :
    (X.finish (s.nextReq n) c w l v).rd o = X.rd o := by
  have hb : X.boundCq n = s.boundCq n := by
    unfold State.boundCq State.fld
    rw [hr _ (by simp <;> omega), State.begun_rd _ _ _ _ (by simp <;> omega)]
  refine State.finish_rd X _ _ _ _ _ _ h1 ?_ h3
  show o ≠ R.HIF_CQ_STATUS (X.boundCq n)
  rw [hb]; exact h2

end Sys2Proof.Machine
end

