-- ==== Sys2Proof/Tests/Helpers.lean ====
section
/-! SUPPORT. Small states and descriptors for the tests and the witnesses. -/

namespace Sys2Proof.Tests

open Sys2Proof Sys2Proof.Machine

/-- The device in Serve, all start steps ended, its registers otherwise at reset. -/
def served : State :=
  { State.reset with mode := .serve, start := { StartSt.zero with cold := false, ended := 0x3FFF } }

/-- Ring 0 and completion ring 0 enabled, the engine running, the link up. -/
def wired (s : State) : State :=
  let s := { s with hif := { s.hif with bme := true, linkUp := true, perstLow := false, d3hot := false } }
  let s := (s.setF R.HIF_CTRL F.HIF_CTRL_EN 1).setF R.HIF_CTRL F.HIF_CTRL_READY 1
  (s.setF (R.HIF_SQ_CFG 0) F.HIF_SQ_CFG_EN 1).setF (R.HIF_CQ_CFG 0) F.HIF_CQ_CFG_EN 1

/-- Descriptor d is the next of ring 0. -/
def offering (s : State) (d : Desc) : State := (wired s).setSq 0 ⟨[d], none, 1⟩

/-- A descriptor from its bytes, byte 0 first; the rest 0. -/
def desc (l : List Nat) : Desc := BitVec.ofNat 512 (l.foldr (fun b n => b % 256 + 256 * n) 0)

/-- The bytes of a descriptor: opcode, tag 7, buffer length, bytes 20 to 31, then from byte 32. -/
def mkDesc (op len : Nat) (req more : List Nat) : Desc :=
  desc ([op, 0, 7, 0, 0, 0, 0, 0, 0, 0, 1, 0, 0, 0, 0, 0, len % 256, len / 256, 0, 0] ++ (req ++ List.replicate 12 0).take 12 ++ more)

/-- The state a command ends in; the state itself where it does not complete. -/
def after (c : Instr) (s : State) : State :=
  match exec c s with
  | .next t => t
  | _ => s

/-- Ring 0 executes d, its job 1. -/
def doing (s : State) (d : Desc) : State := (wired s).setSq 0 ⟨[], some (1, d), 2⟩

/-- The block of loops b is powered. -/
def blk (s : State) (b : Nat) : State := s.setF (R.DRV_BLK_STATUS b) F.DRV_BLK_STATUS_POWERED 1

/-- The state of loop x. -/
def loopSt (s : State) (x k : Nat) : State := s.setF (R.LOOP_ST x) F.LOOP_ST_STATE k

def fabd (s : State) (f : Fab → Fab) : State := { s with fab := f s.fab }
def rackd (s : State) (f : RackSt → RackSt) : State := { s with rack := f s.rack }
def fl (s : State) (f : Flt → Flt) : State := { s with flt := f s.flt }
def mg (s : State) (f : Mgmt → Mgmt) : State := { s with mgmt := f s.mgmt }
def pr (s : State) (f : PairSt → PairSt) : State := { s with pair := f s.pair }
def md (m : Mode) (s : State) : State := { s with mode := m }
def rp (src loc : Nat) : Report := ⟨src, loc, 1, 2, 3, false, [], 0⟩
def frec (q sev src loc : Nat) (o : Bool) : FRec := ⟨q, sev, src, loc, true, o, none, [], []⟩

end Sys2Proof.Tests
end

