-- ==== Sys2Proof/WellFormed.lean ====
section
/-! DEFINITION. Which commands are well formed: a descriptor selects the row it stands in, a buffer that the device reads has the length that
the descriptor gives, and what the outside presents has the shape that the rules give it. exec is total on the others too. -/

namespace Sys2Proof

open Sys2Proof.Machine

/-- The buffer's bytes, where its reads end well, are as many as the descriptor gives (14_host_interface.md R310). -/
def Machine.Buf.fits (b : Buf) (d : Desc) : Bool := !b.ok || b.data.length == d.bufLen

/-- An access of 1 to 8 bytes (22_register_index.md R475; longer ones are split). -/
def accessLen (n : Fin 9) : Bool := n.val != 0

/-- A mirror record names one of the four pipelines (20_redundant_pair.md R445). -/
def Machine.MirrorRec.wf : MirrorRec → Bool
  | .fdb n _ => decide (n < 4)
  | .fdbGone n _ _ => decide (n < 4)
  | .lpm n _ _ _ _ => decide (n < 4)
  | .lpmGone n _ _ _ => decide (n < 4)
  | .reg off _ => mirrorReg off
  | .set _ _ _ _ _ _ => true
  | .exchange _ => true

/-- The injections of a start-up test name sources whose checker can be injected (17_faults_and_safety.md R395). -/
def Machine.ColdStep.wf : ColdStep → Bool
  | .tests _ _ l => l.all fun e => injectable e.1.toNat
  | .alwaysOn _ _ => true
  | .clocks => true
  | .domains => true
  | .rootstock => true
  | .hostUp => true
  | .memory _ _ _ => true
  | .loopBlocks => true
  | .acquisition => true
  | .regionsCleared => true
  | .pipelines => true
  | .cellarCleared => true

/-- A well-formed command. -/
def Instr.wf : Instr → Bool
  | .registerWrite _ _ n _ => accessLen n
  | .readClear _ _ n => accessLen n
  | .snapshotReadLo _ off n => accessLen n && pairLo (off.toNat / 4 * 4)
  | .nop _ d => d.opcode == 0
  | .shadowWriteFabMap _ d b => d.opcode == 1 && d.byte 20 == 1 && b.fits d
  | .shadowWriteFabCells _ d b => d.opcode == 1 && d.byte 20 == 2 && b.fits d
  | .shadowWriteLoopCfg _ d b => d.opcode == 1 && d.byte 20 == 3 && b.fits d
  | .shadowWriteRackSeq _ d b => d.opcode == 1 && d.byte 20 == 4 && b.fits d
  | .shadowWritePipeGraph _ d b => d.opcode == 1 && d.byte 20 == 5 && b.fits d
  | .shadowWritePipeTmpl _ d b => d.opcode == 1 && d.byte 20 == 6 && b.fits d
  | .shadowWritePipePort _ d b => d.opcode == 1 && d.byte 20 == 7 && b.fits d
  | .shadowWritePipeClass _ d b => d.opcode == 1 && d.byte 20 == 8 && b.fits d
  | .shadowWriteSch _ d b => d.opcode == 1 && d.byte 20 == 9 && b.fits d
  | .shadowWriteLanePort _ d b => d.opcode == 1 && d.byte 20 == 10 && b.fits d
  | .pktSeal _ d => d.opcode == 1 && d.byte 20 == 11
  | .timOffset _ d => d.opcode == 1 && d.byte 20 == 12
  | .solve _ d => d.opcode == 2 && d.byte 20 == 0
  | .checkOnly _ d => d.opcode == 2 && d.byte 20 == 1
  | .solveRackAfterAccept => true
  | .solveResultHeld _ => true
  | .solveAbort => true
  | .failedCellMark cell => decide (cell.toNat < cellCount)
  | .failedCellClear cell => decide (cell.toNat < cellCount)
  | .faultResolveStart => true
  | .faultResolveResult _ => true
  | .rack _ d => d.opcode == 3 && d.byte 20 == 0
  | .rackWithdraw _ d => d.opcode == 3 && d.byte 20 == 1
  | .withdrawWrite => true
  | .rackTriggerTick => true
  | .unitPrepareReport _ => true
  | .readyCollection => true
  | .commitBroadcast => true
  | .commitTick _ => true
  | .commitSkew => true
  | .prepareTimeout => true
  | .pendingTriggerJudged => true
  | .limpDeferralEnd => true
  | .fdbInsert _ d => d.opcode == 4 && d.byte 20 == 0
  | .fdbRemove _ d => d.opcode == 4 && d.byte 20 == 1
  | .fdbRead _ d b => d.opcode == 4 && d.byte 20 == 2 && b.data.isEmpty
  | .fdbFlush _ d => d.opcode == 4 && d.byte 20 == 3
  | .rehash _ d => d.opcode == 4 && d.byte 20 == 4
  | .fdbDump _ d b => d.opcode == 4 && d.byte 20 == 5 && b.data.isEmpty
  | .lpmInsert _ d => d.opcode == 4 && d.byte 20 == 6
  | .lpmRemove _ d => d.opcode == 4 && d.byte 20 == 7
  | .streamWrite _ d b => d.opcode == 4 && d.byte 20 == 8 && b.fits d
  | .rehashSwap _ => true
  | .counterDump _ d b => d.opcode == 5 && b.data.isEmpty
  | .calRun _ d _ => d.opcode == 6 && d.byte 20 == 0
  | .calRunAbort _ d => d.opcode == 6 && d.byte 20 == 1
  | .calSave _ d b => d.opcode == 7 && b.data.isEmpty
  | .calRestore _ d b => d.opcode == 8 && b.fits d
  | .harvestArm _ d => d.opcode == 9 && d.byte 21 == 0
  | .harvestStop _ d => d.opcode == 9 && d.byte 21 == 1
  | .harvestForce _ d => d.opcode == 9 && d.byte 21 == 2
  | .harvestRead _ d b _ => d.opcode == 10 && b.data.isEmpty
  | .logRead _ d b => d.opcode == 11 && b.data.isEmpty
  | .imageWrite _ d b => d.opcode == 12 && b.fits d
  | .imageCommit _ d => d.opcode == 13 && d.byte 20 == 0
  | .imageConfirm _ d => d.opcode == 13 && d.byte 20 == 1
  | .imageSelect _ d => d.opcode == 13 && d.byte 20 == 2
  | .modeSetLimp _ d => d.opcode == 14 && d.byte 20 == 1
  | .modeSetServe _ d => d.opcode == 14 && d.byte 20 == 2
  | .modeSetDormant _ d => d.opcode == 14 && d.byte 20 == 3
  | .modeSetWarmStart _ d => d.opcode == 14 && d.byte 20 == 4
  | .modeSetColdStart _ d => d.opcode == 14 && d.byte 20 == 5
  | .pairExchange _ d _ => d.opcode == 15 && d.byte 20 == 0
  | .pairResync _ d => d.opcode == 15 && d.byte 20 == 1
  | .faultAck _ d => d.opcode == 16 && d.byte 20 == 0
  | .faultRelease _ d _ => d.opcode == 16 && d.byte 20 == 1
  | .faultAckUpTo _ d => d.opcode == 16 && d.byte 20 == 2
  | .doorbellPoll _ => true
  | .hifNudge => true
  | .descriptorFetch _ _ => true
  | .completionWrite _ => true
  | .beaconWrite => true
  | .hostMemoryError _ => true
  | .attnAck _ => true
  | .hifEnable => true
  | .sqEnable _ _ => true
  | .cqEnable _ _ => true
  | .busMasterDisable => true
  | .softReset => true
  | .functionLevelReset => true
  | .hotReset => true
  | .pcieLinkLoss => true
  | .perstNAssert => true
  | .d3hotEntry => true
  | .hostDirectDrive _ _ => true
  | .rangeChange _ _ => true
  | .rangeBreakEnd _ => true
  | .drvLimitDetect _ _ => true
  | .drvOpenDetect _ => true
  | .monitorConversionDone _ _ _ _ => true
  | .spareSwap _ => true
  | .hkTimerTrigger _ => true
  | .hkConverterEdge _ => true
  | .hkConversionDone _ _ => true
  | .injectedConversionDone _ _ => true
  | .loopFrameStart => true
  | .ffStale _ => true
  | .loopGroupWindow _ _ _ => true
  | .acqTimeout _ => true
  | .loopLaneLost _ _ => true
  | .loopCmdReacquire _ => true
  | .seqCmdStart _ _ => true
  | .seqCmdStop _ => true
  | .seqCmdJump _ => true
  | .seqStartTick _ => true
  | .seqPassEnd _ => true
  | .seqStreamDataArrival _ n _ _ => decide (0 < n)
  | .seqStarveAbort _ => true
  | .seqSyncLost _ => true
  | .seqMemDataAccess _ _ => true
  | .tastingMeasurementDone _ _ _ m1 m2 _ => m1.length == m2.length
  | .stagedValueInForce _ => true
  | .hkSelfTasting _ m1 m2 _ => m1.length == m2.length
  | .frameIngress _ data _ _ => decide (0 < data.length)
  | .frameEnd _ _ _ => true
  | .cellarReadAnswer _ _ => true
  | .readLimitExpiry _ _ => true
  | .ingressFailAfterCommit _ _ _ => true
  | .learnNoticeApply _ => true
  | .stashPlacement _ => true
  | .ageSweep _ => true
  | .hitWriteback => true
  | .egressSelect _ _ => true
  | .gateEntryStart _ _ => true
  | .counterFold _ => true
  | .schIndSelWrite _ => true
  | .timSet _ _ => true
  | .timAdd _ _ => true
  | .timClearInt _ => true
  | .timSnapCmd _ _ _ => true
  | .ppsInputEdge _ _ _ => true
  | .ppsLost _ => true
  | .servoHoldover _ => true
  | .compareFire _ _ _ => true
  | .ppsoFall _ _ => true
  | .compareTargetHiWrite _ _ _ => true
  | .tsqHeadLatch _ => true
  | .tsqRecordRemove _ => true
  | .oscCompUpdate => true
  | .bringupStepDone _ _ => true
  | .bringupStepLimit _ => true
  | .linkDown _ _ => true
  | .laneCfgWrite _ _ => true
  | .lanePrbsWrite _ _ => true
  | .lpiTxEnter _ => true
  | .lpiTxWake _ => true
  | .lpiRxSleep _ => true
  | .lpiRxWake _ => true
  | .tapLos _ => true
  | .tapLaserLow _ _ => true
  | .tapLaserRestore _ _ => true
  | .tapTxFault _ => true
  | .lanePllUnlock _ => true
  | .eviEdge _ _ _ _ => true
  | .evtSwPulse _ => true
  | .eventActivation => true
  | .evoPulseEnd _ => true
  | .evtChOwnWrite _ _ _ => true
  | .evtChCfgWrite _ _ _ _ => true
  | .hrvPretriggerFull _ => true
  | .hrvTrigger _ => true
  | .hrvRecordComplete _ => true
  | .hrvRearmEnd _ => true
  | .hrvGap _ n => decide (0 < n)
  | .hrvConfigWrite _ _ _ => true
  | .faultReport r => (sevOf r.src).isSome
  | .faultClassification => true
  | .safeReadback _ _ => true
  | .checkerInjection _ _ => true
  | .checkerDead => true
  | .fltTestInjWrite _ => true
  | .configScrub _ _ => true
  | .lkPropose => true
  | .lkConfirm _ => true
  | .lightPathCheck => true
  | .referenceLossMeasure _ => true
  | .portPowerUpdate => true
  | .supplyMonitorSample mv => mv.length == 11
  | .clockMonitorWindow ppm => ppm.length == 12
  | .latchFlagClear => true
  | .watchdogExpiry _ _ => true
  | .processorRestartDone _ _ => true
  | .busDefaultAccess _ _ _ _ => true
  | .mgtRemapWrite _ => true
  | .norPageProgramDone _ => true
  | .norEraseDone _ => true
  | .logRecordWrite _ => true
  | .slotEraseDone => true
  | .sensorSweep _ => true
  | .norTempConversion _ _ _ => true
  | .powerOn => true
  | .coldResetInput _ => true
  | .evi0Wake _ => true
  | .testPortReset => true
  | .pfailAssert _ _ => true
  | .pfailRelease _ _ => true
  | .holdupExhausted => true
  | .coldStart k => k.wf
  | .acqImageAdvance => true
  | .warmStart _ => true
  | .startCommit _ _ => true
  | .negotiateTimeout _ => true
  | .modeChangeTriggerTick => true
  | .modeChangeCommitTick _ => true
  | .dormantPowerDown => true
  | .holdReleaseSeen _ _ => true
  | .takeoverGuardEnd _ => true
  | .pairHoldMismatch _ => true
  | .pairLinkLost => true
  | .graftLinkUp _ _ _ _ _ => true
  | .mirrorRecord r _ _ => r.wf
  | .resyncComplete => true
  | .graftTimeSample _ _ _ => true
  | .drillHour => true
  | .busMasterEnable => true
  | .perstNRelease => true
  | .pcieLinkUp => true
  | .remoteFault _ _ => true
  | .graftLaneDown _ _ => true
  | .exchangeRelayed => true
  | .toneUpdate => true
  | .sequenceSample _ _ => true

end Sys2Proof
end

