-- ==== Sys2Proof/Tests/Slice0.lean ====
section
/-! SUPPORT. Tests: an ill-formed term for each check of Instr.wf, the worked examples of spec/, and one step of a few commands. -/

set_option Elab.async false

namespace Sys2Proof.Tests

open Sys2Proof Sys2Proof.Machine

/-! ### Well-formedness -/

/-- Rows that a descriptor's opcode and byte 20 select, with a descriptor of theirs. -/
def byOp : List ((Desc → Instr) × Nat × Nat) :=
  [(.pktSeal 0, 1, 11), (.timOffset 0, 1, 12), (.solve 0, 2, 0), (.checkOnly 0, 2, 1), (.rack 0, 3, 0), (.rackWithdraw 0, 3, 1), (.fdbInsert 0, 4, 0),
   (.fdbRemove 0, 4, 1), (.fdbFlush 0, 4, 3), (.rehash 0, 4, 4), (.lpmInsert 0, 4, 6), (.lpmRemove 0, 4, 7), ((.calRun 0 · true), 6, 0), (.calRunAbort 0, 6, 1),
   (.imageCommit 0, 13, 0), (.imageConfirm 0, 13, 1), (.imageSelect 0, 13, 2), (.modeSetLimp 0, 14, 1), (.modeSetServe 0, 14, 2), (.modeSetDormant 0, 14, 3),
   (.modeSetWarmStart 0, 14, 4), (.modeSetColdStart 0, 14, 5), ((.pairExchange 0 · true), 15, 0), (.pairResync 0, 15, 1), (.faultAck 0, 16, 0),
   ((.faultRelease 0 · true), 16, 1), (.faultAckUpTo 0, 16, 2)]

/-- Rows with a buffer that the device reads. -/
def byBuf : List ((Desc → Buf → Instr) × Nat × Nat) :=
  [(.shadowWriteFabMap 0, 1, 1), (.shadowWriteFabCells 0, 1, 2), (.shadowWriteLoopCfg 0, 1, 3), (.shadowWriteRackSeq 0, 1, 4), (.shadowWritePipeGraph 0, 1, 5),
   (.shadowWritePipeTmpl 0, 1, 6), (.shadowWritePipePort 0, 1, 7), (.shadowWritePipeClass 0, 1, 8), (.shadowWriteSch 0, 1, 9), (.shadowWriteLanePort 0, 1, 10),
   (.streamWrite 0, 4, 8)]

theorem test_wf_opcode : (byOp.all fun e => (e.1 (mkDesc e.2.1 0 [e.2.2] [])).wf && !(e.1 (mkDesc (e.2.1 + 1) 0 [e.2.2] [])).wf &&
    !(e.1 (mkDesc e.2.1 0 [e.2.2 + 1] [])).wf) = true := by decide +kernel

theorem test_wf_buffer : (byBuf.all fun e =>
    let d := mkDesc e.2.1 4 [e.2.2] []
    (e.1 d ⟨true, [1, 2, 3, 4]⟩).wf && (e.1 d ⟨false, []⟩).wf && !(e.1 d ⟨true, [1, 2, 3]⟩).wf && !(e.1 (mkDesc (e.2.1 + 1) 0 [e.2.2] []) ⟨true, []⟩).wf &&
    !(e.1 (mkDesc e.2.1 0 [e.2.2 + 1] []) ⟨true, []⟩).wf) = true := by decide +kernel

theorem test_wf_opcode_alone :
    ((.nop 0 (mkDesc 0 0 [] []) : Instr).wf && !(.nop 0 (mkDesc 1 0 [] []) : Instr).wf &&
     (.harvestArm 0 (mkDesc 9 0 [3, 0] []) : Instr).wf && !(.harvestArm 0 (mkDesc 9 0 [3, 1] []) : Instr).wf && !(.harvestArm 0 (mkDesc 8 0 [3, 0] []) : Instr).wf &&
     !(.harvestStop 0 (mkDesc 9 0 [3, 0] []) : Instr).wf && !(.harvestForce 0 (mkDesc 9 0 [3, 0] []) : Instr).wf &&
     !(.imageWrite 0 (mkDesc 12 256 [1] []) ⟨true, []⟩ : Instr).wf && !(.imageWrite 0 (mkDesc 11 0 [1] []) ⟨true, []⟩ : Instr).wf &&
     !(.calRestore 0 (mkDesc 8 256 [1] []) ⟨true, []⟩ : Instr).wf && !(.calRestore 0 (mkDesc 7 0 [1] []) ⟨true, []⟩ : Instr).wf) = true := by decide +kernel

/-- A buffer that the device only writes carries no bytes. -/
theorem test_wf_written_buffers :
    (([(.fdbRead 0, 4, 2), (.fdbDump 0, 4, 5), (.counterDump 0, 5, 0), (.calSave 0, 7, 0), ((.harvestRead 0 · · false), 10, 0),
      (.logRead 0, 11, 0)] : List ((Desc → Buf → Instr) × Nat × Nat)).all fun e =>
      (e.1 (mkDesc e.2.1 4 [e.2.2] []) ⟨true, []⟩).wf && !(e.1 (mkDesc e.2.1 4 [e.2.2] []) ⟨true, [1, 2, 3, 4]⟩).wf &&
      !(e.1 (mkDesc (e.2.1 + 1) 4 [e.2.2] []) ⟨true, []⟩).wf) = true ∧
    (([.fdbRead 0, .fdbDump 0] : List (Desc → Buf → Instr)).all fun e => !(e (mkDesc 4 4 [9] []) ⟨true, []⟩).wf) = true := by decide +kernel

/-- The shapes of what the outside presents. -/
theorem test_wf_operands :
    ((.registerWrite .host 0 4 0 : Instr).wf && !(.registerWrite .host 0 0 0 : Instr).wf && !(.readClear .host 0 0 : Instr).wf &&
     (.snapshotReadLo .host (BitVec.ofNat 24 R.GLB_UNIQUE_ID_LO) 4 : Instr).wf && !(.snapshotReadLo .host 0xFFFFFC 4 : Instr).wf &&
     !(.snapshotReadLo .host (BitVec.ofNat 24 R.GLB_UNIQUE_ID_LO) 0 : Instr).wf &&
     (.failedCellMark 4351 : Instr).wf && !(.failedCellMark 4352 : Instr).wf && !(.failedCellClear 4352 : Instr).wf &&
     !(.faultReport (rp 614 0) : Instr).wf && (.faultReport (rp 613 0) : Instr).wf &&
     !(.supplyMonitorSample (List.replicate 10 0) : Instr).wf && !(.clockMonitorWindow (List.replicate 13 0) : Instr).wf &&
     !(.hrvGap 0 0 : Instr).wf && !(.coldStart (.tests 0 false [(1023, true)]) : Instr).wf && (.coldStart .clocks : Instr).wf &&
     !(.mirrorRecord (.fdbGone 4 0 0) false 0 : Instr).wf && !(.mirrorRecord (.reg 0 0) false 0 : Instr).wf && (.mirrorRecord (.exchange true) false 0 : Instr).wf) = true := by
  decide +kernel

/-- No row of the table gives bits, so no word spells a command. -/
theorem test_no_word : decodeTableWord 16 0 = none ∧ served.withFetchWord 16 0 = served := ⟨rfl, rfl⟩

/-! ### Worked examples of spec/ -/

/-- 02_fabric.md, Elements: C[1][7][80] has EL7712 and EL7713; VO200 is EL7480. 05_drive_and_sense.md: bank 40, slice 4, input 1. -/
theorem test_example_elements :
    cellH (1920 + 128 * 7 + 80) = 7712 ∧ elemVO 200 = 7480 ∧ elemOf 7713 = .cell (1920 + 128 * 7 + 80) ∧ elemBank 7713 = 40 ∧ bankElem 40 4 1 = 7713 := by
  decide +kernel

/-- 02_fabric.md, following line 5 through plane P0: FO005 with every cell in bar, FO133 with C[0][7][80] in cross. -/
theorem test_example_line :
    Solver.reaches 0 5 = some 5 ∧ Solver.reaches (2 ^ (128 * 7 + 80)) 5 = some 133 := by decide +kernel

/-- 22_register_index.md, locating three registers (the third is LOOP_SHADOW_CFG_7713_1). -/
theorem test_example_offsets :
    R.FAB_RACK_TS 2 = 0x100148 ∧ R.DRV_CH_CODE 7713 = 0x227884 ∧ (findReg 0x7A98C4).isSome = true := by decide +kernel

/-- 11_scheduling.md, a signalling window on P08: LONGEST_7 is 25 µs, LONGEST_k of the other classes 105 µs. -/
theorem test_example_gates :
    (let l := [(0x80, 20000), (0x7F, 100000), (0xFF, 5000)]
     longestOpen 7 l = some 25000 ∧ longestOpen 0 l = some 105000 ∧ longestOpen 6 l = some 105000 ∧ gateCycle l = 125000) := by decide +kernel

/-- 12_network_time.md, a Sync message: word 0 of the two records. -/
theorem test_example_records :
    (tsqRecord 0 0 0 5 1 0x1234 0 0).head? = some 0x800B1234 ∧ (tsqRecord 1 0 0 33 1 0x1234 0 0).head? = some 0xC0431234 := by decide +kernel

/-- 16_events_and_capture.md, a depot coupling: EVT_CH_TASKS_5 = 0x00948680 names tasks 0, 6 and 20. -/
theorem test_example_tasks :
    (let s := served.wr (R.EVT_CH_TASKS 5) 0x00948680
     s.chanTask 5 0 = some 0 ∧ s.chanTask 5 1 = some 6 ∧ s.chanTask 5 2 = some 20) := by decide +kernel

/-! ### The standards behind the images: FIPS 180-4's example abc, and the check value of CRC-32 -/

theorem test_sha384_abc :
    Crypto.sha384 [0x61, 0x62, 0x63] = 0xcb00753f45a35e8bb5a03d699ac65007272c32ab0eded1631a8b605a43ff5bed8086072ba1e7cc2358baeca134c825a7 := by decide +kernel

theorem test_crc32_check : crc32 [0x31, 0x32, 0x33, 0x34, 0x35, 0x36, 0x37, 0x38, 0x39] = 0xCBF43926 := by decide +kernel

/-! ### One step -/

/-- R310, R315: NOP completes with result 0 and its own bytes. -/
theorem test_nop_completes :
    (let d := mkDesc 0 0 [1, 2, 3, 4] []
     ((after (.nop 0 d) (offering served d)).lastDone 0).map (fun e => (e.1, e.2.1, e.2.2.1)) = some (0, 7, 0)) := by decide +kernel

/-- R419: PFAIL asserts below 8.7 V, not at it. -/
theorem test_pfail_limit :
    (let s := served.setF R.PWR_STATUS F.PWR_STATUS_PFAIL 0
     (after (.pfailAssert 8699 44000) s).flag R.PWR_STATUS F.PWR_STATUS_PFAIL = true ∧
     (after (.pfailAssert 8700 44000) s).flag R.PWR_STATUS F.PWR_STATUS_PFAIL = false) := by decide +kernel

/-- R398: a confirmation after the proposal's 1 ms writes nothing. -/
theorem test_lk_late :
    (let s := { (fl served fun f => { f with proposal := some (R.FLT_SEV 0, 4, 0) }) with now := 1000001 }
     let t := after (.lkConfirm 0xFFFB) s
     t.rd (R.FLT_SEV 0) = s.rd (R.FLT_SEV 0) ∧ t.fld R.FLT_LK_STATUS F.FLT_LK_STATUS_RESULT = 6) := by decide +kernel

/-- R379, R380: an error whose source names no target is latched at NOTIFY where its severity is CONTAIN. -/
theorem test_contain_without_target :
    (let s := fl (served.setF (R.FLT_SEV 450) F.FLT_SEV_SEVERITY 2) fun f => { f with raised := [rp 450 0] }
     (after (.faultReport (rp 450 0)) s).flt.latched = [(rp 450 0, 1)]) := by decide +kernel

/-- R4, R475: bit 31 of EVT_REFUSED is cleared by a 1 and kept by a 0; a narrow write is ignored. -/
theorem test_w1c :
    (let s := (wired served).wr R.EVT_REFUSED 0x80000000
     let o := BitVec.ofNat 24 R.EVT_REFUSED
     (after (.registerWrite .host o 4 0x80000000) s).rd R.EVT_REFUSED = 0 ∧ (after (.registerWrite .host o 4 0x7FFFFFFF) s).rd R.EVT_REFUSED = 0x80000000 ∧
     (after (.registerWrite .host o 2 0xFFFF) s).rd R.EVT_REFUSED = 0x80000000) := by decide +kernel

/-- The mode stays where no part of the state may change it. -/
theorem test_part_kept : Part.mode ∉ mayWrite .hifNudge := by decide

end Sys2Proof.Tests
end

