-- ==== Sys2Proof/Tests/WitDrive.lean ====
section
/-! SUPPORT. States and operands that meet the hypotheses of the statements on drive, monitoring and loops. -/

set_option Elab.async false

namespace Sys2Proof.Tests

open Sys2Proof Sys2Proof.Machine

/-! ### Drive -/

/-- Blocks 0 and 15 take host drive. -/
def hostDriven : State :=
  (served.setF (R.DRV_BLK_CTRL 0) F.DRV_BLK_CTRL_HOST_DRIVE 1).setF (R.DRV_BLK_CTRL 15) F.DRV_BLK_CTRL_HOST_DRIVE 1

def breaking (s : State) (x : Nat) (e : Nat × Nat) : State :=
  { s with drive := { s.drive with breaks := Tab.set (fun _ => none) s.drive.breaks x (some e) } }

theorem test_met_DriveWritesAndRanges :
    (let s := hostDriven.setHold 543 0
     s.flag (R.DRV_BLK_CTRL (543 / 576)) F.DRV_BLK_CTRL_HOST_DRIVE = true ∧ s.loopState 543 = 0 ∧ 543 % 576 < 544 ∧ elemOf 543 = .cell 4111 ∧
     s.liveCell 4111 = false ∧ s.hold 543 = 0 ∧ s.rangeBreak 543 = none ∧ (breaking s 543 (10, 2)).rangeBreak 543 = some (10, 2) ∧
     (breaking s 543 (10, 2)).hold 543 = 0) ∧
    served.flag (R.DRV_BLK_CTRL (543 / 576)) F.DRV_BLK_CTRL_HOST_DRIVE = false ∧ (loopSt hostDriven 543 1).loopState 543 ≠ 0 ∧
    ¬ (9215 % 576 < 544) ∧ (hostDriven.setHold 543 1).hold 543 = 1 ∧
    (fabd hostDriven fun f => { f with activeLive := BitVec.ofNat 4352 (2 ^ 4111) }).liveCell 4111 = true ∧
    (let s := breaking hostDriven 9215 (10, 2)
     let cur := fun s : State => (s.rangeBreak 9215).elim (s.fld (R.DRV_CH_CFG 9215) F.DRV_CH_CFG_RANGE) Prod.snd
     cur s = 2 ∧ s.loopState 9215 = 0 ∧ (loopSt s 9215 2).loopState 9215 = 2 ∧ s.now < 10) ∧
    (let s := { breaking hostDriven 9215 (10, 2) with now := 10 }
     s.rangeBreak 9215 = some (10, 2) ∧ 10 ≤ s.now) := by decide +kernel

theorem test_met_OutputProtectionAndSwaps :
    (let s := (served.setF (R.DRV_CH_CFG 9215) F.DRV_CH_CFG_RANGE 1).setF (R.DRV_CH_CODE 9215) F.DRV_CH_CODE_CODE 64
     s.fld (R.DRV_CH_CFG 9215) F.DRV_CH_CFG_RANGE ≠ 0 ∧ s.fld (R.DRV_CH_CODE 9215) F.DRV_CH_CODE_CODE = 64) ∧
    ((served.setF (R.DRV_CH_CFG 0) F.DRV_CH_CFG_RANGE 2).setF (R.DRV_CH_CODE 0) F.DRV_CH_CODE_CODE 63).fld (R.DRV_CH_CODE 0)
      F.DRV_CH_CODE_CODE = 63 ∧
    (let s := (served.setF (R.DRV_BANK_STATUS 47) F.DRV_BANK_STATUS_SWAP_DUE 1).setF (R.DRV_BANK_STATUS 47) F.DRV_BANK_STATUS_NEXT_POS 23
     s.flag (R.DRV_BANK_STATUS 47) F.DRV_BANK_STATUS_SWAP_DUE = true ∧ s.flag (R.DRV_BANK_STATUS 47) F.DRV_BANK_STATUS_NO_SPARE = false ∧
     (s.bank 47).inj = none ∧ (s.bank 47).first = [] ∧ ((List.range 16).all fun i => !s.injWaiting i) = true ∧
     s.fld (R.DRV_BANK_STATUS 47) F.DRV_BANK_STATUS_NEXT_POS = 23) := by decide +kernel

theorem test_met_MonitorInputs :
    (let s := blk (blk served 0) 15
     3 * (9215 / 576) + 9215 % 576 / 192 = 47 ∧ 9215 % 576 % 192 / 8 = 23 ∧ 9215 % 576 % 8 = 7 ∧ s.blkUp (9215 / 576) = true ∧
     nth 0 (s.bank 47).map 23 ∉ (s.bank 47).retired) ∧
    (let s := blk (blk served 0) 15
     3 * (0 / 576) + 0 % 576 / 192 = 0 ∧ s.blkUp (0 / 576) = true ∧ nth 0 (s.bank 0).map 0 ∉ (s.bank 0).retired) := by decide +kernel

def injecting (i k t hs : Nat) (s : State) : State :=
  ((s.setF (R.DRV_INJ_CFG i) F.DRV_INJ_CFG_KIND k).setF (R.DRV_INJ_CFG i) F.DRV_INJ_CFG_TARGET t).setF (R.DRV_INJ_CFG i) F.DRV_INJ_CFG_HK_SLICE hs

theorem test_met_HousekeepingAndInjections :
    (let s := fun (k : Nat) => served.setF (R.DRV_HK_CFG 7) F.DRV_HK_CFG_TRIG k
     (s 1).fld (R.DRV_HK_CFG 7) F.DRV_HK_CFG_TRIG = 1 ∧ (s 2).fld (R.DRV_HK_CFG 7) F.DRV_HK_CFG_TRIG = 2 ∧ ((s 1).hkSlice 7).pos = none ∧
     (((s 1).setHk 7 ⟨some 0, false, none, 0⟩).hkSlice 7).pos ≠ none ∧ (((s 1).setHk 7 ⟨some 0, false, none, 0⟩).hkSlice 7).pendingTrig = false ∧
     (((s 2).setHk 7 ⟨some 3, true, none, 0⟩).hkSlice 7).pos ≠ none ∧ (((s 2).setHk 7 ⟨some 3, true, none, 0⟩).hkSlice 7).pendingTrig = true) ∧
    (let s := (served.setF (R.DRV_HK_SEQ 0) F.DRV_HK_SEQ_LEN 3).setHk 0 ⟨some 3, true, none, 1⟩
     (s.hkSlice 0).pos = some 3 ∧ (s.hkSlice 0).inj = none) ∧
    (let s := (injecting 0 0 0 0 served).setBank 0 { Bank.zero with inj := some 0 }
     s.injAt 0 = .bank 0 ∧ (s.bank 0).inj = some 0 ∧ (s.bank 0).first = [] ∧ ((List.range 16).all fun j => !s.injWaiting j) = true ∧
     s.eventsOn = true ∧ (served.bank 0).inj ≠ some 0) ∧
    (let s := (injecting 15 1 8 7 served).setHk 7 ⟨none, false, some 15, 0⟩
     s.injAt 15 = .hk 7 ∧ (s.hkSlice 7).inj = some 15) := by decide +kernel

/-! ### Loops -/

/-- The thermal model runs, and node 0 is valid. -/
def thermal (s : State) : State := { (s.setF (R.THM_NODE 0) F.THM_NODE_VALID 1) with thm := { s.thm with swept := true } }
def heldFor (n : Nat) (s : State) : State := { s with loop := { s.loop with held := [(0, n), (15, n)] } }
def framed (s : State) : State := { s with now := 8000 }

theorem test_met_LoopFramesAndFeedForward :
    (let s := thermal (heldFor 124 (framed served))
     s.tickCount % 8 = 0 ∧ s.loop.started = false ∧ s.mode ≠ .dormant ∧ s.thermalOn = true ∧ s.nodeValid 0 = true ∧
     Tab.get (fun _ => 0) s.loop.held 15 = 124) ∧
    (heldFor 124 (framed served)).nodeValid 15 = false ∧
    { served with now := 9000 }.tickCount % 8 ≠ 0 ∧
    (let s := { framed served with loop := { served.loop with started := true, frame := 8 } }
     s.loop.started = true ∧ s.loop.frame = s.tickCount) ∧
    (framed { served with start := { served.start with cold := true, ended := 0 } }).thermalOn = false ∧
    Tab.get (fun _ => 0) (heldFor 125 served).loop.held 15 = 125 ∧ Tab.get (fun _ => 0) (heldFor 124 served).loop.held 0 ≠ 125 := by
  decide +kernel

/-- Loop x is enabled, in Hold, of order 1, with a sample. -/
def law (x : Nat) (s : State) : State :=
  let s := (loopSt s x 2).wr (R.LOOP_ACTIVE_CFG x 0) 0x80000001
  let s := s.wr (R.LOOP_ACTIVE_CFG x 1) 0x3FFF0000
  let s := (s.wr (R.LOOP_ACTIVE_CFG x 4) 0x00080000).wr (R.LOOP_ACTIVE_CFG x 24) 0x00100000
  let s := (s.wr (R.LOOP_ACTIVE_CFG x 32) 0x00012345).wr (R.LOOP_ACTIVE_CFG x 36) 0x00100000
  let s := (s.wr (R.LOOP_ACTIVE_CFG x 3) 500).wr (R.LOOP_ACTIVE_CFG x 2) 2000
  ((s.setF (R.DRV_MON x) F.DRV_MON_SAMPLE 700).setF (R.DRV_CH_CFG x) F.DRV_CH_CFG_RANGE 1).setHold x 0

theorem test_met_LoopLawInHold :
    let s := law 16 (blk { served with now := 10000 } 0)
    s.tickCount % 8 = (0 + 2) % 8 ∧ s.blkUp 0 = true ∧ Tab.get (fun _ => 0) s.loop.win 0 ≠ s.tickCount ∧ 5 ≤ s.lanes 0 ∧ s.loop.lost = [] ∧
    s.loopState 16 = 2 ∧ (s.lx 16).ho = none ∧ s.hold 16 = 0 ∧ s.rangeBreak 16 = none ∧ cfgMeas (s.cfgW 16 0) ≠ 2 ∧
    s.tickCount % 8 ≠ (7 + 2) % 8 ∧ s.blkUp 15 = false ∧
    Tab.get (fun _ => 0) (after (.loopGroupWindow 0 0 0) s).loop.win 0 = s.tickCount := by decide +kernel

def laned (k : Nat) : State := (blk served 0).setF (R.LOOP_BLK_STATUS 0) F.LOOP_BLK_STATUS_LANES k

theorem test_met_LoopLanesAndSearches :
    (laned 0).lanes 0 = 0 ∧ (laned 4).lanes 0 = 4 ∧ (laned 6).lanes 0 = 6 ∧ (laned 4).blkUp 0 = true ∧
    (let s := fun (k : Nat) => (((loopSt served 9215 1).setF R.LOOP_ENGINE_CTRL F.LOOP_ENGINE_CTRL_ACQ_TIMEOUT 2).setLx 9215
       { LoopX.zero with slot := true, searched := k })
     (s 2500).loopState 9215 = 1 ∧ ((s 2500).lx 9215).slot = true ∧ (s 2500).fld R.LOOP_ENGINE_CTRL F.LOOP_ENGINE_CTRL_ACQ_TIMEOUT = 2 ∧
     2 * 1250 ≤ ((s 2500).lx 9215).searched ∧ ((s 2499).lx 9215).searched < 2 * 1250) ∧
    (let s := loopSt served 543 2
     s.loopState 543 = 2 ∧ elemOf 543 = .cell 4111 ∧ s.liveCell 4111 = false) ∧
    (let s := (loopSt served 9215 2).setHold 9215 1
     s.loopState 9215 = 2 ∧ elemOf 9215 = .vo 255 ∧ 544 ≤ 9215 % 576 ∧ (s.hold 9215).testBit 0 = true) ∧
    9216 ≤ (9216 : BitVec 14).toNat ∧ served.loopState 0 ≠ 2 := by decide +kernel

end Sys2Proof.Tests
end

