-- ==== Sys2Proof/Tests/WitEvent.lean ====
section
/-! SUPPORT. States and operands that meet the hypotheses of the statements on shadow writes, events and captures. -/

set_option Elab.async false

namespace Sys2Proof.Tests

open Sys2Proof Sys2Proof.Machine

/-! ### Shadow writes -/

def word4 (n : Nat) : List Nat := [n % 256, n / 256 % 256, n / 65536 % 256, n / 2 ^ 24]

/-- A SHADOW_WRITE: target, inline, pipeline mask, table, FIRST, COUNT, BUF_LEN. -/
def shadowOp (tgt inl msk tbl first count len : Nat) : Desc :=
  mkDesc 1 len ([tgt, inl + 16 * msk, tbl % 256, tbl / 256] ++ word4 first ++ word4 count) ([255, 255, 255, 255, 1, 2, 3, 0x84] ++ List.replicate 24 0xA5)

def shadowBuf : Buf := ⟨true, [255, 255, 255, 255, 5, 6, 7, 0x88]⟩

/-- What a shadow write that is done asks for. -/
def shadowOk (d : Desc) (s : State) (t : Nat) : Bool :=
  s.offers 0 d d.needsBuf true && d.opcode == 1 && (s.shadowRefusal d).isNone && !s.racking d.domain && s.fab.solving.isNone &&
  s.cqUp (s.boundCq 0) && d.target == t

/-- Each target of R317 and the words of its space. -/
def shadowSpaces : List (Nat × Nat) :=
  [(1, 256), (2, 136), (3, 442368), (4, 12294), (5, 2560), (6, 128), (7, 96), (8, 303104), (9, 81920), (10, 96)]

theorem test_met_ShadowWriteRegisterWords :
    ((shadowSpaces.filter fun e => !([2, 4, 8, 9].contains e.1)).all fun e =>
      (let d := shadowOp e.1 1 9 0 (e.2 - 2) 2 0
       shadowOk d (offering served d) e.1 && d.first + d.count == d.space) &&
      (let d := shadowOp e.1 0 15 0 0 2 8
       shadowOk d (offering served d) e.1)) = true := by decide +kernel

theorem test_met_ShadowWriteStores :
    ((shadowSpaces.filter fun e => [2, 4, 8, 9].contains e.1).all fun e =>
      (let d := shadowOp e.1 1 9 0 (e.2 - 2) 2 0
       shadowOk d (offering served d) e.1 && d.first + d.count == d.space) &&
      (let d := shadowOp e.1 0 15 0 0 2 8
       shadowOk d (offering served d) e.1)) = true := by decide +kernel

def inRack (dom : Nat) (s : State) : State :=
  { s with rack := { s.rack with run := some ⟨⟨.rack, none, dom, 0, none, none, [], 500⟩, 3, 0, 3, 0, false, false, false, false, []⟩ } }

theorem test_met_ShadowWriteHeldBack :
    (let none_ := shadowOp 1 1 1 0 0 0 0
     let long := shadowOp 1 1 1 0 255 2 0
     let nine := shadowOp 1 1 1 0 0 9 0
     let short := shadowOp 1 0 1 0 0 2 7
     let table := shadowOp 9 1 1 7 0 1 0
     let mask := shadowOp 8 1 0 0 0 1 0
     ([none_, long, nine, short, table, mask].all fun d => (offering served d).offers 0 d d.needsBuf true) = true ∧ none_.count = 0 ∧
     long.space < long.first + long.count ∧ nine.inline_ = true ∧ 8 < nine.count ∧ short.inline_ = false ∧ short.bufLen < 4 * short.count ∧
     table.target = 9 ∧ 6 < table.table ∧ mask.target = 8 ∧ mask.pipeMask = 0) ∧
    (let d := shadowOp 1 1 1 0 0 8 0
     let s := offering (md .shadow served) d
     let r := offering (inRack 1 served) d
     let v := fabd (offering served d) fun f => { f with solving := some ⟨⟨1, 1⟩, false, false, false, false⟩ }
     s.offers 0 d d.needsBuf true = true ∧ s.mode = .shadow ∧ r.offers 0 d d.needsBuf true = true ∧ r.shadowRefusal d = none ∧
     r.racking d.domain = true ∧ v.offers 0 d d.needsBuf true = true ∧ d.target = 1 ∧ v.shadowRefusal d = none ∧ v.racking 1 = false ∧
     v.fab.solving ≠ none ∧ v.fab.solveQ = []) ∧
    (let d := shadowOp 11 0 0 0 0 0 0
     let s := offering served d
     s.offers 0 d false true = true ∧ d.target = 11 ∧ s.shadowRefusal d = none ∧ s.racking 2 = false) ∧
    (let d := shadowOp 12 1 0 0 3 2 0
     let s := offering (served.setF (R.TIM_SERVO_CFG 3) F.TIM_SERVO_CFG_STEP_EN 0) d
     let on := s.setF (R.TIM_SERVO_CFG 3) F.TIM_SERVO_CFG_EN 1
     s.offers 0 d false true = true ∧ d.target = 12 ∧ s.shadowRefusal d = none ∧ d.first = 3 ∧ s.flag (R.TIM_SERVO_CFG 3) F.TIM_SERVO_CFG_EN = false ∧
     on.offers 0 d false true = true ∧ on.flag (R.TIM_SERVO_CFG 3) F.TIM_SERVO_CFG_EN = true ∧
     on.flag (R.TIM_SERVO_CFG 3) F.TIM_SERVO_CFG_SRC = false ∧ on.tbFollows 3 = false ∧
     on.flag (R.TIM_SERVO_CFG 3) F.TIM_SERVO_CFG_STEP_EN = false) := by decide +kernel

/-! ### Events -/

def firing (src : Nat) (path : List Nat) (s : State) : State := { s with evt := { s.evt with fired := [⟨src, path, 1000, none⟩] } }

/-- Channel c passes a source to a task. -/
def channel (c src t : Nat) (s : State) : State :=
  ((s.setF (R.EVT_CH_CFG c) F.EVT_CH_CFG_ENABLE 1).setF (R.EVT_CH_CFG c) F.EVT_CH_CFG_SOURCE src).wr (R.EVT_CH_TASKS c) (BitVec.ofNat 32 (128 + t))

def otherOff (s : State) (c src : Nat) : Bool :=
  (List.range 64).all fun b => b == c || !s.flag (R.EVT_CH_CFG b) F.EVT_CH_CFG_ENABLE || s.fld (R.EVT_CH_CFG b) F.EVT_CH_CFG_SOURCE != src

theorem test_met_EventsThroughTheFabric_pins :
    (let s := (served.setF (R.EVT_PIN_CFG 15) F.EVT_PIN_CFG_EDGE 2).setF (R.EVT_PIN_CFG 15) F.EVT_PIN_CFG_HOLDOFF 5
     let e := { s with now := 7999, evt := { s.evt with lastEdge := [(15, some 3000)] } }
     s.eventsOn = true ∧ s.fld (R.EVT_PIN_CFG 15) F.EVT_PIN_CFG_EDGE = 2 ∧ Tab.get (fun _ => none) s.evt.lastEdge 15 = none ∧
     Tab.get (fun _ => none) e.evt.lastEdge 15 = some 3000 ∧ max e.now (e.tick + 999) < 3000 + 1000 * e.fld (R.EVT_PIN_CFG 15) F.EVT_PIN_CFG_HOLDOFF ∧
     (served.setF (R.EVT_PIN_CFG 0) F.EVT_PIN_CFG_EDGE 1).fld (R.EVT_PIN_CFG 0) F.EVT_PIN_CFG_EDGE = 1) ∧
    (let s := { served with evt := { served.evt with evoEnd := [(7, some 99999)] } }
     Tab.get (fun _ => none) s.evt.evoEnd 7 = some 99999) := by decide +kernel

theorem test_met_EventsThroughTheFabric_channels :
    (firing 254 [] served).evt.fired = [⟨254, [], 1000, none⟩] ∧ otherOff (firing 254 [] served) 64 254 = true ∧
    (let ok := fun (k : Nat) (path : List Nat) =>
       let s := firing 244 path (channel 63 244 k served)
       s.flag (R.EVT_CH_CFG 63) F.EVT_CH_CFG_ENABLE && s.fld (R.EVT_CH_CFG 63) F.EVT_CH_CFG_SOURCE == 244 && otherOff s 63 244 &&
       (s.rd (R.EVT_CH_TASKS 63)).toNat &&& 0x808080FF == 128 + k && s.evt.fired == [⟨244, path, 1000, none⟩] && !path.contains 63 &&
       decide (path.length < 8)
     ok 111 [1, 2, 3, 4, 5, 6, 7] = true ∧ ok 96 [] = true ∧ ok 91 [] = true ∧ ok 84 [0] = true ∧ ok 2 [] = true ∧ ok 1 [] = true) ∧
    (63 : Nat) ∈ [63] ∧ 8 ≤ [1, 2, 3, 4, 5, 6, 7, 8].length ∧
    (channel 63 244 2 served).fld (R.EVT_CH_OWN 63) F.EVT_CH_OWN_SECURE = 1 ∧ (channel 0 244 2 served).fld (R.EVT_CH_OWN 0) F.EVT_CH_OWN_SECURE = 0 ∧
    (served.rd (R.EVT_CH_TASKS 63)).toNat &&& 0x80 = 0 ∧
    (served.setF (R.EVT_EVO_CFG 7) F.EVT_EVO_CFG_MODE 1).fld (R.EVT_EVO_CFG 7) F.EVT_EVO_CFG_MODE = 1 := by decide +kernel

theorem test_met_ChannelOwners :
    (let s := (served.setF (R.EVT_CH_OWN 0) F.EVT_CH_OWN_CLAIMED 1).setF (R.EVT_CH_OWN 0) F.EVT_CH_OWN_OWNER Owner.mgmt.code
     Owner.mgmt ≠ .safety ∧ s.fld (R.EVT_CH_OWN 0) F.EVT_CH_OWN_CLAIMED = 1 ∧ s.fld (R.EVT_CH_OWN 0) F.EVT_CH_OWN_OWNER = Owner.mgmt.code ∧
     s.fld (R.EVT_CH_OWN 0) F.EVT_CH_OWN_SECURE = 0 ∧ F.EVT_CH_OWN_SECURE.get 0 = 0 ∧ F.EVT_CH_OWN_CLAIMED.get 0 = 0 ∧
     Owner.host.code ≠ Owner.mgmt.code ∧ served.fld (R.EVT_CH_OWN 63) F.EVT_CH_OWN_SECURE = 1) ∧
    (let v := F.EVT_CH_OWN_CLAIMED.set (F.EVT_CH_OWN_OWNER.set 0 Owner.mgmt.code) 1
     served.fld (R.EVT_CH_OWN 0) F.EVT_CH_OWN_CLAIMED = 0 ∧ served.fld (R.EVT_CH_OWN 0) F.EVT_CH_OWN_SECURE = 0 ∧
     F.EVT_CH_OWN_CLAIMED.get v = 1 ∧ F.EVT_CH_OWN_OWNER.get v = Owner.mgmt.code ∧ F.EVT_CH_OWN_SECURE.get v = 0) := by decide +kernel

/-! ### Captures -/

/-- Unit 15 is set up for one channel, two rows before and three after its trigger. -/
def captureSet (s : State) : State :=
  ((((s.wr (R.HRV_BASE 15) 0x183C0).wr (R.HRV_PRE 15) 2).wr (R.HRV_POST 15) 3).setF (R.HRV_CHAN 15 0) F.HRV_CHAN_KIND 1).setF
    (R.HRV_CTRL 15) F.HRV_CTRL_RATE 1 |>.setF (R.HRV_CTRL 15) F.HRV_CTRL_RECORDS 1

def captureIn (k : Nat) (f : Hrv → Hrv) (s : State) : State := (s.setHuState 15 k).setHu 15 (f ((s.setHuState 15 k).hu 15))
def recordOf (q : Nat) : HrvRec := ⟨q, 0x18000000, 1, 5, false, false, false, 5, 1, 2, 2, 3, 0, 1, 0, 1, 1⟩

theorem test_met_HarvestRequests :
    (let d := mkDesc 9 0 [15, 0] []
     let s := offering (captureSet served) d
     s.offers 0 d false true = true ∧ d.opcode = 9 ∧ s.cqUp (s.boundCq 0) = true ∧ d.unit = 15 ∧ d.byte 21 = 0 ∧ s.captureRefused = false ∧
     s.huRuns 15 = false ∧ s.badCapture 15 = false ∧ s.huOverlap 15 (fun _ => true) = false ∧ (offering served d).badCapture 15 = true ∧
     (captureIn 1 id s).huRuns 15 = true ∧ (captureIn 1 id s).offers 0 d false true = true) ∧
    (let d := mkDesc 9 0 [15, 0] []
     let s := offering { captureSet served with mode := .start, start := StartSt.zero } d
     s.offers 0 d false true = true ∧ s.captureRefused = true) ∧
    (let d := mkDesc 9 0 [15, 1] []
     let s := captureIn 3 (fun h => { h with cur := some (recordOf 4), nextSeq := 5 }) (offering (captureSet served) d)
     s.offers 0 d false true = true ∧ d.byte 21 = 1 ∧ s.captureRefused = false ∧ s.huRuns 15 = true ∧ (s.hu 15).cur = some (recordOf 4) ∧
     (offering served d).huRuns 15 = false) ∧
    (let d := mkDesc 9 0 [15, 2] []
     let s := captureIn 1 id (offering (captureSet served) d)
     s.offers 0 d false true = true ∧ d.byte 21 = 2 ∧ s.huRuns 15 = true ∧ s.huState 15 = 1) := by decide +kernel

theorem test_met_HarvestRequests_overlap :
    let d := mkDesc 9 0 [15, 0] []
    let s := (((((captureSet (offering served d)).wr (R.HRV_BASE 0) 0x183C0).wr (R.HRV_PRE 0) 2).wr (R.HRV_POST 0) 3).setF (R.HRV_CHAN 0 0)
      F.HRV_CHAN_KIND 1).setF (R.HRV_CTRL 0) F.HRV_CTRL_RATE 1 |>.setF (R.HRV_CTRL 0) F.HRV_CTRL_RECORDS 1 |>.setHuState 0 2
    s.offers 0 d false true = true ∧ s.huRuns 15 = false ∧ s.badCapture 15 = false ∧ s.huOverlap 15 (fun _ => true) = true := by decide +kernel

theorem test_met_HarvestCapture :
    (let s := captureIn 1 (fun h => { h with due := [.preFull] }) (captureSet served)
     (s.hu 15).due = .preFull :: []) ∧
    (let trg : HrvDue := .trigger 17 513 1000 [5] [3]
     let s := fun (k : Nat) => captureIn k (fun h => { h with due := [trg], rows := 3 }) (captureSet served)
     ((s 2).hu 15).due = trg :: [] ∧ (s 2).huState 15 = 2 ∧ (s 1).huState 15 = 1 ∧ (s 4).huState 15 = 4 ∧ 17 < 32) ∧
    (let s := captureIn 3 (fun h => { h with due := [.complete], cur := some (recordOf 4), posted := 3, lost := 2 }) (captureSet served)
     (s.hu 15).due = .complete :: [] ∧ (s.hu 15).cur = some (recordOf 4) ∧ 1 ≤ s.huState 15 ∧ s.huState 15 ≤ 3) ∧
    (findReg (0xA00000 + 256 * 15 + 4 * 1)).isSome = true ∧ (findReg (0xA00000 + 256 * 15 + 4 * 4)).isSome = true ∧
    (captureIn 1 id served).huRuns 15 = true ∧ served.huRuns 15 = false ∧ F.HRV_BASE_BASE.get 0x17FFF = 0x17FFF := by decide +kernel

theorem test_met_HarvestReads :
    (let d := mkDesc 10 72 [15, 0, 0, 0, 4, 0, 0, 0, 0, 0, 0, 0] []
     let s := captureIn 5 (fun h => { h with recs := [recordOf 3, { recordOf 4 with rows := 5, full := true }], nextSeq := 5 }) (offering (captureSet served) d)
     s.offers 0 d true true = true ∧ d.opcode = 10 ∧ s.cqUp (s.boundCq 0) = true ∧ s.captureRefused = false ∧ d.le 24 4 ≠ 0xFFFFFFFF ∧ d.unit = 15 ∧
     ((s.readable 15).find? (fun h => h.seq == d.le 24 4)).isSome = true) ∧
    (let d := mkDesc 10 72 [15, 0, 0, 0, 9, 0, 0, 0, 0, 0, 0, 0] []
     (offering served d).offers 0 d true true = true ∧ ((offering served d).readable 15).find? (fun h => h.seq == d.le 24 4) = none) := by
  decide +kernel

end Sys2Proof.Tests
end

