-- ==== Sys2Proof/Tests/WitFabric.lean ====
section
/-! SUPPORT. States and operands that meet the hypotheses of the statements on the queue, the fabric, the solver and the racks. -/

set_option Elab.async false

namespace Sys2Proof.Tests

open Sys2Proof Sys2Proof.Machine

/-! ### Steps -/

def waiting : State := { served with pending := [.hifNudge, .pcieLinkUp] }

theorem test_met_StepRunsFrontCommand : waiting.pending = Instr.hifNudge :: [.pcieLinkUp] := rfl

theorem test_met_EveryStepKeepsCanonicalForms :
    waiting.regsTidy = true ∧ waiting.cellarTidy = true ∧ ∃ t, step waiting = .next t := ⟨by decide, by decide, _, rfl⟩

/-! ### Port powers -/

def monitored : State :=
  ((blk (blk { served with drive := { served.drive with blkFrames := [(0, 2), (1, 3)] } } 0) 1).setF (R.DRV_MON 544) F.DRV_MON_SAMPLE 112).setF
    (R.DRV_MON 560) F.DRV_MON_SAMPLE 111

theorem test_met_PortPowers :
    monitored.monValid (elemVI 0) = true ∧ monitored.fld (R.DRV_MON (elemVI 0)) F.DRV_MON_SAMPLE = 112 ∧
    monitored.monValid (elemVO 0) = true ∧ monitored.fld (R.DRV_MON (elemVO 0)) F.DRV_MON_SAMPLE = 111 ∧
    monitored.wavePower (elemVO 0) ≤ 2000 ∧ monitored.monValid (elemVI 255) = false := by decide +kernel

/-! ### The solver -/

def solveReq1 : SolveReq := ⟨⟨1, 1⟩, false, false, false, false⟩
def solveReqA : SolveReq := ⟨⟨0, 1⟩, false, false, true, false⟩

theorem test_met_SolveRequests :
    ([mkDesc 2 0 [0] [], mkDesc 2 0 [0, 2] [], mkDesc 2 0 [1] []].all fun d =>
      let free := offering served d
      let full := offering (fabd served fun f => { f with solveQ := List.replicate 4 solveReq1 }) d
      let shadow := offering (md .shadow served) d
      decide (free.offers 0 d false true = true ∧ d.opcode = 2 ∧ free.restarting 2 = false ∧ d.byte 20 ≤ 1 ∧ free.mode ≠ .shadow ∧
        free.admitted 8 = true ∧ free.racking 1 = false ∧ free.fab.resolve = none ∧ free.fab.solving = none ∧ free.fab.solveQ = []) &&
      decide (full.offers 0 d false true = true ∧ full.admitted 8 = true ∧ full.racking 1 = false ∧ full.cqUp (full.boundCq 0) = true ∧
        full.fab.solveQ.length = 4) &&
      decide (shadow.offers 0 d false true = true ∧ shadow.mode = .shadow ∧ shadow.cqUp (shadow.boundCq 0) = true)) = true := by
  decide +kernel

def mapped (s : State) : State :=
  (s.setF (R.FAB_SHADOW_MAP 3) F.FAB_SHADOW_MAP_VALID 1).setF (R.FAB_SHADOW_MAP 3) F.FAB_SHADOW_MAP_OUT 5

theorem test_met_SolverTakesAndEnds :
    (let s := fabd { served with now := 5488 } fun f => { f with solveQ := [solveReqA, solveReq1] }
     s.now = s.tick + 488 ∧ s.fab.solving = none ∧ s.fab.resolve = none ∧ s.fab.solveQ = [solveReqA, solveReq1] ∧ solveReqA.rackAfter = true) ∧
    (let d := mkDesc 2 0 [0] []
     let r := { solveReqA with rackAfter := false }
     let s := fabd (doing (mapped served) d) fun f => { f with solving := some r }
     s.fab.solving = some r ∧ s.fab.solveQ = [] ∧ s.fab.resolve = none ∧ r.req.sq < 32 ∧ (s.sqRing r.req.sq).exec = some (r.req.job, d) ∧
     s.cqUp (s.boundCq r.req.sq) = true ∧ r.checkOnly = false ∧ r.rackAfter = false ∧ s.racking 1 = false ∧
     s.rack.arrived = []) ∧
    served.fab.solving = none := by decide +kernel

def solving : State :=
  fabd (doing (mapped served) (mkDesc 2 0 [0] [])) fun f => { f with solving := some { solveReqA with rackAfter := false } }

theorem test_met_SolverTakesAndEnds_map :
    Solver.firstBadEntry 0 solving.shadowMap = none ∧ Solver.firstConflict (Solver.conns solving.shadowMap) = none := by decide +kernel

theorem test_met_SolverTakesAndEnds_image :
    ∃ img moved, solving.given.solve (Solver.conns solving.shadowMap) false = .image img [] moved ∧
      Solver.check img solving.fab.failed.toNat (Solver.conns solving.shadowMap) = none := by
  have h : (match solving.given.solve (Solver.conns solving.shadowMap) false with
      | .image img [] _ => Solver.check img solving.fab.failed.toNat (Solver.conns solving.shadowMap) == none
      | _ => false) = true := by decide +kernel
  split at h
  · next img moved hs => exact ⟨img, moved, hs, eq_of_beq h⟩
  · cases h

/-! ### The failed set -/

theorem test_met_FailedSetEdits :
    (let s := fl served fun f => { f with latched := [(rp 0 0, 2), (rp 0 0, 1)], monitorUp := true }
     s.flt.latched = (rp 0 0, 2) :: [(rp 0 0, 1)] ∧ s.flt.monitorUp = true ∧ s.flt.recs = [] ∧ s.mgmt.logQ.length < 256 ∧
     (rp 0 0).src < 32 ∧ elemOf (rp 0 0).loc = .cell 0) ∧
    (let s := fl (fabd served fun f => { f with recCells := [(0, 5), (4351, 6)] }) fun f =>
       { f with recs := [(0, some (frec 5 2 0 0 true)), (1, some (frec 6 2 0 0 false))] }
     (0, 5) ∈ s.fab.recCells ∧ s.recOpen 5 = true ∧ (4351, 6) ∈ s.fab.recCells ∧ s.recOpen 6 = false ∧ (0 : BitVec 13).toNat = 0 ∧
     (4351 : BitVec 13).toNat = 4351 ∧ 4352 ≤ (4352 : BitVec 13).toNat ∧ 4352 ≤ (8191 : BitVec 13).toNat) ∧
    (let d := mkDesc 16 0 [0, 0, 0, 0, 5] []
     let s := fl (offering served d) fun f => { f with recs := [(0, some (frec 5 2 0 0 true))] }
     s.offers 0 d false true = true ∧ d.opcode = 0x10 ∧ d.byte 20 = 0 ∧ s.flt.recs = [(0, some (frec 5 2 0 0 true))] ∧
     (frec 5 2 0 0 true).opened = true ∧ d.le 24 4 = 5) := by decide +kernel

/-! ### Racks -/

def trig (src : RackSrc) (dom : Nat) : Trig := ⟨src, none, dom, 0, none, none, [], 500⟩
def rackRun (t : Trig) (u r : Nat) : RackRun := ⟨t, 0x80000000, 0, u, r, false, false, false, false, []⟩

/-- The images are solved and sealed, and timing set 0 is valid. -/
def racked (s : State) : State :=
  ((s.setF R.FAB_SOLVE_STATUS F.FAB_SOLVE_STATUS_SOLVED 1).setF R.FAB_PKT_SHADOW F.FAB_PKT_SHADOW_SEALED 1).setF (R.FAB_RACK_TS 0)
    F.FAB_RACK_TS_VALID 1

theorem test_met_RackTriggers_arrive :
    let d := mkDesc 3 0 [0, 3, 0, 1, 0, 0, 0, 0] []
    let s := offering served d
    s.offers 0 d false true = true ∧ d.opcode = 3 ∧ d.byte 20 = 0 := by decide +kernel

theorem test_met_RackTriggers_tick :
    (let k := trig .rack 3
     let s := rackd (racked served) fun r => { r with arrived := [k] }
     let u := rackd (racked served) fun r => { r with arrived := [k], run := some (rackRun k 1 0) }
     s.start.change = none ∧ s.start.queue = [] ∧ k.src ≠ .fault ∧ k.src ≠ .mirror ∧ s.rack.arrived = [k] ∧ s.rack.deferred = none ∧
     s.mode = .serve ∧ s.rack.run = none ∧ s.rack.pendingTrig = none ∧ u.rack.arrived = [k] ∧ u.rack.run ≠ none ∧ u.rack.pendingTrig = none ∧
     (rackd u fun r => { r with pendingTrig := some k }).rack.pendingTrig ≠ none ∧
     s.flag R.FAB_SOLVE_STATUS F.FAB_SOLVE_STATUS_SOLVED = true ∧ s.rd R.FAB_SOLVE_BASE = s.rd R.FAB_VINTAGE_FABRIC ∧ k.expect = none ∧
     s.flag R.FAB_PKT_SHADOW F.FAB_PKT_SHADOW_SEALED = true ∧ s.flag (R.FAB_RACK_TS k.tset) F.FAB_RACK_TS_VALID = true ∧ k.domains = 3) ∧
    (trig .rack 0).domains = 0 ∧ served.flag R.FAB_SOLVE_STATUS F.FAB_SOLVE_STATUS_SOLVED = false ∧
    ((racked served).wr R.FAB_SOLVE_BASE 1).rd R.FAB_SOLVE_BASE ≠ ((racked served).wr R.FAB_SOLVE_BASE 1).rd R.FAB_VINTAGE_FABRIC ∧
    served.flag R.FAB_PKT_SHADOW F.FAB_PKT_SHADOW_SEALED = false ∧ ((racked served).setF (R.FAB_RACK_TS 3) F.FAB_RACK_TS_VALID 0).flag (R.FAB_RACK_TS 3) F.FAB_RACK_TS_VALID = false := by
  decide +kernel

theorem test_met_RackTriggers_later :
    (let k := trig .rack 3
     let s := rackd (racked (md .limp served)) fun r => { r with arrived := [k], lastCommit := some 2000 }
     s.mode = .limp ∧ s.rack.arrived = [k] ∧ s.rack.deferred = none ∧ s.rack.run = none ∧ s.rack.pendingTrig = none ∧
     s.rack.lastCommit = some 2000 ∧ max ((k.at_ / 1000 + 1) * 1000) ((s.now + 999) / 1000 * 1000) < 2000 + 100000) ∧
    (let k := trig .rack 3
     let s := rackd (racked served) fun r => { r with pendingTrig := some k }
     s.rack.run = none ∧ s.rack.pendingTrig = some k ∧ s.rack.deferred = none ∧ s.mode = .serve) ∧
    (let k := trig .event 1
     let s := rackd (racked (md .limp served)) fun r => { r with deferred := some (k, 102000), lastCommit := some 2000 }
     s.rack.deferred = some (k, 102000) ∧ s.rack.run = none ∧ s.mode = .limp ∧ s.rack.lastCommit = some 2000 ∧ s.start.queue = []) := by
  decide +kernel

theorem test_met_RackWithdrawals :
    (let d := mkDesc 3 0 [1] []
     let s := offering served d
     let w := rackd s fun r => { r with run := some { rackRun (trig .rack 3) 1 0 with window := true } }
     let e := rackd s fun r => { r with run := some (rackRun (trig .event 1) 1 0) }
     s.rack.pendingTrig = none ∧ s.rack.deferred = none ∧ s.offers 0 d false true = true ∧ d.opcode = 3 ∧ d.byte 20 = 1 ∧
     s.cqUp (s.boundCq 0) = true ∧ s.rack.run = none ∧ w.offers 0 d false true = true ∧ w.rack.run.map RackRun.window = some true ∧
     e.offers 0 d false true = true ∧ e.rack.run = some (rackRun (trig .event 1) 1 0) ∧ e.rack.waiting = []) ∧
    (let s := rackd served fun r => { r with deferred := some (trig .event 1, 102000) }
     s.rack.pendingTrig = none ∧ s.rack.run = none ∧ s.rack.deferred = some (trig .event 1, 102000)) := by decide +kernel

theorem test_met_RackPrepares :
    (let r := rackRun (trig .rack 3) 0x7FFFFF 0
     let s := rackd served fun k => { k with run := some r }
     s.rack.run = some r ∧ r.window = false ∧ r.prebiased = false ∧ s.rack.waiting = [] ∧ s.restarting 2 = false ∧ bitOf r.units 15 = true ∧
     bitOf r.ready 15 = false ∧ s.overBudget (15 : Fin 23) = false ∧ r.t0 ≤ s.now ∧ r.units &&& r.ready ≠ r.units ∧ r.go = false ∧
     s.now < r.t0 + 1000 * max 2 (s.fld R.FAB_RACK_CTRL F.FAB_RACK_CTRL_DEADLINE)) ∧
    (let r := { rackRun (trig .rack 3) 0x7FFFFF 0x7FFFFF with go := true }
     let s := rackd { served with now := 70700 } fun k => { k with run := some r }
     s.rack.run = some r ∧ r.units &&& r.ready = r.units ∧ r.go = true ∧
     r.t0 + 1000 * max 2 (s.fld R.FAB_RACK_CTRL F.FAB_RACK_CTRL_DEADLINE) ≤ s.now ∧ r.units < 2 ^ 23) := by decide +kernel

theorem test_met_RackCommits :
    (let r := { rackRun (trig .rack 3) 0x7FFFFF 0x7FFFFF with window := true }
     let f := { rackRun (trig .fault 1) 0x3FFFF 0x3FFFF with window := true }
     let s := rackd { served with now := 70700 } fun k => { k with run := some r }
     s.rack.run = some r ∧ r.window = true ∧ r.trig.domains % 2 = 1 ∧ s.rack.waiting = [] ∧ s.fab.solveQ = [] ∧ f.trig.src = .fault ∧
     f.trig.domains % 2 = 1 ∧ r.trig.src ≠ .fault) ∧
    (let s := rackd served fun k => { k with confirmed := some (trig .event 2, 0x400001) }
     s.rack.confirmed = some (trig .event 2, 0x400001) ∧ 0x400001 < 2 ^ 23 ∧ (trig .event 2).src ≠ .fault) ∧
    (let s := fabd served fun f => { f with resolveDue := [4] }
     s.fab.resolveDue ≠ [] ∧ s.fab.resolve = none ∧ s.mode = .serve ∧ s.restarting 2 = false ∧ s.rack.run = none ∧ s.rack.arrived = []) := by
  decide +kernel

theorem test_met_RackCommits_resolve :
    let s := fabd served fun f => { f with resolve := some ⟨[4]⟩ }
    s.fab.resolve = some ⟨[4]⟩ ∧
    Solver.check s.given.resolve.1 s.given.failed (s.carriedConns.filter fun c => !s.given.resolve.2.contains c.inp) = none := by
  decide +kernel

end Sys2Proof.Tests
end

