-- ==== Sys2Proof/Tests/WitFault.lean ====
section
/-! SUPPORT. States and operands that meet the hypotheses of the statements on faults, watchdogs, injections and monitors. -/

set_option Elab.async false

namespace Sys2Proof.Tests

open Sys2Proof Sys2Proof.Machine

def flUp (s : State) : State := fl s fun f => { f with monitorUp := true }
def flDown (s : State) : State := fl s fun f => { f with monitorUp := false }
def sevSet (src k : Nat) (s : State) : State := s.setF (R.FLT_SEV src) F.FLT_SEV_SEVERITY k

/-! ### Reports and records -/

/-- Report r is the second of two errors raised, at severity k. -/
def raisedAs (r : Report) (k : Nat) : State := flDown (fl (sevSet r.src k served) fun f => { f with raised := [rp 450 1, r] })

def severityOf (s : State) (src : Nat) : Nat :=
  (Tab.get (fun _ => none) s.flt.copies src).getD (s.fld (R.FLT_SEV src) F.FLT_SEV_SEVERITY)

def foundRaised (r : Report) (k : Nat) : Bool :=
  let s := raisedAs r k
  (s.flt.raised.find? fun e => e.src == r.src && e.loc == r.loc) == some r && severityOf s r.src == k && s.mode != .dormant &&
  (sevOf r.src).isSome && locOk r.src r.loc

theorem test_met_FaultReportsAndRecords_reports :
    (sevOf 614 = none ∧ locOk 31 0 = false ∧ locOk 0 9216 = false ∧ locOk 490 4 = false) ∧
    ([rp 0 0, rp 31 (576 * 15 + 543), rp 450 0, rp 613 0].all fun r => foundRaised r 0 && foundRaised r 1) = true ∧
    ([rp 450 0, rp 501 0].all fun r => foundRaised r 2 && targetOf r.src r.loc == none) = true ∧
    ([rp 0 0, rp 31 (576 * 15 + 575), rp 48 3, rp 95 (576 * 15), rp 0 544, rp 0 560].all fun r =>
      foundRaised r 2 && (decide (r.src < 32) || decide (48 ≤ r.src ∧ r.src < 96))) = true ∧
    elemOf 0 = .cell 0 ∧ elemOf 544 = .vi 0 ∧ elemOf 560 = .vo 0 ∧ elemOf (576 * 15 + 575) = .vo 255 ∧
    ([3, 4].all fun k => foundRaised (rp 450 0) k && !(raisedAs (rp 450 0) k).flt.monitorUp && decide ((raisedAs (rp 450 0) k).mode = .serve)) = true ∧
    (raisedAs (rp 450 0) 3).start.change = none ∧ (md .dormant served).mode = .dormant := by decide +kernel

/-- An injection of src at loc waits, the second of two. -/
def injected (src loc : Nat) (h : Bool) (k : Nat) : State :=
  fl (sevSet src k served) fun f => { f with inject := [⟨501, 0, h, 5000⟩, ⟨src, loc, h, served.now⟩] }

def injectMet (r : Report) (h : Bool) : Bool :=
  let s := injected r.src r.loc h 1
  s.mode != .dormant && (sevOf r.src).isSome && locOk r.src r.loc && s.flt.raised.isEmpty &&
  (s.flt.inject.find? fun e => e.src == r.src && (!namesElem r.src || e.loc == r.loc) && decide (s.now ≤ e.due)) == some ⟨r.src, r.loc, h, served.now⟩ &&
  decide (s.fld (R.FLT_SEV r.src) F.FLT_SEV_SEVERITY < 2) && s.flt.copies.isEmpty

theorem test_met_FaultReportsAndRecords_injections :
    ([rp 0 0, rp 31 (576 * 15 + 575), rp 450 0, rp 160 0].all fun r => injectMet r false && injectMet r true) = true := by decide +kernel

/-- The report r is the first of two latched at severity k, the monitor up. -/
def latchedAs (r : Report) (k : Nat) : State := flUp (fl served fun f => { f with latched := [(r, k), (rp 1 600, 1)] })

/-- The record of an earlier report of source and location stands open at place p. -/
def openAt (p sev src loc : Nat) (s : State) : State :=
  { fl s fun f => { f with recs := [(p, some ⟨9, sev, src, loc, false, true, none, [], []⟩)] } with
    mgmt := { s.mgmt with logSeq := 9, logQ := [{ (served.newRec 1 1 src [1, 2, 3]) with seq := 9, sev := sev }] } }

theorem test_met_FaultReportsAndRecords_records :
    served.flt.latched = [] ∧
    ([0, 1, 3, 4].all fun k => [rp 0 5, rp 613 0].all fun r =>
      let s := latchedAs r k
      s.flt.latched == (r, k) :: [(rp 1 600, 1)] && s.flt.monitorUp && decide (r.src < 614) && s.flt.recs.isEmpty &&
      decide (s.mgmt.logQ.length < 256) && decide (s.mode = .serve)) = true ∧
    (latchedAs (rp 0 5) 4).start.change = none ∧
    ([0, 63].all fun p => [0, 1].all fun k =>
      let s := openAt p 2 450 0 (latchedAs (rp 450 0) k)
      s.flt.latched == (rp 450 0, k) :: [(rp 1 600, 1)] && s.flt.recs == [(p, some ⟨9, 2, 450, 0, false, true, none, [], []⟩)] &&
      s.mgmt.logQ.any fun x => x.seq == 9) = true := by decide +kernel

/-! ### Readback, watchdogs, restarts -/

/-- Processor k is in a state. -/
def proc (k v : Nat) (s : State) : State := s.setF (R.MGT_PROC_STATUS k) F.MGT_PROC_STATUS_STATE v

theorem test_met_SafeReadbackAndWatchdogs :
    served.flt.safeAt = none ∧ (fl served fun f => { f with safeAt := some 5 }).flt.safeAt = some 5 ∧
    blockOf 0 = 0 ∧ blockOf 9215 = 15 ∧ 511 % 256 / 16 = 15 ∧
    ([0, 1, 2, 3].all fun k =>
      let s := proc k 1 served
      let old (now : Nat) := ((mg { s with now := now } fun m => { m with expiries := [(k, 1), (k, 2)] }).mgmt.expiries.filter fun e =>
        e.1 == k && decide (now < e.2 + 1000000000)).length
      s.fld (R.MGT_PROC_STATUS k) F.MGT_PROC_STATUS_STATE == 1 && decide (s.mode = .serve) && old 1000000000 == 2 && old 1000000001 == 1 &&
      (proc k 2 served).fld (R.MGT_PROC_STATUS k) F.MGT_PROC_STATUS_STATE == 2 &&
      (proc k 0 served).fld (R.MGT_PROC_STATUS k) F.MGT_PROC_STATUS_STATE == 0) = true ∧
    served.start.change = none ∧ (md .dormant (proc 1 1 served)).mode = .dormant := by decide +kernel

/-! ### Injections, the scrub, the LK path -/

def injAllowed (s : State) (src loc : Nat) : Bool :=
  s.flag (R.FLT_SEV src) F.FLT_SEV_INJECTABLE && (if src < 32 ∨ (48 ≤ src ∧ src < 112) then decide (loc < 9216 ∧ blockOf loc = src % 16) else loc == 0)

def injectables (l : List Nat) (s : State) : State := l.foldl (fun s n => s.setF (R.FLT_SEV n) F.FLT_SEV_INJECTABLE 1) s

theorem test_met_InjectionsScrubAndLkPath_injections :
    (let s := flUp ((injectables [0, 48, 63, 64, 111, 112, 501] served).setF R.FLT_CTRL F.FLT_CTRL_INJ_CYCLE 1)
     s.flt.monitorUp = true ∧ s.fld R.FLT_CTRL F.FLT_CTRL_INJ_CYCLE ≠ 0 ∧ (flDown s).flt.monitorUp = false ∧
     injAllowed s 0 575 = true ∧ injAllowed s 0 576 = false ∧ injAllowed s 64 0 = true ∧ injAllowed s 111 9215 = true ∧ injAllowed s 111 9216 = false ∧
     injAllowed s 501 0 = true ∧ injAllowed s 501 1 = false ∧ injAllowed s 112 0 = true ∧
     (s.setF R.FLT_CTRL F.FLT_CTRL_INJ_CYCLE 0).fld R.FLT_CTRL F.FLT_CTRL_INJ_CYCLE = 0) ∧
    served.flt.inject = [] ∧
    (fl served fun f => { f with inject := [⟨0, 5, true, 77⟩, ⟨1, 6, false, 7⟩] }).flt.inject = ⟨0, 5, true, 77⟩ :: [⟨1, 6, false, 7⟩] ∧
    (let s := (injectables [0, 501] served).setF R.FLT_CTRL F.FLT_CTRL_TEST_INJ_EN 1
     let v := fun (src : Nat) => F.FLT_TEST_INJ_GO.set (F.FLT_TEST_INJ_SOURCE.set (F.FLT_TEST_INJ_LOCATION.set 0 575) src) 1
     s.flag R.FLT_CTRL F.FLT_CTRL_TEST_INJ_EN = true ∧ F.FLT_TEST_INJ_GO.get (v 0) = 1 ∧ F.FLT_TEST_INJ_SOURCE.get (v 0) = 0 ∧
     F.FLT_TEST_INJ_LOCATION.get (v 0) = 575 ∧ injAllowed s 0 575 = true ∧ F.FLT_TEST_INJ_SOURCE.get (v 501) = 501 ∧ injAllowed s 501 575 = false ∧
     F.FLT_TEST_INJ_GO.get 0 = 0) := by decide +kernel

def protectedAt (o : Nat) : Bool := served.protMask o != 0

theorem test_met_InjectionsScrubAndLkPath_scrub :
    served.flt.refs = [] ∧ served.flt.copies = [] ∧ protectedAt (R.FLT_SEV 0) = true ∧ protectedAt (R.FLT_SEV 1023) = true ∧ protectedAt (R.FLT_OPEN 0) = false ∧
    (0xFFFFFFFF#32 &&& served.protMask (R.FLT_SEV 1023)) ≠ 0 ∧ served.fld (R.FLT_SEV 0) F.FLT_SEV_SEVERITY ≠ 7 ∧
    served.fld (R.FLT_SEV 1023) F.FLT_SEV_SEVERITY ≠ 7 := by decide +kernel

/-- A proposal of value v for the register at o waits since instant a. -/
def proposed (o : Nat) (v : Word) (a : Nat) (s : State) : State := fl s fun f => { f with proposal := some (o, v, a) }

theorem test_met_InjectionsScrubAndLkPath_lk :
    (md .latched served).mode = .latched ∧ served.mode ≠ .latched ∧ served.flt.proposal = none ∧
    (let s := { proposed (R.FLT_SEV 0) 4 0 served with now := 1000000 }
     let late := { proposed (R.FLT_SEV 0) 4 0 served with now := 1000001 }
     s.flt.proposal = some (R.FLT_SEV 0, 4, 0) ∧ s.now ≤ 0 + 1000000 ∧ ¬ late.now ≤ 0 + 1000000 ∧
     (0xFFFB#16).toNat = 0xFFFF - (4#32).toNat % 65536 ∧ (0xFFFA#16).toNat ≠ 0xFFFF - (4#32).toNat % 65536 ∧ s.protMask (R.FLT_SEV 0) ≠ 0 ∧
     0x41000 ≤ R.FLT_SEV 0 ∧ R.FLT_SEV 1023 < 0x42000 ∧ (4#32).toNat % 8 ≤ 4 ∧ s.fld (R.FLT_SEV 0) F.FLT_SEV_FLOOR ≤ 4 ∧
     s.mgmt.logQ.length < 256) ∧
    (proposed (R.FLT_OPEN 0) 4 0 served).protMask (R.FLT_OPEN 0) = 0 ∧
    (5#32).toNat % 8 > 4 ∧ (0xFFFA#16).toNat = 0xFFFF - (5#32).toNat % 65536 ∧
    (let s := proposed (R.FLT_SEV 475) 0 0 served
     (0#32).toNat % 8 < s.fld (R.FLT_SEV 475) F.FLT_SEV_FLOOR ∧ s.protMask (R.FLT_SEV 475) ≠ 0 ∧ (0xFFFF#16).toNat = 0xFFFF - (0#32).toNat % 65536) := by
  decide +kernel

/-! ### Monitors -/

def lightOn (s : State) : State :=
  fl ((s.setF (R.FAB_ACTIVE_MAP 3) F.FAB_ACTIVE_MAP_VALID 1).setF (R.FAB_ACTIVE_MAP 3) F.FAB_ACTIVE_MAP_OUT 5) fun f =>
    { f with commitRefLoss := [(5, some (-100))], lossDue := [(5, some 7), (255, some 9)] }

theorem test_met_MonitorsSensorsAndPfail :
    ((md .start served).mode = .start ∧ served.mode ≠ .start ∧
     Tab.get (fun _ => none) (lightOn served).flt.lossDue 255 = some 9 ∧ Tab.get (fun _ => none) (lightOn served).flt.lossDue 0 = none) ∧
    (md .dormant served).mode = .dormant ∧
    ((List.range 11).map fun i => (railLimits i).1).length = 11 ∧
    (let s := fl served fun f => { f with supply := [(0, 1), (21, 1)], clock := [(0, 1), (11, 1)] }
     Tab.get (fun _ => 0) s.flt.supply 0 = 1 ∧ Tab.get (fun _ => 0) s.flt.supply 21 = 1 ∧ Tab.get (fun _ => 0) s.flt.clock 11 = 1) ∧
    (List.replicate 12 (20001 : Int)).length = 12 ∧ (20001 : Int).natAbs > 20000 ∧ ¬ (-20000 : Int).natAbs > 20000 ∧
    served.thermalOn = true ∧
    ((served.setF (R.THM_SENSOR 79) F.THM_SENSOR_FORCED_HOT 1).flag (R.THM_SENSOR 79) F.THM_SENSOR_FORCED_HOT = true ∧
     served.flag (R.THM_SENSOR 0) F.THM_SENSOR_FORCED_HOT = false) ∧
    (let s := { State.reset with mode := .start, start := { StartSt.zero with cold := true, ended := 8 } }
     s.thermalOn = false ∧ s.start.cold = true ∧ s.mode ≠ .dormant ∧ bitOf s.start.ended 3 = true ∧ s.rd (R.THM_SENSOR 47) = 0) ∧
    ((served.setF R.PWR_STATUS F.PWR_STATUS_PFAIL 0).flag R.PWR_STATUS F.PWR_STATUS_PFAIL = false ∧ served.eventsOn = true) := by decide +kernel

end Sys2Proof.Tests
end

