-- ==== Sys2Proof/Tests/WitManage.lean ====
section
/-! SUPPORT. States and operands that meet the hypotheses of the statements on the NOR, the log, the bus and images. -/

set_option Elab.async false

namespace Sys2Proof.Tests

open Sys2Proof Sys2Proof.Machine

/-- The NOR takes writes. -/
def norUp (s : State) : State :=
  { (s.setF R.THM_DERIVED F.THM_DERIVED_NOR 250).setF R.PWR_STATUS F.PWR_STATUS_PFAIL 0 with thm := { s.thm with norOk := true } }

def cleanAt (l : List Nat) (s : State) : State := mg s fun m => { m with sectorsClean := l.map fun k => (k, true) }
def imageOpOf (k : Nat) (j : ImageJob) (s : State) : State := mg s fun m => { m with imageOp := some ⟨⟨0, 1⟩, k, j⟩ }
def writing : State := doing (norUp served) (mkDesc 12 300 [1] [])

theorem test_met_NorLogAndBus_pages :
    ([0, 1].all fun k => [0, 0x1FF0000].all fun off => [1, 256, 257, 512].all fun n =>
      let s := imageOpOf k (.pages off (List.replicate n 5) 512) writing
      let c := cleanAt [512 * k + off / 65536] s
      s.mgmt.imageOp == some ⟨⟨0, 1⟩, k, .pages off (List.replicate n 5) 512⟩ && !s.sectorClean k off && c.sectorClean k off && c.norUsable &&
      (c.sqRing 0).exec.isSome && c.cqUp (c.boundCq 0)) = true ∧
    ([0, 1].all fun k => let s := imageOpOf k .flag writing
      s.mgmt.imageOp == some ⟨⟨0, 1⟩, k, .flag⟩ && !s.inRecovery) = true := by decide +kernel

theorem test_met_NorLogAndBus_rest :
    ([0, 1].all fun k => [0, 1, 512].all fun e =>
      let s := ((norUp served).setSlotState k 1).setF R.MGT_NOR_STATUS F.MGT_NOR_STATUS_ERASE_LEFT e
      s.mgmt.imageOp.isNone && s.eraseLeft == e && s.norUsable && ([0, 1].all fun j => (s.slotState j == 1) == (j == k))) = true ∧
    served.mgmt.logQ = [] ∧ served.norUsable = false ∧
    (let r := { served.newRec 1 1 3 [1] with seq := 1 }
     let s := mg (norUp served) fun m => { m with logQ := [r], logSeq := 1 }
     s.mgmt.logQ = r :: [] ∧ s.norUsable = true ∧ s.mgmt.logCount < 255 * 1024 ∧ s.mgmt.log.length = s.mgmt.logCount) ∧
    (served.setF R.MGT_BUS_ERR F.MGT_BUS_ERR_VALID 1).flag R.MGT_BUS_ERR F.MGT_BUS_ERR_VALID = true ∧
    served.flag R.MGT_BUS_ERR F.MGT_BUS_ERR_VALID = false ∧ served.mgmt.swapFixed = false ∧
    (mg served fun m => { m with swapFixed := true }).mgmt.swapFixed = true := by decide +kernel

/-! ### The log and the images -/

def lrec (k sev : Nat) : LogRec := { served.newRec 1 sev 3 [1] with seq := k }
def logged (s : State) : State :=
  (mg s fun m => { m with log := [lrec 3 1, lrec 4 0], logQ := [lrec 5 4], logSeq := 5 }).wr R.MGT_LOG_NEWEST 5 |>.wr R.MGT_LOG_OLDEST 3

theorem test_met_LogAndImageRequests_log :
    ([(64, 0, [0, 0, 0, 0]), (64, 4, [6, 0, 0, 0]), (64, 5, [3, 0, 0, 0]), (64, 0, [7, 0, 0, 0]), (63, 0, [3, 0, 0, 0]), (512, 1, [255, 255, 255, 255])].all
      fun e => let d := mkDesc 0x0B e.1 ([e.2.1, 0, 0, 0] ++ e.2.2) []
        let s := offering (logged served) d
        s.cqUp (s.boundCq 0) && s.offers 0 d true true && d.opcode == 0x0B && d.bufLen == e.1) = true := by decide +kernel

def slots (a b : Nat) (s : State) : State := (s.setSlotState 0 a).setSlotState 1 b

/-- A state in which a request of opcode 0x0C or 0x0D is offered. -/
def asks (d : Desc) (hasBuf : Bool) (s : State) : Bool := s.offers 0 d hasBuf true && s.cqUp (s.boundCq 0)

theorem test_met_LogAndImageRequests_write :
    (let d := mkDesc 0x0C 256 [1, 0, 0, 0, 0, 1, 0, 0] []
     let s := fun (f : State → State) => offering (f (norUp served)) d
     d.opcode = 0x0C ∧ d.byte 20 % 2 = 1 ∧ d.le 24 4 = 256 ∧ d.bufLen % 256 = 0 ∧
     (([id, slots 2 1, slots 1 2, fun s => mg s fun m => { m with running := 1 }, imageOpOf 0 .flag, fun s => s.setF R.THM_STATUS F.THM_STATUS_SHUTDOWN 1] : List (State → State)).all fun f =>
       asks d true (s f)) = true ∧
     (s id).norWindow = true ∧ (s id).norHeld = false ∧ (s id).mgmt.imageOp = none ∧ (s id).mgmt.running ≠ 1 ∧
     (s (slots 2 1)).slotState 1 = 1 ∧ (s (slots 1 2)).slotState 1 = 2 ∧ (offering served d).norWindow = false ∧ asks d true (offering served d) = true) ∧
    (let d := mkDesc 0x0C 256 [0, 0, 0, 0, 0, 0, 0, 0] []
     asks d true (offering (norUp (mg served fun m => { m with running := 1 })) d) = true ∧ d.le 24 4 = 0 ∧ d.byte 20 % 2 = 0) ∧
    (let d := mkDesc 0x0C 256 [0, 0, 0, 0, 0, 0, 0, 1] []
     d.le 24 4 + d.bufLen > 2 ^ 24 ∧ asks d true (offering served d) = true) := by decide +kernel

theorem test_met_LogAndImageRequests_confirm :
    (let d := mkDesc 0x0D 0 [1, 0] []
     let s := slots 3 4 (mg (norUp (offering served d)) fun m => { m with running := 0 })
     asks d false s = true ∧ d.opcode = 0x0D ∧ d.byte 20 = 1 ∧ s.mgmt.running = 0 ∧ s.norWindow = true ∧ s.slotState 0 = 3 ∧
     s.mgmt.imageOp = none ∧ s.norHeld = false ∧ (mg s fun m => { m with running := 1 }).mgmt.running = 1) ∧
    (let d := mkDesc 0x0D 0 [2, 1] []
     let s := slots 3 4 (norUp (offering served d))
     asks d false s = true ∧ d.byte 20 = 2 ∧ d.byte 21 % 2 = 1 ∧ s.norWindow = true ∧ s.slotState 1 = 4 ∧ s.mgmt.imageOp = none ∧ s.norHeld = false) ∧
    (let d := mkDesc 0x0D 0 [0, 0] []
     let s := offering served d
     asks d false s = true ∧ d.byte 20 = 0 ∧ s.norWindow = false) := by decide +kernel

/-! An image that verifies: signed with the private key 1, so that its public key is the base point; four empty components. -/

def beBytes : Nat → Nat → List Byte
  | 0, _ => []
  | n + 1, v => BitVec.ofNat 8 (v / 256 ^ n) :: beBytes n v

def imgBytes : List Byte :=
  [88, 76, 69, 72, 2, 0, 32, 81, 9, 0, 0, 0, 1, 0, 3, 0, 0, 16, 0, 0, 4, 0, 0, 0] ++
  beBytes 48 0x38b060a751ac96384cd9327eb1b1e36a21fdb71114be07434c0cc7bf63f6e1da274edebfe76f65fbd51ad2f14898b95b ++ [4] ++
  beBytes 48 0xaa87ca22be8b05378eb1c71ef320ad746e1d3b628ba79b9859f741e082542a385502f25dbf55296c3a545e3872760ab7 ++
  beBytes 48 0x3617de4a96262c6f5d9e98bf9292dc29f8f41dbd289a147ce9da3113b5f0b8c00a60b1ce1d7e819d7a431d7c90ea0e5f ++ List.replicate 7 0 ++
  beBytes 48 0x08d999057ba3d2d969260045c55b97f089025959a6f434d651d207d19fb96e9e4fe0e86ebe0e64f85b96a9c75295df61 ++
  beBytes 48 0xa146d9f8ddf44c3228e4083418339f263ed4df75fe0e9e4af87063b7a3335cc899fed9d7ba184eb5ba3a93fc81ca2ab7 ++
  ([1, 2, 3, 4].flatMap fun t => t :: List.replicate 15 0) ++ List.replicate 3760 0

/-- The table that lists bytes from an address on, erased bytes left out. -/
def listed : Nat → List Byte → Tab Byte
  | _, [] => []
  | a, b :: l => if b = 0xFF then listed (a + 1) l else (a, b) :: listed (a + 1) l

theorem get_listed (l : List Byte) : ∀ a k, Tab.get erased (listed a l) k = if k < a then 0xFF else l.getD (k - a) 0xFF := by
  induction l with
  | nil => intro a k; simp [listed, erased]
  | cons b l ih =>
    intro a k
    by_cases hk : k = a
    · subst hk
      by_cases hb : b = 0xFF
      · simp [listed, hb, ih]
      · rw [listed, if_neg hb]; simp [Tab.get]
    · have hs : ¬ k < a → k - a = (k - (a + 1)) + 1 := by omega
      by_cases hb : b = 0xFF
      · simp only [listed, hb, if_pos, ih]
        by_cases h : k < a
        · simp [h, show k < a + 1 by omega]
        · simp [h, show ¬ k < a + 1 by omega, hs h]
      · simp only [listed, hb, if_false, Tab.get, hk, ih]
        by_cases h : k < a
        · simp [h, show k < a + 1 by omega]
        · simp [h, show ¬ k < a + 1 by omega, hs h]

theorem getList_listed (l : List Byte) (n : Nat) : ∀ off,
    Tab.getList erased (listed 0 l) off n = ((l.drop off) ++ List.replicate n 0xFF).take n := by
  induction n with
  | zero => intro off; simp [Tab.getList]
  | succ n ih =>
    intro off
    rw [Tab.getList, ih, get_listed]
    by_cases h : off < l.length
    · rw [List.drop_eq_getElem_cons h]
      rw [List.cons_append, List.take_succ_cons, List.replicate_succ', ← List.append_assoc,
        List.take_append_of_le_length (l₁ := l.drop (off + 1) ++ List.replicate n 0xFF) (by rw [List.length_append, List.length_replicate]; omega)]
      simp [List.getD, h]
    · have h1 : l.drop off = [] := List.drop_eq_nil_of_le (by omega)
      have h2 : l.drop (off + 1) = [] := List.drop_eq_nil_of_le (by omega)
      simp [h1, h2, List.getD, show l.length ≤ off by omega, List.replicate_succ]

/-- Slot 0 holds the image, its key hash is fused, and a COMMIT of it is offered. -/
def imaged : State :=
  slots 2 2 (mg (norUp (offering served (mkDesc 0x0D 0 [0, 0] []))) fun m => { m with
    slotA := listed 0 imgBytes
    keyHashes := [0x8c4f262412b7f9ed867606705a130de5212fd048fbaf8c3842f4a240f4b45ba0c90f82194ccdda3ed89c96b0afe1d51d] })

theorem slotBytes_imaged (off n : Nat) : imaged.slotBytes 0 off n = ((imgBytes.drop off) ++ List.replicate n 0xFF).take n :=
  getList_listed imgBytes n off

theorem imaged_headerOk : imaged.headerOk 0 = true := by
  simp only [State.headerOk, State.components, State.slotLe, slotBytes_imaged]; decide +kernel

theorem imaged_digestOk : imaged.digestOk 0 = true := by
  simp only [State.digestOk, State.components, State.slotLe, slotBytes_imaged]; decide +kernel

theorem imaged_signatureOk : imaged.signatureOk 0 = true := by
  simp only [State.signatureOk, State.slotLe, slotBytes_imaged]; decide +kernel

theorem imaged_floor : bitOf (imaged.fld R.MGT_OTP F.MGT_OTP_REVOKED) (imaged.slotLe 0 13 1) = false ∧
    ¬ imaged.slotLe 0 12 1 < imaged.fld R.MGT_OTP F.MGT_OTP_FLOOR := by
  simp only [State.slotLe, slotBytes_imaged]; decide +kernel

theorem test_met_LogAndImageRequests_commit :
    imaged.imageFault 0 = none ∧ asks (mkDesc 0x0D 0 [0, 0] []) false imaged = true ∧ imaged.norWindow = true ∧ imaged.slotState 0 = 2 ∧
    imaged.mgmt.imageOp = none ∧ imaged.norHeld = false := by
  refine ⟨?_, by decide +kernel, by decide +kernel, by decide +kernel, by decide +kernel, by decide +kernel⟩
  simp [State.imageFault, imaged_headerOk, imaged_digestOk, imaged_signatureOk, imaged_floor]

end Sys2Proof.Tests
end

