-- ==== Sys2Proof/Tests/WitNet.lean ====
section
/-! SUPPORT. States and operands that meet the hypotheses of the statements on network time, ports, rings and the host interface. -/

set_option Elab.async false

namespace Sys2Proof.Tests

open Sys2Proof Sys2Proof.Machine

/-! ### Time -/

/-- Time base 3 counts close to its span, at 777.777777 ms. -/
def based (s : State) : State := { s with now := 777777777, tim := { s.tim with bases := [(3, ⟨tbSpan - 1, 0, 2 ^ 49 - 99, 5⟩)] } }

/-- The servo of TB3 is enabled and takes its pulse input, which is enabled. -/
def servoed (s : State) : State :=
  ((s.setF (R.TIM_SERVO_CFG 3) F.TIM_SERVO_CFG_EN 1).setF (R.TIM_SERVO_CFG 3) F.TIM_SERVO_CFG_SRC 1).setF (R.TIM_PPS_CFG 3) F.TIM_PPS_CFG_IN_EN 1

theorem test_met_TimeBasesAndTheirServos :
    (let s := { servoed served with now := 600000000000 }
     s.flag (R.TIM_SERVO_CFG 3) F.TIM_SERVO_CFG_EN = true ∧ s.fld (R.TIM_SERVO_STATUS 3) F.TIM_SERVO_STATUS_STATE ≠ 2 ∧
     (s.servoX 3).last + max 1 (s.fld (R.TIM_SERVO_CFG 3) F.TIM_SERVO_CFG_HOLD_MS) * 100000000 ≤ s.now) ∧
    served.flag (R.TIM_SERVO_CFG 3) F.TIM_SERVO_CFG_EN = false ∧
    (let s := { (served.setF R.TIM_OSC_COMP_CTRL F.TIM_OSC_COMP_CTRL_EN 1) with thm := { served.thm with tcxoOk := true } }
     s.flag R.TIM_OSC_COMP_CTRL F.TIM_OSC_COMP_CTRL_EN = true ∧ s.thm.tcxoOk = true) ∧
    served.flag R.TIM_OSC_COMP_CTRL F.TIM_OSC_COMP_CTRL_EN = false := by decide +kernel

theorem test_met_PulsesComparesAndStamps_pulses :
    served.flag (R.TIM_PPS_CFG 3) F.TIM_PPS_CFG_IN_EN = false ∧
    (let s := servoed (based served)
     let e := s.setPps 3 ⟨777000000, true, false, none⟩
     s.flag (R.TIM_PPS_CFG 3) F.TIM_PPS_CFG_IN_EN = true ∧ s.flag (R.TIM_PPS_CFG 3) F.TIM_PPS_CFG_EDGE ≠ true ∧ (e.pps 3).edge = true ∧
     max e.now (e.tick + 999) < (e.pps 3).since + 500000000 ∧ (s.pps 3).edge = false ∧ (e.setPps 3 ⟨277777776, true, false, none⟩).now = 777777777 ∧
     277777776 + 500000000 ≤ max e.now (e.tick + 0) ∧ s.flag (R.TIM_SERVO_CFG 3) F.TIM_SERVO_CFG_SRC = true ∧ s.tbFollows 3 = false ∧
     s.flag (R.TIM_SERVO_CFG 3) F.TIM_SERVO_CFG_EN = true ∧ s.flag (R.TIM_SERVO_CFG 3) F.TIM_SERVO_CFG_STEP_EN = true ∧
     (s.setF (R.TIM_SERVO_CFG 3) F.TIM_SERVO_CFG_STEP_EN 0).flag (R.TIM_SERVO_CFG 3) F.TIM_SERVO_CFG_STEP_EN = false ∧
     (s.setF (R.TIM_SERVO_STATUS 3) F.TIM_SERVO_STATUS_STATE 2).fld (R.TIM_SERVO_STATUS 3) F.TIM_SERVO_STATUS_STATE = 2 ∧
     served.flag (R.TIM_SERVO_CFG 3) F.TIM_SERVO_CFG_EN = false) ∧
    (let s := { servoed served with now := 1500000000 }
     s.flag (R.TIM_PPS_CFG 3) F.TIM_PPS_CFG_IN_EN = true ∧ (s.pps 3).lost = false ∧ (s.pps 3).since + 1500000000 ≤ s.now) ∧
    (let s := (based served).setPps 3 ⟨777000000, true, true, some 777777800⟩
     (s.pps 3).falls = some 777777800 ∧ max s.now (s.tick + 0) < 777777800 ∧ 777777800 ≤ max s.now (s.tick + 999) ∧ (s.pps 3).lost = true) := by
  decide +kernel

theorem test_met_PulsesComparesAndStamps_compares :
    (let s := fun (per tgt : Nat) => (((based served).setF (R.TIM_CMP_CTRL 3 31) F.TIM_CMP_CTRL_ENABLE 1).setTarget 3 31 tgt).wr
       (R.TIM_CMP_PERIOD 3 31) (BitVec.ofNat 32 per)
     let d := fun (s : State) (v : Nat) => signedOf 64 (tbN (s.tbNow 3) + 2 ^ 64 - (v * 2 ^ 32 + (s.rd (R.TIM_CMP_TARGET_LO 3 31)).toNat))
     served.flag (R.TIM_CMP_CTRL 3 31) F.TIM_CMP_CTRL_ENABLE = false ∧ (s 0 5).flag (R.TIM_CMP_CTRL 3 31) F.TIM_CMP_CTRL_ENABLE = true ∧
     0 ≤ ((s 0 5).at_ (0 : Fin 1000)).cmpDiff 3 31 ∧ (s 0 5).rd (R.TIM_CMP_PERIOD 3 31) = 0 ∧ (s 1000 5).rd (R.TIM_CMP_PERIOD 3 31) = 1000 ∧
     ((s 0 (2 ^ 63 - 1)).at_ (0 : Fin 1000)).cmpDiff 3 31 < 0 ∧ 0 ≤ d (s 0 5) 0 ∧ d (s 0 5) 0x7FFFFFFF < 0) ∧
    (let s := served.setTsq 3 [[1, 2, 3, 4], [5, 6, 7, 8]]
     s.tsq 3 = [1, 2, 3, 4] :: [[5, 6, 7, 8]] ∧ served.tsq 3 = []) := by decide +kernel

/-! ### Ports -/

/-- Port p under a mode, at a bring-up step. -/
def portAt (p m st : Nat) (s : State) : State := (s.setF (R.LANE_PORT_ACTIVE p) F.LANE_PORT_ACTIVE_MODE m).setStep p st

theorem test_met_PortsComeUpAndGoDown :
    (let s := fun (st : Nat) => portAt 0 3 st served
     (s 1).portStep 0 = 1 ∧ (s 8).portStep 0 = 8 ∧ (s 9).portStep 0 = 9 ∧ (s 0).portStep 0 = 0 ∧ (s 1).portIso 0 = false ∧
     (200 : BitVec 8).toNat = 200 ∧ (s 8).fld R.LANE_CTRL F.LANE_CTRL_FOM_MIN ≤ 255 ∧ (s 5).mode_ 0 = 3 ∧ (portAt 0 2 5 served).mode_ 0 ≠ 3 ∧
     ((s 3).setF (R.LANE_CFG 0) F.LANE_CFG_RX_POL 1).fld (R.LANE_CFG 0) F.LANE_CFG_RX_POL = 1) ∧
    (let s := portAt 95 4 2 served
     s.portStep 95 = 2 ∧ s.portIso 95 = false ∧ s.fld (R.FAB_OUT_STATE (224 + (95 - 64))) F.FAB_OUT_STATE_STATE = 0 ∧
     (s.setF (R.FAB_OUT_STATE 255) F.FAB_OUT_STATE_STATE 1).fld (R.FAB_OUT_STATE (224 + (95 - 64))) F.FAB_OUT_STATE_STATE ≠ 0) ∧
    (let s := portAt 0 2 9 served
     s.portOfLane 0 = 0 ∧ F.LANE_CFG_RX_POL.get (s.rd (R.LANE_CFG 0)) ≠ F.LANE_CFG_RX_POL.get 0xFFFFFFFF ∧ 2 < s.portStep 0) ∧
    (let s := served.setF R.PAIR_STATUS F.PAIR_STATUS_PAIR_EN 1
     F.LANE_PRBS_GEN.get 0xFFFFFFFF ≠ 0 ∧ s.flag R.PAIR_STATUS F.PAIR_STATUS_PAIR_EN = true ∧ (portAt 63 2 9 served).mode_ (served.portOfLane 63) ≠ 0 ∧
     F.LANE_PRBS_GEN.get 0 = 0 ∧ F.LANE_PRBS_CHK.get 0 = 0) := by decide +kernel

theorem test_met_TapsQuadsAndLowPowerIdle :
    (let s := (portAt 63 2 9 served).setF (R.LANE_PORT_ACTIVE 63) F.LANE_PORT_ACTIVE_LPI_EN 1
     s.flag (R.LANE_PORT_ACTIVE 63) F.LANE_PORT_ACTIVE_LPI_EN = true ∧ s.portStep 63 = 9 ∧ served.portStep 63 ≠ 9) ∧
    (let s := portAt 95 4 9 served
     s.mode_ (64 + 31) = 4 ∧ s.portStep 95 = 9 ∧ (portAt 95 4 8 served).portStep 95 ≠ 9 ∧ served.mode_ 95 ≠ 4) ∧
    (let s := served.setF (R.LANE_LASER 3) F.LANE_LASER_LOW 1
     let thr := signedOf 16 (s.fld R.LANE_LASER_CFG F.LANE_LASER_CFG_LOW_THRESH)
     (0x8000 : BitVec 16).toInt < thr ∧ served.flag (R.LANE_LASER 3) F.LANE_LASER_LOW = false ∧ thr ≤ (0x7FFF : BitVec 16).toInt ∧
     thr + 50 < (0x7FFF : BitVec 16).toInt ∧ s.flag (R.LANE_LASER 3) F.LANE_LASER_LOW = true) := by decide +kernel

/-! ### Rings -/

def rings (s : State) (l : List Nat) : State :=
  l.foldl (fun s n => (s.setF (R.HIF_SQ_CFG n) F.HIF_SQ_CFG_EN 1).setF (R.HIF_CQ_CFG n) F.HIF_CQ_CFG_EN 1) s

def nopDesc : Desc := mkDesc 0 0 [] [1, 2, 3, 4, 5, 6, 7, 8, 9, 10, 11, 12, 13, 14, 15, 16]
def completionOf (q : Nat) : Completion := ⟨q, 7, 3, 0x0102, 16, [1, 2, 3, 4], true⟩

theorem test_met_RingSetUp :
    (let s := served
     s.fld R.HIF_CTRL F.HIF_CTRL_EN = 0 ∧ (wired s).fld R.HIF_CTRL F.HIF_CTRL_EN = 1 ∧ s.fld (R.HIF_SQ_CFG 31) F.HIF_SQ_CFG_EN = 0 ∧
     s.fld (R.HIF_CQ_CFG 31) F.HIF_CQ_CFG_EN = 0 ∧ F.HIF_SQ_CFG_EN.get 0xFFFFFFFF = 1 ∧ F.HIF_CQ_CFG_EN.get 0xFFFFFFFF = 1) ∧
    (let s := { served with hif := { served.hif with perstLow := false } }
     s.linkMayTrain = true ∧ s.hif.linkUp = false) := by decide +kernel

theorem test_met_RingTraffic :
    (let s := offering served nopDesc
     s.offers 0 nopDesc false true = true ∧ nopDesc.opcode = 0 ∧ s.cqUp (s.boundCq 0) = true) ∧
    (let s := rings (wired served) [0, 31]
     s.ringsOn = true ∧ s.hif.sq = [] ∧ ((List.range 32).all fun n => decide (15 < s.sqSize n ∧ 15 < s.cqSize n)) = true ∧
     s.flag (R.HIF_SQ_CFG 31) F.HIF_SQ_CFG_EN = true ∧ s.flag (R.HIF_SQ_STATUS 31) F.HIF_SQ_STATUS_ERR = false ∧ s.cqUp 31 = true) ∧
    (let s := (rings (wired served) [31]).setSq 31 ⟨List.replicate 3 nopDesc, none, 15⟩
     s.ringsOn = true ∧ s.sqUp 31 = true ∧ (s.sqRing 31).fetched.length < 16 ∧ 0 < s.unfetched 31 ∧ s.rowless nopDesc = none) ∧
    (let s := ((rings (wired served) [31]).setCq 31 ⟨[completionOf 1, completionOf 31], 5⟩).setF (R.HIF_CQ_STATUS 31) F.HIF_CQ_STATUS_TAIL 15
     (s.cqRing 31).held = completionOf 1 :: [completionOf 31] ∧ s.ringsOn = true ∧ s.cqUp 31 = true ∧ s.cqSpace 31 = true ∧
     (s.sqRing (completionOf 1).sq).fetched = []) ∧
    (let s := (wired served).setF R.HIF_BEACON_CTRL F.HIF_BEACON_CTRL_EN 1
     let b := { s with hif := { s.hif with beaconDue := true, beaconSeq := 0xFFFFFFFE } }
     b.flag R.HIF_BEACON_CTRL F.HIF_BEACON_CTRL_EN = true ∧ b.busMaster = true ∧ b.hif.beaconStopped = false ∧ b.hif.beaconDue = true ∧
     b.hif.beaconSeq < 0xFFFFFFFF) := by decide +kernel

theorem test_met_HostMemoryErrors :
    (rings (wired served) [31]).flag (R.HIF_SQ_CFG 31) F.HIF_SQ_CFG_EN = true ∧
    (rings (wired served) [31]).flag (R.HIF_CQ_CFG 31) F.HIF_CQ_CFG_EN = true := by decide +kernel

theorem test_met_NothingCrossesWithoutBusMaster :
    State.reset.hif.bme = false ∧ (∃ t, exec .functionLevelReset served = .next t) ∧ ∃ u, exec .d3hotEntry served = .next u :=
  ⟨rfl, ⟨_, rfl⟩, ⟨_, rfl⟩⟩

end Sys2Proof.Tests
end

