-- ==== Sys2Proof/Tests/WitPacket.lean ====
section
/-! SUPPORT. States and operands that meet the hypotheses of the statements on frames, tables and the scheduler. -/

set_option Elab.async false

namespace Sys2Proof.Tests

open Sys2Proof Sys2Proof.Machine

/-! ### Frames -/

/-- Packet port p receives and is enabled. -/
def upPort (s : State) (p : Nat) : State :=
  (((s.setStep p 9).setF (R.PIPE_PORT_ACTIVE p) F.PIPE_PORT_ACTIVE_ENABLE 1).setF (R.PIPE_PORT_ACTIVE p) F.PIPE_PORT_ACTIVE_PVID 1).setF
    (R.TBL_PORT_LEARN p) F.TBL_PORT_LEARN_LIMIT 100

/-- A parse graph that accepts an Ethernet frame. -/
def parsing (s : State) : State := ((s.wr (R.PIPE_GRAPH_ACTIVE 0 0) 0x80020000).wr (R.PIPE_GRAPH_ACTIVE 0 1) 0).wr (R.PIPE_GRAPH_ACTIVE 0 2) 0x84658005

def macOf (k : Nat) : Nat := 0x020000000000 + k
def macBytes (k : Nat) : List Byte := [2, 0, 0, 0, 0, BitVec.ofNat 8 k]
def frameTo (d s : Nat) : List Byte := macBytes d ++ macBytes s ++ [8, 0] ++ List.replicate 50 7
def ports : State := upPort (upPort (parsing served) 0) 95

/-- Cache lines of pipelines 0 and 3 for address 5 at port 95. -/
def cached (s : State) : State := [0, 3].foldl (fun s n => s.useLine n ⟨1, macOf 5, false, 95, false, false⟩) s

/-- A frame has come in at a port. -/
def incoming (p : Fin 96) (d : Nat) (s : State) : State := after (.frameIngress p (frameTo d 9) 10 5000) s

theorem test_met_FramesThroughThePipelines_ingress :
    served.receives 0 = false ∧
    (let s := cached ports
     s.receives 0 = true ∧ s.portEnabled 0 = true ∧ s.pk.frames = [] ∧ clsUsed s.pk.cls (pipeOf 0) = [] ∧ s.lpmSlots (pipeOf 0) false = [] ∧
     s.lpmSlots (pipeOf 0) true = [] ∧ s.atLimit 0 = false ∧ s.flag (R.PIPE_PORT_ACTIVE 0) F.PIPE_PORT_ACTIVE_CUT_THROUGH = false ∧
     s.receives 95 = true ∧ isGroup (macOf 5) = false ∧ s.probe 0 1 (macOf 5) = some ⟨1, macOf 5, false, 95, false, false⟩ ∧
     s.portEnabled 95 = true ∧ s.probe 0 1 (macOf 7) = none) := by decide +kernel

theorem test_met_FramesThroughThePipelines_parked :
    (let s := incoming 0 7 ports
     (s.pk.frames.map fun f => (f.id, f.stage == .parked, f.fcs, f.fwd.isNone, f.srcOk, pipeOf f.port)) = [(0, true, none, true, some true, 0)] ∧
     s.pk.reads = [⟨0, 0, [(1, macOf 7)], 10, false⟩] ∧
     max s.now (s.tick + 0) < 10 + max 1 (s.fld R.PIPE_CTRL F.PIPE_CTRL_READ_LIMIT) * 100 ∧
     10 + max 1 (s.fld R.PIPE_CTRL F.PIPE_CTRL_READ_LIMIT) * 100 ≤ { s with now := 2000000 }.now) := by decide +kernel

theorem test_met_FramesThroughThePipelines_end :
    (let s := incoming 0 5 (cached ports)
     let fits := fun (s : State) => s.pk.frames.map fun f => s.fits 95 (s.queueFor 95 f.vid f.out.cls) f.copy
     s.pk.frames.length = 1 ∧ (s.pk.frames.all fun f => f.port == 0 && f.stage == .decided && f.fcs.isNone && f.out.ports == [95] && !f.out.drop &&
       f.out.pairs.isEmpty && f.out.debit.isNone) = true ∧
     ((List.range 8).all fun m => !s.flag (R.SCH_MIRROR_CFG m) F.SCH_MIRROR_CFG_ENABLE) = true ∧ s.gateOn 95 = false ∧
     fits (s.setFree 1000000) = [true] ∧ fits (s.setFree 0) = [false]) := by decide +kernel

/-- Ports 0 and 95 cut through at 100 Gb/s. -/
def cutting (s : State) : State :=
  [0, 95].foldl (fun s p => (s.setF (R.PIPE_PORT_ACTIVE p) F.PIPE_PORT_ACTIVE_CUT_THROUGH 1).setF (R.LANE_PORT_ACTIVE p) F.LANE_PORT_ACTIVE_MODE 2) s

theorem test_met_FramesThroughThePipelines_cut :
    (let s := incoming 0 5 (cutting (cached ports))
     s.pk.frames.length = 1 ∧ (s.pk.frames.all fun f => f.port == 0 && f.stage == .cut && f.fcs.isNone && f.id == 0) = true ∧
     s.pk.sent.map Sent.fid = [0]) := by decide +kernel

/-! ### Tables -/

/-- Bytes of a TABLE_OP: op, mask, flags, port, VLAN, and the low byte of the address. -/
def tableOp (op mask fl port vid k len : Nat) : Desc := mkDesc 4 len [op, mask, fl, port, vid, 0, 2, 0, 0, 0, 0, k] []
def entry (st : Bool) (k port : Nat) : FEntry := ⟨st, false, 1, macOf k, port, 0, 0⟩

/-- Pipeline 3 holds a dynamic entry of address 7 at port 1, and a STATIC one of 8 at port 2. -/
def held7 : State := (served.putAll 3 (entry false 7 1)).1
def held78 : State := (held7.putAll 3 (entry true 8 2)).1

def found (s : State) (k : Nat) : Option FEntry := (s.findSide 3 .cur 1 (macOf k)).bind fun e => if e.1.isSome then some e.2 else none
def slotFree (s : State) (k : Nat) : Bool :=
  (freeSlot s [] 3 (s.curRegion 3) [bucketOf (s.curSeed 3) 0 1 (macOf k), bucketOf (s.curSeed 3) 1 1 (macOf k)]).isSome

/-- What every clause of TableEntryOperations asks for. -/
def tableOk (d : Desc) (s : State) (b : Bool) (op : Nat) : Bool :=
  s.offers 0 d b true && d.opcode == 4 && d.tblMask == 2 ^ 3 && s.tblAdmitted && s.cqUp (s.boundCq 0) && (s.rehashOf 3).isNone &&
  s.pk.frames.isEmpty && d.byte 20 == op

theorem test_met_TableEntryOperations_insert :
    (let d := tableOp 0 8 1 95 1 7 0
     let s := offering held78 d
     tableOk d s false 0 = true ∧ d.byte 23 = 95 ∧ s.fld (R.TBL_STATIC 3) F.TBL_STATIC_STATIC < 65536 ∧ d.tblVid = 1 ∧ d.tblMac = macOf 7 ∧
     found s 7 = some (entry false 7 1)) ∧
    (let d := tableOp 0 8 0 95 1 9 0
     let s := offering held78 d
     let u := s.setF (R.TBL_STATIC 3) F.TBL_STATIC_STATIC 65536
     tableOk d s false 0 = true ∧ s.findSide 3 .cur 1 (macOf 9) = none ∧ slotFree s 9 = true ∧ tableOk d u false 0 = true ∧
     u.fld (R.TBL_STATIC 3) F.TBL_STATIC_STATIC = 65536 ∧ u.tableHas 3 d.tblVid d.tblMac = none) := by decide +kernel

theorem test_met_TableEntryOperations_others :
    (let d := tableOp 1 8 0 0 1 7 0
     tableOk d (offering held78 d) false 1 = true ∧ found (offering held78 d) 7 = some (entry false 7 1) ∧
     (offering served d).findSide 3 .cur d.tblVid d.tblMac = none ∧ tableOk d (offering served d) false 1 = true) ∧
    (let d := tableOp 3 8 0 1 1 0 0
     let s := offering held78 d
     tableOk d s false 3 = true ∧ d.byte 23 = 1 ∧ d.tblFlag 2 = false ∧ found s 7 = some (entry false 7 1) ∧
     (s.allEntries 3).filter (fun e => (d.tblFlag 2 || e.port == d.byte 23) && (d.tblFlag 3 || e.vid == d.tblVid) && (d.tblFlag 1 || !e.stat)) =
       [entry false 7 1]) ∧
    (let d := tableOp 2 8 0 0 1 7 32
     tableOk d (offering held78 d) true 2 = true ∧ d.bufLen = 32 ∧ found (offering held78 d) 7 = some (entry false 7 1) ∧
     (offering served d).findSide 3 .cur d.tblVid d.tblMac = none) ∧
    (let d := tableOp 5 8 0 0 0 0 63
     tableOk d (offering held78 d) true 5 = true ∧ d.bufLen < (((offering held78 d).entries 3).flatMap FEntry.bytes).length ∧
     tableOk d (offering served d) true 5 = true ∧ ¬ d.bufLen < (((offering served d).entries 3).flatMap FEntry.bytes).length) := by
  decide +kernel

def noted (k port : Nat) (s : State) : State := { s with pk := { s.pk with notices := [(3, [⟨1, macOf k, port⟩])] } }
def aged (s : State) : State := { s with now := s.now + 400000000000 }

theorem test_met_TableKeeper :
    (let s := noted 9 1 held78
     s.pk.frames = [] ∧ s.rehashOf 3 = none ∧ s.keeperUp = true ∧ Tab.get (fun _ => []) s.pk.notices 3 = [⟨1, macOf 9, 1⟩] ∧
     s.tableHas 3 1 (macOf 9) = none ∧ slotFree s 9 = true ∧ s.tableHas 3 1 (macOf 8) = some (entry true 8 2) ∧ (entry true 8 2).stat = true ∧
     found s 7 = some (entry false 7 1) ∧ (entry false 7 1).port = 1) ∧
    (let s := aged held78
     s.mode ≠ .shadow ∧ 0 < s.fld R.TBL_CTRL F.TBL_CTRL_AGE_TIME ∧ found s 7 = some (entry false 7 1) ∧
     (s.allEntries 3).filter (fun e => !e.stat && decide (s.fld R.TBL_CTRL F.TBL_CTRL_AGE_TIME ≤ s.ageClock - e.seen)) = [entry false 7 1]) ∧
    (served.setF R.TBL_CTRL F.TBL_CTRL_AGE_TIME 0).fld R.TBL_CTRL F.TBL_CTRL_AGE_TIME = 0 ∧ (md .shadow served).mode = .shadow ∧
    (let s := { served with pk := { served.pk with stash := [(3, [entry true 8 2])] } }
     s.rehashOf 3 = none ∧ s.stash 3 = [entry true 8 2] ∧ (chainFor s 3 (s.curRegion 3) (s.curSeed 3) (entry true 8 2)).2 = none) ∧
    (let d := mkDesc 4 0 [4, 8] []
     let s := offering served d
     s.offers 0 d false true = true ∧ d.opcode = 4 ∧ d.byte 20 = 4 ∧ d.tblMask = 2 ^ 3 ∧ s.tblAdmitted = true ∧ s.entries 3 = [] ∧ d.le 24 4 = 0 ∧
     ((after (.rehash 0 d) s).rehashOf 3).map RehashRun.failed = some false) := by decide +kernel

/-! ### Prefixes, streams and counters -/

def prefixOp (op len p : Nat) : Desc := mkDesc 4 0 [op, 8] ([p, 1, 2, 3] ++ List.replicate 12 9 ++ [len] ++ List.replicate 7 0 ++ [9, 0, 0, 0, 0, 0, 0, 0])
def prefixSlot (len p act : Nat) : LpmSlot := ⟨len, some (p * 2 ^ 24 + 0x010203, act)⟩
def withPrefixes (l : List LpmSlot) (s : State) : State := { s with pk := { s.pk with lpm := [(6, l)] } }

/-- What every clause on prefixes asks for, on pipeline 3. -/
def prefixOk (d : Desc) (s : State) (op : Nat) : Bool :=
  s.offers 0 d false true && s.cqUp (s.boundCq 0) && d.opcode == 4 && d.tblMask == 2 ^ 3 && s.tblAdmitted && !d.lpmBad && d.byte 20 == op &&
  !d.lpmV6 && decide (bits (d.le 56 8) 55 7 ≤ 95)

theorem test_met_PrefixesStreamsAndCounters_prefixes :
    (let d := prefixOp 6 24 10
     let s := offering (withPrefixes [prefixSlot 24 10 5, ⟨24, none⟩] served) d
     prefixOk d s 6 = true ∧ s.lpmSlots 3 false = [prefixSlot 24 10 5, ⟨24, none⟩] ∧ (prefixSlot 24 10 5).is d.lpmV6 (d.byte 48) d.lpmPrefix = true) ∧
    (let d := prefixOp 6 24 12
     let s := offering (withPrefixes [prefixSlot 24 10 5, ⟨24, none⟩] served) d
     prefixOk d s 6 = true ∧ d.byte 48 = 24 ∧ (prefixSlot 24 10 5).ent ≠ none ∧ (prefixSlot 24 10 5).is d.lpmV6 (d.byte 48) d.lpmPrefix = false ∧
     (⟨24, none⟩ : LpmSlot).is d.lpmV6 (d.byte 48) d.lpmPrefix = false) ∧
    (let d := prefixOp 6 24 12
     let s := (offering (withPrefixes [prefixSlot 24 10 5] served) d).setF (R.TBL_LPM_CFG 3) F.TBL_LPM_CFG_V6_QUARTERS 4
     prefixOk d s 6 = true ∧ s.lpmSlots 3 false = [prefixSlot 24 10 5] ∧ s.lpmPart 3 false < 2 * lpmRows false) ∧
    (let d := prefixOp 7 24 10
     let s := offering (withPrefixes [prefixSlot 24 10 5] served) d
     prefixOk d s 7 = true ∧ s.lpmSlots 3 false = [prefixSlot 24 10 5] ∧ (prefixSlot 24 10 5).is d.lpmV6 (d.byte 48) d.lpmPrefix = true ∧
     prefixOk d (offering served d) 7 = true ∧ (offering served d).lpmSlots 3 false = []) := by decide +kernel

def dumpOp (fl len first count : Nat) : Desc :=
  mkDesc 5 len [fl, 0, 0, 0, first % 256, first / 256 % 256, first / 65536, 0, count % 256, count / 256, count / 65536, 0] []

theorem test_met_PrefixesStreamsAndCounters_streams :
    (let d := mkDesc 4 8 [8, 1] [0, 0, 0, 0x15]
     let s := offering served d
     s.offers 0 d true true = true ∧ s.cqUp (s.boundCq 0) = true ∧ d.opcode = 4 ∧ d.byte 20 = 8 ∧ s.tblAdmitted = true ∧ d.bufLen = 8 ∧
     d.le 32 8 = 0x15000000 ∧ d.le 32 8 + d.bufLen ≤ s.cellarSize) ∧
    (let d := dumpOp 1 16 1048575 0
     let s := offering served d
     s.offers 0 d true true = true ∧ d.opcode = 5 ∧ s.mode ≠ .start ∧ d.le 24 4 = 1048575 ∧ d.le 28 4 = 0 ∧ d.bufLen = 16 ∧ s.pk.acc = [] ∧ d.byte 20 % 2 = 1) ∧
    (let d := dumpOp 0 16 1048575 2
     (offering served d).offers 0 d true true = true ∧ 1048576 < d.le 24 4 + d.le 28 4) ∧
    (let d := dumpOp 0 15 5 1
     (offering served d).offers 0 d true true = true ∧ d.bufLen < 16 * d.le 28 4 ∧ d.le 24 4 + d.le 28 4 ≤ 1048576) ∧
    (let s := { served with pk := { served.pk with acc := [⟨1048575, 2 ^ 15 + 1, 5, 0⟩] } }
     s.pk.acc = [⟨1048575, 2 ^ 15 + 1, 5, 0⟩] ∧ (1048575 : BitVec 20).toNat = 1048575 ∧ 2 ^ 15 < 2 ^ 15 + 1 ∧
     0 + max 1 (s.fld R.SCH_CTRL F.SCH_CTRL_FLUSH_MS) * 1000000 ≤ { s with now := 200000000 }.now) := by decide +kernel

/-! ### Egress -/

def sendPort (s : State) (p : Nat) : State := (upPort s p).setF (R.LANE_PORT_ACTIVE p) F.LANE_PORT_ACTIVE_MODE 2
def schPut (t r w v : Nat) (s : State) : State :=
  { s with pk := { s.pk with sch := Tab.set schReset s.pk.sch (schBase t + schWidth t * r + w) (BitVec.ofNat 32 v) } }
def copyOf (k : Nat) : Copy := ⟨k, 1, List.replicate (60 + k) 5, [0, 0, 0, 0], none, 0, none⟩

/-- Subscriber 95 maps to service 95 and port 95, which sends; its profiles are STRICT. -/
def egress95 : State :=
  (List.range 8).foldl (fun s k => schPut 5 0 k (2 ^ 31 + 1000) s) (schPut 1 95 0 (95 * 65536) (schPut 0 95 0 (95 * 65536) (sendPort { served with now := 5000 } 95)))

theorem test_met_EgressAndGates_select :
    served.sends 95 = false ∧
    (let s := (egress95.enqueue 95 763 (copyOf 1)).1
     let u := (s.enqueue 95 765 (copyOf 2)).1
     let nodes := [1120 + 763 / 8, 96 + subParent s.pk.sch (763 / 8), 95]
     s.sends 95 = true ∧ s.txEnd 95 ≤ max s.now (s.tick + 0) ∧ s.gateOn 95 = false ∧
     ((List.range 8).all fun m => !s.flag (R.SCH_MIRROR_CFG m) F.SCH_MIRROR_CFG_ENABLE) = true ∧ s.portQueues 95 = [] ++ [763] ∧
     s.queue 763 = [copyOf 1] ∧ (copyOf 1).ptp = none ∧ (copyOf 1).mirror = none ∧ (nodes.all fun x => (s.at_ (0 : Fin 1000)).peakOk x) = true ∧
     u.portQueues 95 = [763] ++ [765] ∧ u.queue 765 = [copyOf 2] ∧ bitOf (u.profile 763) 31 = true ∧ bitOf (u.profile 765) 31 = true ∧
     763 / 8 = 765 / 8 ∧ s.now < (after (.egressSelect 95 0) s).txEnd 95) := by decide +kernel

theorem test_met_EgressAndGates_gates :
    (let s := schPut 2 95 0 (2 ^ 31 + 2 ^ 19) (schPut 2 95 1 400 (schPut 4 97280 0 (3 * 2 ^ 24 + 10) (schPut 4 97281 0 (0x81 * 2 ^ 24 + 20) egress95)))
     s.gateOn 95 = true ∧ (gateList s.pk.sch 95).length = 2 ∧ egress95.gateOn 95 = false) ∧
    (let s := (sendPort { served with now := 10000000 } 63).setF (R.LANE_PORT_ACTIVE 63) F.LANE_PORT_ACTIVE_LPI_EN 1
     let w := ((schPut 1 63 0 (63 * 65536) (schPut 0 63 0 (63 * 65536) s)).setF (R.LANE_STATE 63) F.LANE_STATE_TX_LPI 1).enqueue 63 504 (copyOf 1)
     s.lpiOn 63 = true ∧ s.gateOn 63 = false ∧ s.portQueues 63 = [] ∧
     s.txEnd 63 + max 1 (s.fld (R.LANE_PORT_ACTIVE 63) F.LANE_PORT_ACTIVE_LPI_IDLE) * 1000 ≤ s.now ∧ served.lpiOn 63 = false ∧
     w.1.flag (R.LANE_STATE 63) F.LANE_STATE_TX_LPI = true ∧ w.1.portQueues 63 ≠ [] ∧ served.flag (R.LANE_STATE 63) F.LANE_STATE_TX_LPI = false) ∧
    131071 < 131072 ∧ schRecs 0 = 16384 := by decide +kernel

end Sys2Proof.Tests
end

