-- ==== Sys2Proof/Tests/WitSeq.lean ====
section
/-! SUPPORT. States and operands that meet the hypotheses of the statements on sequences, tones and calibration. -/

set_option Elab.async false

namespace Sys2Proof.Tests

open Sys2Proof Sys2Proof.Machine

/-! ### Sequences -/

/-- Sequencer q has these targets. -/
def target (s : State) (q : Nat) (l : List Nat) : State :=
  (List.range l.length).foldl (fun s k => (s.setF (R.SEQ_TARGET q k) F.SEQ_TARGET_VALID 1).setF (R.SEQ_TARGET q k) F.SEQ_TARGET_ELEMENT (nth 0 l k)) s

def seqAt (s : State) (q k : Nat) (r : SeqSt) : State := (s.setF (R.SEQ_STATUS q) F.SEQ_STATUS_STATE k).setSeqSt q r
def segment (s : State) (q i w0 w1 : Nat) : State := (s.wr (R.SEQ_SEG q i 0) (BitVec.ofNat 32 w0)).wr (R.SEQ_SEG q i 1) (BitVec.ofNat 32 w1)

/-- Sequencer 15 may start on its first and last element. -/
def seqReady : State := target (blk served 15) 15 [8640, 9183]

/-- Sequencer 15 in a state, its segment 0 given by two words. -/
def seqRun (k w0 w1 : Nat) (r : SeqSt) (s : State) : State := segment (seqAt s 15 k r) 15 0 w0 w1

theorem test_met_SequenceStartsAndEnds_start :
    (let s := seqReady
     s.seqState 15 = 0 ∧ s.seqTargets 15 = [8640, 9183] ∧ s.liveElem 8640 = false ∧ s.elemIso 8640 = false ∧ s.liveElem 9183 = false ∧
     s.elemIso 9183 = false ∧ s.slotShared 15 (s.seqTargets 15) = false ∧ s.blkUp 15 = true ∧ s.fab.isoBlocks.getLsbD 15 = false) ∧
    (seqAt seqReady 15 1 SeqSt.zero).seqState 15 ≠ 0 ∧ (target served 15 [9184]).seqTargets 15 = [9184] ∧ 544 ≤ 9184 % 576 ∧
    (target served 15 [0]).seqTargets 15 = [0] ∧ 0 / 576 ≠ 15 ∧ (blk served 15).seqTargets 15 = [] ∧
    (let s := target served 15 [8640]
     s.seqTargets 15 = [8640] ∧ s.slotShared 15 (s.seqTargets 15) = false ∧ s.blkUp 15 = false) ∧
    (let s := (((loopSt (target served 0 [0, 543]) 1 2).setF (R.SEQ_SLOT 1) F.SEQ_SLOT_EN 1).setF (R.SEQ_SLOT 1) F.SEQ_SLOT_SLOT 3).wr (R.SEQ_TONE_MASK 0) 0x8
     s.seqTargets 0 = [0, 543] ∧ s.slotShared 0 (s.seqTargets 0) = true ∧ s.seqState 0 = 0) := by decide +kernel

theorem test_met_SequenceStartsAndEnds_run :
    (let s := seqRun 1 0 0 { SeqSt.zero with armed := some 0 } seqReady
     s.seqState 15 = 1 ∧ (s.seqSt 15).armed = some 0 ∧ s.seqTargets 15 = [8640, 9183] ∧ s.badSegment 15 0 2 = false) ∧
    (let s := seqRun 1 0xC0000000 0 { SeqSt.zero with armed := some 0 } seqReady
     s.seqState 15 = 1 ∧ (s.seqSt 15).armed = some 0 ∧ s.badSegment 15 0 2 = true) ∧
    (let s := fun (w0 : Nat) => seqRun 2 w0 0 { SeqSt.zero with targets := [8640, 9183], sample := 1 } seqReady
     let j := fun (w0 : Nat) => (s w0).setF (R.SEQ_STATUS 15) F.SEQ_STATUS_JUMP_PENDING 1
     (s 0).seqState 15 = 2 ∧ ((s 0).seqSt 15).sample = segLen ((s 0).segWord 15 0 1) ∧ ((s 0).seqSt 15).stopAs = none ∧
     segJmp ((s 0).segWord 15 0 0) = 0 ∧ (s 0).badSegment 15 1 2 = false ∧ segRepeat ((s 0).segWord 15 0 0) = 0 ∧
     segJmp ((j 0x02005000).segWord 15 0 0) = 2 ∧ (j 0x02005000).flag (R.SEQ_STATUS 15) F.SEQ_STATUS_JUMP_PENDING = true ∧
     (j 0x02005000).badSegment 15 (segTarget ((j 0x02005000).segWord 15 0 0)) 2 = false ∧
     (s 0x00000003).fld (R.SEQ_STATUS 15) F.SEQ_STATUS_PASS < segRepeat ((s 0x00000003).segWord 15 0 0) ∧
     segJmp ((s 0x03000000).segWord 15 0 0) = 3 ∧ segRepeat ((s 0x03000000).segWord 15 0 0) = 0) := by decide +kernel

theorem test_met_SequenceStartsAndEnds_stop :
    served.seqState 15 = 0 ∧ (seqAt served 15 1 SeqSt.zero).seqState 15 = 1 ∧ (seqAt served 15 3 SeqSt.zero).seqState 15 = 3 ∧
    (let s := seqAt served 15 2 { SeqSt.zero with stopAs := some 2 }
     s.seqState 15 = 2 ∧ (s.seqSt 15).stopAs = some 2) ∧
    (let s := fun (n : Nat) => { (seqAt served 15 3 { SeqSt.zero with starvedAt := 5 }).setF (R.SEQ_CTRL 15) F.SEQ_CTRL_STARVE_LIMIT 2 with now := n }
     (s 200006).seqState 15 = 3 ∧ (s 200006).fld (R.SEQ_CTRL 15) F.SEQ_CTRL_STARVE_LIMIT = 2 ∧
     ((s 200006).seqSt 15).starvedAt + 2 * 100000 < (s 200006).now ∧ (s 200005).now ≤ ((s 200005).seqSt 15).starvedAt + 2 * 100000) := by
  decide +kernel

/-- The first and last element of sequencer 15 are sequenced, not held. -/
def sequenced (s : State) : State :=
  [8640, 9183].foldl (fun s x => ((s.setF (R.LOOP_ST x) F.LOOP_ST_STATE 3).setLx x { s.lx x with owner := 3 }).setHold x 0) s

/-- Sample memory of sequencer 15: a code without tone, and a word of MODE 2. -/
def sampled (s : State) : State := { s with seq := { s.seq with mem := [(491521, 0x4001), (491522, 0x8000)] } }

theorem test_met_SamplesStreamsAndTones_resident :
    let s := seqRun 2 0 0x00010001 { SeqSt.zero with targets := [8640, 9183] } (sampled (sequenced seqReady))
    let r := s.seqSt 15
    s.seqState 15 = 2 ∧ r.stopAs = none ∧ r.mute = false ∧ r.sample < segLen (s.segWord 15 0 1) ∧ segSource (s.segWord 15 0 0) = 0 ∧
    r.targets = [8640, 9183] ∧ s.chanOwner 8640 = 3 ∧ s.hold 8640 = 0 ∧ s.rangeBreak 8640 = none ∧ s.chanOwner 9183 = 3 ∧
    (Tab.get (fun _ => (0 : BitVec 16)) s.seq.mem (32768 * 15 + (segStart (s.segWord 15 0 1) + r.sample * 2) + 0)).toNat = 0x4001 ∧
    (Tab.get (fun _ => (0 : BitVec 16)) s.seq.mem (32768 * 15 + (segStart (s.segWord 15 0 1) + r.sample * 2) + 1)).toNat = 0x8000 := by
  decide +kernel

theorem test_met_SamplesStreamsAndTones_stream :
    (let s := (seqRun 2 0x40000000 0x00010000 { SeqSt.zero with targets := [8640, 9183], stream := [1] } (sequenced seqReady)).setF
       (R.SEQ_STREAM_BASE 15) F.SEQ_STREAM_BASE_BASE 0x15000
     let r := s.seqSt 15
     s.seqState 15 = 2 ∧ r.stopAs = none ∧ r.mute = false ∧ r.sample < segLen (s.segWord 15 0 1) ∧ segSource (s.segWord 15 0 0) = 1 ∧
     r.stream.length < 2 ∧ r.fetch = (0, 0, 0) ∧ 0 < segLen (s.segWord 15 0 1) * 2) ∧
    (let s := (seqRun 3 0x40000000 0x00010000 { SeqSt.zero with targets := [8640], starvedAt := 5 } (sequenced seqReady)).setF
       (R.SEQ_STREAM_BASE 15) F.SEQ_STREAM_BASE_BASE 0x15000
     let r := s.seqSt 15
     s.seqState 15 = 3 ∧ r.targets = [8640] ∧ r.stream = [] ∧ r.fetch = (0, 0, 0) ∧ segSource (s.segWord 15 0 0) = 1 ∧
     r.sample < segLen (s.segWord 15 0 1)) ∧
    served.seqState 15 = 0 ∧ (seqAt served 15 1 SeqSt.zero).seqState 15 ≠ 0 := by decide +kernel

/-! ### Calibration -/

def cald (s : State) (f : CalSt → CalSt) : State := { s with cal := f s.cal }
def calRun (l : List (Nat × Nat)) : CalRun := ⟨⟨3, 9⟩, 8, l, 0, false, true⟩

theorem test_met_CalibrationRuns :
    (let d := mkDesc 6 0 [0, 8] []
     let s := offering served d
     let runs := cald s fun c => { c with run := some (calRun [(8, 0)]) }
     s.offers 0 d false true = true ∧ d.opcode = 6 ∧ s.cqUp (s.boundCq 0) = true ∧ d.byte 20 = 0 ∧ s.cal.run = none ∧ d.calBad = false ∧
     s.mode = .serve ∧ d.byte 21 = 8 ∧ (runItems 8 0 (calCount 8)).filter ((s.begun 0 d).calEligible true) ≠ [] ∧
     (runItems 8 0 (calCount 8)).filter ((s.begun 0 d).calEligible false) = [] ∧ d.count = 0 ∧
     runs.offers 0 d false true = true ∧ runs.cal.run ≠ none ∧ (md .start s).offers 0 d false true = true ∧ (md .start s).mode = .start) ∧
    (mkDesc 6 0 [0, 9] []).calBad = true ∧
    (let d := mkDesc 6 0 [0, 4, 0, 0, 7, 0, 0, 0, 1, 0, 0, 0] []
     d.calBad = false ∧ d.first = 7 ∧ d.count = 1) ∧
    (let d := mkDesc 6 0 [1] []
     let s := offering served d
     let runs := cald s fun c => { c with run := some (calRun [(8, 0)]) }
     s.offers 0 d false true = true ∧ d.byte 20 = 1 ∧ s.cal.run = none ∧ runs.offers 0 d false true = true ∧
     runs.cal.run = some (calRun [(8, 0)]) ∧ (calRun [(8, 0)]).req.sq ≠ 0) := by decide +kernel

theorem test_met_CalibrationValues :
    (let s := cald served fun c => { c with run := some (calRun [(8, 0), (7, 3)]) }
     let u := cald (served.setF R.CAL_CTRL F.CAL_CTRL_RETRIES 0) fun c => { c with run := some (calRun [(8, 0), (7, 3)]) }
     s.cal.run = some (calRun [(8, 0), (7, 3)]) ∧ (calRun [(8, 0), (7, 3)]).items = (8, 0) :: (7, 3) :: [] ∧ ((7, 3) : Nat × Nat) ≠ (8, 0) ∧
     s.fld (R.CAL_TOL 8) F.CAL_TOL_AGREE < ((100000 : Int) - 0).natAbs ∧ s.triesOf (8, 0) < s.fld R.CAL_CTRL F.CAL_CTRL_RETRIES ∧
     u.fld R.CAL_CTRL F.CAL_CTRL_RETRIES ≤ u.triesOf (8, 0) ∧ ((0 : Int) - 0).natAbs ≤ s.fld (R.CAL_TOL 8) F.CAL_TOL_AGREE ∧
     0 ≤ s.fld (R.CAL_TOL 8) F.CAL_TOL_ACCEPT) ∧
    ((served.hkSlice 7).pos = none ∧ (served.hkSlice 7).pendingTrig = false ∧ (served.hkSlice 7).inj = none ∧ served.nextInj (.hk 7) = none ∧
     served.cal.run = none ∧ ((0 : Int) - 0).natAbs ≤ served.fld (R.CAL_TOL 4) F.CAL_TOL_AGREE ∧ 0 ≤ served.fld (R.CAL_TOL 4) F.CAL_TOL_ACCEPT) ∧
    (let s := cald served fun c => { c with osc := some 9, hk := [(0, some 4), (7, some 5)], seqSkew := [(0, some 6), (16, some 7)] }
     s.cal.osc = some 9 ∧ s.now % 1000 = 0 ∧ { s with now := 1001 }.now % 1000 ≠ 0 ∧ Tab.get (fun _ => none) s.cal.hk 7 = some 5 ∧
     (s.hkSlice 7).pos ≠ some 0 ∧ ((s.setHk 7 ⟨some 0, false, none, 0⟩).hkSlice 7).pos = some 0 ∧
     Tab.get (fun _ => none) s.cal.seqSkew 16 = some 7 ∧ ((List.range 16).all fun k => s.seqState k == 0) = true ∧ s.rack.run = none) := by
  decide +kernel

theorem test_met_CalibrationImagesRestore :
    [(⟨0, 9215, [1, 2, 3, 4, 5, 6, 7, 8]⟩ : CalRec), ⟨8, 0, [7]⟩].all CalRec.ok = true ∧
    (calImage 511 [⟨0, 9215, [1, 2, 3, 4, 5, 6, 7, 8]⟩, ⟨8, 0, [7]⟩]).length ≤ 655360 ∧ nth 0 (calImage 511 []) 5 ≠ (255 : Byte) := by
  decide +kernel

/-- An image of another device, of one oscillator record. -/
def oscImage : List Byte :=
  let body : List Byte := List.replicate 32 0 ++ [8, 1, 0, 0, 0, 0, 0, 0, 5, 0, 0, 0]
  leBytes 4 0x43414C31 ++ leBytes 2 1 ++ List.replicate 14 0 ++ leBytes 4 1 ++ leBytes 4 76 ++ leBytes 4 (crc32 body) ++ body

theorem test_met_CalibrationSaveAndRestore :
    (let d := mkDesc 7 64 [0, 0, 0, 0, 0, 1] []
     let s := offering served d
     s.offers 0 d true true = true ∧ s.cqUp (s.boundCq 0) = true ∧ d.opcode = 7 ∧ s.calBusy = false ∧
     (cald s fun c => { c with run := some (calRun [(8, 0)]) }).calBusy = true ∧
     (cald s fun c => { c with run := some (calRun [(8, 0)]) }).offers 0 d true true = true) ∧
    (let d := mkDesc 8 oscImage.length [1] []
     let s := offering served d
     s.offers 0 d true true = true ∧ s.cqUp (s.boundCq 0) = true ∧ d.opcode = 8 ∧ s.calBusy = false ∧
     calParse (bitOf (d.byte 20) 0) d.bufLen oscImage = .inr [⟨8, 0, [5]⟩] ∧
     calParse (bitOf (d.byte 20) 0) d.bufLen (List.replicate oscImage.length 0) = .inl 0x0321 ∧
     (cald s fun c => { c with run := some (calRun [(8, 0)]) }).calBusy = true) := by decide +kernel

end Sys2Proof.Tests
end

