-- ==== Sys2Proof/Tests/WitStart.lean ====
section
/-! SUPPORT. States and operands that meet the hypotheses of the statements on starts, modes, the pair and register access. -/

set_option Elab.async false

namespace Sys2Proof.Tests

open Sys2Proof Sys2Proof.Machine

def st (s : State) (f : StartSt → StartSt) : State := { s with start := f s.start }

/-! ### Starts -/

/-- In a cold start whose steps of the mask e have ended. -/
def coldAt (e : Nat) : State := st { State.reset with mode := .start } fun k => { k with cold := true, ended := e, noPower := false }

/-- In a warm start whose steps of the mask e have ended. -/
def warmAt (e : Nat) : State := st { served with mode := .start } fun k => { k with cold := false, warm := true, ended := e, warmTo := .serve }

def coldSteps : List ColdStep :=
  [.alwaysOn true false, .clocks, .domains, .rootstock, .tests 15 false [(0, true), (48, false)], .hostUp, .memory (some 3) 0 0, .memory none 1 5, .loopBlocks,
   .regionsCleared, .pipelines, .cellarCleared]

theorem test_met_ColdAndWarmStarts_from :
    (st served fun k => { k with noPower := true }).start.noPower = true ∧ (md .latched served).mode = .latched ∧ served.start.noPower = false ∧
    (md .dormant served).mode = .dormant ∧ served.start.cold = false ∧ (md .dormant (coldAt 0)).start.cold = true ∧
    (let s := md .dormant ((served.setF R.PWR_WAKE F.PWR_WAKE_EVI0_EN 1).setF R.PWR_WAKE F.PWR_WAKE_EDGE 1)
     s.flag R.PWR_WAKE F.PWR_WAKE_EVI0_EN = true ∧ s.flag R.PWR_WAKE F.PWR_WAKE_EDGE = true ∧ s.start.noPower = false) ∧
    (served.setF R.PWR_STATUS F.PWR_STATUS_ON_HOLDUP 1).flag R.PWR_STATUS F.PWR_STATUS_ON_HOLDUP = true ∧
    served.flag R.PWR_STATUS F.PWR_STATUS_ON_HOLDUP = false := by decide +kernel

theorem test_met_ColdAndWarmStarts_cold :
    (coldSteps.all fun k => (coldAt (0x1FFE - 2 ^ k.num)).coldRuns k.num && !(coldAt 0x1FFE).coldRuns k.num) = true ∧
    (let s := fun (n : Nat) => st (coldAt 0x1FF) fun k => { k with acqImage := n }
     (s 9).coldRuns ColdStep.acquisition.num = true ∧ (s 9).start.acqImage = 9 ∧ (s 8).start.acqImage ≠ 9 ∧ (s 0).coldRuns 9 = true ∧
     (let t := { s 8 with now := 400000000 + (s 8).start.acqAt }
      t.coldRuns 9 = true ∧ t.start.acqImage < 9 ∧ t.acqDone = true)) ∧
    (let s := coldAt (0x1FFE - 2 ^ ColdStep.hostUp.num)
     s.flt.latchFlag = false ∧ s.mode = .start ∧ s.start.change = none) ∧
    (fl (coldAt (0x1FFE - 2 ^ ColdStep.hostUp.num)) fun f => { f with latchFlag := true }).flt.latchFlag = true := by decide +kernel

theorem walk_keeps (f : Nat → Nat → Bool) (p b : Nat) : ∀ n s a (t : Solver.Path), t.cells.testBit b = true →
    (Solver.walk f p n s a t).cells.testBit b = true := by
  intro n
  induction n with
  | zero => intro s a t h; simpa [Solver.walk] using h
  | succ n ih => intro s a t h; rw [Solver.walk]; apply ih; simp [Nat.testBit_or, h]

theorem tracePath_input (img n : Nat) : (Solver.tracePath img n).cells.testBit (3840 + n) = true := by
  simp only [Solver.tracePath, Nat.testBit_or]
  rw [walk_keeps]; rfl
  simp

theorem checkOne_input_failed (img failed : Nat) (cs : List Solver.Conn) (c : Solver.Conn) (h : failed.testBit (3840 + c.inp) = true) :
    (Solver.checkOne img failed cs c).isSome = true := by
  have hc : ((Solver.tracePath img c.inp).cells &&& failed != 0) = true := by
    rw [bne_iff_ne]; intro h0
    have := congrArg (Nat.testBit · (3840 + c.inp)) h0
    simp [Nat.testBit_and, tracePath_input, h] at this
  simp only [Solver.checkOne, hc, if_true]
  split
  · rfl
  · split <;> rfl

/-- Input switch IS224 has failed. -/
def noEntry : State := fabd (coldAt 0x1FF) fun f => { f with failed := BitVec.ofNat 4352 (2 ^ 4064) }

theorem test_met_ColdAndWarmStarts_image : (noEntry.acqFault 0).isSome = true := by
  have h : noEntry.fab.failed.toNat.testBit (3840 + 224) = true := by decide +kernel
  simp only [State.acqFault, Solver.check]
  rw [List.isSome_findSome?, List.any_eq_true]
  refine ⟨⟨224, 225, 1, false⟩, by decide, ?_⟩
  simpa using checkOne_input_failed _ _ _ ⟨224, 225, 1, false⟩ h

def warmSteps : List WarmStep := [.stopped, .poweredDown, .rootstock, .firmware, .hostUp, .pipelines]

def warmMay (s : State) (k : WarmStep) : Bool :=
  s.start.warm && (s.mode == .start || ((s.mode == .safe || s.mode == .latched) && decide (k.num ≤ 5))) && s.start.done k.needs &&
  !bitOf s.start.ended k.num && !s.inRecovery

theorem test_met_ColdAndWarmStarts_warm :
    (warmSteps.all fun k => warmMay (warmAt k.needs) k && !warmMay (warmAt (k.needs ||| 2 ^ k.num)) k) = true ∧
    warmMay (md .latched (warmAt WarmStep.hostUp.needs)) .hostUp = decide (WarmStep.hostUp.num ≤ 5) := by decide +kernel

def linked (s : State) : State := s.setF R.PAIR_STATUS F.PAIR_STATUS_LINK 1
def inRole (r : Nat) (s : State) : State := (s.setF R.PAIR_STATUS F.PAIR_STATUS_ROLE r).setF R.PAIR_STATUS F.PAIR_STATUS_PAIR_EN 1
def peered (p : Nat) (s : State) : State := pr s fun k => { k with peer := p }

theorem test_met_ColdAndWarmStarts_commit :
    ([st (coldAt 0x1FFE) fun k => { k with readyAt := some 5 }, warmAt 0x7E].all fun b =>
      b.startReady && ([0, 1, 2, 3].all fun r => (inRole r b).startReady && (inRole r b).role == r) &&
      (let s := inRole 3 b
       !s.flag R.PAIR_STATUS F.PAIR_STATUS_LINK && (linked s).flag R.PAIR_STATUS F.PAIR_STATUS_LINK && (peered 1 (linked s)).pair.peer == 1 &&
       (peered 3 (linked s)).pair.peer == 3 && (linked s).startReady)) = true ∧
    (inRole 3 (st (coldAt 0x1FFE) fun k => { k with readyAt := some 5 })).start.readyAt = some 5 ∧ served.startReady = false ∧
    (linked (inRole 3 (warmAt 0x7E))).flag R.PAIR_STATUS F.PAIR_STATUS_PREF = (warmAt 0x7E).pair.peerPref ∧
    ((linked (inRole 3 (warmAt 0x7E))).setF R.PAIR_STATUS F.PAIR_STATUS_PREF 1).flag R.PAIR_STATUS F.PAIR_STATUS_PREF ≠
      (warmAt 0x7E).pair.peerPref := by decide +kernel

/-! ### Modes -/

def modeReq (g : Target) : ModeReq := ⟨g, .host, some ⟨0, 1⟩, [], 500⟩

theorem test_met_ModeRequests :
    ([1, 2, 3, 4, 5].all fun k =>
      let d := mkDesc 14 0 [k] []
      let e := mkDesc 14 0 [k, 1] []
      let s := offering (st served fun k => { k with queue := List.replicate 3 (modeReq .limp) }) d
      s.offers 0 d false true && d.opcode == 0x0E && d.byte 20 == k && ((upFrom 21 43).all fun i => d.byte i == 0) && s.mode != .start &&
      decide (s.start.queue.length < 4) && s.cqUp (s.boundCq 0) && (offering served e).offers 0 e false true &&
      ((upFrom 21 43).any fun i => e.byte i != 0) && (offering (md .start served) d).offers 0 d false true &&
      (offering (st served fun k => { k with queue := List.replicate 4 (modeReq .limp) }) d).offers 0 d false true) = true := by decide +kernel

/-- A mode change of ring 0's command waits. -/
def queued (g : Target) (m : Mode) : State :=
  st (md m (doing served (mkDesc 14 0 [1] []))) fun k => { k with queue := [modeReq g] }

theorem test_met_ModeChanges_trigger :
    ([(Mode.serve, Target.limp), (.latched, .cold), (.limp, .limp), (.serve, .serve), (.safe, .limp), (.shadow, .limp), (.safe, .serve), (.shadow, .serve),
      (.dormant, .limp)].all fun e =>
      let s := queued e.2 e.1
      s.mode == e.1 && s.start.queue == ⟨e.2, .host, some ⟨0, 1⟩, [], 500⟩ :: [] && s.start.change.isNone && s.rack.run.isNone &&
      s.rack.arrived.isEmpty && s.rack.pendingTrig.isNone && (s.sqRing 0).exec == some (1, mkDesc 14 0 [1] []) && s.cqUp (s.boundCq 0)) = true := by
  decide +kernel

def changing (r : ModeRun) : State := st (doing served (mkDesc 14 0 [1] [])) fun k => { k with change := some r }

theorem test_met_ModeChanges_run :
    ([Target.limp, .serve].all fun g =>
      let r : ModeRun := ⟨modeReq g, 1000, 0x3F0000, 0x3F0000, true, false⟩
      let s := changing r
      let late := { s with now := r.t0 + 1000 * max 2 (s.fld R.FAB_RACK_CTRL F.FAB_RACK_CTRL_DEADLINE) }
      s.start.change == some r && s.rack.run.isNone && !s.restarting 2 && r.r.src == .host && !r.window && r.go && bitOf r.units 16 && bitOf r.units 21 &&
      decide (r.t0 + 1000 * max 2 (s.fld R.FAB_RACK_CTRL F.FAB_RACK_CTRL_DEADLINE) ≤ late.now) && late.start.change == some r &&
      (changing { r with window := true }).start.safeDue.isNone && (changing { r with window := true }).start.change == some { r with window := true }) = true := by
  decide +kernel

/-! ### The pair -/

def pairBits (l : List (Fld × Nat)) (s : State) : State := l.foldl (fun s e => s.setF R.PAIR_STATUS e.1 e.2) s
def active (s : State) : State :=
  pairBits [(F.PAIR_STATUS_PAIR_EN, 1), (F.PAIR_STATUS_ROLE, 1), (F.PAIR_STATUS_LINK, 1), (F.PAIR_STATUS_LANES, 1), (F.PAIR_STATUS_HOLD_DRIVEN, 1)] s
def standby (s : State) : State :=
  md .shadow (pairBits [(F.PAIR_STATUS_PAIR_EN, 1), (F.PAIR_STATUS_ROLE, 2), (F.PAIR_STATUS_LINK, 1), (F.PAIR_STATUS_LANES, 3)] s)

def pf (s : State) (f : Fld) : Nat := s.fld R.PAIR_STATUS f

theorem test_met_PairLinkMirrorAndTakeover_link :
    (let s := pairBits [(F.PAIR_STATUS_PAIR_EN, 1)] served
     pf s F.PAIR_STATUS_PAIR_EN = 1 ∧ s.eventsOn = true ∧ pf s F.PAIR_STATUS_LINK = 0 ∧ s.mode ≠ .start ∧ pf served F.PAIR_STATUS_PAIR_EN = 0 ∧
     (s.setF R.PAIR_VERSION F.PAIR_VERSION_OWN_VERSION 5).fld R.PAIR_VERSION F.PAIR_VERSION_OWN_VERSION = 5 ∧ 5 ≤ (4#16).toNat + 1 ∧ (6#16).toNat ≤ 5 + 1 ∧
     (md .start s).mode = .start ∧ (let l := { s with now := s.pair.downSince + 100000 }
       l.eventsOn = true ∧ pf l F.PAIR_STATUS_LANES = 0 ∧ l.pair.lost = false ∧ l.pair.downSince + 100000 ≤ l.now)) ∧
    pf (active served) F.PAIR_STATUS_LINK = 1 ∧ pf (active served) F.PAIR_STATUS_LANES = 2 ^ 0 ∧ bitOf (pf (active served) F.PAIR_STATUS_LANES) 1 = false ∧
    bitOf (pf (standby served) F.PAIR_STATUS_LANES) 1 = true ∧ pf (standby served) F.PAIR_STATUS_LANES ≠ 2 ^ 1 := by decide +kernel

theorem test_met_PairLinkMirrorAndTakeover_mirror :
    (let s := standby served
     s.mode = .shadow ∧ s.role = 2 ∧ pf s F.PAIR_STATUS_LINK = 1 ∧ pf s F.PAIR_STATUS_INCOMPATIBLE = 0 ∧
     (rackd s fun r => { r with arrived := [⟨.mirror, none, 3, 0, none, some (1, 1), [], 0⟩] }).mirrorRacks = true ∧
     (R.TBL_FLOOD 4095 2) ≠ R.TBL_FLOOD 0 0) ∧
    (let s := pr (standby served) fun p => { p with resync := true }
     s.pair.resync = true ∧ pf s F.PAIR_STATUS_LINK = 1 ∧ s.mode ≠ .start ∧ s.pair.resyncReq = none) ∧
    (let d := mkDesc 15 0 [1] []
     let s := pr (standby (doing served d)) fun p => { p with resync := true, resyncReq := some (⟨0, 1⟩, 3) }
     s.pair.resyncReq = some (⟨0, 1⟩, 3) ∧ (s.sqRing 0).exec = some (1, d) ∧ s.cqUp (s.boundCq 0) = true) := by decide +kernel

theorem test_met_PairLinkMirrorAndTakeover_lines :
    (let s := standby served
     s.pair.guard = false ∧ s.takingOver = false ∧ s.pair.gaveUp = false ∧ (pr s fun p => { p with gaveUp := true }).pair.gaveUp = true ∧
     (pr s fun p => { p with guard := true, relSince := some 500 }).pair.relSince = some 500) ∧
    (let s := active served
     s.flag R.PAIR_STATUS F.PAIR_STATUS_HOLD_DRIVEN = true ∧ s.role = 1 ∧ pf s F.PAIR_STATUS_LINK = 1 ∧ s.mode = .serve ∧ s.pair.exch = none) ∧
    (let s := { served with now := 3600000000000 }
     s.pair.roleSince + (s.fld R.PAIR_DRILL F.PAIR_DRILL_HOURS + 1) * 3600000000000 ≤ s.now ∧
     served.now < served.pair.roleSince + (served.fld R.PAIR_DRILL F.PAIR_DRILL_HOURS + 1) * 3600000000000) ∧
    (let s := (standby served).setF R.PAIR_CFG F.PAIR_CFG_TB_FOLLOW 9
     s.mode = .shadow ∧ bitOf (s.fld R.PAIR_CFG F.PAIR_CFG_TB_FOLLOW) 0 = true ∧ bitOf (s.fld R.PAIR_CFG F.PAIR_CFG_TB_FOLLOW) 3 = true ∧
     bitOf (s.fld R.PAIR_CFG F.PAIR_CFG_TB_FOLLOW) 1 = false ∧ pf s F.PAIR_STATUS_LINK = 1 ∧ s.flag (R.TIM_SERVO_CFG 3) F.TIM_SERVO_CFG_EN = false ∧
     (s.setF (R.TIM_SERVO_CFG 3) F.TIM_SERVO_CFG_EN 1).flag (R.TIM_SERVO_CFG 3) F.TIM_SERVO_CFG_EN = true) := by decide +kernel

def synced (s : State) : State := pairBits [(F.PAIR_STATUS_SYNC, 1)] s
def commanded (d : Desc) (s : State) : Bool := (offering s d).offers 0 d false true && (offering s d).cqUp ((offering s d).boundCq 0)

theorem test_met_PairCommandsAndReleases_pair :
    ([[0, 0], [0, 1], [0, 2], [1, 0], [1, 1], [0, 0, 1]].all fun l =>
      let d := mkDesc 15 0 l []
      d.opcode == 0x0F && ([served, active served, synced (active served), synced (standby served), md .start (synced (active served)),
        pr (synced (standby served)) fun p => { p with resync := true }].all (commanded d))) = true ∧
    pf (synced (active served)) F.PAIR_STATUS_SYNC = 1 ∧ (synced (standby served)).role = 2 ∧ (synced (active served)).role ≠ 2 ∧
    (synced (active served)).mode = .serve ∧ pf (synced (active served)) F.PAIR_STATUS_INCOMPATIBLE = 0 ∧
    (synced (active served)).pair.exch = none ∧ (synced (active served)).pair.resync = false ∧ ((upFrom 22 42).any fun i => (mkDesc 15 0 [0, 1] []).byte i != 0) = false ∧
    ((upFrom 22 42).any fun i => (mkDesc 15 0 [0, 0, 1] []).byte i != 0) = true := by decide +kernel

def release (op q : Nat) : Desc := mkDesc 0x10 0 [op, 0, 0, 0, q, 0, 0, 0] []
def recorded (l : List (Nat × FRec)) : State := fl served fun f => { f with recs := l.map fun e => (e.1, some e.2) }

theorem test_met_PairCommandsAndReleases_release :
    ((release 1 9).opcode = 0x10 ∧ (release 1 9).byte 20 = 1 ∧ (release 2 9).byte 20 = 2 ∧ commanded (release 1 9) served = true ∧
     commanded (release 2 9) served = true ∧ Tab.wf (fun _ => none) served.flt.recs = true ∧ served.recBySeq 9 = none) ∧
    ([(rp 0 0).src, (rp 48 3).src].all fun src =>
      let k := frec 9 2 src (if src = 0 then 0 else 3) true
      let s := recorded [(3, k)]
      let u := recorded [(0, frec 8 1 1 0 true), (64, k)]
      Tab.wf (fun _ => none) s.flt.recs && s.recBySeq 9 == some (3, k) && k.iso && commanded (release 1 9) s && (targetOf k.src k.loc).isSome &&
      !s.present k true && u.recBySeq 9 == some (64, k) && Tab.wf (fun _ => none) u.flt.recs &&
      !((s.frecs.any fun e => e.1 != 3 && e.2.iso && decide (targetOf e.2.src e.2.loc = targetOf k.src k.loc))) && s.flt.latched.isEmpty) = true ∧
    (let k := frec 9 2 0 0 true
     let s := recorded [(3, k), (7, frec 10 2 0 0 true)]
     s.recBySeq 9 = some (3, k) ∧ s.present k true = false ∧
       (s.frecs.any fun e => e.1 != 3 && e.2.iso && decide (targetOf e.2.src e.2.loc = targetOf k.src k.loc)) = true) ∧
    (let k := frec 9 2 0 0 true
     let s := fl { recorded [(3, k)] with now := 5000000 } fun f => { f with lastRaise := [((0, 0), 4500000)] }
     s.recBySeq 9 = some (3, k) ∧ s.present k true = true) ∧
    (let k := frec 8 1 1 0 false
     (3, k) ∈ (recorded [(3, k), (63, { k with seq := 10 })]).frecs ∧ k.opened = false ∧ (frec 9 2 0 0 true).opened = true ∧
     (targetOf (frec 9 2 0 0 true).src 0).any IsoTarget.stands = true) := by decide +kernel

/-! ### Register access -/

def plainAt (o : Nat) : Bool := o % 4 == 0 && plainReg o && match findReg o with
  | some (d, _) => d.lk == 0
  | none => false

theorem test_met_RegisterWritesByAccessCode :
    ([Owner.host, .mgmt, .fabric, .safety].all fun o => (wired served).reaches o) = true ∧ plainAt R.PIPE_CTRL = true ∧ plainAt R.HIF_ATTN = true ∧
    plainAt (R.FAB_FAILED 0) = true ∧ findReg 0xFFFFFC = none ∧ 0xFFFFF8 + 4 < 2 ^ 24 := by decide +kernel

def readAt (o : Nat) : Bool := (findReg (o / 4 * 4)).isSome && !ownRead (o / 4 * 4) && !pairLo (o / 4 * 4) && !pairLo (o / 4 * 4 - 4)

theorem test_met_RegisterReads :
    served.reaches .mgmt = true ∧ ([R.PWR_WAKE, R.PIPE_CTRL + 3, R.HIF_ATTN + 1].all readAt) = true ∧ findReg 0xFFFFFC = none ∧
    pairLo R.PAIR_PEER_ID_LO = true ∧ pairLo (R.HIF_CQ_BASE_LO 31) = true := by decide +kernel

end Sys2Proof.Tests
end

/-! What a write of registers does, by the access codes (00_scope.md R4, R5; 22_register_index.md R475). -/

namespace Sys2Proof.Machine

/-! ### Writes of one register -/

/-- One bit of a written register, where no LK field lies (R4): W1C bits written 1 are cleared, RW bits take the value, others keep. -/
theorem RegDesc.written_getLsbD (d : RegDesc) (old v : Word) (b : Nat) (hb : b < 32) :
    (d.written .host old v).getLsbD b =
      if d.w1c.testBit b && v.getLsbD b then false else if d.rw.testBit b then v.getLsbD b else old.getLsbD b := by
  have bit (m : Nat) : (BitVec.ofNat 32 m).getLsbD b = m.testBit b := by rw [BitVec.getLsbD_ofNat, decide_eq_true hb, Bool.true_and]
  simp only [RegDesc.written, reduceCtorEq, if_false, Nat.or_zero, BitVec.getLsbD_and, BitVec.getLsbD_or, BitVec.getLsbD_not, bit,
    hb, decide_true, Bool.true_and]
  cases d.w1c.testBit b <;> cases d.rw.testBit b <;> simp [Bool.and_comm]

theorem plainReg_iff (off : Nat) : plainReg off = true ↔
    ownWrite off = false ∧ ringSetup off = none ∧ mirrorReg off = false ∧ off ≠ R.HIF_CTRL ∧ off ≠ R.HIF_BEACON_CTRL ∧
    off ≠ R.PAIR_DRILL ∧ ¬ (0x60000 ≤ off ∧ off < 0x70000) ∧ ¬ (0x100140 ≤ off ∧ off < 0x100150) ∧ ¬ (0x230000 ≤ off ∧ off < 0x239000) ∧
    ¬ (0x800000 ≤ off ∧ off < 0x900000) ∧ ¬ (0xA00000 ≤ off ∧ off < 0xC00000) ∧ ¬ (0xD00100 ≤ off ∧ off < 0xD00200) := by
  simp only [plainReg, Bool.and_eq_true, Bool.not_eq_true', bne_iff_ne, ne_eq, decide_eq_false_iff_not, Option.isNone_iff_eq_none,
    and_assoc]

/-- A test whose range leaves an offset out fails there. -/
theorem range_test_false (off a b : Nat) (p : Bool) (h : ¬ (a ≤ off ∧ off < b)) : (decide (a ≤ off ∧ off < b) && p) = false := by
  rw [decide_eq_false h, Bool.false_and]

/-- Nothing follows from the new value of a plain register. -/
theorem State.written_of_plainReg (s : State) (off : Nat) (old new : Word) (h : plainReg off = true) : s.written off old new = s := by
  obtain ⟨-, -, hmirror, hctrl, hbeacon, hdrill, htim, hstamp, hdrive, -, -, -⟩ := (plainReg_iff off).mp h
  unfold State.written
  rw [if_neg hbeacon, if_neg hctrl, if_neg hdrill, if_neg (by simp only [R.TIM_OSC_COMP_CTRL]; omega), if_neg (by simpa using hstamp),
    if_neg (by simpa using hdrive)]
  simp only [hmirror, Bool.false_eq_true, if_false, range_test_false off 0x60124 0x60324 _ (by omega),
    range_test_false off 0x60128 0x60328 _ (by omega), range_test_false off 0x60144 0x60344 _ (by omega),
    range_test_false off 0x61000 0x61800 _ (by omega)]

/-- A write of a plain register with no LK field changes that register, by its access codes, and nothing else. -/
theorem State.writeWord_of_plainReg (s : State) (o : Owner) (off : Nat) (v : Word) (d : RegDesc) (i : List Nat)
    (hd : findReg off = some (d, i)) (hlk : d.lk = 0) (h : plainReg off = true) :
    s.writeWord o off v = s.wr off (d.written .host (s.rd off) v) := by
  obtain ⟨hown, hring, hmirror, hctrl, -, -, -, -, -, hseq, hhrv, hlpm⟩ := (plainReg_iff off).mp h
  have hstream : (decide (R.SEQ_STREAM_BASE 0 ≤ off ∧ off < R.SEQ_STREAM_BASE 16) && off % 64 == 0x1C) = false :=
    range_test_false off _ _ _ (by simp only [R.SEQ_STREAM_BASE]; omega)
  have hcap : ¬ (0xA00000 ≤ off ∧ off < 0xA01000) := by omega
  unfold State.writeWord
  simp only [hd, hown, hmirror, hlk, hring, hctrl, hcap, RegDesc.lkIgnored, bne_self_eq_false, Bool.false_and, Bool.false_eq_true,
    and_false, false_and, not_true, if_false, ne_eq, hstream, range_test_false off 0x820000 0x8A0000 _ (by omega),
    range_test_false off 0xD00100 0xD00200 _ hlpm]
  exact State.written_of_plainReg _ _ _ _ h

/-- A write at an offset with no register changes nothing (R5). -/
theorem State.writeWord_of_no_register (s : State) (o : Owner) (off : Nat) (v : Word) (h : findReg off = none) :
    s.writeWord o off v = s := by
  unfold State.writeWord
  rw [h]

/-- No register write changes the mode, so an owner that reached registers before it still does. -/
theorem State.reaches_writeWord (s : State) (o p : Owner) (off : Nat) (v : Word) : (s.writeWord p off v).reaches o = s.reaches o := by
  have hmode : (s.writeWord p off v).mode = s.mode :=
    (State.writeWord_writes (stable_frame _ s (by decide)) (FrameOf.refl _ s)).2 .mode rfl
  simp only [State.reaches, hmode]

/-! ### REGISTER_WRITE -/

theorem toNat_add_four (off : BitVec 24) (h : off.toNat + 4 < 2 ^ 24) : (off + 4).toNat = off.toNat + 4 := by
  rw [BitVec.toNat_add]
  exact Nat.mod_eq_of_lt h

theorem exec_registerWrite (o : Owner) (off : BitVec 24) (n : Fin 9) (v : BitVec 64) (s : State) :
    exec (.registerWrite o off n v) s = execRegisterWrite o off n v s := rfl

/-- Four bytes at an aligned offset write one register. -/
theorem exec_registerWrite_four (o : Owner) (off : BitVec 24) (v : BitVec 64) (s : State) (hr : s.reaches o = true)
    (ha : off.toNat % 4 = 0) : exec (.registerWrite o off 4 v) s = .next (s.writeWord o off.toNat (BitVec.ofNat 32 v.toNat)) := by
  rw [exec_registerWrite]
  unfold execRegisterWrite
  rw [if_neg (by simp [hr, ha]), if_pos (show (4 : Fin 9).val = 4 from rfl)]

/-- Eight bytes at an aligned offset write two registers, the lower first. -/
theorem exec_registerWrite_eight (o : Owner) (off : BitVec 24) (v : BitVec 64) (s : State) (hr : s.reaches o = true)
    (ha : off.toNat % 4 = 0) : exec (.registerWrite o off 8 v) s =
      .next ((s.writeWord o off.toNat (BitVec.ofNat 32 v.toNat)).writeWord o (off.toNat + 4) (BitVec.ofNat 32 (v.toNat >>> 32))) := by
  rw [exec_registerWrite]
  unfold execRegisterWrite
  rw [if_neg (by simp [hr, ha]), if_neg (show (8 : Fin 9).val ≠ 4 by decide), if_pos (show (8 : Fin 9).val = 8 from rfl)]

/-- A write of another length, or at an offset that is not aligned, is ignored (R475). -/
theorem exec_registerWrite_ignored (o : Owner) (off : BitVec 24) (n : Fin 9) (v : BitVec 64) (s : State)
    (h : (n ≠ 4 ∧ n ≠ 8) ∨ off.toNat % 4 ≠ 0) : exec (.registerWrite o off n v) s = .next s := by
  rw [exec_registerWrite]
  unfold execRegisterWrite
  rcases h with ⟨h4, h8⟩ | ha
  · have h4' : n.val ≠ 4 := fun e => h4 (Fin.ext e)
    have h8' : n.val ≠ 8 := fun e => h8 (Fin.ext e)
    simp only [h4', h8', if_false, ite_self]
  · simp [ha]

/-- Settles O59: one register is written by its access codes, and the other lengths reduce to that or to nothing. -/
theorem registerWritesByAccessCode : Obligations.RegisterWritesByAccessCode := by
  intro s o off v hr
  refine ⟨fun d i ha hd hlk hplain => ?_, fun hnone => ?_, fun n h => exec_registerWrite_ignored o off n v s h, fun ha hlt t ht => ?_⟩
  · refine ⟨_, exec_registerWrite_four o off v s hr ha, ?_⟩
    rw [State.writeWord_of_plainReg s o _ _ d i hd hlk hplain]
    refine ⟨rfl, fun p hp => State.rd_wr_ne s _ p _ (by simpa using hp), fun b hb => ?_⟩
    have hv : (BitVec.ofNat 32 v.toNat).getLsbD b = v.getLsbD b := by simp [hb]
    rw [State.rd_wr_same, RegDesc.written_getLsbD d _ _ b hb, hv]
  · by_cases ha : off.toNat % 4 = 0
    · rw [exec_registerWrite_four o off v s hr ha, State.writeWord_of_no_register s o _ _ hnone]
    · exact exec_registerWrite_ignored o off 4 v s (.inr ha)
  · rw [exec_registerWrite_four o off v s hr ha] at ht
    cases ht
    rw [exec_registerWrite_eight o off v s hr ha, exec_registerWrite_four o (off + 4) _ _ (by rw [State.reaches_writeWord, hr])
      (by rw [toNat_add_four off hlt]; omega), toNat_add_four off hlt, BitVec.toNat_ushiftRight]

end Sys2Proof.Machine

/-! What a read of registers returns and leaves (00_scope.md R4, R5; 14_host_interface.md R323; 22_register_index.md R475). -/

namespace Sys2Proof.Machine

/-! ### Bytes of a word -/

theorem drop_leBytes (r k v : Nat) : (leBytes (r + k) v).drop r = leBytes k (v >>> (8 * r)) := by
  induction r generalizing v with
  | zero => simp
  | succ r ih =>
    rw [Nat.add_right_comm, leBytes, List.drop_succ_cons, ih, ← Nat.shiftRight_add]
    congr 2
    omega

theorem take_leBytes (n k v : Nat) : (leBytes (n + k) v).take n = leBytes n v := by
  induction n generalizing v with
  | zero => rfl
  | succ n ih => rw [Nat.add_right_comm, leBytes, List.take_succ_cons, ih, leBytes]

/-- A number's bytes, followed by others. -/
theorem ofLe_append_leBytes (n v : Nat) (l : List Byte) : ofLe (leBytes n v ++ l) = v % 2 ^ (8 * n) + 2 ^ (8 * n) * ofLe l := by
  induction n generalizing v with
  | zero => simp [leBytes, Nat.mod_one]
  | succ n ih =>
    have hpow : 2 ^ (8 * (n + 1)) = 256 * 2 ^ (8 * n) := by rw [Nat.mul_succ, Nat.pow_add, Nat.mul_comm]
    have hbyte : (BitVec.ofNat 8 v).toNat = v % 256 := BitVec.toNat_ofNat v 8
    have hrest : v >>> 8 = v / 256 := Nat.shiftRight_eq_div_pow v 8
    rw [hpow, Nat.mod_mul, leBytes, List.cons_append, ofLe, ih, hbyte, hrest, Nat.mul_add, Nat.mul_assoc, Nat.add_assoc]

theorem ofLe_leBytes (n v : Nat) : ofLe (leBytes n v) = v % 2 ^ (8 * n) := by
  simpa [ofLe] using ofLe_append_leBytes n v []

theorem wordBytes_eq_leBytes (w : Word) : wordBytes w = leBytes 4 w.toNat := by
  simp only [wordBytes, leBytes, ← Nat.shiftRight_add]

/-- Bytes r to r + n - 1 of a word. -/
theorem ofLe_part_of_word (w : Word) (r n : Nat) (h : r + n ≤ 4) :
    ofLe (((wordBytes w).drop r).take n) = w.toNat / 2 ^ (8 * r) % 2 ^ (8 * n) := by
  obtain ⟨k, hk⟩ := Nat.exists_eq_add_of_le h
  rw [wordBytes_eq_leBytes, hk, Nat.add_assoc, drop_leBytes, take_leBytes, ofLe_leBytes, Nat.shiftRight_eq_div_pow]

/-- The number whose eight bytes are those of two words, the lower first. -/
theorem ofLe_two_words (a b : Word) : ofLe (wordBytes a ++ wordBytes b) = a.toNat + 2 ^ 32 * b.toNat := by
  rw [wordBytes_eq_leBytes, wordBytes_eq_leBytes, ofLe_append_leBytes, ofLe_leBytes, Nat.mod_eq_of_lt a.isLt, Nat.mod_eq_of_lt b.isLt]

/-- Four bytes hold a word. -/
theorem mod_word (w : Word) : w.toNat % 2 ^ (8 * (4 : Fin 9).val) = w.toNat := Nat.mod_eq_of_lt w.isLt

/-- A number no larger than a word keeps within the 64 bits of a read's data. -/
theorem toNat_ofNat_of_le_word (w : Word) (m : Nat) (h : m ≤ w.toNat) : (BitVec.ofNat 64 m).toNat = m := by
  rw [BitVec.toNat_ofNat]
  exact Nat.mod_eq_of_lt (Nat.lt_of_le_of_lt h (Nat.lt_trans w.isLt (by decide)))

/-! ### The registers of a pair, and those whose reads have rows of their own -/

/-- The offsets of the _LO registers (R323). -/
def pairLoOffsets : List Nat :=
  [R.GLB_UNIQUE_ID_LO, R.HIF_DB_BASE_LO, R.HIF_BEACON_BASE_LO, R.FAB_RACK_STAMP_LO, R.PAIR_PEER_ID_LO] ++
  (List.range 32).flatMap fun n => [R.HIF_SQ_BASE_LO n, R.HIF_CQ_BASE_LO n]

/-- The offsets whose reads have rows of their own. -/
def ownReadOffsets : List Nat :=
  ((List.range 16).flatMap fun q => [R.SEQ_MEM_DATA q]) ++ (List.range 4).flatMap fun n => [R.TIM_TSQ n 0, R.TIM_TSQ n 3]

theorem pairLo_iff_mem (off : Nat) : pairLo off = true ↔ off ∈ pairLoOffsets := by
  simp only [pairLo, pairLoOffsets, Bool.or_eq_true, beq_iff_eq, List.any_eq_true, List.mem_append, List.mem_flatMap, List.mem_cons,
    List.not_mem_nil, or_false, or_assoc]

theorem ownRead_iff_mem (off : Nat) : ownRead off = true ↔ off ∈ ownReadOffsets := by
  simp only [ownRead, ownReadOffsets, Bool.or_eq_true, beq_iff_eq, List.any_eq_true, List.mem_append, List.mem_flatMap, List.mem_cons,
    List.not_mem_nil, or_false]

/-- A register lies at the offset, and it has no RC and no WO bits. -/
def readsAsHeld (off : Nat) : Bool := (findReg off).any fun e => e.1.rc == 0 && e.1.wo == 0

theorem readsAsHeld_iff (off : Nat) : readsAsHeld off = true ↔ ∃ d i, findReg off = some (d, i) ∧ d.rc = 0 ∧ d.wo = 0 := by
  simp [readsAsHeld, Option.any_eq_true]

/-- Both registers of every pair are aligned and read as held, and the _HI one is no _LO register and has no row of its own. -/
theorem pairLoOffsets_facts : ∀ off ∈ pairLoOffsets, off % 4 = 0 ∧ off + 4 < 2 ^ 24 ∧ readsAsHeld off = true ∧
    readsAsHeld (off + 4) = true ∧ pairLo (off + 4) = false ∧ ownRead (off + 4) = false := by decide +kernel

theorem ownReadOffsets_registers : ∀ off ∈ ownReadOffsets, (findReg off).isSome = true := by decide +kernel

theorem pairLo_eq_false_of_no_register (off : Nat) (h : findReg off = none) : pairLo off = false := by
  refine Bool.eq_false_iff.mpr fun hp => ?_
  obtain ⟨-, -, hheld, -⟩ := pairLoOffsets_facts off ((pairLo_iff_mem off).mp hp)
  simp [readsAsHeld, h] at hheld

theorem ownRead_eq_false_of_no_register (off : Nat) (h : findReg off = none) : ownRead off = false := by
  refine Bool.eq_false_iff.mpr fun hp => ?_
  have hreg := ownReadOffsets_registers off ((ownRead_iff_mem off).mp hp)
  simp [h] at hreg

/-! ### What a read leaves -/

theorem and_not_no_bits (v : Word) : v &&& ~~~ BitVec.ofNat 32 0 = v := by rw [BitVec.not_zero, BitVec.and_allOnes]

theorem RegDesc.readable_of_no_wo (d : RegDesc) (v : Word) (h : d.wo = 0) : d.readable v = v := by
  rw [RegDesc.readable, h, and_not_no_bits]

theorem RegDesc.afterRead_of_no_rc (d : RegDesc) (v : Word) (h : d.rc = 0) : d.afterRead v = v := by
  rw [RegDesc.afterRead, h, and_not_no_bits]

/-- The state after a read of the register d at an offset: its RC bits cleared (R4). -/
def State.readCleared (s : State) (d : RegDesc) (off : Nat) : State := if d.rc = 0 then s else s.wr off (d.afterRead (s.rd off))

/-- The state with the data of a read. -/
def State.withData (s : State) (v : BitVec 64) : State := { s with hif := { s.hif with rdata := v } }

@[simp] theorem State.withData_regs (s : State) (v : BitVec 64) : (s.withData v).regs = s.regs := rfl
@[simp] theorem State.withData_rdata (s : State) (v : BitVec 64) : (s.withData v).hif.rdata = v := rfl
@[simp] theorem State.withData_rd (s : State) (v : BitVec 64) (p : Nat) : (s.withData v).rd p = s.rd p := rfl
@[simp] theorem State.withData_reaches (s : State) (v : BitVec 64) (o : Owner) : (s.withData v).reaches o = s.reaches o := rfl
@[simp] theorem State.withData_snaps (s : State) (v : BitVec 64) (o : Owner) : (s.withData v).snaps o = s.snaps o := rfl

@[simp] theorem State.setSnap_regs (s : State) (o : Owner) (off : Nat) (v : Option Word) : (s.setSnap o off v).regs = s.regs := rfl
@[simp] theorem State.setSnap_reaches (s : State) (o p : Owner) (off : Nat) (v : Option Word) :
    (s.setSnap p off v).reaches o = s.reaches o := rfl

/-- A requester's snapshot of a pair reads as it was last set. -/
@[simp] theorem State.get_setSnap (s : State) (o : Owner) (off : Nat) (v : Option Word) :
    Tab.get (fun _ => none) ((s.setSnap o off v).snaps o) off = v := by
  have hsnaps : (s.setSnap o off v).snaps o = Tab.set (fun _ => none) (s.snaps o) off v := by
    unfold State.setSnap
    by_cases ho : o = .host <;> simp [State.snaps, ho]
  rw [hsnaps, Tab.get_set_same]

theorem State.rd_readCleared (s : State) (d : RegDesc) (off : Nat) : (s.readCleared d off).rd off = d.afterRead (s.rd off) := by
  unfold State.readCleared
  split
  · next h => exact (d.afterRead_of_no_rc _ h).symm
  · exact State.rd_wr_same s off _

theorem State.rd_readCleared_ne (s : State) (d : RegDesc) (off p : Nat) (h : p ≠ off) : (s.readCleared d off).rd p = s.rd p := by
  unfold State.readCleared
  split
  · rfl
  · exact State.rd_wr_ne s off p _ h

/-- A read clears RC bits in the register file and leaves every other part. -/
theorem State.readCleared_frame (s : State) (d : RegDesc) (off : Nat) :
    s.readCleared d off = { s with regs := (s.readCleared d off).regs } := by
  unfold State.readCleared
  split <;> rfl

/-! ### The read of one register -/

theorem State.readWord_of_no_register (s : State) (o : Owner) (off : Nat) (snap : Bool) (h : findReg off = none) :
    s.readWord o off snap = (0, s) := by
  unfold State.readWord
  rw [h]

/-- A register that is no half of a pair. -/
theorem State.readWord_of_single (s : State) (o : Owner) (off : Nat) (snap : Bool) (d : RegDesc) (i : List Nat)
    (hd : findReg off = some (d, i)) (hlo : pairLo off = false) (hhi : pairLo (off - 4) = false) :
    s.readWord o off snap = (d.readable (s.heldAt o off), s.readCleared d off) := by
  simp only [State.readWord, hd, hlo, hhi, State.readCleared, Bool.false_eq_true, and_false, if_false]

/-- A _LO register reads as held, and the read may snapshot the pair. -/
theorem State.readWord_of_pairLo (s : State) (o : Owner) (off : Nat) (snap : Bool) (h : pairLo off = true) :
    s.readWord o off snap = (s.heldAt o off, if snap = true then s.setSnap o off (some (s.heldAt o (off + 4))) else s) := by
  obtain ⟨-, -, hheld, -⟩ := pairLoOffsets_facts off ((pairLo_iff_mem off).mp h)
  obtain ⟨d, i, hd, hrc, hwo⟩ := (readsAsHeld_iff off).mp hheld
  simp only [State.readWord, hd, hrc, h, if_true, d.readable_of_no_wo _ hwo]

section
variable (s : State) (o : Owner) (off : Nat) (h : pairLo off = true)
include h

/-- With a snapshot of its pair, a _HI register reads as the snapshot, which the read spends (R323). -/
theorem State.readWord_of_pairHi_snapped (w : Word) (hw : Tab.get (fun _ => none) (s.snaps o) off = some w) :
    s.readWord o (off + 4) true = (w, s.setSnap o off none) := by
  obtain ⟨-, -, -, hheld, hlo, -⟩ := pairLoOffsets_facts off ((pairLo_iff_mem off).mp h)
  obtain ⟨d, i, hd, hrc, -⟩ := (readsAsHeld_iff (off + 4)).mp hheld
  simp only [State.readWord, hd, hrc, hlo, h, hw, Nat.add_sub_cancel, Nat.le_add_left, and_self, if_true, Bool.false_eq_true, if_false]

/-- With none, or in a read that leaves the snapshots, it reads as held. -/
theorem State.readWord_of_pairHi_live (snap : Bool) (hw : Tab.get (fun _ => none) (s.snaps o) off = none ∨ snap = false) :
    s.readWord o (off + 4) snap = (s.heldAt o (off + 4), s) := by
  obtain ⟨-, -, -, hheld, hlo, -⟩ := pairLoOffsets_facts off ((pairLo_iff_mem off).mp h)
  obtain ⟨d, i, hd, hrc, hwo⟩ := (readsAsHeld_iff (off + 4)).mp hheld
  simp only [State.readWord, hd, hrc, hlo, h, Nat.add_sub_cancel, Nat.le_add_left, and_self, if_true, Bool.false_eq_true, if_false,
    d.readable_of_no_wo _ hwo]
  rcases hw with hnone | rfl
  · rw [hnone]
  · split <;> rfl

end

/-! ### The read of some bytes -/

/-- A read within one register: its bytes, and what the read of the register leaves. -/
theorem State.busRead_within_word (s : State) (o : Owner) (off n : Nat) (h0 : 0 < n) (h4 : off % 4 + n ≤ 4) :
    s.busRead o off n = (s.readWord o (off / 4 * 4) true).2.withData
      (BitVec.ofNat 64 ((s.readWord o (off / 4 * 4) true).1.toNat / 2 ^ (8 * (off % 4)) % 2 ^ (8 * n))) := by
  have hone : (off + n + 3) / 4 - off / 4 = 1 := by omega
  have hpos : off - off / 4 * 4 = off % 4 := by omega
  have hlen : (n == 8) = false := by simp; omega
  simp only [State.busRead, hone, hlen, hpos, Bool.false_and, Bool.not_false, State.readWords, List.flatMap_cons, List.flatMap_nil,
    List.append_nil, ofLe_part_of_word _ _ _ h4]
  rfl

/-- An eight-byte read at a _LO register returns both halves and leaves the snapshots (R323). -/
theorem State.busRead_pair (s : State) (o : Owner) (off : Nat) (h : pairLo off = true) :
    s.busRead o off 8 = s.withData (BitVec.ofNat 64 ((s.heldAt o off).toNat + 2 ^ 32 * (s.heldAt o (off + 4)).toNat)) := by
  obtain ⟨ha, -⟩ := pairLoOffsets_facts off ((pairLo_iff_mem off).mp h)
  have htwo : (off + 8 + 3) / 4 - off / 4 = 2 := by omega
  have hbase : off / 4 * 4 = off := by omega
  have hlo : s.readWord o off false = (s.heldAt o off, s) := State.readWord_of_pairLo s o off false h
  have hhi := State.readWord_of_pairHi_live s o off h false (.inr rfl)
  have hall (a b : Word) : (wordBytes a ++ wordBytes b).take 8 = wordBytes a ++ wordBytes b := rfl
  simp only [State.busRead, htwo, hbase, h, BEq.rfl, Bool.true_and, Bool.not_true, State.readWords, hlo, hhi, List.flatMap_cons,
    List.flatMap_nil, List.append_nil, Nat.sub_self, List.drop_zero, hall, ofLe_two_words]
  rfl

/-! ### READ_CLEAR and SNAPSHOT_READ_LO -/

theorem exec_readClear (o : Owner) (off : BitVec 24) (n : Fin 9) (s : State) :
    exec (.readClear o off n) s = execReadClear o off n s := rfl

theorem exec_snapshotReadLo (o : Owner) (off : BitVec 24) (n : Fin 9) (s : State) :
    exec (.snapshotReadLo o off n) s = execSnapshotReadLo o off n s := rfl

/-- READ_CLEAR within one register that is no _LO register and has no row of its own. -/
theorem exec_readClear_within_word (s : State) (o : Owner) (off : BitVec 24) (n : Fin 9) (hr : s.reaches o = true) (h0 : 0 < n.val)
    (h4 : off.toNat % 4 + n.val ≤ 4) (hown : ownRead (off.toNat / 4 * 4) = false) (hlo : pairLo (off.toNat / 4 * 4) = false) :
    exec (.readClear o off n) s = .next ((s.readWord o (off.toNat / 4 * 4) true).2.withData (BitVec.ofNat 64
      ((s.readWord o (off.toNat / 4 * 4) true).1.toNat / 2 ^ (8 * (off.toNat % 4)) % 2 ^ (8 * n.val)))) := by
  have hone : (off.toNat + n.val + 3) / 4 - off.toNat / 4 = 1 := by omega
  rw [exec_readClear, ← State.busRead_within_word s o off.toNat n.val h0 h4]
  simp [execReadClear, touched, hone, hr, hown, hlo, Nat.ne_of_gt h0]

/-- READ_CLEAR of four bytes at an aligned offset, where it is no _LO register and has no row of its own. -/
theorem exec_readClear_word (s : State) (o : Owner) (off : BitVec 24) (hr : s.reaches o = true) (ha : off.toNat % 4 = 0)
    (hown : ownRead off.toNat = false) (hlo : pairLo off.toNat = false) :
    exec (.readClear o off 4) s =
      .next ((s.readWord o off.toNat true).2.withData (BitVec.ofNat 64 (s.readWord o off.toNat true).1.toNat)) := by
  have hbase : off.toNat / 4 * 4 = off.toNat := by omega
  rw [exec_readClear_within_word s o off 4 hr (by decide) (by rw [ha]; decide) (by rwa [hbase]) (by rwa [hbase]), hbase, ha, Nat.mul_zero,
    Nat.pow_zero, Nat.div_one, mod_word]

/-- SNAPSHOT_READ_LO of some bytes at a _LO register is the read of them. -/
theorem exec_snapshotReadLo_of_pairLo (s : State) (o : Owner) (off : BitVec 24) (n : Fin 9) (hr : s.reaches o = true) (h0 : n.val ≠ 0)
    (h : pairLo off.toNat = true) : exec (.snapshotReadLo o off n) s = .next (s.busRead o off.toNat n) := by
  obtain ⟨ha, -⟩ := pairLoOffsets_facts _ ((pairLo_iff_mem _).mp h)
  have hbase : off.toNat / 4 * 4 = off.toNat := by omega
  simp [exec_snapshotReadLo, execSnapshotReadLo, hbase, h, hr, h0]

/-- SNAPSHOT_READ_LO of four bytes returns the _LO register and snapshots the pair. -/
theorem exec_snapshotReadLo_word (s : State) (o : Owner) (off : BitVec 24) (hr : s.reaches o = true) (h : pairLo off.toNat = true) :
    exec (.snapshotReadLo o off 4) s = .next ((s.setSnap o off.toNat (some (s.heldAt o (off.toNat + 4)))).withData
      (BitVec.ofNat 64 (s.heldAt o off.toNat).toNat)) := by
  obtain ⟨ha, -⟩ := pairLoOffsets_facts _ ((pairLo_iff_mem _).mp h)
  have hbase : off.toNat / 4 * 4 = off.toNat := by omega
  rw [exec_snapshotReadLo_of_pairLo s o off 4 hr (by decide) h, State.busRead_within_word s o off.toNat _ (by decide) (by rw [ha]; decide),
    hbase, ha, State.readWord_of_pairLo s o _ true h, Nat.mul_zero, Nat.pow_zero, Nat.div_one, mod_word]
  rfl

section
variable (s : State) (o : Owner) (off : BitVec 24) (h : pairLo off.toNat = true)
include h

/-- READ_CLEAR of four bytes at a _HI register is the read of that register. -/
theorem exec_readClear_pairHi (hr : s.reaches o = true) :
    exec (.readClear o (off + 4) 4) s = .next ((s.readWord o (off.toNat + 4) true).2.withData
      (BitVec.ofNat 64 (s.readWord o (off.toNat + 4) true).1.toNat)) := by
  obtain ⟨ha, hlt, -, -, hlo, hown⟩ := pairLoOffsets_facts _ ((pairLo_iff_mem _).mp h)
  have hoff := toNat_add_four off hlt
  rw [exec_readClear_word s o (off + 4) hr (by omega) (by rwa [hoff]) (by rwa [hoff]), hoff]

/-- With a snapshot, it returns bits 63:32 of the snapshot and spends it. -/
theorem exec_readClear_pairHi_snapped (w : Word) (hr : s.reaches o = true)
    (hw : Tab.get (fun _ => none) (s.snaps o) off.toNat = some w) :
    exec (.readClear o (off + 4) 4) s = .next ((s.setSnap o off.toNat none).withData (BitVec.ofNat 64 w.toNat)) := by
  rw [exec_readClear_pairHi s o off h hr, State.readWord_of_pairHi_snapped s o _ h w hw]

/-- With none, it returns the live value. -/
theorem exec_readClear_pairHi_live (hr : s.reaches o = true) (hw : Tab.get (fun _ => none) (s.snaps o) off.toNat = none) :
    exec (.readClear o (off + 4) 4) s = .next (s.withData (BitVec.ofNat 64 (s.heldAt o (off.toNat + 4)).toNat)) := by
  rw [exec_readClear_pairHi s o off h hr, State.readWord_of_pairHi_live s o _ h true (.inl hw)]

end

/-- Settles O60: a read of one register, of none, and of a pair by way of the requester's snapshot. -/
theorem registerReads : Obligations.RegisterReads := by
  intro s o off hr
  refine ⟨fun n d i h0 h4 hd hown hlo hhi => ?_, fun ha hnone => ?_, fun h => ?_⟩
  · refine ⟨_, exec_readClear_within_word s o off n hr h0 h4 hown hlo, ?_⟩
    rw [State.readWord_of_single s o _ true d i hd hlo hhi]
    refine ⟨toNat_ofNat_of_le_word _ _ (Nat.le_trans (Nat.mod_le _ _) (Nat.div_le_self _ _)), State.rd_readCleared s d _,
      fun p hp => State.rd_readCleared_ne s d _ p (by simpa using hp), ?_⟩
    rw [State.readCleared_frame]
    rfl
  · rw [exec_readClear_word s o off hr ha (ownRead_eq_false_of_no_register _ hnone) (pairLo_eq_false_of_no_register _ hnone),
      State.readWord_of_no_register s o _ true hnone]
    rfl
  · refine ⟨_, exec_snapshotReadLo_word s o off hr h, toNat_ofNat_of_le_word _ _ (Nat.le_refl _), rfl, fun u hu hru => ?_, ?_⟩
    · have hsnap : Tab.get (fun _ => none) (u.snaps o) off.toNat = some (s.heldAt o (off.toNat + 4)) := by
        rw [hu, State.withData_snaps, State.get_setSnap]
      refine ⟨_, exec_readClear_pairHi_snapped u o off h _ hru hsnap, toNat_ofNat_of_le_word _ _ (Nat.le_refl _), rfl, _,
        exec_readClear_pairHi_live _ o off h (by simpa using hru) (by simp), toNat_ofNat_of_le_word _ _ (Nat.le_refl _)⟩
    · rw [exec_snapshotReadLo_of_pairLo s o off 8 hr (by decide) h]
      exact congrArg _ (State.busRead_pair s o _ h)

end Sys2Proof.Machine

/-! What PORT_POWER_UPDATE shows, and that it changes nothing else (02_fabric.md R36; 05_drive_and_sense.md R101). -/

namespace Sys2Proof.Machine

/-! ### Loops -/

/-- A loop that counts up keeps an invariant of its count. -/
theorem forUp_invariant {σ : Type} {P : Nat → σ → Prop} {f : Nat → σ → σ} {n a : Nat} {s : σ}
    (hf : ∀ k t, k < a + n → P k t → P (k + 1) (f k t)) (h : P a s) : P (a + n) (forUp f n a s) := by
  induction n generalizing a s with
  | zero => exact h
  | succ n ih =>
    rw [show a + (n + 1) = a + 1 + n by omega] at hf ⊢
    exact ih hf (hf a s (by omega) h)

/-! ### States that differ in some registers only -/

/-- t is s but for registers whose offsets satisfy A. -/
def State.differsAt (A : Nat → Prop) (s t : State) : Prop := t = { s with regs := t.regs } ∧ ∀ o, ¬ A o → t.rd o = s.rd o

section
variable {A B : Nat → Prop} {s t u : State}

theorem State.differsAt.refl (A : Nat → Prop) (s : State) : s.differsAt A s := ⟨rfl, fun _ _ => rfl⟩

theorem State.differsAt.trans (hst : s.differsAt A t) (htu : t.differsAt A u) : s.differsAt A u := by
  obtain ⟨ht, hrt⟩ := hst
  obtain ⟨hu, hru⟩ := htu
  exact ⟨hu.trans (by rw [ht]), fun o ho => (hru o ho).trans (hrt o ho)⟩

theorem State.differsAt.mono (h : s.differsAt A t) (hAB : ∀ o, A o → B o) : s.differsAt B t :=
  ⟨h.1, fun o ho => h.2 o fun hA => ho (hAB o hA)⟩

theorem State.differsAt.setF {o : Nat} (h : s.differsAt (· = o) t) (f : Fld) (n : Nat) : s.differsAt (· = o) (t.setF o f n) :=
  h.trans ⟨rfl, fun _ hp => State.rd_setF_ne t o _ f n hp⟩

end

/-! ### One port power register -/

/-- A port power register: its offset, the element of its monitor, whether it reads BOUND, and its level in 0.01 dBm. -/
abbrev PortReg := Nat × Nat × Bool × Int

/-- What the port power register e shows in t by the monitor's reading in s (R36). -/
def State.showsPower (s t : State) (e : PortReg) : Prop :=
  (s.monValid e.2.1 = false → t.fld e.1 F.FAB_IN_POWER_VALID = 0) ∧
  (s.monValid e.2.1 = true → t.fld e.1 F.FAB_IN_POWER_VALID = 1 ∧ t.fld e.1 F.FAB_IN_POWER_BOUND = bnat e.2.2.1 ∧
    t.fld e.1 F.FAB_IN_POWER_UNDER = bnat (decide (s.fld (R.DRV_MON e.2.1) F.DRV_MON_SAMPLE < 112)) ∧
    t.fld e.1 F.FAB_IN_POWER_OVER = bnat (decide (2000 < e.2.2.2)) ∧
    (112 ≤ s.fld (R.DRV_MON e.2.1) F.DRV_MON_SAMPLE → e.2.2.2 ≤ 2000 →
      signedOf 16 (t.fld e.1 F.FAB_IN_POWER_LEVEL) = signedOf 16 (unsignedOf 16 e.2.2.2)))

/-- A power register shows the same after writes of other registers. -/
theorem State.showsPower.of_rd {s t u : State} {e : PortReg} (h : s.showsPower t e) (hr : u.rd e.1 = t.rd e.1) : s.showsPower u e := by
  have hf (f : Fld) : u.fld e.1 f = t.fld e.1 f := by rw [State.fld, hr, State.fld]
  simpa only [State.showsPower, hf] using h

@[simp] theorem bnat_mod_two (b : Bool) : bnat b % 2 = bnat b := by cases b <;> rfl

theorem signedOf_mod (w n : Nat) : signedOf w (n % 2 ^ w) = signedOf w n := by simp only [signedOf, Nat.mod_mod]

/-- The update of a power register writes no other register. -/
theorem State.powerReg_differsAt (s : State) (o x : Nat) (bound : Bool) (level : Int) :
    s.differsAt (· = o) (s.powerReg o x bound level) := by
  have hs := State.differsAt.refl (· = o) s
  unfold State.powerReg
  split
  · exact hs.setF _ _
  · dsimp only
    split
    · exact (((hs.setF _ _).setF _ _).setF _ _).setF _ _
    · exact ((((hs.setF _ _).setF _ _).setF _ _).setF _ _).setF _ _

/-- The update of a power register shows its monitor's reading there. -/
theorem State.powerReg_shows (s : State) (e : PortReg) : s.showsPower (s.powerReg e.1 e.2.1 e.2.2.1 e.2.2.2) e := by
  refine ⟨fun hv => ?_, fun hv => ?_⟩
  · simp [State.powerReg, hv]
  · simp only [State.powerReg, hv, Bool.not_true, Bool.false_eq_true, if_false]
    split
    · next hout =>
      refine ⟨?_, ?_, ?_, ?_, fun hu ha => absurd hout (by omega)⟩ <;> simp [State.fld_setF_disjoint]
    · refine ⟨?_, ?_, ?_, ?_, fun _ _ => ?level⟩
      case level => rw [State.fld_setF_same _ _ _ _ (by decide), signedOf_mod]
      all_goals simp [State.fld_setF_disjoint]

/-! ### The port power registers -/

/-- An offset of a port power register. -/
def powerOffset (o : Nat) : Prop := ∃ n < 256, o = R.FAB_IN_POWER n ∨ o = R.FAB_OUT_POWER n

theorem powerOffset_lt (o : Nat) (h : powerOffset o) : o < 0x102000 := by
  obtain ⟨n, hn, rfl | rfl⟩ := h
  · simp only [R.FAB_IN_POWER]
    omega
  · simp only [R.FAB_OUT_POWER]
    omega

theorem inReg_ne_outReg (n m : Nat) (h : n < 256) : R.FAB_IN_POWER n ≠ R.FAB_OUT_POWER m := by
  simp only [R.FAB_IN_POWER, R.FAB_OUT_POWER]
  omega

theorem inReg_ne_inReg (n m : Nat) (h : n ≠ m) : R.FAB_IN_POWER n ≠ R.FAB_IN_POWER m := by
  simp only [R.FAB_IN_POWER, ne_eq]
  omega

theorem outReg_ne_outReg (n m : Nat) (h : n ≠ m) : R.FAB_OUT_POWER n ≠ R.FAB_OUT_POWER m := by
  simp only [R.FAB_OUT_POWER, ne_eq]
  omega

/-- The level that the input of port n reads, in 0.01 dBm: its monitor's, and the loss of its attenuator (R36). -/
def State.inLevel (s : State) (n : Nat) : Int :=
  s.wavePower (elemVI n) + (if s.flag (R.DRV_CH_CODE (elemVI n)) F.DRV_CH_CODE_PARKED then 4500
    else ((bits (s.rd (R.CAL_CURVE (elemVI n) 2)).toNat 16 16 : Nat) : Int))

/-- The power register of port n's input. -/
def State.inReg (s : State) (n : Nat) : PortReg :=
  (R.FAB_IN_POWER n, elemVI n, s.flag (R.DRV_CH_CODE (elemVI n)) F.DRV_CH_CODE_PARKED, s.inLevel n)

/-- The power register of port n's output. -/
def State.outReg (s : State) (n : Nat) : PortReg := (R.FAB_OUT_POWER n, elemVO n, false, s.wavePower (elemVO n))

/-- PORT_POWER_UPDATE at one port register. -/
def State.updatePower (s : State) (e : PortReg) : State := s.powerReg e.1 e.2.1 e.2.2.1 e.2.2.2

section
variable {s t u : State} (h : s.differsAt powerOffset t)
include h

/-- The drive and calibration registers lie above the port power registers. -/
theorem State.differsAt.rd_above (o : Nat) (ho : 0x102000 ≤ o) : t.rd o = s.rd o :=
  h.2 o fun hp => Nat.not_le_of_lt (powerOffset_lt o hp) ho

theorem State.differsAt.fld_above (o : Nat) (f : Fld) (ho : 0x102000 ≤ o) : t.fld o f = s.fld o f := by
  rw [State.fld, h.rd_above o ho, State.fld]

theorem State.differsAt.monitor (x : Nat) (f : Fld) : t.fld (R.DRV_MON x) f = s.fld (R.DRV_MON x) f :=
  h.fld_above _ f (by simp only [R.DRV_MON]; omega)

theorem State.differsAt.chCode (x : Nat) (f : Fld) : t.flag (R.DRV_CH_CODE x) f = s.flag (R.DRV_CH_CODE x) f := by
  rw [State.flag, h.fld_above _ f (by simp only [R.DRV_CH_CODE]; omega), State.flag]

theorem State.differsAt.blkUp (b : Nat) : t.blkUp b = s.blkUp b := by
  rw [State.blkUp, State.flag, h.fld_above _ _ (by simp only [R.DRV_BLK_STATUS]; omega), State.blkUp, State.flag]

theorem State.differsAt.monValid (x : Nat) : t.monValid x = s.monValid x := by
  have hfab : t.fab = s.fab := by rw [h.1]
  have hdrive : t.drive = s.drive := by rw [h.1]
  rw [State.monValid, h.blkUp, hfab, hdrive, State.monValid]

theorem State.differsAt.wavePower (x : Nat) : t.wavePower x = s.wavePower x := by
  rw [State.wavePower, h.monitor, State.wavePower]

theorem State.differsAt.inReg (n : Nat) : t.inReg n = s.inReg n := by
  rw [State.inReg, State.inLevel, h.chCode, h.wavePower, h.rd_above (R.CAL_CURVE _ 2) (by simp only [R.CAL_CURVE]; omega), State.inReg,
    State.inLevel]

theorem State.differsAt.outReg (n : Nat) : t.outReg n = s.outReg n := by
  rw [State.outReg, h.wavePower, State.outReg]

/-- What shows the monitors' readings in t shows those in s. -/
theorem State.differsAt.showsPower {e : PortReg} (hu : t.showsPower u e) : s.showsPower u e := by
  simpa only [State.showsPower, h.monValid, h.monitor] using hu

/-- The update of one port register after that of others. -/
theorem State.differsAt.updatePower (e : PortReg) (he : powerOffset e.1) :
    s.differsAt powerOffset (t.updatePower e) ∧ s.showsPower (t.updatePower e) e ∧
    ∀ k : PortReg, k.1 ≠ e.1 → s.showsPower t k → s.showsPower (t.updatePower e) k := by
  have hd : t.differsAt (· = e.1) (t.updatePower e) := t.powerReg_differsAt e.1 _ _ _
  exact ⟨h.trans (hd.mono fun o ho => ho ▸ he), h.showsPower (t.powerReg_shows e), fun k hk hs => hs.of_rd (hd.2 k.1 hk)⟩

end

/-! ### PORT_POWER_UPDATE -/

/-- The update of both registers of port n. -/
def State.updatePort (n : Nat) (s : State) : State := (s.updatePower (s.inReg n)).updatePower ((s.updatePower (s.inReg n)).outReg n)

theorem exec_portPowerUpdate (s : State) : exec .portPowerUpdate s = .next (forUp State.updatePort 256 0 s) := rfl

/-- t is s with the power registers of the ports below k updated. -/
def State.updatedTo (s : State) (k : Nat) (t : State) : Prop :=
  s.differsAt powerOffset t ∧ ∀ n < k, s.showsPower t (s.inReg n) ∧ s.showsPower t (s.outReg n)

/-- The update of port k reads what no earlier update wrote, and leaves the registers of the ports before it. -/
theorem State.updatedTo.updatePort {s t : State} {k : Nat} (hk : k < 256) (h : s.updatedTo k t) :
    s.updatedTo (k + 1) (t.updatePort k) := by
  obtain ⟨ht, hshown⟩ := h
  obtain ⟨hin, hinShown, hinKeeps⟩ := ht.updatePower (s.inReg k) ⟨k, hk, .inl rfl⟩
  obtain ⟨hout, houtShown, houtKeeps⟩ := hin.updatePower (s.outReg k) ⟨k, hk, .inr rfl⟩
  rw [State.updatePort, ht.inReg, hin.outReg]
  refine ⟨hout, fun n hn => ?_⟩
  by_cases hnk : n = k
  · subst hnk
    exact ⟨houtKeeps _ (inReg_ne_outReg n n hk) hinShown, houtShown⟩
  · obtain ⟨hi, ho⟩ := hshown n (by omega)
    exact ⟨houtKeeps _ (inReg_ne_outReg n k (by omega)) (hinKeeps _ (inReg_ne_inReg n k hnk) hi),
      houtKeeps _ (outReg_ne_outReg n k hnk) (hinKeeps _ (inReg_ne_outReg k n hk).symm ho)⟩

/-- Settles O5: port by port, no update writes what a later one reads. -/
theorem portPowers : Obligations.PortPowers := by
  intro s
  obtain ⟨hframe, hshown⟩ : s.updatedTo 256 (forUp State.updatePort 256 0 s) :=
    forUp_invariant (P := s.updatedTo) (a := 0) (fun k _ hk h => h.updatePort (by omega)) ⟨.refl _ s, fun n hn => by omega⟩
  refine ⟨_, exec_portPowerUpdate s, hframe.1, fun o ho => hframe.2 o ?_, fun n hn e he => ?_⟩
  · rintro ⟨n, hn, hin | hout⟩
    · exact (ho n hn).1 hin
    · exact (ho n hn).2 hout
  · obtain ⟨hi, ho⟩ := hshown n hn
    simp only [List.mem_cons, List.not_mem_nil, or_false] at he
    rcases he with rfl | rfl
    · exact hi
    · exact ho

end Sys2Proof.Machine

/-! The route solver's queue and its requests: what each case of an arrival shows and leaves (03_routing.md R55 to R57, R64). -/

namespace Sys2Proof.Machine

/-! ### FAB_SOLVE_STATUS -/

/-- STATE and QUEUED lie in one register, and the solver's show writes no other. -/
theorem State.showSolver_differsAt (s : State) : s.differsAt (· = R.FAB_SOLVE_STATUS) s.showSolver :=
  ((State.differsAt.refl _ s).setF _ _).setF _ _

@[simp] theorem State.showSolver_fab (s : State) : s.showSolver.fab = s.fab := rfl
@[simp] theorem State.showSolver_hif (s : State) : s.showSolver.hif = s.hif := rfl
@[simp] theorem State.showSolver_now (s : State) : s.showSolver.now = s.now := rfl

theorem State.rd_showSolver_ne (s : State) (o : Nat) (h : o ≠ R.FAB_SOLVE_STATUS) : s.showSolver.rd o = s.rd o :=
  s.showSolver_differsAt.2 o h

/-- The fields below QUEUED stay. -/
theorem State.fld_showSolver_low (s : State) (g : Fld) (h : g.lo + g.w ≤ 27) :
    s.showSolver.fld R.FAB_SOLVE_STATUS g = s.fld R.FAB_SOLVE_STATUS g := by
  rw [State.showSolver, State.fld_setF_disjoint _ _ _ _ _ (by decide) (.inl h),
    State.fld_setF_disjoint _ _ _ _ _ (by decide) (.inl (Nat.le_trans h (by decide)))]

@[simp] theorem State.showSolver_queued (s : State) :
    s.showSolver.fld R.FAB_SOLVE_STATUS F.FAB_SOLVE_STATUS_QUEUED = s.fab.solveQ.length % 8 :=
  State.fld_setF_same _ _ _ _ (by decide)

/-- With no fault re-solve, STATE shows the request that runs: 3 a check, 1 a solve, 0 none. -/
theorem State.showSolver_state (s : State) (h : s.fab.resolve = none) :
    s.showSolver.fld R.FAB_SOLVE_STATUS F.FAB_SOLVE_STATUS_STATE =
      (s.fab.solving.map fun r => if r.checkOnly then 3 else 1).getD 0 := by
  rw [State.showSolver, State.fld_setF_disjoint _ _ _ _ _ (by decide) (by decide), State.fld_setF_same _ _ _ _ (by decide), h]
  cases s.fab.solving with
  | none => rfl
  | some r => cases hr : r.checkOnly <;> simp [hr]

/-! ### The solver takes a request -/

@[simp] theorem State.solveBegin_fab (s : State) (r : SolveReq) : (s.solveBegin r).fab = { s.fab with solving := some r } := rfl
@[simp] theorem State.solveBegin_now (s : State) (r : SolveReq) : (s.solveBegin r).now = s.now := rfl

theorem State.rd_solveBegin_ne (s : State) (r : SolveReq) (o : Nat) (h : o ≠ R.FAB_SOLVE_STATUS) : (s.solveBegin r).rd o = s.rd o := by
  rw [State.solveBegin, State.rd_showSolver_ne _ _ h, State.rd_setF_ne _ _ _ _ _ h, State.rd_mk]

theorem State.solveBegin_solved (s : State) (r : SolveReq) :
    (s.solveBegin r).fld R.FAB_SOLVE_STATUS F.FAB_SOLVE_STATUS_SOLVED = 0 := by
  rw [State.solveBegin, State.fld_showSolver_low _ _ (by decide), State.fld_setF_same _ _ _ _ (by decide), Nat.zero_mod]

theorem State.solveBegin_state (s : State) (r : SolveReq) (h : s.fab.resolve = none) :
    (s.solveBegin r).fld R.FAB_SOLVE_STATUS F.FAB_SOLVE_STATUS_STATE = if r.checkOnly then 3 else 1 :=
  State.showSolver_state _ h

/-- With nothing queued the solver stays as it is. -/
theorem State.solveNext_empty (s : State) (h : s.fab.solveQ = []) : s.solveNext = s.showSolver := by
  rw [State.solveNext, h]
  split <;> rfl

/-- A request with RACK_AFTER 1 waits for its instant at the head of the queue. -/
theorem State.solveNext_waits (s : State) (r : SolveReq) (q : List SolveReq) (h : s.fab.solveQ = r :: q) (ha : r.rackAfter = true) :
    s.solveNext = s.showSolver := by
  rw [State.solveNext, h]
  simp only [ha, if_true, ite_self]

/-- A free solver takes any other. -/
theorem State.solveNext_takes (s : State) (r : SolveReq) (q : List SolveReq) (h : s.fab.solveQ = r :: q) (ha : r.rackAfter = false)
    (hs : s.fab.solving = none) (hr : s.fab.resolve = none) (hf : s.restarting 2 = false) :
    s.solveNext = State.solveBegin { s with fab := { s.fab with solveQ := q } } r := by
  rw [State.solveNext, h, hs, hr, hf]
  simp [ha]

/-! ### A request arrives -/

theorem State.solveRequest_shadow (s : State) (r : SolveReq) (h : s.mode = .shadow) :
    s.solveRequest r = s.finish r.req 0x0108 (s.opWords 2) 0 true := by
  simp [State.solveRequest, h]

theorem State.solveRequest_arrives (s : State) (r : SolveReq) (hm : s.mode ≠ .shadow) (ha : s.admitted 8 = true)
    (hk : s.racking 1 = false) : s.solveRequest r = s.solveArrive r := by
  simp [State.solveRequest, hm, ha, hk]

theorem State.solveArrive_busy (s : State) (r : SolveReq) (h : 4 ≤ s.fab.solveQ.length) :
    s.solveArrive r = s.finish r.req 0x0107 (s.opWords 2) 0 true := if_pos h

theorem State.solveArrive_queued (s : State) (r : SolveReq) (h : s.fab.solveQ.length < 4) :
    s.solveArrive r = State.solveNext { s with fab := { s.fab with solveQ := s.fab.solveQ ++ [r] } } := if_neg (Nat.not_le_of_lt h)

section
variable (s : State) (r : SolveReq) (hq : s.fab.solveQ = [])
include hq

/-- Alone in the queue, a request with RACK_AFTER 1 waits there. -/
theorem State.solveArrive_waits (ha : r.rackAfter = true) :
    s.solveArrive r = State.showSolver { s with fab := { s.fab with solveQ := [r] } } := by
  rw [State.solveArrive_queued s r (by simp [hq]), State.solveNext_waits _ r [] (by simp [hq]) ha, hq, List.nil_append]

/-- Any other is taken at once by a free solver. -/
theorem State.solveArrive_taken (ha : r.rackAfter = false) (hs : s.fab.solving = none) (hr : s.fab.resolve = none)
    (hf : s.restarting 2 = false) : s.solveArrive r = State.solveBegin { s with fab := { s.fab with solveQ := [] } } r := by
  rw [State.solveArrive_queued s r (by simp [hq])]
  exact State.solveNext_takes { s with fab := { s.fab with solveQ := s.fab.solveQ ++ [r] } } r [] (by simp [hq]) ha hs hr hf

end

/-- The two rows of a SOLVE descriptor, each with its MODE and the STATE that it shows while it runs (R55). -/
def solveRows (sq : Fin 32) (d : Desc) : List (Instr × Nat × Nat) := [(.solve sq d, 0, 1), (.checkOnly sq d, 1, 3)]

/-- SOLVE or CHECK_ONLY that its ring offers reaches the solver as its descriptor's request. -/
theorem exec_solve_offered (s : State) (sq : Fin 32) (d : Desc) (h : s.offers sq d false true = true) (hop : d.opcode = 2)
    (c : Instr × Nat × Nat) (hc : c ∈ solveRows sq d) (hm : d.byte 20 = c.2.1) :
    exec c.1 s = .next ((s.begun sq d).solveRequest (d.solveReq (s.nextReq sq))) := by
  simp only [solveRows, List.mem_cons, List.not_mem_nil, or_false] at hc
  rcases hc with rfl | rfl
  all_goals exact congrArg _ (s.launch_offered sq d _ false true _ (by simp [hop, hm]) h)

theorem Desc.solveReq_state (d : Desc) (r : Req) (sq : Fin 32) (c : Instr × Nat × Nat) (hc : c ∈ solveRows sq d) (hm : d.byte 20 = c.2.1) :
    (if (d.solveReq r).checkOnly then 3 else 1) = c.2.2 := by
  simp only [solveRows, List.mem_cons, List.not_mem_nil, or_false] at hc
  rcases hc with rfl | rfl <;> simp [Desc.solveReq, hm]

/-- A solve request that ends at once leaves the fabric and its status, and its completion gives the solver's words. -/
theorem State.solve_refused (s : State) (sq : Fin 32) (d : Desc) (c : Nat) (hc : s.cqUp (s.boundCq sq) = true) :
    let t := (s.begun sq d).finish (s.nextReq sq) c ((s.begun sq d).opWords 2) 0 true
    t.fab = s.fab ∧ t.rd R.FAB_SOLVE_STATUS = s.rd R.FAB_SOLVE_STATUS ∧ t.lastDone sq = some (sq.val, d.tag, c, s.opWords 2) := by
  have hlt := s.boundCq_lt sq
  have hwords : (s.begun sq d).opWords 2 = s.opWords 2 := by
    simp only [State.opWords, if_true]
    rw [State.begun_rd _ _ _ _ (by simp; omega), State.begun_rd _ _ _ _ (by simp; omega), State.begun_rd _ _ _ _ (by simp; omega),
      State.begun_rd _ _ _ _ (by simp; omega)]
  refine ⟨State.finish_fab .., ?_, ?_⟩
  · rw [s.ended_rd (s.begun sq d) sq d _ _ _ _ sq.isLt (fun _ _ => rfl) _ (by simp; omega) (by simp; omega) (by simp),
      State.begun_rd _ _ _ _ (by simp; omega)]
  · rw [(s.ended (s.begun sq d) sq d _ _ _ _ sq.isLt rfl (fun _ _ => rfl) hc).1, hwords]
    rfl

/-- Settles O6: the cases of a request's arrival, in the state in which its descriptor has begun. -/
theorem solveRequests : Obligations.SolveRequests := by
  intro s sq d hoff hop hfab c hc hmode
  have hexec := exec_solve_offered s sq d hoff hop c hc hmode
  have hfab' : (s.begun sq d).restarting 2 = false := by
    rw [← hfab, State.restarting, State.begun_fld _ _ _ _ _ (by simp; omega), State.restarting]
  refine ⟨fun hm ha hk hres hsol hq => ⟨_, hexec, ?_⟩, fun hm ha hk hup h4 => ⟨_, hexec, ?_⟩, fun hm hup => ⟨_, hexec, ?_⟩⟩
  · rw [State.solveRequest_arrives (s.begun sq d) _ hm ha hk]
    cases hra : bitOf (d.byte 21) 1 with
    | true =>
      rw [State.solveArrive_waits (s.begun sq d) _ hq hra]
      simp [hsol]
    | false =>
      rw [State.solveArrive_taken (s.begun sq d) _ hq hra hsol hres hfab', if_neg Bool.false_ne_true]
      refine ⟨rfl, rfl, rfl, rfl, State.solveBegin_solved _ _, ?_⟩
      rw [State.solveBegin_state]
      · exact d.solveReq_state _ sq c hc hmode
      · exact hres
  · rw [State.solveRequest_arrives (s.begun sq d) _ hm ha hk, State.solveArrive_busy (s.begun sq d) _ h4]
    exact s.solve_refused sq d 0x0107 hup
  · rw [State.solveRequest_shadow (s.begun sq d) _ hm]
    exact s.solve_refused sq d 0x0108 hup

end Sys2Proof.Machine

/-! The ends of a solve: an abort, and a checked image that is held (03_routing.md R51, R54 to R58). -/

namespace Sys2Proof.Machine

/-! ### States with the same rings -/

/-- t holds the rings of s and their registers (14_host_interface.md). -/
def State.sameRings (s t : State) : Prop := t.hif = s.hif ∧ ∀ o < 0x20000, t.rd o = s.rd o

section
variable {s t : State} (h : s.sameRings t)
include h

theorem State.sameRings.sqRing (n : Nat) : t.sqRing n = s.sqRing n := by rw [State.sqRing, h.1, State.sqRing]
theorem State.sameRings.cqRing (n : Nat) : t.cqRing n = s.cqRing n := by rw [State.cqRing, h.1, State.cqRing]
theorem State.sameRings.fld (o : Nat) (f : Fld) (ho : o < 0x20000) : t.fld o f = s.fld o f := by rw [State.fld, h.2 o ho, State.fld]

theorem State.sameRings.boundCq (n : Nat) (hn : n < 32) : t.boundCq n = s.boundCq n := h.fld _ _ (by simp; omega)

theorem State.sameRings.cqUp (c : Nat) (hc : c < 32) : t.cqUp c = s.cqUp c := by
  rw [State.cqUp, State.flag, State.flag, h.fld _ _ (by simp; omega), h.fld _ _ (by simp; omega)]
  rfl

theorem State.sameRings.lastDone (n : Nat) (hn : n < 32) : t.lastDone n = s.lastDone n := by
  rw [State.lastDone, h.boundCq n hn, h.cqRing, State.lastDone]

end

theorem State.showSolver_sameRings (s : State) : s.sameRings s.showSolver :=
  ⟨rfl, fun o ho => s.rd_showSolver_ne o (by simp; omega)⟩

/-! ### The end of the running request -/

/-- The end of a ring's request leaves the registers beyond the host interface. -/
theorem State.rd_finish_above (s : State) (r : Req) (c : Nat) (w : List Word) (l : Nat) (v : Bool) (o : Nat) (hr : r.sq < 32)
    (ho : 0x20000 ≤ o) : (s.finish r c w l v).rd o = s.rd o := by
  have hlt := s.boundCq_lt r.sq
  exact s.finish_rd r c w l v o (by simp; omega) (by simp; omega) (by simp; omega)

/-- No request runs, and FAB_SOLVE_STATUS shows how the last one ended (R56). -/
def State.resultNoted (s : State) (result bad : Nat) : State :=
  (State.setF { s with fab := { s.fab with solving := none } } R.FAB_SOLVE_STATUS F.FAB_SOLVE_STATUS_LAST_RESULT result).setF
    R.FAB_SOLVE_STATUS F.FAB_SOLVE_STATUS_FIRST_BAD_PORT bad

theorem State.rd_resultNoted_ne (s : State) (result bad o : Nat) (h : o ≠ R.FAB_SOLVE_STATUS) :
    (s.resultNoted result bad).rd o = s.rd o := by
  rw [State.resultNoted, State.rd_setF_ne _ _ _ _ _ h, State.rd_setF_ne _ _ _ _ _ h, State.rd_mk]

theorem State.resultNoted_sameRings (s : State) (result bad : Nat) : s.sameRings (s.resultNoted result bad) :=
  ⟨rfl, fun o ho => s.rd_resultNoted_ne result bad o (by simp; omega)⟩

section
variable (s : State) (r : SolveReq) (result bad : Nat) (hq : s.fab.solveQ = [])
include hq

/-- Where nothing waits, a request that ends leaves the solver idle. -/
theorem State.solveEnd_idle : s.solveEnd r result bad true =
    ((s.resultNoted result bad).finish r.req result ((s.resultNoted result bad).opWords 2) 0 true).showSolver := by
  refine (State.solveNext_empty (State.finish ..) ?_ :)
  rw [State.finish_fab]
  exact hq

theorem State.solveEnd_fab : (s.solveEnd r result bad true).fab = { s.fab with solving := none } := by
  rw [s.solveEnd_idle r result bad hq, State.showSolver_fab, State.finish_fab]
  rfl

theorem State.solveEnd_state (hres : s.fab.resolve = none) :
    (s.solveEnd r result bad true).fld R.FAB_SOLVE_STATUS F.FAB_SOLVE_STATUS_STATE = 0 := by
  rw [s.solveEnd_idle r result bad hq, State.showSolver_state _ (by rw [State.finish_fab]; exact hres), State.finish_fab]
  rfl

/-- Its completion carries the result. -/
theorem State.solveEnd_done (d : Desc) (hr : r.req.sq < 32) (he : (s.sqRing r.req.sq).exec = some (r.req.job, d))
    (hc : s.cqUp (s.boundCq r.req.sq) = true) :
    ((s.solveEnd r result bad true).lastDone r.req.sq).map (fun k => (k.1, k.2.1, k.2.2.1)) = some (r.req.sq, d.tag, result) := by
  have hn := s.resultNoted_sameRings result bad
  rw [s.solveEnd_idle r result bad hq, (State.showSolver_sameRings _).lastDone _ hr,
    (State.finish_done _ r.req d _ _ _ _ hr (by rw [hn.sqRing, he]) (by rw [hn.boundCq _ hr, hn.cqUp _ (s.boundCq_lt _), hc])).1]
  rfl

variable (hr : r.req.sq < 32)
include hr

theorem State.rd_solveEnd_ne (o : Nat) (ho : 0x20000 ≤ o) (h : o ≠ R.FAB_SOLVE_STATUS) :
    (s.solveEnd r result bad true).rd o = s.rd o := by
  rw [s.solveEnd_idle r result bad hq, State.rd_showSolver_ne _ _ h, State.rd_finish_above _ _ _ _ _ _ _ hr ho,
    s.rd_resultNoted_ne _ _ _ h]

/-- The fields of FAB_SOLVE_STATUS below QUEUED are as the result was noted. -/
theorem State.fld_solveEnd_low (g : Fld) (hg : g.lo + g.w ≤ 27) :
    (s.solveEnd r result bad true).fld R.FAB_SOLVE_STATUS g = (s.resultNoted result bad).fld R.FAB_SOLVE_STATUS g := by
  rw [s.solveEnd_idle r result bad hq, State.fld_showSolver_low _ _ hg, State.fld, State.rd_finish_above _ _ _ _ _ _ _ hr (by simp),
    State.fld]

theorem State.solveEnd_result :
    (s.solveEnd r result bad true).fld R.FAB_SOLVE_STATUS F.FAB_SOLVE_STATUS_LAST_RESULT = result % 2 ^ 16 := by
  rw [s.fld_solveEnd_low r result bad hq hr _ (by decide), State.resultNoted, State.fld_setF_disjoint _ _ _ _ _ (by decide) (by decide),
    State.fld_setF_same _ _ _ _ (by decide)]

theorem State.solveEnd_solved : (s.solveEnd r result bad true).fld R.FAB_SOLVE_STATUS F.FAB_SOLVE_STATUS_SOLVED =
    s.fld R.FAB_SOLVE_STATUS F.FAB_SOLVE_STATUS_SOLVED := by
  rw [s.fld_solveEnd_low r result bad hq hr _ (by decide), State.resultNoted, State.fld_setF_disjoint _ _ _ _ _ (by decide) (by decide),
    State.fld_setF_disjoint _ _ _ _ _ (by decide) (by decide), State.fld_mk]

end

/-! ### Loop words and port words -/

section
variable {A : Nat → Prop} {s t : State}

theorem State.differsAt.wr (h : s.differsAt A t) (o : Nat) (v : Word) (ho : A o) : s.differsAt A (t.wr o v) :=
  h.trans ⟨rfl, fun _ hp => t.rd_wr_ne _ _ v fun e => hp (e ▸ ho)⟩

theorem State.differsAt.fab (h : s.differsAt A t) : t.fab = s.fab := by rw [h.1]

/-- The loop words of an element lie in its record. -/
theorem State.differsAt.setLoopWords (h : s.differsAt A t) (o : Nat → Nat → Nat) (hA : ∀ x k, A (o x k)) (x : Nat) (w : Nat × Nat) :
    s.differsAt A (t.setLoopWords o x w) := by
  unfold State.setLoopWords
  dsimp only
  have put (u : State) (k v : Nat) (hu : s.differsAt A u) :
      s.differsAt A (if (u.rd (o x k)).toNat = v then u else u.wr (o x k) (BitVec.ofNat 32 v)) := by
    split
    · exact hu
    · exact hu.wr _ _ (hA x k)
  exact put _ 2 _ (put _ 1 _ h)

/-- The derived loop words of an image lie in the records of the set they are derived into. -/
theorem State.deriveLoopWords_differsAt (s : State) (o : Nat → Nat → Nat) (hA : ∀ x k, A (o x k)) (img : Nat) (map : List Word)
    (cs : List Solver.Conn) : s.differsAt A (s.deriveLoopWords o img map cs) := by
  unfold State.deriveLoopWords
  exact foldl_keep (P := s.differsAt A) (fun t c ht => (ht.setLoopWords o hA _ _).setLoopWords o hA _ _)
    (forUp_keep (fun k t ht => ht.setLoopWords o hA _ _) (.refl _ s))

theorem State.writePorts_differsAt (s : State) (o : Nat → Nat) (hA : ∀ k < 8, A (o k)) (m : BitVec 256) :
    s.differsAt A (s.writePorts o m) :=
  forUp_invariant (P := fun _ => s.differsAt A) (a := 0) (fun k _ hk h => h.wr _ _ (hA k (by omega))) (.refl _ s)

end

/-! ### A held image -/

/-- The shadow image is replaced, and the loop words of the shadow set follow it (R121). -/
def State.imageShadowed (s : State) (img : Nat) (omits : List Nat) (map : List Word) : State :=
  let cs := (Solver.conns map).filter fun c => !omits.contains c.inp
  State.deriveLoopWords { s with fab := { s.fab with
    shadow := BitVec.ofNat 4352 img, shadowLive := BitVec.ofNat 4352 (Solver.liveMask img cs), shadowOmit := Solver.portMask omits } }
    R.LOOP_SHADOW_CFG img map cs

section
variable (s : State) (img : Nat) (omits : List Nat) (moved : Nat) (map : List Word)

theorem State.imageShadowed_fab : ∃ live, (s.imageShadowed img omits map).fab = { s.fab with
    shadow := BitVec.ofNat 4352 img, shadowLive := live, shadowOmit := Solver.portMask omits } :=
  ⟨_, (State.deriveLoopWords_differsAt (A := fun _ => True) _ _ (fun _ _ => trivial) _ _ _).fab⟩

theorem State.rd_imageShadowed_below (o : Nat) (ho : o < 0x640000) : (s.imageShadowed img omits map).rd o = s.rd o :=
  (State.deriveLoopWords_differsAt (A := (0x640000 ≤ ·)) _ _ (fun x k => by simp; omega) _ _ _).2 o (by omega)

/-- The registers of a held image: SOLVED, BASE_VINTAGE and the statistics (R41, R55). -/
theorem State.holdImage_eq : s.holdImage img omits moved map =
    (((((s.imageShadowed img omits map).setF R.FAB_SOLVE_STATUS F.FAB_SOLVE_STATUS_SOLVED 1).wr R.FAB_SOLVE_BASE
      (s.rd R.FAB_VINTAGE_FABRIC)).setF R.FAB_SOLVE_STATS F.FAB_SOLVE_STATS_UNROUTED omits.length).setF R.FAB_SOLVE_STATS
      F.FAB_SOLVE_STATS_MOVED moved).setF R.FAB_SOLVE_STATS F.FAB_SOLVE_STATS_CHANGED
      (Solver.changed s.fab.active.toNat s.fab.failed.toNat img) := by
  have hv : ((s.imageShadowed img omits map).setF R.FAB_SOLVE_STATUS F.FAB_SOLVE_STATUS_SOLVED 1).rd R.FAB_VINTAGE_FABRIC =
      s.rd R.FAB_VINTAGE_FABRIC := by
    rw [State.rd_setF_ne _ _ _ _ _ (by decide), s.rd_imageShadowed_below _ _ _ _ (by decide)]
  rw [← hv]
  rfl

theorem State.holdImage_fab : ∃ live, (s.holdImage img omits moved map).fab = { s.fab with
    shadow := BitVec.ofNat 4352 img, shadowLive := live, shadowOmit := Solver.portMask omits } := by
  rw [s.holdImage_eq]
  exact s.imageShadowed_fab img omits map

theorem State.holdImage_solved : (s.holdImage img omits moved map).fld R.FAB_SOLVE_STATUS F.FAB_SOLVE_STATUS_SOLVED = 1 := by
  rw [s.holdImage_eq, State.fld_setF_ne _ _ _ _ _ _ (by decide), State.fld_setF_ne _ _ _ _ _ _ (by decide),
    State.fld_setF_ne _ _ _ _ _ _ (by decide), State.fld_wr_ne _ _ _ _ _ (by decide), State.fld_setF_same _ _ _ _ (by decide)]
  rfl

theorem State.holdImage_base : (s.holdImage img omits moved map).rd R.FAB_SOLVE_BASE = s.rd R.FAB_VINTAGE_FABRIC := by
  rw [s.holdImage_eq, State.rd_setF_ne _ _ _ _ _ (by decide), State.rd_setF_ne _ _ _ _ _ (by decide),
    State.rd_setF_ne _ _ _ _ _ (by decide), State.rd_wr_same]

theorem State.holdImage_moved : (s.holdImage img omits moved map).fld R.FAB_SOLVE_STATS F.FAB_SOLVE_STATS_MOVED =
    moved % 2 ^ F.FAB_SOLVE_STATS_MOVED.w := by
  rw [s.holdImage_eq, State.fld_setF_disjoint _ _ _ _ _ (by decide) (by decide), State.fld_setF_same _ _ _ _ (by decide)]

end

/-! ### A solve ends with an image -/

/-- The state in which a solve's image is held and its unrouted ports are shown (R55). -/
def State.solvedInto (s : State) (img : Nat) (omits : List Nat) (moved : Nat) (map : List Word) : State :=
  (s.holdImage img omits moved map).writePorts R.FAB_UNROUTED (Solver.portMask omits)

theorem State.solvedInto_differsAt (s : State) (img : Nat) (omits : List Nat) (moved : Nat) (map : List Word) :
    (s.holdImage img omits moved map).differsAt (fun o => 0x100040 ≤ o ∧ o < 0x100060) (s.solvedInto img omits moved map) :=
  State.writePorts_differsAt _ _ (fun k hk => by simp; omega) _

/-- A SOLVE with RACK_AFTER 0 ends with the image it was given. -/
theorem State.solveHeld_solve (s : State) (r : SolveReq) (img moved : Nat) (map : List Word) (hc : r.checkOnly = false)
    (ha : r.rackAfter = false) : s.solveHeld r img [] moved map = (s.solvedInto img [] moved map).solveEnd r 0 0 true := by
  simp only [State.solveHeld, hc, ha, Bool.and_false, Bool.false_eq_true, if_false]
  rfl

/-- A solver image that the checker passes is held. -/
theorem exec_solveResultHeld_image (s : State) (r : SolveReq) (img moved : Nat) (hs : s.fab.solving = some r) (hc : r.checkOnly = false)
    (hres : s.fab.resolve = none) (hk : s.racking 1 = false) (hf : ∀ k ∈ s.rack.arrived, k.src ≠ .fault)
    (hbad : Solver.firstBadEntry 0 s.shadowMap = none) (hcf : Solver.firstConflict (Solver.conns s.shadowMap) = none)
    (himg : s.given.solve (Solver.conns s.shadowMap) r.partialOk = .image img [] moved)
    (hpass : Solver.check img s.fab.failed.toNat (Solver.conns s.shadowMap) = none) :
    exec (.solveResultHeld none) s = .next (s.solveHeld r img [] moved s.shadowMap) := by
  have hany : (s.rack.arrived.any fun t => t.src == .fault) = false := by
    rw [List.any_eq_false]
    exact fun k hmem => by simpa using hf k hmem
  have hall : ((Solver.conns s.shadowMap).filter fun c => !([] : List Nat).contains c.inp) = Solver.conns s.shadowMap :=
    List.filter_eq_self.mpr fun _ _ => rfl
  have hpass' : Solver.check img s.given.failed ((Solver.conns s.shadowMap).filter fun c => !([] : List Nat).contains c.inp) = none := by
    rw [hall]
    exact hpass
  show execSolveResultHeld none s = _
  simp only [execSolveResultHeld, hs, hres, hany, hk, hbad, hcf, himg, hpass', hc, Option.isSome_none, Bool.or_self, Bool.false_eq_true,
    if_false]

/-! ### SOLVE_RACK_AFTER_ACCEPT and SOLVE_ABORT -/

/-- Up to the given instant of the cycle, the clock goes on to it. -/
theorem State.at_now_eq (s : State) (ns : Nat) (h : s.now ≤ s.tick + ns) : (s.at_ ns).now = s.tick + ns := by
  unfold State.at_
  dsimp only
  split <;> omega

theorem exec_solveRackAfterAccept_takes (s : State) (r : SolveReq) (q : List SolveReq) (hs : s.fab.solving = none)
    (hres : s.fab.resolve = none) (hq : s.fab.solveQ = r :: q) (ha : r.rackAfter = true) :
    exec .solveRackAfterAccept s = .next (State.solveBegin { s.at_ 488 with fab := { s.fab with solveQ := q } } r) := by
  show execSolveRackAfterAccept s = _
  simp only [execSolveRackAfterAccept, State.at__fab, hs, hres, hq, ha, Option.isSome_none, Bool.or_self, Bool.false_eq_true, if_false,
    if_true]

theorem exec_solveAbort_running (s : State) (r : SolveReq) (hs : s.fab.solving = some r) :
    exec .solveAbort s = .next (s.solveEnd r 0x0106 0 true) := by
  show execSolveAbort s = _
  simp only [execSolveAbort, State.solveCut, hs]

theorem exec_solveAbort_idle (s : State) (hs : s.fab.solving = none) : exec .solveAbort s = .next s := by
  show execSolveAbort s = _
  simp only [execSolveAbort, State.solveCut, hs]

/-- Settles O7: the solver takes a waiting request, and a running one ends by an abort or with its image. -/
theorem solverTakesAndEnds : Obligations.SolverTakesAndEnds := by
  refine ⟨fun s r q hnow hs hres hq ha => ?_, fun s r d hs hq hres hsq he hc => ?_, exec_solveAbort_idle,
    fun s r img moved hs hc ha hq hres hk hf hsq hbad hcf himg hpass => ?_⟩
  · refine ⟨_, exec_solveRackAfterAccept_takes s r q hs hres hq ha, s.at_now_eq 488 hnow, rfl, rfl, State.solveBegin_solved _ _, ?_⟩
    intro o ho
    rw [State.rd_solveBegin_ne _ _ _ (by simpa using ho)]
    rfl
  · refine ⟨_, exec_solveAbort_running s r hs, ?_, ?_, s.solveEnd_result r _ _ hq hsq, s.solveEnd_state r _ _ hq hres,
      s.solveEnd_done r _ _ hq d hsq he hc⟩
    all_goals rw [s.solveEnd_fab r _ _ hq]
  · have hd := s.solvedInto_differsAt img [] moved s.shadowMap
    obtain ⟨live, hfab⟩ := s.holdImage_fab img [] moved s.shadowMap
    have hq' : (s.solvedInto img [] moved s.shadowMap).fab.solveQ = [] := by rw [hd.fab, hfab]; exact hq
    have hrd (o : Nat) (ho : o < 0x100040) : (s.solvedInto img [] moved s.shadowMap).rd o = (s.holdImage img [] moved s.shadowMap).rd o :=
      hd.2 o (by omega)
    refine ⟨_, exec_solveResultHeld_image s r img moved hs hc hres hk hf hbad hcf himg hpass, ?_⟩
    rw [s.solveHeld_solve r img moved _ hc ha]
    refine ⟨?_, ?_, ?_, ?_, ?_, ?_, ?_⟩
    · rw [State.solveEnd_fab _ r _ _ hq', hd.fab, hfab]
    · rw [State.solveEnd_fab _ r _ _ hq', hd.fab, hfab]
    · rw [State.solveEnd_fab _ r _ _ hq']
    · rw [State.solveEnd_solved _ r _ _ hq' hsq, State.fld, hrd _ (by decide)]
      exact s.holdImage_solved img [] moved _
    · exact State.solveEnd_result _ r _ _ hq' hsq
    · rw [State.rd_solveEnd_ne _ r _ _ hq' hsq _ (by decide) (by decide), hrd _ (by decide)]
      exact s.holdImage_base img [] moved _
    · rw [State.fld, State.rd_solveEnd_ne _ r _ _ hq' hsq _ (by decide) (by decide), hrd _ (by decide)]
      exact s.holdImage_moved img [] moved _

end Sys2Proof.Machine

/-! The failed set: its register, the marks of fault records and of the host, and what an acknowledgement frees (03_routing.md R47;
17_faults_and_safety.md R380, R383, R386). -/

namespace Sys2Proof.Machine

/-! ### Sets of cells -/

theorem getLsbD_cellBit (i j : Nat) (hj : j < 4352) : (BitVec.ofNat 4352 (2 ^ i)).getLsbD j = (j == i) := by
  rw [BitVec.getLsbD_ofNat, decide_eq_true hj, Bool.true_and, Nat.testBit_two_pow, Bool.beq_eq_decide_eq]
  exact decide_eq_decide.mpr eq_comm

theorem getLsbD_cellsAt (m : CellSet) (n b : Nat) (hb : b < 32) : (cellsAt m n).getLsbD b = m.getLsbD (32 * n + b) := by
  rw [cellsAt, BitVec.getLsbD_ofNat, decide_eq_true hb, Bool.true_and, Nat.testBit_shiftRight, BitVec.testBit_toNat]

/-- FAB_FAILED_n holds word n of the failed set. -/
theorem State.heldAt_failed (s : State) (o : Owner) (n : Nat) (hn : n < 136) : s.heldAt o (R.FAB_FAILED n) = cellsAt s.fab.failed n := by
  have hin : (decide (0x102000 ≤ R.FAB_FAILED n ∧ R.FAB_FAILED n < 0x102000 + 544) && R.FAB_FAILED n % 4 == 0) = true := by
    simp
    omega
  have hword : (R.FAB_FAILED n - 0x102000) / 4 = n := by simp
  rw [State.heldAt, if_pos hin]
  exact congrArg _ hword

/-! ### FAILED_CELL_MARK and FAILED_CELL_CLEAR -/

section
variable (s : State) (cell : BitVec 13)

theorem exec_failedCellMark_of_cell (h : cell.toNat < 4352) : exec (.failedCellMark cell) s =
    .next { s with fab := { s.fab with failed := s.fab.failed ||| BitVec.ofNat 4352 (2 ^ cell.toNat) } } := congrArg _ (if_pos h)

theorem exec_failedCellMark_of_ge (h : 4352 ≤ cell.toNat) : exec (.failedCellMark cell) s = .next s :=
  congrArg _ (if_neg (Nat.not_lt.mpr h))

/-- An open fault record marked the cell. -/
def State.markedOpen (s : State) (i : Nat) : Prop := ∃ e ∈ s.fab.recCells, e.1 = i ∧ s.recOpen e.2 = true

theorem State.markedOpen_iff (i : Nat) : (s.fab.recCells.any fun e => e.1 == i && s.recOpen e.2) = true ↔ s.markedOpen i := by
  simp only [List.any_eq_true, Bool.and_eq_true, beq_iff_eq, State.markedOpen]

theorem exec_failedCellClear_refused (h : cell.toNat < 4352) (hm : s.markedOpen cell.toNat) : exec (.failedCellClear cell) s =
    .next (s.setF R.FAB_SOLVE_STATUS F.FAB_SOLVE_STATUS_EDIT_REFUSED 1) :=
  congrArg _ ((if_pos h).trans (if_pos ((s.markedOpen_iff _).mpr hm)))

theorem exec_failedCellClear_free (h : cell.toNat < 4352) (hm : ¬ s.markedOpen cell.toNat) : exec (.failedCellClear cell) s =
    .next { s with fab := { s.fab with
      failed := s.fab.failed &&& ~~~ (BitVec.ofNat 4352 (2 ^ cell.toNat))
      recCells := s.fab.recCells.filter fun e => e.1 != cell.toNat } } :=
  congrArg _ ((if_pos h).trans (if_neg (mt (s.markedOpen_iff _).mp hm)))

theorem exec_failedCellClear_of_ge (h : 4352 ≤ cell.toNat) : exec (.failedCellClear cell) s = .next s :=
  congrArg _ (if_neg (Nat.not_lt.mpr h))

end

/-! ### What the operations on fault records keep -/

@[simp] theorem State.setFrec_fab (s : State) (p : Nat) (r : Option FRec) : (s.setFrec p r).fab = s.fab := by
  unfold State.setFrec
  split <;> rfl

@[simp] theorem State.setFrec_flt (s : State) (p : Nat) (r : Option FRec) :
    (s.setFrec p r).flt = { s.flt with recs := Tab.set (fun _ => none) s.flt.recs p r } := by
  unfold State.setFrec
  split <;> rfl

theorem State.showFaults_frame (s : State) : FrameOf 2 s s.showFaults :=
  State.showFaults_writes (stable_frame 2 s (by decide)) (.refl _ s)

@[simp] theorem State.showFaults_fab (s : State) : s.showFaults.fab = s.fab := s.showFaults_frame.2 .fabric rfl
@[simp] theorem State.showFaults_flt (s : State) : s.showFaults.flt = s.flt := s.showFaults_frame.2 .faults rfl

@[simp] theorem State.formed_fab (s : State) (path : List Nat) : (s.formed path).fab = s.fab :=
  (State.formed_writes (stable_frame 8210 s (by decide)) (.refl _ s)).2 .fabric rfl
@[simp] theorem State.formed_flt (s : State) (path : List Nat) : (s.formed path).flt = s.flt :=
  (State.formed_writes (stable_frame 8210 s (by decide)) (.refl _ s)).2 .faults rfl

theorem State.recOpen_congr {s t : State} (h : t.flt = s.flt) (q : Nat) : t.recOpen q = s.recOpen q := by
  rw [State.recOpen, h, State.recOpen]

/-! ### A new CONTAIN record of a fabric target -/

@[simp] theorem State.darkPorts_fab (s : State) : s.darkPorts.fab = s.fab :=
  (State.darkPorts_writes (stable_frame 1026 s (by decide)) (.refl _ s)).2 .fabric rfl
@[simp] theorem State.showPorts_fab (s : State) : s.showPorts.fab = s.fab :=
  (State.showPorts_writes (stable_frame 2 s (by decide)) (.refl _ s)).2 .fabric rfl

section
variable (s : State) (seq sev : Nat) (t : IsoTarget)

@[simp] theorem State.fabricReaction_flt : (s.fabricReaction seq sev t).1.flt = s.flt :=
  (State.fabricReaction_writes (stable_frame 1058 s (by decide)) (.refl _ s)).2 .faults rfl

/-- Whatever a reaction does with the connections, it marks the target's cells with its record. -/
theorem State.fabricReaction_marks :
    (s.fabricReaction seq sev t).1.fab.failed = (s.markFailed seq t.cells).fab.failed ∧
    (s.fabricReaction seq sev t).1.fab.recCells = (s.markFailed seq t.cells).fab.recCells := by
  unfold State.fabricReaction
  dsimp only
  split
  · simp
  · split
    · exact ⟨rfl, rfl⟩
    · simp [State.goDark]

end

/-- The reaction of CONTAIN to a fabric target (R380): the fabric's, and a record that stays open or not as it was. -/
theorem State.react_contain (s : State) (r : Report) (k : FRec) (t : IsoTarget) (ht : targetOf r.src r.loc = some t)
    (hf : t.inFabric = true) :
    ∃ k', s.react r 2 k = ((s.fabricReaction k.seq 2 t).1, k') ∧ k'.seq = k.seq ∧ k'.opened = k.opened := by
  unfold State.react
  simp only [ht, hf, if_true, Nat.lt_irrefl, if_false]
  exact ⟨_, rfl, rfl, rfl⟩

/-- With room in the log's queue, a record that is put there raises nothing. -/
theorem State.logPut_keeps (s : State) (l : LogRec) (h : s.mgmt.logQ.length < 256) :
    (s.logPut l).2.fab = s.fab ∧ (s.logPut l).2.flt = s.flt := by
  simp only [State.logPut, State.logRoom, h, if_true]
  exact ⟨rfl, rfl⟩

/-- A new CONTAIN record of a fabric target: the target's cells are marked with it, and it is tracked open. -/
theorem State.newRecord_contain (s : State) (r : Report) (t : IsoTarget) (ht : targetOf r.src r.loc = some t) (hf : t.inFabric = true)
    (hlog : s.mgmt.logQ.length < 256) :
    ∃ (u : State) (k : FRec), s.newRecord r 2 = (u.fabricReaction k.seq 2 t).1.track k ∧ k.opened = true ∧ u.fab = s.fab ∧ u.flt = s.flt := by
  obtain ⟨l, k, hl, hk⟩ : ∃ l k, s.newRecord r 2 =
      (((s.logPut l).2.formed r.path).react r 2 k).1.track (((s.logPut l).2.formed r.path).react r 2 k).2 ∧ k.opened = true :=
    ⟨_, _, rfl, rfl⟩
  obtain ⟨k', hreact, hseq, hopen⟩ := ((s.logPut l).2.formed r.path).react_contain r k t ht hf
  obtain ⟨hfab, hflt⟩ := s.logPut_keeps l hlog
  refine ⟨(s.logPut l).2.formed r.path, k', ?_, hopen.trans hk, (State.formed_fab _ _).trans hfab, (State.formed_flt _ _).trans hflt⟩
  rw [hl, hreact, hseq]

/-- With no record tracked, a new one takes the first place. -/
theorem State.track_first (s : State) (k : FRec) (h : s.flt.recs = []) : s.track k = s.setFrec 0 (some k) := by
  have hfirst : ((List.range 64).find? fun p => (s.frec p).isNone) = some 0 := by
    simp only [State.frec, h, Tab.get_nil, Option.isNone_none]
    rfl
  rw [State.track, hfirst]

theorem State.mergeInto_empty (s : State) (r : Report) (sev : Nat) (h : s.flt.recs = []) : s.mergeInto r sev = none := by
  simp [State.mergeInto, State.frecs, h]

/-- The state in which the safety monitor has taken the oldest report of a source, its other reports being l (R383). -/
def State.reportTaken (s : State) (src : Nat) (l : List (Report × Nat)) : State :=
  (State.forgetLogs { s with flt := { s.flt with latched := l } }).count (R.FLT_SRC_COUNT src) F.FLT_SRC_COUNT_VAL 1

/-- With no record tracked, a report is classified by a new record. -/
theorem exec_faultClassification_new (s : State) (r : Report) (sev : Nat) (l : List (Report × Nat)) (hl : s.flt.latched = (r, sev) :: l)
    (hup : s.flt.monitorUp = true) (hrecs : s.flt.recs = []) :
    exec .faultClassification s = .next ((s.reportTaken r.src l).newRecord r sev).showFaults ∧ (s.reportTaken r.src l).flt.recs = [] := by
  have hempty : (s.reportTaken r.src l).flt.recs = [] := by simp [State.reportTaken, State.forgetLogs, hrecs]
  have hnone := (s.reportTaken r.src l).mergeInto_empty r sev hempty
  refine ⟨?_, hempty⟩
  show execFaultClassification s = _
  rw [execFaultClassification, hl]
  refine congrArg _ ((if_neg (by simp [hup])).trans ?_)
  change State.showFaults (match (s.reportTaken r.src l).mergeInto r sev with
    | some (p, k) => (s.reportTaken r.src l).mergeRecord p k r sev
    | none => (s.reportTaken r.src l).newRecord r sev) = _
  rw [hnone]

/-- A source of a drive channel or of a loop names the cell of its element (R380). -/
theorem targetOf_cell (src loc i : Nat) (hsrc : src < 32 ∨ (48 ≤ src ∧ src < 96)) (hi : elemOf loc = .cell i) :
    targetOf src loc = some (.cell i) := by
  rw [targetOf, if_pos hsrc, elemTarget, hi]

/-- FAULT_CLASSIFICATION of a CONTAIN report of a cell's element marks the cell with the open record it makes. -/
theorem exec_faultClassification_cell (s : State) (r : Report) (l : List (Report × Nat)) (i : Nat) (hl : s.flt.latched = (r, 2) :: l)
    (hup : s.flt.monitorUp = true) (hrecs : s.flt.recs = []) (hlog : s.mgmt.logQ.length < 256)
    (ht : targetOf r.src r.loc = some (.cell i)) :
    ∃ t, exec .faultClassification s = .next t ∧ ∃ q, t.fab.failed = (s.markFailed q [i]).fab.failed ∧
      t.fab.recCells = (s.markFailed q [i]).fab.recCells ∧ t.recOpen q = true := by
  obtain ⟨hexec, hempty⟩ := exec_faultClassification_new s r 2 l hl hup hrecs
  obtain ⟨u, k, hnew, hopen, hfab, hflt⟩ := (s.reportTaken r.src l).newRecord_contain r _ ht rfl hlog
  obtain ⟨hfailed, hcells⟩ := u.fabricReaction_marks k.seq 2 (.cell i)
  have hmarked : (u.markFailed k.seq [i]).fab = (s.markFailed k.seq [i]).fab := by
    rw [State.markFailed, hfab]
    rfl
  have hrecs' : (u.fabricReaction k.seq 2 (.cell i)).1.flt.recs = [] := by rw [State.fabricReaction_flt, hflt, hempty]
  rw [State.track_first _ _ hrecs'] at hnew
  rw [hnew] at hexec
  refine ⟨_, hexec, k.seq, ?_, ?_, ?_⟩
  · rw [State.showFaults_fab, State.setFrec_fab, hfailed, ← hmarked]
    rfl
  · rw [State.showFaults_fab, State.setFrec_fab, hcells, ← hmarked]
    rfl
  · rw [State.recOpen_congr (State.showFaults_flt _), State.recOpen, State.setFrec_flt, hrecs']
    simp [Tab.set, Tab.drop, Tab.put, hopen]

theorem State.getLsbD_markFailed (s : State) (q i j : Nat) (hj : j < 4352) :
    (s.markFailed q [i]).fab.failed.getLsbD j = (s.fab.failed.getLsbD j || j == i) := by
  simp only [State.markFailed, List.foldl_cons, List.foldl_nil, Nat.zero_or, BitVec.getLsbD_or, getLsbD_cellBit i j hj]

/-! ### FAULT_ACK -/

/-- FAULT_ACK of an open record acknowledges it. -/
theorem exec_faultAck_open (s : State) (sq : Fin 32) (d : Desc) (p : Nat) (k : FRec) (h : s.offers sq d false true = true)
    (hop : d.opcode = 0x10) (h0 : d.byte 20 = 0) (hrec : s.recBySeq (d.le 24 4) = some (p, k)) (ho : k.opened = true) :
    exec (.faultAck sq d) s = .next (((s.begun sq d).ackRec p k).ackDone (s.nextReq sq) 0 1) := by
  have hrec' : (s.begun sq d).recBySeq (d.le 24 4) = some (p, k) := hrec
  refine congrArg _ ((s.launch_offered sq d _ false true _ (by simp [hop, h0]) h).trans ?_)
  simp only [hrec', ho, if_true]

@[simp] theorem State.ackDone_fab (s : State) (r : Req) (c n : Nat) : (s.ackDone r c n).fab = s.fab := by simp [State.ackDone]
@[simp] theorem State.ackDone_flt (s : State) (r : Req) (c n : Nat) : (s.ackDone r c n).flt = s.flt := by simp [State.ackDone]

@[simp] theorem State.ackRec_fab (s : State) (p : Nat) (k : FRec) : (s.ackRec p k).fab = s.fab := State.setFrec_fab ..

/-- Where the only record gives its place to none that is open, no record is open. -/
theorem State.recOpen_setFrec_closed (s : State) (p : Nat) (k : FRec) (r : Option FRec) (h : s.flt.recs = [(p, some k)])
    (hr : ∀ k', r = some k' → k'.opened = false) (q : Nat) : (s.setFrec p r).recOpen q = false := by
  rw [State.recOpen, State.setFrec_flt, h]
  cases r with
  | none => simp [Tab.set, Tab.drop]
  | some k' => simp [Tab.set, Tab.drop, Tab.put, hr k' rfl]

/-- The only record, acknowledged, is open no longer, whether it keeps its place or not. -/
theorem State.ackRec_closes (s : State) (p : Nat) (k : FRec) (h : s.flt.recs = [(p, some k)]) (q : Nat) :
    (s.ackRec p k).recOpen q = false := by
  refine s.recOpen_setFrec_closed p k _ h (fun k' hk' => ?_) q
  obtain ⟨-, hk⟩ := Option.ite_none_right_eq_some.mp hk'
  cases hk
  rfl

/-- Settles O8: the register of the failed set, and each command that edits it. -/
theorem failedSetEdits : Obligations.FailedSetEdits := by
  refine fun s => ⟨fun n hn b hb => ?_, fun r l i hl hup hrecs hlog hsrc hi hi' => ?_, fun cell => ⟨fun hc => ⟨?_, fun hm => ?_, fun hm => ?_⟩,
    fun hc => ⟨exec_failedCellMark_of_ge s cell hc, exec_failedCellClear_of_ge s cell hc⟩⟩, fun sq d p k hoff hop h0 hrecs ho hq => ?_⟩
  · rw [s.heldAt_failed _ n hn, getLsbD_cellsAt _ _ _ hb]
  · obtain ⟨t, hexec, q, hfailed, hcells, hopen⟩ := exec_faultClassification_cell s r l i hl hup hrecs hlog (targetOf_cell _ _ i hsrc hi)
    refine ⟨t, hexec, fun j hj => by rw [hfailed, s.getLsbD_markFailed q i j hj], (i, q), ?_, rfl, hopen⟩
    rw [hcells]
    exact List.mem_cons_self
  · refine ⟨_, exec_failedCellMark_of_cell s cell hc, fun i hi => ?_, fun i _ => rfl, rfl⟩
    rw [BitVec.getLsbD_or, getLsbD_cellBit _ _ hi]
  · exact ⟨_, exec_failedCellClear_refused s cell hc hm, rfl, State.fld_setF_same _ _ _ _ (by decide),
      fun o ho => State.rd_setF_ne _ _ _ _ _ (by simpa using ho)⟩
  · refine ⟨_, exec_failedCellClear_free s cell hc (fun ⟨e, he, hi, hopen⟩ => ?_), fun i hi => ?_, rfl⟩
    · rw [hm e he hi] at hopen
      exact Bool.false_ne_true hopen
    · rw [BitVec.getLsbD_and, BitVec.getLsbD_not, decide_eq_true hi, Bool.true_and, getLsbD_cellBit _ _ hi]
      rfl
  · have hrec : s.recBySeq (d.le 24 4) = some (p, k) := by simp [State.recBySeq, State.frecs, hrecs, hq]
    refine ⟨_, exec_faultAck_open s sq d p k hoff hop h0 hrec ho, ?_, ?_⟩
    · rw [State.recOpen_congr (State.ackDone_flt ..)]
      exact State.ackRec_closes (s.begun sq d) p k hrecs k.seq
    · rw [State.ackDone_fab, State.ackRec_fab, State.begun_fab]

end Sys2Proof.Machine

/-! Drive channels: what a code write, a park and a range change leave in a channel's registers (05_drive_and_sense.md R91, R93, R94). -/

namespace Sys2Proof.Machine

/-! ### The registers that a chain of writes leaves alone -/

section
variable {s t u : State} {l : List Nat}

theorem State.regsKept.refl (s : State) (l : List Nat) : s.regsKept s l := fun _ _ => rfl

theorem State.regsKept.trans (hst : s.regsKept t l) (htu : t.regsKept u l) : s.regsKept u l :=
  fun o ho => (htu o ho).trans (hst o ho)

theorem State.regsKept.mono {k : List Nat} (h : s.regsKept t l) (hlk : l ⊆ k) : s.regsKept t k := fun o ho => h o fun hl => ho (hlk hl)

/-- A field written in one of the listed registers. -/
theorem State.regsKept.setF (h : s.regsKept t l) {o : Nat} (f : Fld) (n : Nat) (ho : o ∈ l) : s.regsKept (t.setF o f n) l :=
  fun p hp => (State.rd_setF_ne t o p f n fun e => hp (e ▸ ho)).trans (h p hp)

/-- A write of another part of the state. -/
theorem State.regsKept.of_regs (h : s.regsKept t l) (hr : u.regs = t.regs) : s.regsKept u l := fun p hp => by
  rw [State.rd, hr]
  exact h p hp

theorem State.regsKept.fld (h : s.regsKept t l) (o : Nat) (f : Fld) (ho : o ∉ l) : t.fld o f = s.fld o f := by
  rw [State.fld, h o ho, State.fld]

end

/-! ### What the commands of the drive leave -/

/-- A state that keeps every part but the registers and the drive. -/
theorem FrameOf.drive_eq {s t : State} (h : FrameOf (maskFor [.registers, .drive]) s t) :
    t = { s with regs := t.regs, drive := t.drive } := by
  obtain ⟨hpending, hkept⟩ := h
  cases s
  cases t
  rw [State.mk.injEq]
  exact ⟨hkept .clock rfl, rfl, hkept .mode rfl, hkept .freeValues rfl, hkept .hostInterface rfl, hkept .fabric rfl, hkept .rack rfl,
    hkept .management rfl, hkept .faults rfl, hkept .startup rfl, rfl, hkept .loops rfl, hkept .sequencers rfl, hkept .events rfl,
    hkept .harvest rfl, hkept .netTime rfl, hkept .thermal rfl, hkept .lanes rfl, hkept .calibration rfl, hkept .pipeline rfl,
    hkept .pair rfl, hkept .cellar rfl, hpending⟩

/-- A command that may write the registers and the drive alone keeps every other part. -/
theorem exec_drive_frame {i : Instr} {s t : State} (hi : mayWrite i = [.registers, .drive]) (h : exec i s = .next t) :
    t = { s with regs := t.regs, drive := t.drive } :=
  FrameOf.drive_eq (exec_writes i (by rw [hi]; exact stable_frame _ s (by decide)) (FrameOf.refl _ s) t h)

/-! ### Parks -/

section
variable (s : State) (x : Nat)

@[simp] theorem State.initPark_setInitPark (b : Bool) : (s.setInitPark x b).initPark x = b := Tab.get_set_same _ _ _ _

theorem State.setInitPark_regsKept (b : Bool) (l : List Nat) : s.regsKept (s.setInitPark x b) l := fun _ _ => rfl
@[simp] theorem State.hold_setInitPark (b : Bool) (y : Nat) : (s.setInitPark x b).hold y = s.hold y := rfl
@[simp] theorem State.hold_setF (o : Nat) (f : Fld) (n y : Nat) : (s.setF o f n).hold y = s.hold y := rfl
@[simp] theorem State.initPark_showPark (y : Nat) : (s.showPark x).initPark y = s.initPark y := rfl

/-- PARKED is the initial park or the park hold (R93). -/
theorem State.showPark_parked : (s.showPark x).fld (R.DRV_CH_CODE x) F.DRV_CH_CODE_PARKED = bnat (s.initPark x || s.hold x != 0) := by
  rw [State.showPark, State.fld_setF_ne _ _ _ _ _ _ (by simp), State.fld_setF_same _ _ _ _ (by decide), Nat.pow_one,
    bnat_mod_two]

/-- The fields of DRV_CH_CODE below PARKED stay. -/
theorem State.fld_showPark_low (g : Fld) (hg : g.lo + g.w ≤ 31) :
    (s.showPark x).fld (R.DRV_CH_CODE x) g = s.fld (R.DRV_CH_CODE x) g := by
  rw [State.showPark, State.fld_setF_ne _ _ _ _ _ _ (by simp), State.fld_setF_disjoint _ _ _ _ _ (by decide) (.inl hg)]

theorem State.showPark_regsKept : s.regsKept (s.showPark x) [R.DRV_CH_CODE x, R.LOOP_ST x] :=
  ((State.regsKept.refl s _).setF _ _ (by simp)).setF _ _ (by simp)

/-! ### A code write -/

theorem State.applyCode_eq (w code : Nat) : s.applyCode x w code =
    (((s.setF (R.DRV_CH_CODE x) F.DRV_CH_CODE_CODE code).setF (R.DRV_CH_CODE x) F.DRV_CH_CODE_SOURCE w).setInitPark x false).showPark x :=
  rfl

theorem State.applyCode_code (w code : Nat) : (s.applyCode x w code).fld (R.DRV_CH_CODE x) F.DRV_CH_CODE_CODE = code % 2 ^ 14 := by
  rw [State.applyCode_eq, State.fld_showPark_low _ _ _ (by decide), State.setInitPark, State.fld_mk,
    State.fld_setF_disjoint _ _ _ _ _ (by decide) (by decide), State.fld_setF_same _ _ _ _ (by decide)]

theorem State.applyCode_source (w code : Nat) : (s.applyCode x w code).fld (R.DRV_CH_CODE x) F.DRV_CH_CODE_SOURCE = w % 2 ^ 3 := by
  rw [State.applyCode_eq, State.fld_showPark_low _ _ _ (by decide), State.setInitPark, State.fld_mk,
    State.fld_setF_same _ _ _ _ (by decide)]

@[simp] theorem State.applyCode_initPark (w code : Nat) : (s.applyCode x w code).initPark x = false := by
  rw [State.applyCode_eq, State.initPark_showPark, State.initPark_setInitPark]

/-- With no park hold, the output of a channel that takes a code is no longer parked. -/
theorem State.applyCode_parked (w code : Nat) (h : s.hold x = 0) :
    (s.applyCode x w code).fld (R.DRV_CH_CODE x) F.DRV_CH_CODE_PARKED = 0 := by
  rw [State.applyCode_eq, State.showPark_parked, State.initPark_setInitPark, State.hold_setInitPark, State.hold_setF, State.hold_setF, h]
  rfl

theorem State.applyCode_regsKept (w code : Nat) : s.regsKept (s.applyCode x w code) [R.DRV_CH_CODE x, R.LOOP_ST x] := by
  have hcode : s.regsKept ((s.setF (R.DRV_CH_CODE x) F.DRV_CH_CODE_CODE code).setF (R.DRV_CH_CODE x) F.DRV_CH_CODE_SOURCE w)
      [R.DRV_CH_CODE x, R.LOOP_ST x] := ((State.regsKept.refl s _).setF _ _ (by simp)).setF _ _ (by simp)
  exact (hcode.trans (State.setInitPark_regsKept _ x false _)).trans (State.showPark_regsKept _ x)

/-! ### HOST_DIRECT_DRIVE -/

theorem elemKind_ne_attenuator_iff : elemKind x ≠ .attenuator ↔ x % 576 < 544 := by
  unfold elemKind
  split
  · next h => simp [h]
  · next h => split <;> simp <;> omega

theorem State.liveElem_eq_false_iff : s.liveElem x = false ↔ ∀ i, elemOf x = .cell i → s.liveCell i = false := by
  unfold State.liveElem
  split
  · next i h => simp [h]
  · next h => exact ⟨fun _ i hi => absurd hi (h i), fun _ => rfl⟩

/-- The conditions of host direct drive, one by one (R91). -/
theorem State.hostDriveOk_iff : s.hostDriveOk x = true ↔ s.flag (R.DRV_BLK_CTRL (x / 576)) F.DRV_BLK_CTRL_HOST_DRIVE = true ∧
    s.loopState x = 0 ∧ x % 576 < 544 ∧ (∀ i, elemOf x = .cell i → s.liveCell i = false) ∧ s.hold x = 0 := by
  rw [State.hostDriveOk, ← elemKind_ne_attenuator_iff, ← State.liveElem_eq_false_iff]
  simp only [Bool.and_eq_true, beq_iff_eq, bne_iff_ne, Bool.not_eq_true', and_assoc, blockOf]

/-- A discarded write counts in DISCARDS up to 65,535 (R90). -/
theorem State.discard_discards : (s.discard x).fld (R.DRV_CH_FLAG x) F.DRV_CH_FLAG_DISCARDS =
    min (s.fld (R.DRV_CH_FLAG x) F.DRV_CH_FLAG_DISCARDS + 1) 65535 := by
  have hlt : s.fld (R.DRV_CH_FLAG x) F.DRV_CH_FLAG_DISCARDS < 65536 := Fld.get_lt _ _
  rw [State.discard, State.count, State.fld_setF_same _ _ _ _ (by decide), satAdd]
  simp only at hlt ⊢
  split <;> omega

end

section
variable (s : State) (x : Fin 9216) (code : BitVec 14)

theorem exec_hostDirectDrive_applied (h : s.hostDriveOk x = true) (hb : s.rangeBreak x = none) :
    exec (.hostDirectDrive x code) s = .next (s.applyCode x byHost code.toNat) :=
  congrArg _ ((if_pos h).trans (if_neg (by simp [hb])))

theorem exec_hostDirectDrive_discarded (h : s.hostDriveOk x = true) (hb : s.rangeBreak x ≠ none) :
    exec (.hostDirectDrive x code) s = .next (s.discard x) :=
  congrArg _ ((if_pos h).trans (if_pos (Option.isSome_iff_ne_none.mpr hb)))

theorem exec_hostDirectDrive_refused (h : ¬ s.hostDriveOk x = true) :
    exec (.hostDirectDrive x code) s = .next (s.setF (R.DRV_CH_FLAG x) F.DRV_CH_FLAG_HOST_REFUSED 1) := congrArg _ (if_neg h)

end

/-! ### Range changes -/

/-- The range change of channel x: its end and the range being connected, none where no output is broken (R94). -/
def State.setBreak (s : State) (x : Nat) (b : Option (Nat × Nat)) : State :=
  { s with drive := { s.drive with breaks := Tab.set (fun _ => none) s.drive.breaks x b } }

/-- The range being connected, or else the one in force. -/
def State.rangeComing (s : State) (x : Nat) : Nat := (s.rangeBreak x).elim (s.fld (R.DRV_CH_CFG x) F.DRV_CH_CFG_RANGE) Prod.snd

@[simp] theorem State.rangeBreak_setBreak (s : State) (x : Nat) (b : Option (Nat × Nat)) : (s.setBreak x b).rangeBreak x = b :=
  Tab.get_set_same _ _ _ _

section
variable (s : State) (x : Nat) (b : Option (Nat × Nat))

theorem State.park_setBreak_code :
    ((s.setBreak x b).park x).fld (R.DRV_CH_CODE x) F.DRV_CH_CODE_CODE = s.fld (R.DRV_CH_CODE x) F.DRV_CH_CODE_CODE := by
  rw [State.park, State.fld_showPark_low _ _ _ (by decide)]
  rfl

@[simp] theorem State.park_initPark : (s.park x).initPark x = true := by
  rw [State.park, State.initPark_showPark, State.initPark_setInitPark]

@[simp] theorem State.park_rangeBreak (y : Nat) : (s.park x).rangeBreak y = s.rangeBreak y := rfl

theorem State.park_parked : (s.park x).fld (R.DRV_CH_CODE x) F.DRV_CH_CODE_PARKED = 1 := by
  rw [State.park, State.showPark_parked, State.initPark_setInitPark, Bool.true_or]
  rfl

theorem State.park_regsKept : s.regsKept (s.park x) [R.DRV_CH_CODE x, R.LOOP_ST x] := State.showPark_regsKept (s.setInitPark x true) x

/-- The end of a range break: the range r is connected at code 0. -/
def State.rangeConnected (s : State) (x r : Nat) : State :=
  (((s.setBreak x none).setF (R.DRV_CH_CFG x) F.DRV_CH_CFG_RANGE r).setF (R.DRV_CH_CODE x) F.DRV_CH_CODE_CODE 0).setF
    (R.DRV_CH_CODE x) F.DRV_CH_CODE_SOURCE 0

theorem State.rangeConnected_range (r : Nat) :
    (s.rangeConnected x r).fld (R.DRV_CH_CFG x) F.DRV_CH_CFG_RANGE = r % 4 := by
  have hne : R.DRV_CH_CFG x ≠ R.DRV_CH_CODE x := by simp
  rw [State.rangeConnected, State.fld_setF_ne _ _ _ _ _ _ hne, State.fld_setF_ne _ _ _ _ _ _ hne,
    State.fld_setF_same _ _ _ _ (by decide)]
  rfl

theorem State.rangeConnected_code (r : Nat) : (s.rangeConnected x r).fld (R.DRV_CH_CODE x) F.DRV_CH_CODE_CODE = 0 := by
  rw [State.rangeConnected, State.fld_setF_disjoint _ _ _ _ _ (by decide) (by decide), State.fld_setF_same _ _ _ _ (by decide),
    Nat.zero_mod]

theorem State.rangeConnected_regsKept (r : Nat) : s.regsKept (s.rangeConnected x r) [R.DRV_CH_CFG x, R.DRV_CH_CODE x] :=
  ((((State.regsKept.refl s _).of_regs rfl).setF _ _ (by simp)).setF _ _ (by simp)).setF _ _ (by simp)

end

section
variable (s : State) (x : Fin 9216)

/-- RANGE_CHANGE: ignored, made with the loop Off, or refused. -/
theorem exec_rangeChange (range : BitVec 2) : exec (.rangeChange x range) s = .next (
    if range.toNat = 3 ∨ range.toNat = s.rangeComing x then s
    else if s.loopState x = 0 then (s.setBreak x (some (s.now + 2000, range.toNat))).park x
    else s.setF (R.DRV_CH_FLAG x) F.DRV_CH_FLAG_RANGE_REFUSED 1) := by
  show execRangeChange x range s = _
  unfold execRangeChange State.rangeComing
  cases s.rangeBreak x <;> rfl

/-- RANGE_BREAK_END of a break that ends at e. -/
theorem exec_rangeBreakEnd (e r : Nat) (h : s.rangeBreak x = some (e, r)) :
    exec (.rangeBreakEnd x) s = .next (if e ≤ s.now then s.rangeConnected x r else s) := by
  show execRangeBreakEnd x s = _
  unfold execRangeBreakEnd
  rw [h]
  rfl

end

/-- Settles O13: the branches of the three commands of a drive channel. -/
theorem driveWritesAndRanges : Obligations.DriveWritesAndRanges := by
  refine fun s x => ⟨fun code => ?drive, fun range => ?change, fun e r hb => ?finish⟩
  case drive =>
    intro ok
    have hok : ok ↔ s.hostDriveOk x = true := (s.hostDriveOk_iff x).symm
    refine ⟨fun h hb => ?_, fun h hb => ?_, fun h => ?_⟩
    · have hexec := exec_hostDirectDrive_applied s x code (hok.mp h) hb
      obtain ⟨-, -, -, -, hhold⟩ := h
      exact ⟨_, hexec, (s.applyCode_code x _ _).trans (Nat.mod_eq_of_lt code.isLt),
        s.applyCode_source x _ _, s.applyCode_parked x _ _ hhold, s.applyCode_initPark x _ _, s.applyCode_regsKept x _ _,
        exec_drive_frame rfl hexec⟩
    · exact ⟨_, exec_hostDirectDrive_discarded s x code (hok.mp h) hb, rfl, s.discard_discards x,
        (State.regsKept.refl s _).setF _ _ (by simp)⟩
    · exact ⟨_, exec_hostDirectDrive_refused s x code (mt hok.mpr h), rfl, State.fld_setF_same _ _ _ _ (by decide),
        (State.regsKept.refl s _).setF _ _ (by simp)⟩
  case change =>
    have hexec := exec_rangeChange s x range
    refine ⟨fun h => hexec.trans (congrArg _ (if_pos h)), fun h3 hcur => ?_⟩
    replace hexec := hexec.trans (congrArg _ (if_neg (not_or.mpr ⟨h3, hcur⟩)))
    refine ⟨fun hoff => ?_, fun hoff => ?_⟩
    · replace hexec := hexec.trans (congrArg _ (if_pos hoff))
      exact ⟨_, hexec, (State.park_rangeBreak _ x x).trans (s.rangeBreak_setBreak x _), State.park_initPark _ x,
        State.park_parked _ x, s.park_setBreak_code x _, State.park_regsKept (s.setBreak x _) x, exec_drive_frame rfl hexec⟩
    · exact ⟨_, hexec.trans (congrArg _ (if_neg hoff)), rfl, State.fld_setF_same _ _ _ _ (by decide),
        (State.regsKept.refl s _).setF _ _ (by simp)⟩
  case finish =>
    have hexec := exec_rangeBreakEnd s x e r hb
    refine ⟨fun h => ?_, fun h => ?_⟩
    · rwa [if_neg (Nat.not_le_of_lt h)] at hexec
    · rw [if_pos h] at hexec
      exact ⟨_, hexec, State.rangeBreak_setBreak s x none, s.rangeConnected_range x r, s.rangeConnected_code x r,
        s.rangeConnected_regsKept x r, exec_drive_frame rfl hexec⟩

end Sys2Proof.Machine

/-! Output protection, and the swap of a bank's spare (05_drive_and_sense.md R95, R96, R103). -/

namespace Sys2Proof.Machine

/-! ### Flags of a channel -/

theorem Fld.get_eq_one_of_width (f : Fld) (v : Word) (hw : f.w = 1) (h : f.get v ≠ 0) : f.get v = 1 := by
  have hlt := f.get_lt v
  rw [hw] at hlt
  omega

/-- The block registers of the drive lie below the channel flags. -/
theorem chFlag_ne_blkStatus (x : Nat) : R.DRV_CH_FLAG x ≠ R.DRV_BLK_STATUS (x / 576) := by
  simp
  omega

section
variable (s : State) (x : Nat) (f c : Fld)

theorem State.setSticky_differsAt : s.differsAt (· ∈ [R.DRV_CH_FLAG x, R.DRV_BLK_STATUS (x / 576)]) (s.setSticky x f c) := by
  unfold State.setSticky
  split
  · exact .refl _ s
  · exact ⟨rfl, ((State.regsKept.refl s _).setF _ _ (by simp)).setF _ _ (by simp [blockOf])⟩

/-- The flag is set, whether it was or not. -/
theorem State.setSticky_flag (hf : f.lo + f.w ≤ 32) (hw : f.w = 1) :
    (s.setSticky x f c).fld (R.DRV_CH_FLAG x) f = 1 := by
  unfold State.setSticky
  split
  · next h => exact Fld.get_eq_one_of_width f _ hw (bne_iff_ne.mp h)
  · have hone : 1 < 2 ^ f.w := Nat.one_lt_two_pow (by omega)
    rw [State.countWrap, blockOf, State.fld_setF_ne _ _ _ _ _ _ (chFlag_ne_blkStatus x), State.fld_setF_same _ _ _ _ hf,
      Nat.mod_eq_of_lt hone]

/-- The other flags of the channel stay. -/
theorem State.fld_setSticky_disjoint (g : Fld) (hf : f.lo + f.w ≤ 32)
    (hd : g.lo + g.w ≤ f.lo ∨ f.lo + f.w ≤ g.lo) : (s.setSticky x f c).fld (R.DRV_CH_FLAG x) g = s.fld (R.DRV_CH_FLAG x) g := by
  unfold State.setSticky
  split
  · rfl
  · rw [State.countWrap, blockOf, State.fld_setF_ne _ _ _ _ _ _ (chFlag_ne_blkStatus x), State.fld_setF_disjoint _ _ _ _ _ hf hd]

/-- A channel whose flag was not set is counted. -/
theorem State.setSticky_count (hc : c.lo + c.w ≤ 32) :
    (s.setSticky x f c).fld (R.DRV_BLK_STATUS (x / 576)) c = if s.flag (R.DRV_CH_FLAG x) f then s.fld (R.DRV_BLK_STATUS (x / 576)) c
      else (s.fld (R.DRV_BLK_STATUS (x / 576)) c + 1) % 2 ^ c.w := by
  unfold State.setSticky
  split
  · rfl
  · rw [State.countWrap, blockOf, State.fld_setF_same _ _ _ _ hc, State.fld_setF_ne _ _ _ _ _ _ (chFlag_ne_blkStatus x).symm]

end

/-! ### DRV_OUTPUT -/

/-- The reports raised once DRV_OUTPUT of element x may have been: in ranges 1 and 2 it is (R96). -/
def State.outputRaised (s : State) (x : Nat) : List Report :=
  if s.fld (R.DRV_CH_CFG x) F.DRV_CH_CFG_RANGE = 0 then s.flt.raised else s.flt.raised ++ [⟨x / 576, x, 0, 0, 0, false, [], 0⟩]

/-- The sources of DRV_OUTPUT are no sources of a loop block, so no event fires. -/
theorem State.raiseOutput_eq (s : State) (x : Nat) (hx : x < 9216) :
    s.raiseOutput x = { s with flt := { s.flt with raised := s.outputRaised x } } := by
  have hsrc : ¬ (48 ≤ x / 576 ∧ x / 576 < 160) := by omega
  unfold State.raiseOutput State.outputRaised
  split
  · rfl
  · simp only [State.raise, State.raiseD, blockOf, hsrc, if_false]

/-- A flag set in the registers of a channel and its block, and DRV_OUTPUT raised where the range has it. -/
theorem State.raiseOutput_of_differsAt (s t : State) (x : Nat) (hx : x < 9216)
    (h : s.differsAt (· ∈ [R.DRV_CH_FLAG x, R.DRV_BLK_STATUS (x / 576)]) t) :
    t.raiseOutput x = { s with regs := (t.raiseOutput x).regs, flt := { s.flt with raised := s.outputRaised x } } := by
  have hrange : t.outputRaised x = s.outputRaised x := by
    have hflt : t.flt = s.flt := by rw [h.1]
    rw [State.outputRaised, State.regsKept.fld h.2 _ _ (by simp; omega), hflt, State.outputRaised]
  rw [State.raiseOutput_eq t x hx, hrange, h.1]

@[simp] theorem State.raiseOutput_regs (s : State) (x : Nat) : (s.raiseOutput x).regs = s.regs := by
  unfold State.raiseOutput
  split
  · rfl
  · exact State.raise_regs _ _ _

@[simp] theorem State.fld_raiseOutput (s : State) (x o : Nat) (g : Fld) : (s.raiseOutput x).fld o g = s.fld o g := by
  rw [State.fld, State.rd, State.raiseOutput_regs, State.fld, State.rd]

/-! ### DRV_LIMIT_DETECT and DRV_OPEN_DETECT -/

/-- The limiter of channel x is engaged (R95). -/
def State.limited (s : State) (x : Nat) : State :=
  (s.setF (R.DRV_CH_FLAG x) F.DRV_CH_FLAG_LIMIT_NOW 1).setSticky x F.DRV_CH_FLAG_LIMIT F.DRV_BLK_STATUS_LIMIT_CH

section
variable (s : State) (x : Nat)

theorem State.limited_differsAt : s.differsAt (· ∈ [R.DRV_CH_FLAG x, R.DRV_BLK_STATUS (x / 576)]) (s.limited x) :=
  State.differsAt.trans ⟨rfl, (State.regsKept.refl s _).setF _ _ (by simp)⟩ (State.setSticky_differsAt _ x _ _)

theorem State.limited_now : (s.limited x).fld (R.DRV_CH_FLAG x) F.DRV_CH_FLAG_LIMIT_NOW = 1 := by
  rw [State.limited, State.fld_setSticky_disjoint _ _ _ _ _ (by decide) (by decide), State.fld_setF_same _ _ _ _ (by decide)]
  rfl

theorem State.limited_count : (s.limited x).fld (R.DRV_BLK_STATUS (x / 576)) F.DRV_BLK_STATUS_LIMIT_CH =
    if s.flag (R.DRV_CH_FLAG x) F.DRV_CH_FLAG_LIMIT then s.fld (R.DRV_BLK_STATUS (x / 576)) F.DRV_BLK_STATUS_LIMIT_CH
    else (s.fld (R.DRV_BLK_STATUS (x / 576)) F.DRV_BLK_STATUS_LIMIT_CH + 1) % 1024 := by
  rw [State.limited, State.setSticky_count _ _ _ _ (by decide), State.fld_setF_ne _ _ _ _ _ _ (chFlag_ne_blkStatus x).symm,
    State.flag, State.fld_setF_disjoint _ _ _ _ _ (by decide) (by decide)]
  rfl

end

section
variable (s : State) (x : Fin 9216)

theorem exec_drvLimitDetect_engaged : exec (.drvLimitDetect x true) s = .next ((s.limited x).raiseOutput x) := rfl

theorem exec_drvLimitDetect_released :
    exec (.drvLimitDetect x false) s = .next (s.setF (R.DRV_CH_FLAG x) F.DRV_CH_FLAG_LIMIT_NOW 0) := rfl

theorem exec_drvOpenDetect_open
    (h : s.fld (R.DRV_CH_CFG x) F.DRV_CH_CFG_RANGE ≠ 0 ∧ 64 ≤ s.fld (R.DRV_CH_CODE x) F.DRV_CH_CODE_CODE) :
    exec (.drvOpenDetect x) s = .next ((s.setSticky x F.DRV_CH_FLAG_OPEN F.DRV_BLK_STATUS_OPEN_CH).raiseOutput x) :=
  congrArg _ (if_pos h)

theorem exec_drvOpenDetect_ignored
    (h : ¬ (s.fld (R.DRV_CH_CFG x) F.DRV_CH_CFG_RANGE ≠ 0 ∧ 64 ≤ s.fld (R.DRV_CH_CODE x) F.DRV_CH_CODE_CODE)) :
    exec (.drvOpenDetect x) s = .next s := congrArg _ (if_neg h)

end

/-! ### Banks and injection slots -/

section
variable (s : State) (n : Nat) (b : Bank)

@[simp] theorem State.bank_setBank : (s.setBank n b).bank n = b := Tab.get_set_same _ _ _ _

theorem State.bank_setBank_ne (m : Nat) (h : m ≠ n) : (s.setBank n b).bank m = s.bank m := Tab.get_set_ne _ _ _ _ _ h

theorem State.bank_congr {s t : State} (h : t.drive = s.drive) (m : Nat) : t.bank m = s.bank m := by rw [State.bank, h, State.bank]

theorem State.setBank_regsKept (l : List Nat) : s.regsKept (s.setBank n b) l := fun _ _ => rfl

end

/-- Where a slot converts follows from its set-up register alone (R108). -/
theorem State.injAt_congr {s t : State} (i : Nat) (h : t.rd (R.DRV_INJ_CFG i) = s.rd (R.DRV_INJ_CFG i)) : t.injAt i = s.injAt i := by
  unfold State.injAt State.flag State.fld
  rw [h]

/-- No slot waits for the converter w. -/
def State.noneWaits (s : State) (w : InjAt) : Prop := ∀ i < 16, s.injWaiting i = true → s.injAt i ≠ w

theorem State.nextInj_eq_none {s : State} {w : InjAt} (h : s.noneWaits w) : s.nextInj w = none := by
  refine List.find?_eq_none.mpr fun i hi => ?_
  have hne := h i (List.mem_range.mp hi)
  simpa using hne

/-- A spare for which no slot waits stays idle. -/
theorem State.startBankInj_idle (s : State) (n : Nat) (hfirst : (s.bank n).first = []) (hw : s.noneWaits (.bank n)) :
    s.startBankInj n = s := by
  unfold State.startBankInj
  dsimp only
  rw [hfirst, State.nextInj_eq_none hw]
  simp

/-! ### SPARE_SWAP -/

/-- The swap of the spare of bank n into logical slice NEXT_POS (R103). -/
def State.spareSwapped (s : State) (n : Nat) : State :=
  let o := R.DRV_BANK_STATUS n
  let pos := s.fld o F.DRV_BANK_STATUS_NEXT_POS
  let t := s.setBank n { s.bank n with
    map := setNth (s.bank n).map pos (s.fld o F.DRV_BANK_STATUS_OUT_SLICE), lastSwap := s.now, tasted := false }
  (((t.setF o F.DRV_BANK_STATUS_OUT_SLICE (nth 0 (s.bank n).map pos)).setF o F.DRV_BANK_STATUS_NEXT_POS ((pos + 1) % 24)).countWrap o
    F.DRV_BANK_STATUS_SWAPS 1).setF o F.DRV_BANK_STATUS_SWAP_DUE 0

/-- A swap that is due already does not fall due by time. -/
theorem State.swapByTime_of_due (s : State) (n : Nat) (h : s.flag (R.DRV_BANK_STATUS n) F.DRV_BANK_STATUS_SWAP_DUE = true) :
    s.swapByTime n = s := by
  simp only [State.swapByTime, State.swapFallsDue, h, if_true, ite_self]

theorem exec_spareSwap_due (s : State) (n : Fin 48) (hdue : s.flag (R.DRV_BANK_STATUS n) F.DRV_BANK_STATUS_SWAP_DUE = true)
    (hspare : s.flag (R.DRV_BANK_STATUS n) F.DRV_BANK_STATUS_NO_SPARE = false) (hinj : (s.bank n).inj = none)
    (hfirst : (s.bank n).first = []) : exec (.spareSwap n) s = .next ((s.spareSwapped n).startBankInj n) := by
  show execSpareSwap n s = _
  unfold execSpareSwap
  rw [s.swapByTime_of_due n hdue]
  exact congrArg _ (if_pos (by simp [hdue, hspare, hinj, hfirst]))

section
variable (s : State) (n : Nat)

theorem State.spareSwapped_bank : (s.spareSwapped n).bank n = { s.bank n with
    map := setNth (s.bank n).map (s.fld (R.DRV_BANK_STATUS n) F.DRV_BANK_STATUS_NEXT_POS)
      (s.fld (R.DRV_BANK_STATUS n) F.DRV_BANK_STATUS_OUT_SLICE), lastSwap := s.now, tasted := false } :=
  State.bank_setBank s n _

theorem State.spareSwapped_bank_ne (m : Nat) (h : m ≠ n) : (s.spareSwapped n).bank m = s.bank m := State.bank_setBank_ne s n _ m h

theorem State.spareSwapped_regsKept : s.regsKept (s.spareSwapped n) [R.DRV_BANK_STATUS n] :=
  ((((State.setBank_regsKept s n _ _).setF _ _ (by simp)).setF _ _ (by simp)).setF _ _ (by simp)).setF _ _ (by simp)

theorem State.spareSwapped_due : (s.spareSwapped n).flag (R.DRV_BANK_STATUS n) F.DRV_BANK_STATUS_SWAP_DUE = false := by
  rw [State.flag, State.spareSwapped, State.fld_setF_same _ _ _ _ (by decide), Nat.zero_mod]
  rfl

theorem State.spareSwapped_swaps : (s.spareSwapped n).fld (R.DRV_BANK_STATUS n) F.DRV_BANK_STATUS_SWAPS =
    (s.fld (R.DRV_BANK_STATUS n) F.DRV_BANK_STATUS_SWAPS + 1) % 2 ^ F.DRV_BANK_STATUS_SWAPS.w := by
  rw [State.spareSwapped, State.fld_setF_disjoint _ _ _ _ _ (by decide) (by decide), State.countWrap,
    State.fld_setF_same _ _ _ _ (by decide), State.fld_setF_disjoint _ _ _ _ _ (by decide) (by decide),
    State.fld_setF_disjoint _ _ _ _ _ (by decide) (by decide), State.setBank, State.fld_mk]

theorem State.spareSwapped_nextPos : (s.spareSwapped n).fld (R.DRV_BANK_STATUS n) F.DRV_BANK_STATUS_NEXT_POS =
    (s.fld (R.DRV_BANK_STATUS n) F.DRV_BANK_STATUS_NEXT_POS + 1) % 24 := by
  have hlt : ∀ k, k % 24 % 2 ^ 5 = k % 24 := fun k => by omega
  rw [State.spareSwapped, State.fld_setF_disjoint _ _ _ _ _ (by decide) (by decide), State.countWrap,
    State.fld_setF_disjoint _ _ _ _ _ (by decide) (by decide), State.fld_setF_same _ _ _ _ (by decide), hlt]

theorem State.spareSwapped_outSlice : (s.spareSwapped n).fld (R.DRV_BANK_STATUS n) F.DRV_BANK_STATUS_OUT_SLICE =
    nth 0 (s.bank n).map (s.fld (R.DRV_BANK_STATUS n) F.DRV_BANK_STATUS_NEXT_POS) % 32 := by
  rw [State.spareSwapped, State.fld_setF_disjoint _ _ _ _ _ (by decide) (by decide), State.countWrap,
    State.fld_setF_disjoint _ _ _ _ _ (by decide) (by decide), State.fld_setF_disjoint _ _ _ _ _ (by decide) (by decide),
    State.fld_setF_same _ _ _ _ (by decide)]
  rfl

/-- A swap moves no slot, and none begins to wait. -/
theorem State.noneWaits_spareSwapped (hn : n < 48) (h : s.noneWaits (.bank n)) : (s.spareSwapped n).noneWaits (.bank n) :=
  fun i hi hw => by
    rw [State.injAt_congr i (s.spareSwapped_regsKept n _ (by simp; omega))]
    exact h i hi hw

end

/-- With no slot waiting, the spare is idle after the swap. -/
theorem State.startBankInj_spareSwapped (s : State) (n : Nat) (hn : n < 48) (hfirst : (s.bank n).first = [])
    (hw : s.noneWaits (.bank n)) : (s.spareSwapped n).startBankInj n = s.spareSwapped n :=
  State.startBankInj_idle _ n (by rw [State.spareSwapped_bank]; exact hfirst) (s.noneWaits_spareSwapped n hn hw)

/-- Settles O14: what a sticky flag, DRV_OUTPUT and a swap leave. -/
theorem outputProtectionAndSwaps : Obligations.OutputProtectionAndSwaps := by
  refine fun s => ⟨fun x => ?protect, fun n hdue hspare hinj hfirst hw => ?swap⟩
  case protect =>
    intro raised blk
    refine ⟨?engaged, ?released, fun hrange hcode => ?opened, fun h => exec_drvOpenDetect_ignored s x (by omega)⟩
    case engaged =>
      have hd := s.limited_differsAt x
      exact ⟨_, exec_drvLimitDetect_engaged s x, (State.fld_raiseOutput ..).trans (s.limited_now x),
        (State.fld_raiseOutput ..).trans (State.setSticky_flag _ x _ _ (by decide) rfl),
        (State.fld_raiseOutput ..).trans (s.limited_count x), State.regsKept.of_regs hd.2 (State.raiseOutput_regs _ _),
        s.raiseOutput_of_differsAt _ x x.isLt hd⟩
    case released =>
      exact ⟨_, exec_drvLimitDetect_released s x, State.fld_setF_same _ _ _ _ (by decide),
        State.fld_setF_disjoint _ _ _ _ _ (by decide) (by decide), (State.regsKept.refl s _).setF _ _ (by simp), rfl⟩
    case opened =>
      have hd := s.setSticky_differsAt x F.DRV_CH_FLAG_OPEN F.DRV_BLK_STATUS_OPEN_CH
      refine ⟨_, exec_drvOpenDetect_open s x ⟨hrange, hcode⟩, ?_, ?_, State.regsKept.of_regs hd.2 (State.raiseOutput_regs _ _),
        s.raiseOutput_of_differsAt _ x x.isLt hd⟩
      · rw [State.fld_raiseOutput, State.setSticky_flag s x _ _ (by decide) rfl]
      · exact (State.fld_raiseOutput ..).trans (s.setSticky_count x _ _ (by decide))
  case swap =>
    intro pos
    have hexec := exec_spareSwap_due s n hdue hspare hinj hfirst
    rw [s.startBankInj_spareSwapped n n.isLt hfirst hw] at hexec
    exact ⟨_, hexec, congrArg Bank.map (s.spareSwapped_bank n), s.spareSwapped_outSlice n, s.spareSwapped_nextPos n,
      s.spareSwapped_swaps n, s.spareSwapped_due n, s.spareSwapped_regsKept n,
      fun m hm => s.spareSwapped_bank_ne n m fun h => hm (Fin.ext h), exec_drive_frame rfl hexec⟩

end Sys2Proof.Machine

/-! Monitor conversion: which input an element lies at, and the register that its result reaches (05_drive_and_sense.md R98 to R100). -/

namespace Sys2Proof.Machine

/-- The input that R99 gives an element is that element's. -/
theorem bankElem_of_input (x n a k : Nat) (hn : n = 3 * (x / 576) + x % 576 / 192) (ha : a = x % 576 % 192 / 8)
    (hk : k = x % 576 % 8) : bankElem n a k = x := by
  have hbank : x % 576 / 192 < 3 := by omega
  have hblock : n / 3 = x / 576 := by omega
  have hpart : n % 3 = x % 576 / 192 := by omega
  rw [bankElem, hblock, hpart, ha, hk]
  omega

/-- H elements have even indices. -/
theorem cellH_even (i : Nat) : cellH i % 2 = 0 := by
  unfold cellH
  split
  · dsimp only
    omega
  · split <;> omega

/-- An even index and the next lie in one block, one bank and one slice, at two inputs. -/
theorem slice_of_even_succ (h : Nat) (hh : h % 2 = 0) : (h + 1) / 576 = h / 576 ∧ (h + 1) % 576 / 192 = h % 576 / 192 ∧
    (h + 1) % 576 % 192 / 8 = h % 576 % 192 / 8 ∧ (h + 1) % 8 ≠ h % 8 := by
  refine ⟨?_, ?_, ?_, ?_⟩ <;> omega

/-- The result of a conversion of element x (R100): its code, the frame of its sample and INVALID. -/
def State.converted (s : State) (x code frame invalid : Nat) : State :=
  ((s.setF (R.DRV_MON x) F.DRV_MON_SAMPLE code).setF (R.DRV_MON x) F.DRV_MON_FRAME frame).setF (R.DRV_MON x) F.DRV_MON_INVALID invalid

section
variable (s : State) (x code frame invalid : Nat)

theorem State.converted_sample : (s.converted x code frame invalid).fld (R.DRV_MON x) F.DRV_MON_SAMPLE = code % 2 ^ 12 := by
  rw [State.converted, State.fld_setF_disjoint _ _ _ _ _ (by decide) (by decide),
    State.fld_setF_disjoint _ _ _ _ _ (by decide) (by decide), State.fld_setF_same _ _ _ _ (by decide)]

theorem State.converted_regsKept : s.regsKept (s.converted x code frame invalid) [R.DRV_MON x] :=
  (((State.regsKept.refl s _).setF _ _ (by simp)).setF _ _ (by simp)).setF _ _ (by simp)

theorem State.converted_frame : s.converted x code frame invalid = { s with regs := (s.converted x code frame invalid).regs } := rfl

end

/-- A slice in service of a powered block converts. -/
theorem exec_monitorConversionDone_of_input (s : State) (x : Nat) (n : Fin 48) (a : Fin 24) (k : Fin 8) (code : BitVec 12)
    (hx : bankElem n a k = x) (hup : s.blkUp (x / 576) = true) (hs : nth 0 (s.bank n).map a ∉ (s.bank n).retired) :
    ∃ frame invalid, exec (.monitorConversionDone n a k code) s = .next (s.converted x code.toNat frame invalid) := by
  subst hx
  exact ⟨_, _, congrArg _ (if_pos (by simp [blockOf, hup, hs]))⟩

/-- Settles O15: the element at an input, and the writes of its conversion. -/
theorem monitorInputs : Obligations.MonitorInputs := by
  refine ⟨fun s x n a k code hn ha hk hup hs => ?_, fun i _ => slice_of_even_succ (cellH i) (cellH_even i)⟩
  obtain ⟨frame, invalid, hexec⟩ := exec_monitorConversionDone_of_input s x n a k code (bankElem_of_input x n a k hn ha hk) hup hs
  exact ⟨_, hexec, (s.converted_sample x _ _ _).trans (Nat.mod_eq_of_lt code.isLt), s.converted_regsKept x _ _ _,
    s.converted_frame x _ _ _⟩

end Sys2Proof.Machine

/-! Housekeeping sequences and injected conversions: triggers, results, and the converter that a slot leaves (05_drive_and_sense.md R105 to
R109). -/

namespace Sys2Proof.Machine

/-! ### Housekeeping slices -/

section
variable (s : State) (m : Nat) (h : HkSlice)

@[simp] theorem State.hkSlice_setHk : (s.setHk m h).hkSlice m = h := Tab.get_set_same _ _ _ _

theorem State.hkSlice_setHk_ne (k : Nat) (hk : k ≠ m) : (s.setHk m h).hkSlice k = s.hkSlice k := Tab.get_set_ne _ _ _ _ _ hk

theorem State.hkSlice_congr {s t : State} (h : t.drive = s.drive) (k : Nat) : t.hkSlice k = s.hkSlice k := by
  rw [State.hkSlice, h, State.hkSlice]

@[simp] theorem State.setHk_regs : (s.setHk m h).regs = s.regs := rfl
@[simp] theorem State.hkSlice_setInjWait (i k : Nat) (b : Bool) : (s.setInjWait i b).hkSlice k = s.hkSlice k := rfl

/-- A waiting injected conversion that a slice takes leaves its sequence. -/
theorem State.startHkInj_pos : ((s.startHkInj m).hkSlice m).pos = (s.hkSlice m).pos := by
  unfold State.startHkInj
  dsimp only
  split
  · rfl
  · split
    · rw [State.hkSlice_setInjWait, State.hkSlice_setHk]
    · rfl

theorem State.hkSlice_startHkInj_ne (k : Nat) (hk : k ≠ m) : (s.startHkInj m).hkSlice k = s.hkSlice k := by
  unfold State.startHkInj
  dsimp only
  split
  · rfl
  · split
    · rw [State.hkSlice_setInjWait, State.hkSlice_setHk_ne _ _ _ _ hk]
    · rfl

/-- It takes no register. -/
@[simp] theorem State.startHkInj_regs : (s.startHkInj m).regs = s.regs :=
  (State.startHkInj_writes (stable_frame 1024 s (by decide)) (.refl _ s)).2 .registers rfl

@[simp] theorem State.startHkInj_evt : (s.startHkInj m).evt = s.evt :=
  (State.startHkInj_writes (stable_frame 1024 s (by decide)) (.refl _ s)).2 .events rfl

end

/-! ### Triggers -/

/-- The two regular triggers of slice m, each with the TRIG that selects it and the cause that it gives (R106). -/
def hkTriggers (m : Fin 8) : List (Instr × Nat × Nat) := [(.hkTimerTrigger m, 1, 0), (.hkConverterEdge m, 2, 1)]

theorem exec_hkTrigger (s : State) (m : Fin 8) (e : Instr × Nat × Nat) (he : e ∈ hkTriggers m) :
    exec e.1 s = .next (if s.fld (R.DRV_HK_CFG m) F.DRV_HK_CFG_TRIG = e.2.1 then s.hkTrigger m e.2.2 else s) := by
  simp only [hkTriggers, List.mem_cons, List.not_mem_nil, or_false] at he
  rcases he with rfl | rfl <;> rfl

section
variable (s : State) (m cause : Nat)

/-- A slice at rest starts its sequence. -/
theorem State.hkTrigger_rest (h : (s.hkSlice m).pos = none) :
    s.hkTrigger m cause = s.setHk m { s.hkSlice m with pos := some 0, cause := cause } := if_pos (by simp [h])

/-- While it runs, a first trigger waits. -/
theorem State.hkTrigger_pends (h : (s.hkSlice m).pos ≠ none) (hp : (s.hkSlice m).pendingTrig = false) :
    s.hkTrigger m cause = s.setHk m { s.hkSlice m with pendingTrig := true } :=
  (if_neg (by simpa using h)).trans (if_neg (by simp [hp]))

/-- A second one is dropped and counted. -/
theorem State.hkTrigger_missed (h : (s.hkSlice m).pos ≠ none) (hp : (s.hkSlice m).pendingTrig = true) :
    s.hkTrigger m cause = s.count R.DRV_HK_STATUS ⟨4 * m, 4⟩ 1 := (if_neg (by simpa using h)).trans (if_pos hp)

/-- MISSED counts up to 15. -/
theorem State.count_missed (hm : m < 8) : (s.count R.DRV_HK_STATUS ⟨4 * m, 4⟩ 1).fld R.DRV_HK_STATUS ⟨4 * m, 4⟩ =
    min (s.fld R.DRV_HK_STATUS ⟨4 * m, 4⟩ + 1) 15 := by
  have hlt : s.fld R.DRV_HK_STATUS ⟨4 * m, 4⟩ < 16 := Fld.get_lt _ _
  rw [State.count, State.fld_setF_same _ _ _ _ (show 4 * m + 4 ≤ 32 by omega), satAdd]
  simp only
  split <;> omega

end

/-! ### Results -/

section
variable (s : State) (m c code cause : Nat)

theorem State.hkResult_frame : FrameOf 2 s (s.hkResult m c code cause) :=
  State.hkResult_writes (stable_frame 2 s (by decide)) (.refl _ s)

@[simp] theorem State.hkResult_drive : (s.hkResult m c code cause).drive = s.drive := (s.hkResult_frame m c code cause).2 .drive rfl
@[simp] theorem State.hkResult_evt : (s.hkResult m c code cause).evt = s.evt := (s.hkResult_frame m c code cause).2 .events rfl

theorem State.hkResult_eq : s.hkResult m c code cause =
    (((((s.setF (R.DRV_HK_RESULT c) F.DRV_HK_RESULT_NEW 1).setF (R.DRV_HK_RESULT c) F.DRV_HK_RESULT_SLICE m).setF (R.DRV_HK_RESULT c)
      F.DRV_HK_RESULT_CAUSE cause).countWrap (R.DRV_HK_RESULT c) F.DRV_HK_RESULT_COUNT 1).setF (R.DRV_HK_RESULT c)
      F.DRV_HK_RESULT_RESULT code) := rfl

theorem State.hkResult_regsKept : s.regsKept (s.hkResult m c code cause) [R.DRV_HK_RESULT c] := by
  rw [State.hkResult_eq]
  exact (((((State.regsKept.refl s _).setF _ _ (by simp)).setF _ _ (by simp)).setF _ _ (by simp)).setF _ _ (by simp)).setF _ _ (by simp)

theorem State.hkResult_result : (s.hkResult m c code cause).fld (R.DRV_HK_RESULT c) F.DRV_HK_RESULT_RESULT = code % 2 ^ 12 := by
  rw [State.hkResult_eq, State.fld_setF_same _ _ _ _ (by decide)]

theorem State.hkResult_count : (s.hkResult m c code cause).fld (R.DRV_HK_RESULT c) F.DRV_HK_RESULT_COUNT =
    (s.fld (R.DRV_HK_RESULT c) F.DRV_HK_RESULT_COUNT + 1) % 2 ^ F.DRV_HK_RESULT_COUNT.w := by
  rw [State.hkResult_eq, State.fld_setF_disjoint _ _ _ _ _ (by decide) (by decide), State.countWrap,
    State.fld_setF_same _ _ _ _ (by decide), State.fld_setF_disjoint _ _ _ _ _ (by decide) (by decide),
    State.fld_setF_disjoint _ _ _ _ _ (by decide) (by decide), State.fld_setF_disjoint _ _ _ _ _ (by decide) (by decide)]

theorem State.hkResult_cause : (s.hkResult m c code cause).fld (R.DRV_HK_RESULT c) F.DRV_HK_RESULT_CAUSE = cause % 4 := by
  rw [State.hkResult_eq, State.fld_setF_disjoint _ _ _ _ _ (by decide) (by decide), State.countWrap,
    State.fld_setF_disjoint _ _ _ _ _ (by decide) (by decide), State.fld_setF_same _ _ _ _ (by decide)]
  rfl

theorem State.hkResult_slice : (s.hkResult m c code cause).fld (R.DRV_HK_RESULT c) F.DRV_HK_RESULT_SLICE = m % 8 := by
  rw [State.hkResult_eq, State.fld_setF_disjoint _ _ _ _ _ (by decide) (by decide), State.countWrap,
    State.fld_setF_disjoint _ _ _ _ _ (by decide) (by decide), State.fld_setF_disjoint _ _ _ _ _ (by decide) (by decide),
    State.fld_setF_same _ _ _ _ (by decide)]
  rfl

theorem State.hkResult_new : (s.hkResult m c code cause).fld (R.DRV_HK_RESULT c) F.DRV_HK_RESULT_NEW = 1 := by
  rw [State.hkResult_eq, State.fld_setF_disjoint _ _ _ _ _ (by decide) (by decide), State.countWrap,
    State.fld_setF_disjoint _ _ _ _ _ (by decide) (by decide), State.fld_setF_disjoint _ _ _ _ _ (by decide) (by decide),
    State.fld_setF_disjoint _ _ _ _ _ (by decide) (by decide), State.fld_setF_same _ _ _ _ (by decide)]
  rfl

end

section
variable (s : State) (c : Nat)

/-- What a result of channel c gives beyond its register lies in the thermal model and PWR_INPUT (R413, R422). -/
theorem State.hcResult_frame : FrameOf 65546 s (s.hcResult c) := State.hcResult_writes (stable_frame _ s (by decide)) (.refl _ s)

@[simp] theorem State.hcResult_drive : (s.hcResult c).drive = s.drive := (s.hcResult_frame c).2 .drive rfl
@[simp] theorem State.hcResult_evt : (s.hcResult c).evt = s.evt := (s.hcResult_frame c).2 .events rfl

theorem State.hcResult_regsKept : s.regsKept (s.hcResult c) [R.PWR_INPUT] := by
  unfold State.hcResult
  extract_lets +onlyGivenNames thm t
  have ht : t.regs = s.regs := by
    unfold t
    split <;> rfl
  have kept : s.regsKept t [R.PWR_INPUT] := (State.regsKept.refl s _).of_regs ht
  have drawn (b : Prop) [Decidable b] (x : Thm) : State.regs { (if b then t.drawn else t) with thm := x } = t.regs := by
    split <;> rfl
  clear_value t
  split
  · exact kept.of_regs (drawn _ _)
  · split
    · exact kept.of_regs (drawn _ _)
    · split
      · exact kept.setF _ _ (List.mem_singleton.mpr rfl)
      · split
        · exact kept.setF _ _ (List.mem_singleton.mpr rfl)
        · exact kept

end

/-! ### HK_CONVERSION_DONE -/

/-- The slice after the conversion at place p of a sequence whose last place is len (R107). -/
def HkSlice.advance (h : HkSlice) (len p : Nat) : HkSlice :=
  if len ≤ p then (if h.pendingTrig then { h with pos := some 0, pendingTrig := false } else { h with pos := none })
  else { h with pos := some (p + 1) }

theorem HkSlice.advance_pos (h : HkSlice) (len p : Nat) :
    (h.advance len p).pos = if p < len then some (p + 1) else if h.pendingTrig then some 0 else none := by
  unfold HkSlice.advance
  by_cases hp : len ≤ p
  · rw [if_pos hp, if_neg (Nat.not_lt.mpr hp)]
    split <;> rfl
  · rw [if_neg hp, if_pos (Nat.lt_of_not_le hp)]

section
variable (s : State) (m : Fin 8) (code : BitVec 12) (p : Nat)

theorem State.hkChan_lt (m : Nat) : s.hkChan m p < 16 := Fld.get_lt _ _

/-- The result of a conversion at place p lies in none of the sequences' set-up registers. -/
theorem State.hkResult_len (j code' cause : Nat) :
    (s.hkResult j (s.hkChan m p) code' cause).fld (R.DRV_HK_SEQ m) F.DRV_HK_SEQ_LEN = s.fld (R.DRV_HK_SEQ m) F.DRV_HK_SEQ_LEN := by
  have hlt := s.hkChan_lt p m
  exact State.regsKept.fld (s.hkResult_regsKept j _ code' cause) _ _ (by simp; omega)

variable (hp : (s.hkSlice m).pos = some p) (hi : (s.hkSlice m).inj = none)
include hp hi

/-- The sequence's conversion holds its result, the sequence advances, and a waiting injected conversion may start. -/
theorem State.hkDone_running : s.hkDone m code = ((s.hkResult m (s.hkChan m p) code.toNat (s.hkSlice m).cause).setHk m
    ((s.hkSlice m).advance (s.fld (R.DRV_HK_SEQ m) F.DRV_HK_SEQ_LEN) p)).startHkInj m := by
  unfold State.hkDone
  simp only [hp, hi, Option.isSome_none, Bool.false_eq_true, if_false, State.hkResult_len, HkSlice.advance]

theorem exec_hkConversionDone_running : exec (.hkConversionDone m code) s = .next ((s.hkDone m code).hcResult (s.hkChan m p)) := by
  show execHkConversionDone m code s = _
  unfold execHkConversionDone
  simp only [hp, hi, Option.isSome_none, Bool.false_eq_true, if_false]

end

/-! ### The result of an injected conversion -/

section
variable (s : State) (i code : Nat)

theorem State.injHeld_eq : s.injHeld i code = ((s.setF (R.DRV_INJ_RESULT i) F.DRV_INJ_RESULT_NEW 1).setF (R.DRV_INJ_RESULT i)
    F.DRV_INJ_RESULT_RESULT code).fireP (212 + i) (Tab.get (fun _ => []) s.drive.injPath i) := rfl

@[simp] theorem State.injHeld_drive : (s.injHeld i code).drive = s.drive := State.fireP_drive ..

theorem State.injHeld_regsKept : s.regsKept (s.injHeld i code) [R.DRV_INJ_RESULT i] := by
  rw [State.injHeld_eq]
  exact (((State.regsKept.refl s _).setF _ _ (by simp)).setF _ _ (by simp)).of_regs (State.fireP_regs ..)

theorem State.injHeld_result : (s.injHeld i code).fld (R.DRV_INJ_RESULT i) F.DRV_INJ_RESULT_RESULT = code % 2 ^ 12 := by
  rw [State.injHeld_eq, State.fld_fireP, State.fld_setF_same _ _ _ _ (by decide)]

theorem State.injHeld_new : (s.injHeld i code).fld (R.DRV_INJ_RESULT i) F.DRV_INJ_RESULT_NEW = 1 := by
  rw [State.injHeld_eq, State.fld_fireP, State.fld_setF_disjoint _ _ _ _ _ (by decide) (by decide),
    State.fld_setF_same _ _ _ _ (by decide)]
  rfl

/-- The slot's event source fires where the event fabric runs (R108). -/
theorem State.injHeld_fired (h : s.eventsOn = true) :
    (s.injHeld i code).evt.fired.map Fire.src = s.evt.fired.map Fire.src ++ [212 + i] := by
  have hon : State.eventsOn ((s.setF (R.DRV_INJ_RESULT i) F.DRV_INJ_RESULT_NEW 1).setF (R.DRV_INJ_RESULT i)
    F.DRV_INJ_RESULT_RESULT code) = true := h
  rw [State.injHeld_eq, State.fireP_evt _ _ _ hon, List.map_append]
  rfl

end

theorem injResult_ne_injResult (j i : Nat) (h : j ≠ i) : R.DRV_INJ_RESULT j ≠ R.DRV_INJ_RESULT i := by
  simp only [R.DRV_INJ_RESULT, ne_eq]
  omega

theorem injResult_ne_hkResult (j c : Nat) (hc : c < 16) : R.DRV_INJ_RESULT j ≠ R.DRV_HK_RESULT c := by
  simp
  omega

/-! ### The spare of a bank takes a waiting slot -/

section
variable (s : State) (n : Nat)

theorem State.startBankInj_regsKept : s.regsKept (s.startBankInj n) [R.DRV_BANK_STATUS n] := by
  unfold State.startBankInj
  dsimp only
  split
  · exact .refl s _
  · split
    · exact State.regsKept.setF (t := State.setInjWait _ _ _) (fun _ _ => rfl) _ _ (by simp)
    · exact .refl s _

@[simp] theorem State.startBankInj_evt : (s.startBankInj n).evt = s.evt :=
  (State.startBankInj_writes (stable_frame 1026 s (by decide)) (.refl _ s)).2 .events rfl

end

/-! ### INJECTED_CONVERSION_DONE -/

/-- The slot whose injected conversion the converter of slot i makes (R108). -/
def State.injBusy (s : State) (i : Nat) : Option Nat :=
  match s.injAt i with
  | .bank n => (s.bank n).inj
  | .hk m => (s.hkSlice m).inj
  | .bad => none

/-- A slot that converts at a bank's spare names a bank. -/
theorem State.injAt_bank_lt {s : State} {i n : Nat} (h : s.injAt i = .bank n) : n < 48 := by
  unfold State.injAt at h
  dsimp only at h
  split at h
  · split at h <;> cases h
  · split at h
    · next ht =>
      cases h
      rw [elemBank]
      omega
    · cases h

/-- One that converts at a housekeeping slice names a housekeeping channel. -/
theorem State.injAt_hk_lt {s : State} {i m : Nat} (h : s.injAt i = .hk m) :
    s.fld (R.DRV_INJ_CFG i) F.DRV_INJ_CFG_TARGET < 16 := by
  unfold State.injAt at h
  dsimp only at h
  split at h
  · split at h
    · next ht => exact ht
    · cases h
  · split at h <;> cases h

section
variable (s : State) (i : Fin 16) (code : BitVec 12)

/-- A slot whose conversion is not in progress. -/
theorem exec_injectedConversionDone_idle (h : s.injBusy i ≠ some i.val) : exec (.injectedConversionDone i code) s = .next s := by
  show execInjectedConversionDone i code s = _
  unfold State.injBusy at h
  unfold execInjectedConversionDone State.injDone
  cases hat : s.injAt i with
  | bank n =>
    rw [hat] at h
    exact congrArg _ (if_neg h)
  | hk m =>
    rw [hat] at h
    exact congrArg _ ((if_neg h).trans (if_neg h))
  | bad => rfl

/-- The conversion in progress at the spare of bank n ends: its result is held, and the spare is free. -/
def State.bankInjEnded (n : Nat) : State :=
  ((s.setBank n { s.bank n with inj := none }).injHeld i code.toNat).setF (R.DRV_BANK_STATUS n) F.DRV_BANK_STATUS_INJ_BUSY 0

theorem exec_injectedConversionDone_bank (n : Nat) (hat : s.injAt i = .bank n) (h : (s.bank n).inj = some i.val) :
    exec (.injectedConversionDone i code) s = .next ((s.bankInjEnded i code n).startBankInj n) := by
  show execInjectedConversionDone i code s = _
  unfold execInjectedConversionDone State.injDone
  rw [hat]
  exact congrArg _ (if_pos h)

/-- The conversion in progress at housekeeping slice m ends: its result is held by the slot and by the channel. -/
def State.hkInjEnded (m : Nat) : State :=
  ((s.setHk m { s.hkSlice m with inj := none }).injHeld i code.toNat).hkResult m (s.fld (R.DRV_INJ_CFG i) F.DRV_INJ_CFG_TARGET)
    code.toNat 2

/-- A slice at rest then takes the next waiting slot. -/
theorem exec_injectedConversionDone_hk (m : Nat) (hat : s.injAt i = .hk m) (h : (s.hkSlice m).inj = some i.val) :
    exec (.injectedConversionDone i code) s = .next (State.hcResult
      (if (s.hkSlice m).pos.isNone then (s.hkInjEnded i code m).startHkInj m else s.hkInjEnded i code m)
      (s.fld (R.DRV_INJ_CFG i) F.DRV_INJ_CFG_TARGET)) := by
  have htarget : ((s.setHk m { s.hkSlice m with inj := none }).injHeld i code.toNat).fld (R.DRV_INJ_CFG i) F.DRV_INJ_CFG_TARGET =
      s.fld (R.DRV_INJ_CFG i) F.DRV_INJ_CFG_TARGET :=
    (State.injHeld_regsKept (s.setHk m { s.hkSlice m with inj := none }) i code.toNat).fld _ _ (by simp)
  show execInjectedConversionDone i code s = _
  unfold execInjectedConversionDone State.injDone
  rw [hat]
  simp only [h, if_true, htarget]
  rfl

end

/-! ### What the end of a conversion leaves -/

section
variable (s : State) (m : Fin 8) (code : BitVec 12) (p : Nat) (hp : (s.hkSlice m).pos = some p) (hi : (s.hkSlice m).inj = none)
include hp hi

/-- After the result of a conversion, the registers are as the result left them, but for the powers. -/
theorem State.hkDone_regsKept : (s.hkResult m (s.hkChan m p) code.toNat (s.hkSlice m).cause).regsKept
    ((s.hkDone m code).hcResult (s.hkChan m p)) [R.PWR_INPUT] := by
  rw [s.hkDone_running m code p hp hi]
  have hstart (t : State) (h : HkSlice) (l : List Nat) : t.regsKept ((t.setHk m h).startHkInj m) l :=
    (State.regsKept.refl t l).of_regs ((State.startHkInj_regs _ _).trans (t.setHk_regs m h))
  exact (hstart _ _ _).trans (State.hcResult_regsKept _ _)

theorem State.hkDone_fld (g : Fld) : ((s.hkDone m code).hcResult (s.hkChan m p)).fld (R.DRV_HK_RESULT (s.hkChan m p)) g =
    (s.hkResult m (s.hkChan m p) code.toNat (s.hkSlice m).cause).fld (R.DRV_HK_RESULT (s.hkChan m p)) g :=
  (s.hkDone_regsKept m code p hp hi).fld _ g (by simp; omega)

theorem State.hkDone_pos : ((s.hkDone m code).hkSlice m).pos = if p < s.fld (R.DRV_HK_SEQ m) F.DRV_HK_SEQ_LEN then some (p + 1)
    else if (s.hkSlice m).pendingTrig then some 0 else none := by
  rw [s.hkDone_running m code p hp hi, State.startHkInj_pos, State.hkSlice_setHk, HkSlice.advance_pos]

theorem State.hkSlice_hkDone_ne (k : Nat) (hk : k ≠ m) : (s.hkDone m code).hkSlice k = s.hkSlice k := by
  rw [s.hkDone_running m code p hp hi, State.hkSlice_startHkInj_ne _ _ _ hk, State.hkSlice_setHk_ne _ _ _ _ hk,
    State.hkSlice_congr (State.hkResult_drive ..)]

end

/-- t holds the result of slot i's conversion in s: the code with NEW, the slot's event, and every other slot's result as before (R108). -/
def State.holdsInjection (s t : State) (i : Fin 16) (code : BitVec 12) : Prop :=
  t.fld (R.DRV_INJ_RESULT i) F.DRV_INJ_RESULT_RESULT = code.toNat ∧ t.fld (R.DRV_INJ_RESULT i) F.DRV_INJ_RESULT_NEW = 1 ∧
  (s.eventsOn = true → t.evt.fired.map Fire.src = s.evt.fired.map Fire.src ++ [212 + i.val]) ∧
  ∀ j : Fin 16, j ≠ i → t.rd (R.DRV_INJ_RESULT j) = s.rd (R.DRV_INJ_RESULT j)

theorem State.injHeld_holdsInjection (s : State) (i : Fin 16) (code : BitVec 12) :
    s.holdsInjection (s.injHeld i code.toNat) i code := by
  refine ⟨(s.injHeld_result i _).trans (Nat.mod_eq_of_lt code.isLt), s.injHeld_new i _, s.injHeld_fired i _, fun j hj => ?_⟩
  have hne : j.val ≠ i.val := fun h => hj (Fin.ext h)
  exact s.injHeld_regsKept i _ _ fun h => injResult_ne_injResult j i hne (List.mem_singleton.mp h)

/-- Writes of other registers, and of no event, leave the result held. -/
theorem State.holdsInjection.of_kept {s t u : State} {i : Fin 16} {code : BitVec 12} {l : List Nat} (h : s.holdsInjection t i code)
    (hr : t.regsKept u l) (hl : ∀ j < 16, R.DRV_INJ_RESULT j ∉ l) (he : u.evt = t.evt) : s.holdsInjection u i code := by
  obtain ⟨hresult, hnew, hfired, hothers⟩ := h
  refine ⟨(hr.fld _ _ (hl i i.isLt)).trans hresult, (hr.fld _ _ (hl i i.isLt)).trans hnew, fun hon => ?_, fun j hj =>
    (hr _ (hl j j.isLt)).trans (hothers j hj)⟩
  rw [he]
  exact hfired hon

section
variable (s : State) (i : Fin 16) (code : BitVec 12)

theorem State.bankInjEnded_holdsInjection (n : Nat) (hn : n < 48) :
    s.holdsInjection ((s.bankInjEnded i code n).startBankInj n) i code := by
  have hheld : s.holdsInjection ((s.setBank n { s.bank n with inj := none }).injHeld i code.toNat) i code :=
    (s.setBank n { s.bank n with inj := none }).injHeld_holdsInjection i code
  refine hheld.of_kept (l := [R.DRV_BANK_STATUS n]) ?_ (fun j _ => by simp; omega) (State.startBankInj_evt _ n)
  exact ((State.regsKept.refl _ _).setF _ _ (by simp)).trans (State.startBankInj_regsKept (s.bankInjEnded i code n) n)

theorem State.bankInjEnded_bank (n : Nat) : (s.bankInjEnded i code n).bank n = { s.bank n with inj := none } := by
  rw [State.bankInjEnded, State.bank_congr (State.setF_drive ..), State.bank_congr (State.injHeld_drive ..), State.bank_setBank]

/-- The end of a conversion moves no slot, and none begins to wait. -/
theorem State.noneWaits_bankInjEnded (n : Nat) (hn : n < 48) (h : s.noneWaits (.bank n)) :
    (s.bankInjEnded i code n).noneWaits (.bank n) := by
  have hkept : (s.setBank n { s.bank n with inj := none }).regsKept (s.bankInjEnded i code n) [R.DRV_INJ_RESULT i, R.DRV_BANK_STATUS n] :=
    ((State.injHeld_regsKept _ i _).mono (by simp)).setF _ _ (by simp)
  intro j hj hw
  have hdrive : (s.bankInjEnded i code n).drive = (s.setBank n { s.bank n with inj := none }).drive := State.injHeld_drive ..
  have hcfg : (s.bankInjEnded i code n).rd (R.DRV_INJ_CFG j) = s.rd (R.DRV_INJ_CFG j) := hkept _ (by simp; omega)
  rw [State.injAt_congr j hcfg]
  refine h j hj ?_
  rw [State.injWaiting, hdrive] at hw
  exact hw

/-- With no slot waiting, the spare is then idle. -/
theorem State.bankInjEnded_idle (n : Nat) (hn : n < 48) (hfirst : (s.bank n).first = []) (hw : s.noneWaits (.bank n)) :
    (((s.bankInjEnded i code n).startBankInj n).bank n).inj = none ∧
    ((s.bankInjEnded i code n).startBankInj n).fld (R.DRV_BANK_STATUS n) F.DRV_BANK_STATUS_INJ_BUSY = 0 := by
  have hbank := s.bankInjEnded_bank i code n
  rw [State.startBankInj_idle _ n (by rw [hbank]; exact hfirst) (s.noneWaits_bankInjEnded i code n hn hw), hbank]
  exact ⟨rfl, State.fld_setF_same _ _ _ _ (by decide)⟩

/-- Whether the slice at which the conversion ended takes another slot or not, no register and no event follows from it. -/
theorem State.startHkInj_if_kept (t : State) (m : Nat) (b : Bool) :
    (if b then t.startHkInj m else t).regs = t.regs ∧ (if b then t.startHkInj m else t).evt = t.evt := by
  cases b
  · exact ⟨rfl, rfl⟩
  · exact ⟨t.startHkInj_regs m, t.startHkInj_evt m⟩

/-- The state after the end of a conversion at housekeeping slice m. -/
theorem State.hkInjEnded_kept (m c : Nat) (b : Bool) : (s.hkInjEnded i code m).regsKept
    (State.hcResult (if b then (s.hkInjEnded i code m).startHkInj m else s.hkInjEnded i code m) c) [R.PWR_INPUT] ∧
    (State.hcResult (if b then (s.hkInjEnded i code m).startHkInj m else s.hkInjEnded i code m) c).evt =
      (s.hkInjEnded i code m).evt := by
  obtain ⟨hregs, hevt⟩ := (s.hkInjEnded i code m).startHkInj_if_kept m b
  exact ⟨((State.regsKept.refl _ _).of_regs hregs).trans (State.hcResult_regsKept _ c), (State.hcResult_evt _ c).trans hevt⟩

theorem State.hkInjEnded_holdsInjection (m : Nat) (hat : s.injAt i = .hk m) : s.holdsInjection (s.hkInjEnded i code m) i code := by
  have hheld : s.holdsInjection ((s.setHk m { s.hkSlice m with inj := none }).injHeld i code.toNat) i code :=
    (s.setHk m { s.hkSlice m with inj := none }).injHeld_holdsInjection i code
  have hlt := State.injAt_hk_lt hat
  exact hheld.of_kept (State.hkResult_regsKept _ m _ _ _) (fun j _ h => injResult_ne_hkResult j _ hlt (List.mem_singleton.mp h))
    (State.hkResult_evt ..)

end

/-- Settles O16: the branches of a trigger, of a sequence's conversion, and of an injected conversion at each kind of converter. -/
theorem housekeepingAndInjections : Obligations.HousekeepingAndInjections := by
  refine fun s => ⟨fun m e he => ?trigger, fun m code p hp _ hi => ?result, fun i code => ?injected⟩
  case trigger =>
    have hexec := exec_hkTrigger s m e he
    refine ⟨fun h => hexec.trans (congrArg _ (if_neg h)), fun h => ⟨_, hexec.trans (congrArg _ (if_pos h)), ?_, ?_, ?_⟩⟩
    · intro hrest
      rw [s.hkTrigger_rest m _ hrest]
      exact ⟨s.hkSlice_setHk m _, rfl⟩
    · intro hruns hfree
      rw [s.hkTrigger_pends m _ hruns hfree]
      exact ⟨s.hkSlice_setHk m _, rfl⟩
    · intro hruns hpending
      rw [s.hkTrigger_missed m _ hruns hpending]
      exact ⟨rfl, s.count_missed m m.isLt, (State.regsKept.refl s _).setF _ _ (by simp)⟩
  case result =>
    intro c
    have hslice (k : Nat) : ((s.hkDone m code).hcResult (s.hkChan m p)).hkSlice k = (s.hkDone m code).hkSlice k :=
      State.hkSlice_congr (State.hcResult_drive ..) k
    have hfld := s.hkDone_fld m code p hp hi
    refine ⟨_, exec_hkConversionDone_running s m code p hp hi, ?_, ?_, ?_, ?_, ?_, ?_, ?_, ?_⟩
    · exact (hfld _).trans ((s.hkResult_result ..).trans (Nat.mod_eq_of_lt code.isLt))
    · exact (hfld _).trans ((s.hkResult_slice ..).trans (Nat.mod_eq_of_lt m.isLt))
    · exact (hfld _).trans (s.hkResult_new ..)
    · exact (hfld _).trans (s.hkResult_cause ..)
    · exact (hfld _).trans (s.hkResult_count ..)
    · rw [hslice, s.hkDone_pos m code p hp hi]
    · exact ((s.hkResult_regsKept m _ _ _).mono (by simp [c, State.hkChan])).trans ((s.hkDone_regsKept m code p hp hi).mono (by simp))
    · intro k hk
      rw [hslice, s.hkSlice_hkDone_ne m code p hp hi k fun h => hk (Fin.ext h)]
  case injected =>
    intro busy
    have hbusy : busy = s.injBusy i := rfl
    rw [hbusy]
    refine ⟨exec_injectedConversionDone_idle s i code, fun h => ?_⟩
    unfold State.injBusy at h
    cases hat : s.injAt i with
    | bank n =>
      rw [hat] at h
      have hn := State.injAt_bank_lt hat
      obtain ⟨hresult, hnew, hfired, hothers⟩ := s.bankInjEnded_holdsInjection i code n hn
      refine ⟨_, exec_injectedConversionDone_bank s i code n hat h, hresult, hnew, hfired, hothers, fun k hk hb hfirst hw => ?_,
        fun m hm => (by cases hm)⟩
      cases hb
      exact s.bankInjEnded_idle i code n hk hfirst hw
    | hk m =>
      rw [hat] at h
      have hlt := State.injAt_hk_lt hat
      obtain ⟨hkept, hevt⟩ := s.hkInjEnded_kept i code m (s.fld (R.DRV_INJ_CFG i) F.DRV_INJ_CFG_TARGET) (s.hkSlice m).pos.isNone
      obtain ⟨hresult, hnew, hfired, hothers⟩ :=
        (s.hkInjEnded_holdsInjection i code m hat).of_kept hkept (fun j _ => by simp; omega) hevt
      refine ⟨_, exec_injectedConversionDone_hk s i code m hat h, hresult, hnew, hfired, hothers, fun n _ hn => (by cases hn),
        fun _ _ => ?_⟩
      exact (hkept.fld _ _ (by simp; omega)).trans (State.hkResult_cause ..)
    | bad =>
      rw [hat] at h
      cases h

end Sys2Proof.Machine

/-! Calibration images: what R179 writes, the checks of R180 read back (08_calibration.md). -/

namespace Sys2Proof.Machine

/-! ### Bytes of numbers and words -/

@[simp] theorem length_leBytes (n v : Nat) : (leBytes n v).length = n := by
  induction n generalizing v with
  | zero => rfl
  | succ n ih => rw [leBytes, List.length_cons, ih]

@[simp] theorem length_wordBytes (w : Word) : (wordBytes w).length = 4 := rfl

/-- Words read back from their bytes, whatever follows. -/
theorem toWords_flatMap_wordBytes (ws : List Word) (l : List Byte) : toWords ws.length (ws.flatMap wordBytes ++ l) = ws := by
  induction ws with
  | nil => rfl
  | cons w ws ih =>
    have hword : ofLe (wordBytes w) = w.toNat := by
      rw [wordBytes_eq_leBytes, ofLe_leBytes, Nat.mod_eq_of_lt w.isLt]
    have htake : ((w :: ws).flatMap wordBytes ++ l).take 4 = wordBytes w := rfl
    have hdrop : ((w :: ws).flatMap wordBytes ++ l).drop 4 = ws.flatMap wordBytes ++ l := rfl
    rw [List.length_cons, toWords, htake, hdrop, ih, hword, BitVec.ofNat_toNat, BitVec.setWidth_eq]

theorem length_flatMap_wordBytes (ws : List Word) : (ws.flatMap wordBytes).length = 4 * ws.length := by
  induction ws with
  | nil => rfl
  | cons w ws ih =>
    rw [List.flatMap_cons, List.length_append, ih, length_wordBytes, List.length_cons]
    omega

/-- A number changes with any one of its bytes. -/
theorem ofLe_setNth_ne (l : List Byte) (i : Nat) (b : Byte) (hi : i < l.length) (h : nth 0 l i ≠ b) : ofLe (setNth l i b) ≠ ofLe l := by
  induction l generalizing i with
  | nil => exact absurd hi (Nat.not_lt_zero i)
  | cons a l ih =>
    cases i with
    | zero =>
      have hne : a.toNat ≠ b.toNat := fun e => h (BitVec.eq_of_toNat_eq e)
      simp only [setNth, ofLe]
      omega
    | succ i =>
      have htail := ih i (Nat.lt_of_succ_lt_succ hi) h
      simp only [setNth, ofLe]
      omega

/-! ### CRC-32 -/

theorem crcBits_lt (n c : Nat) (h : c < 2 ^ 32) : crcBits n c < 2 ^ 32 := by
  induction n generalizing c with
  | zero => exact h
  | succ n ih =>
    have hhalf : c / 2 < 2 ^ 32 := Nat.lt_of_le_of_lt (Nat.div_le_self c 2) h
    refine ih _ ?_
    split
    · exact Nat.xor_lt_two_pow hhalf (by decide)
    · exact hhalf

/-- A CRC fits its four bytes. -/
theorem crc32_lt (l : List Byte) : crc32 l < 2 ^ 32 := by
  have hfold (c : Nat) (hc : c < 2 ^ 32) : l.foldl (fun c b => crcBits 8 (c ^^^ b.toNat)) c < 2 ^ 32 := by
    induction l generalizing c with
    | nil => exact hc
    | cons b l ih => exact ih _ (crcBits_lt 8 _ (Nat.xor_lt_two_pow hc (Nat.lt_trans b.isLt (by decide))))
  exact Nat.xor_lt_two_pow (by decide) (hfold _ (by decide))

/-! ### Records -/

theorem CalRec.ok_iff (r : CalRec) : r.ok = true ↔ r.kind ≤ 8 ∧ r.index < calCount r.kind ∧ r.words.length = calWidth r.kind := by
  simp only [CalRec.ok, Bool.and_eq_true, decide_eq_true_eq, beq_iff_eq, and_assoc]

/-- KIND, INDEX and the number of words of a record that is in range fit their fields. -/
theorem CalRec.ok_fits (r : CalRec) (h : r.ok = true) : r.kind < 2 ^ 8 ∧ r.index < 2 ^ 32 ∧ r.words.length < 2 ^ 8 := by
  obtain ⟨hk, hi, hw⟩ := r.ok_iff.mp h
  have hsmall : ∀ k ≤ 8, calCount k < 2 ^ 32 ∧ calWidth k < 2 ^ 8 := by decide
  obtain ⟨hc, hl⟩ := hsmall r.kind hk
  omega

theorem CalRec.length_bytes (r : CalRec) : r.bytes.length = 8 + 4 * r.words.length := by
  simp only [CalRec.bytes, List.length_append, length_leBytes, length_flatMap_wordBytes]

/-- The first record of a body is read back, and the rest follows. -/
theorem parseRecs_cons (n : Nat) (r : CalRec) (l : List Byte) (h : r.ok = true) :
    parseRecs (n + 1) (r.bytes ++ l) = (parseRecs n l).map (r :: ·) := by
  obtain ⟨hk, hi, hw⟩ := r.ok_fits h
  have hkind : ofLe ((r.bytes ++ l).take 1) = r.kind := (ofLe_leBytes 1 r.kind).trans (Nat.mod_eq_of_lt hk)
  have hlen : ofLe (((r.bytes ++ l).drop 1).take 1) = r.words.length := (ofLe_leBytes 1 _).trans (Nat.mod_eq_of_lt hw)
  have hindex : ofLe (((r.bytes ++ l).drop 4).take 4) = r.index := (ofLe_leBytes 4 _).trans (Nat.mod_eq_of_lt hi)
  have hwords : toWords r.words.length ((r.bytes ++ l).drop 8) = r.words := toWords_flatMap_wordBytes r.words l
  have hrest : (r.bytes ++ l).drop (8 + 4 * r.words.length) = l := List.drop_left' r.length_bytes
  have hfull : ¬ (r.bytes ++ l).length < 8 + 4 * r.words.length := by
    rw [List.length_append, r.length_bytes]
    omega
  rw [parseRecs]
  simp only [hlen, hkind, hindex, hwords, hrest, if_neg hfull]

/-- The records of a body are read back. -/
theorem parseRecs_flatMap_bytes (recs : List CalRec) (h : recs.all CalRec.ok = true) :
    parseRecs recs.length (recs.flatMap CalRec.bytes) = some recs := by
  induction recs with
  | nil => rfl
  | cons r recs ih =>
    rw [List.all_cons, Bool.and_eq_true] at h
    obtain ⟨hr, hrecs⟩ := h
    rw [List.flatMap_cons, List.length_cons, parseRecs_cons _ r _ hr, ih hrecs, Option.map_some]

theorem length_le_length_flatMap_bytes (recs : List CalRec) : recs.length ≤ (recs.flatMap CalRec.bytes).length := by
  induction recs with
  | nil => exact Nat.le_refl 0
  | cons r recs ih =>
    rw [List.flatMap_cons, List.length_append, List.length_cons, r.length_bytes]
    omega

/-! ### Images -/

theorem length_calImage (mask : Nat) (recs : List CalRec) : (calImage mask recs).length = 64 + (recs.flatMap CalRec.bytes).length := by
  simp only [calImage, List.length_append, length_leBytes, List.length_replicate]
  omega

section
variable (mask : Nat) (recs : List CalRec) (more : List Byte)

/-- The fields of the header (R179), in a buffer that goes on after the image. -/
theorem calImage_magic : ofLe (((calImage mask recs ++ more).drop 0).take 4) = 0x43414C31 := ofLe_leBytes 4 _

theorem calImage_version : ofLe (((calImage mask recs ++ more).drop 4).take 2) = 1 := ofLe_leBytes 2 _

theorem calImage_uniqueId : ofLe (((calImage mask recs ++ more).drop 8).take 8) = Config.uniqueId.toNat :=
  (ofLe_leBytes 8 _).trans (Nat.mod_eq_of_lt Config.uniqueId.isLt)

theorem calImage_count (h : recs.length < 2 ^ 32) : ofLe (((calImage mask recs ++ more).drop 20).take 4) = recs.length :=
  (ofLe_leBytes 4 _).trans (Nat.mod_eq_of_lt h)

theorem calImage_size (h : (calImage mask recs).length < 2 ^ 32) :
    ofLe (((calImage mask recs ++ more).drop 24).take 4) = (calImage mask recs).length := by
  rw [length_calImage] at h ⊢
  exact (ofLe_leBytes 4 _).trans (Nat.mod_eq_of_lt h)

theorem calImage_crc : ofLe (((calImage mask recs ++ more).drop 28).take 4) = crc32 ((calImage mask recs).drop 32) :=
  (ofLe_leBytes 4 _).trans (Nat.mod_eq_of_lt (crc32_lt _))

theorem calImage_body : (calImage mask recs).drop 64 = recs.flatMap CalRec.bytes := rfl

end

/-- The check of R180 gives back the records of an image, in a buffer that holds it. -/
theorem calParse_calImage (mask : Nat) (recs : List CalRec) (force : Bool) (more : List Byte) (hok : recs.all CalRec.ok = true)
    (hlen : (calImage mask recs).length ≤ 655360) :
    calParse force ((calImage mask recs).length + more.length) (calImage mask recs ++ more) = .inr recs := by
  have hsize := calImage_size mask recs more (Nat.lt_of_le_of_lt hlen (by decide))
  have hcount := calImage_count mask recs more (by
    have := length_le_length_flatMap_bytes recs
    rw [length_calImage] at hlen
    omega)
  have h64 : 64 ≤ (calImage mask recs).length := by
    rw [length_calImage]
    omega
  simp only [calParse, hsize, hcount, calImage_magic, calImage_version, calImage_crc, calImage_uniqueId, List.take_left, calImage_body,
    parseRecs_flatMap_bytes recs hok, hok]
  rw [if_neg (by omega)]
  simp

/-- A MAGIC or VERSION of another value is refused before any other check. -/
theorem calParse_badHeader (force : Bool) (len : Nat) (l : List Byte)
    (h : ofLe ((l.drop 0).take 4) ≠ 0x43414C31 ∨ ofLe ((l.drop 4).take 2) ≠ 1) : calParse force len l = .inl 0x0321 := by
  unfold calParse
  dsimp only
  exact if_pos (.inr (h.imp_right .inl))

/-- Settles O24: the header and each record are read back from their bytes, and a changed byte changes the number it is of. -/
theorem calibrationImagesRestore : Obligations.CalibrationImagesRestore := by
  refine ⟨fun mask recs force more _ hok hlen => calParse_calImage mask recs force more hok hlen, fun mask recs force i b hi _ hb => ?_⟩
  refine calParse_badHeader _ _ _ ?_
  by_cases hmagic : i < 4
  · refine .inl ?_
    have hplace : i = 0 ∨ i = 1 ∨ i = 2 ∨ i = 3 := by omega
    have hbytes : ((setNth (calImage mask recs) i b).drop 0).take 4 = setNth (leBytes 4 0x43414C31) i b := by
      rcases hplace with rfl | rfl | rfl | rfl <;> rfl
    have hnth : nth 0 (calImage mask recs) i = nth 0 (leBytes 4 0x43414C31) i := by
      rcases hplace with rfl | rfl | rfl | rfl <;> rfl
    rw [hbytes]
    exact ofLe_setNth_ne _ i b hmagic (hnth ▸ hb)
  · refine .inr ?_
    obtain ⟨j, rfl⟩ := Nat.exists_eq_add_of_le (Nat.le_of_not_lt hmagic)
    have hj : j < 2 := by omega
    have hplace : j = 0 ∨ j = 1 := by omega
    have hbytes : ((setNth (calImage mask recs) (4 + j) b).drop 4).take 2 = setNth (leBytes 2 1) j b := by
      rcases hplace with rfl | rfl <;> rfl
    have hnth : nth 0 (calImage mask recs) (4 + j) = nth 0 (leBytes 2 1) j := by
      rcases hplace with rfl | rfl <;> rfl
    rw [hbytes]
    exact ofLe_setNth_ne _ j b hj (hnth ▸ hb)

end Sys2Proof.Machine

/-! CAL_SAVE and CAL_RESTORE: what each request writes to its buffer, answers, and stages (08_calibration.md R173, R179, R180). -/

namespace Sys2Proof.Machine

/-! ### Requests that write their ring alone -/

/-- A state that keeps every part but the registers and the host interface. -/
theorem FrameOf.rings_eq {s t : State} (h : FrameOf (maskFor [.registers, .hostInterface]) s t) :
    t = { s with regs := t.regs, hif := t.hif } := by
  obtain ⟨hpending, hkept⟩ := h
  cases s
  cases t
  rw [State.mk.injEq]
  exact ⟨hkept .clock rfl, rfl, hkept .mode rfl, hkept .freeValues rfl, rfl, hkept .fabric rfl, hkept .rack rfl,
    hkept .management rfl, hkept .faults rfl, hkept .startup rfl, hkept .drive rfl, hkept .loops rfl, hkept .sequencers rfl,
    hkept .events rfl, hkept .harvest rfl, hkept .netTime rfl, hkept .thermal rfl, hkept .lanes rfl, hkept .calibration rfl,
    hkept .pipeline rfl, hkept .pair rfl, hkept .cellar rfl, hpending⟩

@[simp] theorem State.finish_posted (s : State) (r : Req) (c : Nat) (w : List Word) (l : Nat) (v : Bool) :
    (s.finish r c w l v).hif.posted = s.hif.posted := by
  unfold State.finish
  dsimp only
  split
  · split
    · split <;> rfl
    · rfl
  · rfl

section
variable (s : State) (sq : Fin 32) (d : Desc) (c : Nat) (w : List Word)

/-- Beyond the host interface, a request that begins leaves every register. -/
theorem State.begun_rd_above (o : Nat) (ho : 0x20000 ≤ o) : (s.begun sq d).rd o = s.rd o :=
  s.begun_rd sq d o (by simp; omega)

theorem State.begun_frame : FrameOf (maskFor [.registers, .hostInterface]) s (s.begun sq d) :=
  State.startedDesc_writes (stable_frame _ s (by decide)) (.refl _ s)

/-- The state in which the request that ring sq starts has ended with a result and words, and nothing else has happened. -/
def State.answered : State := (s.begun sq d).finish (s.nextReq sq) c w 0 false

theorem State.answered_eq :
    s.answered sq d c w = { s with regs := (s.answered sq d c w).regs, hif := (s.answered sq d c w).hif } :=
  FrameOf.rings_eq (State.finish_writes (stable_frame _ s (by decide)) (s.begun_frame sq d))

theorem State.answered_rd (o : Nat) (ho : 0x20000 ≤ o) : (s.answered sq d c w).rd o = s.rd o :=
  (State.rd_finish_above _ (s.nextReq sq) _ _ _ _ o sq.isLt ho).trans (s.begun_rd_above sq d o ho)

theorem State.answered_posted : (s.answered sq d c w).hif.posted = s.hif.posted := State.finish_posted ..

theorem State.answered_lastDone (h : s.cqUp (s.boundCq sq) = true) :
    (s.answered sq d c w).lastDone sq = some (sq.val, d.tag, c, (w ++ [0, 0, 0, 0]).take 4) :=
  (s.ended (s.begun sq d) sq d c w 0 false sq.isLt rfl (fun _ _ => rfl) h).1

/-- The state in which the request has written its buffer and ended with RESULT 0. -/
def State.delivered (data : List Byte) : State := ((s.begun sq d).post d.bufAddr data).finish (s.nextReq sq) 0 w data.length false

variable (data : List Byte)

theorem State.delivered_eq :
    s.delivered sq d w data = { s with regs := (s.delivered sq d w data).regs, hif := (s.delivered sq d w data).hif } :=
  FrameOf.rings_eq (State.finish_writes (stable_frame _ s (by decide))
    (State.post_writes (Stable.sub (stable_frame 18 s (by decide)) rfl) (s.begun_frame sq d)))

theorem State.delivered_rd (o : Nat) (ho : 0x20000 ≤ o) : (s.delivered sq d w data).rd o = s.rd o :=
  (State.rd_finish_above _ (s.nextReq sq) _ _ _ _ o sq.isLt ho).trans ((State.rd_post ..).trans (s.begun_rd_above sq d o ho))

theorem State.delivered_posted : (s.delivered sq d w data).hif.posted = s.hif.posted ++ [⟨d.bufAddr, data⟩] := State.finish_posted ..

theorem State.delivered_lastDone (h : s.cqUp (s.boundCq sq) = true) :
    (s.delivered sq d w data).lastDone sq = some (sq.val, d.tag, 0, (w ++ [0, 0, 0, 0]).take 4) := by
  have hlt := s.boundCq_lt sq
  have hbound : ((s.begun sq d).post d.bufAddr data).boundCq sq = s.boundCq sq := by
    rw [State.boundCq, State.fld_post]
    exact s.begun_boundCq sq sq d
  have hring : (((s.begun sq d).post d.bufAddr data).sqRing sq).exec = some (s.hif.job, d) :=
    congrArg SqRing.exec (s.begun_sqRing sq d)
  have hup : ((s.begun sq d).post d.bufAddr data).cqUp (s.boundCq sq) = true := by
    rw [← h, State.cqUp, State.flag, State.flag, State.fld_post, State.fld_post, State.begun_fld _ _ _ _ _ (by simp; omega),
      State.begun_fld _ _ _ _ _ (by simp; omega)]
    rfl
  exact (State.finish_done _ (s.nextReq sq) d 0 w _ false sq.isLt hring (by rw [← hup]; exact congrArg _ hbound)).1

end

/-! ### CAL_SAVE -/

/-- The words of a record lie in the calibration, sequencer and lane registers. -/
theorem State.calWords_congr {s t : State} (h : ∀ o, 0x20000 ≤ o → t.rd o = s.rd o) (k i : Nat) : t.calWords k i = s.calWords k i := by
  unfold State.calWords
  split <;> simp (disch := omega) [h]

theorem State.calRecs_congr {s t : State} (h : ∀ o, 0x20000 ≤ o → t.rd o = s.rd o) (mask : Nat) : t.calRecs mask = s.calRecs mask := by
  unfold State.calRecs
  simp only [State.calWords_congr h]

section
variable (s : State) (sq : Fin 32) (d : Desc) (buf : Buf)

/-- The image of the active values that the request asks for (R179). -/
def State.savedImage : List Byte := calImage (d.le 24 4 % 512) (s.calRecs (d.le 24 4 % 512))

theorem State.savedImage_isEmpty : (s.savedImage d).isEmpty = false := rfl

theorem State.savedImage_begun : (s.begun sq d).savedImage d = s.savedImage d := by
  rw [State.savedImage, State.calRecs_congr (s.begun_rd_above sq d), State.savedImage]

theorem State.not_calBusy_begun (h : s.calBusy = false) : ¬ (s.begun sq d).calBusy = true :=
  Bool.eq_false_iff.mp (show (s.begun sq d).calBusy = false from h)

variable (hoff : s.offers sq d true true = true) (hop : d.opcode = 7)
include hoff hop

theorem exec_calSave_busy (h : s.calBusy = true) : exec (.calSave sq d buf) s = .next (s.answered sq d 0x0301 []) :=
  congrArg _ ((s.launch_offered sq d _ true true _ (by simp [hop]) hoff).trans (if_pos h))

theorem exec_calSave_short (h : s.calBusy = false) (hlen : d.bufLen < (s.savedImage d).length) :
    exec (.calSave sq d buf) s = .next (s.answered sq d 0x0311 [BitVec.ofNat 32 (s.savedImage d).length]) := by
  refine congrArg _ ((s.launch_offered sq d _ true true _ (by simp [hop]) hoff).trans ((if_neg ?_).trans ?_))
  · exact s.not_calBusy_begun sq d h
  rw [← s.savedImage_begun sq d] at hlen ⊢
  exact if_pos hlen

theorem exec_calSave_written (h : s.calBusy = false) (hbuf : buf.ok = true) (hlen : ¬ d.bufLen < (s.savedImage d).length) :
    exec (.calSave sq d buf) s = .next (s.delivered sq d [BitVec.ofNat 32 (s.savedImage d).length] (s.savedImage d)) := by
  refine congrArg _ ((s.launch_offered sq d _ true true _ (by simp [hop]) hoff).trans ((if_neg ?_).trans ?_))
  · exact s.not_calBusy_begun sq d h
  rw [← s.savedImage_begun sq d] at hlen ⊢
  exact (if_neg hlen).trans ((if_neg (Bool.eq_false_iff.mp (State.savedImage_isEmpty _ d))).trans (if_pos hbuf))

end

/-! ### Staging -/

/-- The registers that a restored record may write: STAGED bits, and the curves that wait; none of them holds words 1 to 7 of a curve. -/
def stagingOffset (o : Nat) : Prop := 0x900080 ≤ o ∧ ∀ x < 9216, ∀ w < 8, 0 < w → o ≠ R.CAL_CURVE x w

/-- The registers below the curves, and those above them. -/
theorem stagingOffset_of_below {o : Nat} (h : 0x900080 ≤ o) (ho : o < 0x950000) : stagingOffset o :=
  ⟨h, fun x _ w _ _ => by simp; omega⟩

theorem stagingOffset_of_above {o : Nat} (h : 0x998000 ≤ o) : stagingOffset o :=
  ⟨by omega, fun x _ w _ _ => by simp; omega⟩

/-- t is s but for staged values: of the registers that staging may write, CAL_OSC keeps all but its STAGED bit. -/
def State.stagesInto (s t : State) : Prop :=
  t.hif = s.hif ∧ (∀ o, ¬ stagingOffset o → t.rd o = s.rd o) ∧ t.rd R.CAL_OSC &&& 0xBFFFFFFF#32 = s.rd R.CAL_OSC &&& 0xBFFFFFFF#32

section
variable {s t u : State}

theorem State.stagesInto.refl (s : State) : s.stagesInto s := ⟨rfl, fun _ _ => rfl, rfl⟩

theorem State.stagesInto.wr (h : s.stagesInto t) (o : Nat) (v : Word) (ho : stagingOffset o) (hosc : R.CAL_OSC ≠ o) :
    s.stagesInto (t.wr o v) := by
  obtain ⟨hhif, hregs, hold⟩ := h
  refine ⟨hhif, fun p hp => (t.rd_wr_ne o p v fun e => hp (e ▸ ho)).trans (hregs p hp), ?_⟩
  rw [t.rd_wr_ne o _ v hosc, hold]

/-- Staged values that lie in no register. -/
theorem State.stagesInto.cal (h : s.stagesInto t) (c : CalSt) : s.stagesInto { t with cal := c } := h

theorem State.stagesInto.stagedBit (h : s.stagesInto t) (o b : Nat) (ho : stagingOffset o) (hosc : R.CAL_OSC ≠ o) :
    s.stagesInto (t.stagedBit o b) := h.wr o _ ho hosc

theorem State.stagesInto.stageCurve (h : s.stagesInto t) (x : Nat) (ws : List Word) (hx : x < 9216) : s.stagesInto (t.stageCurve x ws) := by
  have hcurve : s.stagesInto (forUp (fun w s => s.wr (R.CAL_STAGE x w) (nth 0 ws w)) 8 0 t) :=
    forUp_keep (fun w u hu => hu.wr _ _ (stagingOffset_of_above (by simp; omega)) (by simp; omega)) h
  exact hcurve.stagedBit _ _ ⟨by simp; omega, fun y hy w hw h0 => by simp; omega⟩ (by simp; omega)

theorem State.stagesInto.stageDac (h : s.stagesInto t) (x r : Nat) (w : Word) (hx : x < 9216) (hr : r < 3) :
    s.stagesInto (t.stageDac x r w) :=
  (h.cal _).stagedBit _ _ (stagingOffset_of_below (by simp; omega) (by simp; omega)) (by simp; omega)

theorem State.stagesInto.stageChSkew (h : s.stagesInto t) (x : Nat) (w : Word) (hx : x < 9216) : s.stagesInto (t.stageChSkew x w) :=
  (h.cal _).stagedBit _ _ (stagingOffset_of_below (by simp; omega) (by simp; omega)) (by simp; omega)

theorem State.stagesInto.stageSlice (h : s.stagesInto t) (n p : Nat) (w : Word) (hn : n < 48) (hp : p < 25) :
    s.stagesInto (t.stageSlice n p w) :=
  (h.cal _).stagedBit _ _ (stagingOffset_of_below (by simp; omega) (by simp; omega)) (by simp; omega)

theorem State.stagesInto.stageHk (h : s.stagesInto t) (m : Nat) (w : Word) (hm : m < 8) : s.stagesInto (t.stageHk m w) :=
  (h.cal _).stagedBit _ _ (stagingOffset_of_below (by simp; omega) (by simp; omega)) (by simp; omega)

theorem State.stagesInto.stageTap (h : s.stagesInto t) (k : Nat) (w : Word) (hk : k < 32) : s.stagesInto (t.stageTap k w) :=
  (h.cal _).stagedBit _ _ (stagingOffset_of_below (by simp; omega) (by simp; omega)) (by simp; omega)

theorem State.stagesInto.stageLane (h : s.stagesInto t) (x : Nat) (w : Word × Word) : s.stagesInto (t.stageLane x w) :=
  (h.cal _).stagedBit _ _ (stagingOffset_of_above (by simp; omega)) (by simp; omega)

/-- Of CAL_OSC, staging sets the STAGED bit alone. -/
theorem State.stagesInto.stageOsc (h : s.stagesInto t) (w : Word) : s.stagesInto (t.stageOsc w) := by
  obtain ⟨hhif, hregs, hactive⟩ := h
  have hosc : stagingOffset R.CAL_OSC := stagingOffset_of_below (by simp) (by simp)
  have hbit : BitVec.ofNat 32 (2 ^ 30) &&& 0xBFFFFFFF#32 = 0#32 := by decide
  refine ⟨hhif, fun p hp => (State.rd_wr_ne _ _ p _ fun e => hp (e ▸ hosc)).trans (hregs p hp), ?_⟩
  rw [State.stageOsc, State.stagedBit, State.rd_wr_same, State.rd_mk, BitVec.and_or_distrib_right, hbit, BitVec.or_zero, hactive]

/-- A record in range is staged. -/
theorem State.stagesInto.restoreRec (h : s.stagesInto t) (r : CalRec) (hr : r.ok = true) : s.stagesInto (t.restoreRec r) := by
  obtain ⟨-, hi, -⟩ := r.ok_iff.mp hr
  unfold State.restoreRec
  dsimp only
  split
  case h_1 hk => exact h.stageCurve _ _ (by rwa [hk] at hi)
  case h_2 hk => exact h.stageCurve _ _ (by rwa [hk] at hi)
  case h_3 hk =>
    rw [hk] at hi
    exact State.stagesInto.stageChSkew (forUp_invariant (P := fun _ => s.stagesInto) (a := 0)
      (fun k u hlt hu => hu.stageDac _ k _ hi (by omega)) h) _ _ hi
  case h_4 hk =>
    rw [hk] at hi
    exact forUp_invariant (P := fun _ => s.stagesInto) (a := 0) (fun p u hlt hu => hu.stageSlice _ p _ hi (by omega)) h
  case h_5 hk => exact h.stageHk _ _ (by rwa [hk] at hi)
  case h_6 => exact h.cal _
  case h_7 hk => exact h.stageTap _ _ (by rwa [hk] at hi)
  case h_8 => exact h.stageLane _ _
  case h_9 => exact h.stageOsc _

theorem State.stagesInto.restoreRecs (h : s.stagesInto t) (rs : List CalRec) (hrs : rs.all CalRec.ok = true) :
    s.stagesInto (rs.foldl State.restoreRec t) := by
  induction rs generalizing t with
  | nil => exact h
  | cons r rs ih =>
    rw [List.all_cons, Bool.and_eq_true] at hrs
    obtain ⟨hr, hrest⟩ := hrs
    exact ih (h.restoreRec r hr) hrest

end

/-! ### CAL_RESTORE -/

/-- The records of an accepted image are in range (R180). -/
theorem calParse_ok {force : Bool} {len : Nat} {l : List Byte} {rs : List CalRec} (h : calParse force len l = .inr rs) :
    rs.all CalRec.ok = true := by
  unfold calParse at h
  dsimp only at h
  split at h
  · cases h
  · split at h
    · cases h
    · split at h
      · cases h
      · next hok =>
        split at h
        · cases h
        · cases h
          simpa using hok

section
variable (s : State) (sq : Fin 32) (d : Desc) (buf : Buf)

/-- The state in which the records have been staged and the request has ended with their number (R180). -/
def State.restored (rs : List CalRec) : State :=
  (rs.foldl State.restoreRec (s.begun sq d)).finish (s.nextReq sq) 0 [BitVec.ofNat 32 rs.length] 0 false

section
variable (rs : List CalRec) (hrs : rs.all CalRec.ok = true)
include hrs

theorem State.restored_rd (o : Nat) (ho : 0x20000 ≤ o) (hkept : ¬ stagingOffset o) : (s.restored sq d rs).rd o = s.rd o := by
  obtain ⟨-, hregs, -⟩ := (State.stagesInto.refl (s.begun sq d)).restoreRecs rs hrs
  rw [State.restored, State.rd_finish_above _ (s.nextReq sq) _ _ _ _ o sq.isLt ho, hregs o hkept, s.begun_rd_above sq d o ho]

theorem State.restored_osc : (s.restored sq d rs).rd R.CAL_OSC &&& 0xBFFFFFFF#32 = s.rd R.CAL_OSC &&& 0xBFFFFFFF#32 := by
  obtain ⟨-, -, hactive⟩ := (State.stagesInto.refl (s.begun sq d)).restoreRecs rs hrs
  rw [State.restored, State.rd_finish_above _ (s.nextReq sq) _ _ _ _ _ sq.isLt (by simp), hactive, s.begun_rd_above sq d _ (by simp)]

theorem State.restored_lastDone (h : s.cqUp (s.boundCq sq) = true) :
    (s.restored sq d rs).lastDone sq = some (sq.val, d.tag, 0, [BitVec.ofNat 32 rs.length, 0, 0, 0]) := by
  obtain ⟨hhif, hregs, -⟩ := (State.stagesInto.refl (s.begun sq d)).restoreRecs rs hrs
  exact (s.ended _ sq d 0 _ 0 false sq.isLt hhif (fun o ho => hregs o fun hw => absurd hw.1 (by omega)) h).1

end

variable (hoff : s.offers sq d true buf.ok = true) (hop : d.opcode = 8)
include hoff hop

theorem exec_calRestore_busy (h : s.calBusy = true) : exec (.calRestore sq d buf) s = .next (s.answered sq d 0x0301 []) :=
  congrArg _ ((s.launch_offered sq d _ true buf.ok _ (by simp [hop]) hoff).trans (if_pos h))

/-- A request that is not turned away is answered by the check of its image. -/
theorem exec_calRestore_checked (h : s.calBusy = false) : exec (.calRestore sq d buf) s =
    .next (match calParse (bitOf (d.byte 20) 0) d.bufLen buf.data with
      | .inl c => s.answered sq d c []
      | .inr rs => s.restored sq d rs) := by
  exact congrArg _ ((s.launch_offered sq d _ true buf.ok _ (by simp [hop]) hoff).trans (if_neg (s.not_calBusy_begun sq d h)))

end

/-- Settles O25: the cases of each request, in the state in which its descriptor has begun. -/
theorem calibrationSaveAndRestore : Obligations.CalibrationSaveAndRestore := by
  intro s sq d buf hoff hbuf hup
  refine ⟨fun hop => ?save, fun hop => ⟨fun hbusy => ?_, fun c hfree hparse => ?_, fun rs hfree hparse => ?_⟩⟩
  case save =>
    have hoff' : s.offers sq d true true = true := by rwa [hbuf] at hoff
    refine ⟨fun hbusy => ⟨_, exec_calSave_busy s sq d buf hoff' hop hbusy, s.answered_lastDone sq d _ _ hup, s.answered_eq sq d _ _⟩,
      fun hfree => ?_⟩
    by_cases hlen : d.bufLen < (s.savedImage d).length
    · refine ⟨_, exec_calSave_short s sq d buf hoff' hop hfree hlen, s.answered_eq sq d _ _, s.answered_rd sq d _ _,
        (if_pos hlen).mpr ⟨s.answered_lastDone sq d _ _ hup, s.answered_posted sq d _ _⟩⟩
    · refine ⟨_, exec_calSave_written s sq d buf hoff' hop hfree hbuf hlen, s.delivered_eq sq d _ _, s.delivered_rd sq d _ _,
        (if_neg hlen).mpr ⟨s.delivered_lastDone sq d _ _ hup, s.delivered_posted sq d _ _⟩⟩
  · exact ⟨_, exec_calRestore_busy s sq d buf hoff hop hbusy, s.answered_lastDone sq d _ _ hup, by rw [s.answered_eq]⟩
  · have hexec := exec_calRestore_checked s sq d buf hoff hop hfree
    rw [hparse] at hexec
    exact ⟨_, hexec, s.answered_lastDone sq d _ _ hup, s.answered_eq sq d _ _, s.answered_rd sq d _ _⟩
  · have hexec := exec_calRestore_checked s sq d buf hoff hop hfree
    have hrs := calParse_ok hparse
    rw [hparse] at hexec
    refine ⟨_, hexec, s.restored_lastDone sq d rs hrs hup, State.finish_cal .., s.restored_osc sq d rs hrs, fun q hq => ?_,
      fun x hx w hw h0 => ?_⟩
    · exact s.restored_rd sq d rs hrs _ (by simp; omega) fun hstage => absurd hstage.1 (by simp; omega)
    · exact s.restored_rd sq d rs hrs _ (by simp; omega) fun hstage => hstage.2 x hx w hw h0 rfl

end Sys2Proof.Machine

/-! Tastings and staged values: how a measurement is repeated, staged or failed, and when a staged value comes into force
(08_calibration.md R163, R164, R171 to R173). -/

namespace Sys2Proof.Machine

/-! ### A run that goes on -/

/-- A saturating count, where the field lies within the register. -/
theorem State.fld_count_one (s : State) (o : Nat) (f : Fld) (hf : f.lo + f.w ≤ 32) :
    (s.count o f 1).fld o f = min (s.fld o f + 1) (2 ^ f.w - 1) := by
  have hlt : s.fld o f < 2 ^ f.w := Fld.get_lt _ _
  rw [State.count, State.fld_setF_same _ _ _ _ hf, satAdd]
  split
  · next h => rw [Nat.mod_eq_of_lt h, Nat.min_eq_left (by omega)]
  · rw [Nat.mod_eq_of_lt (by omega), Nat.min_eq_right (by omega)]

/-- What a run shows of itself lies in CAL_STATUS. -/
theorem State.showCal_differsAt (s : State) : s.differsAt (· = R.CAL_STATUS) s.showCal :=
  (((State.differsAt.refl _ s).setF _ _).setF _ _).setF _ _

theorem State.showCal_rd (s : State) (o : Nat) (h : o ≠ R.CAL_STATUS) : s.showCal.rd o = s.rd o := s.showCal_differsAt.2 o h

/-- The run's items after e. -/
def CalRun.without (r : CalRun) (e : Nat × Nat) : CalRun := { r with items := r.items.filter (· != e) }

theorem CalRun.not_mem_without (r : CalRun) (e : Nat × Nat) : e ∉ (r.without e).items := by
  simp [CalRun.without]

/-- The state in which a run goes on. -/
def State.running (s : State) (r : CalRun) : State := State.showCal { s with cal := { s.cal with run := some r } }

@[simp] theorem State.running_cal (s : State) (r : CalRun) : (s.running r).cal = { s.cal with run := some r } := rfl
@[simp] theorem State.running_flt (s : State) (r : CalRun) : (s.running r).flt = s.flt := rfl

theorem State.running_rd (s : State) (r : CalRun) (o : Nat) (h : o ≠ R.CAL_STATUS) : (s.running r).rd o = s.rd o :=
  State.showCal_rd _ o h

theorem State.running_fld (s : State) (r : CalRun) (o : Nat) (f : Fld) (h : o ≠ R.CAL_STATUS) : (s.running r).fld o f = s.fld o f := by
  rw [State.fld, s.running_rd r o h, State.fld]

theorem State.runOn_items (n : Nat) (r : CalRun) (s : State) (h : r.items ≠ []) : State.runOn (n + 1) r s = s.running r := if_pos h

section
variable (s : State) (r : CalRun) (e : Nat × Nat) (o : Nat) (f : Fld)

/-- A run with another item left goes on without the one that is done. -/
theorem State.runItem_goesOn (hrun : s.cal.run = some r) (he : e ∈ r.items) (hrest : (r.without e).items ≠ []) :
    s.runItem e o f = (s.count o f 1).running (r.without e) := by
  rw [State.runItem, hrun]
  exact (if_pos (List.contains_iff_mem.mpr he)).trans (State.runOn_items 16 _ _ hrest)

/-- An item that no run holds is counted by none. -/
theorem State.runItem_other (h : ∀ r, s.cal.run = some r → e ∉ r.items) : s.runItem e o f = s := by
  unfold State.runItem
  split
  · next r hrun => exact if_neg fun hc => h r hrun (List.contains_iff_mem.mp hc)
  · rfl

end

/-! ### The outcomes of a tasting -/

theorem State.triesOf_setTriesOf (s : State) (e : Nat × Nat) (n : Nat) : (s.setTriesOf e (n + 1)).triesOf e = n + 1 := by
  have hnone : (s.cal.tries.filter fun t => t.1 != e).find? (fun t => t.1 == e) = none := by simp
  simp [State.triesOf, State.setTriesOf, List.find?_append, hnone]

section
variable (s : State) (k i slice : Nat) (m1 m2 : List Int) (quality : Nat)

theorem State.tasted_repeated (hno : agrees (s.fld (R.CAL_TOL k) F.CAL_TOL_AGREE) (agreeOf k) m1 m2 = false)
    (htries : s.triesOf (k, i) < s.fld R.CAL_CTRL F.CAL_CTRL_RETRIES) :
    s.tasted k i slice m1 m2 quality = s.setTriesOf (k, i) (s.triesOf (k, i) + 1) := by
  refine if_pos ?_
  simp only [hno, Bool.not_false, Bool.true_and, decide_eq_true htries]

/-- Of a kind other than the slices. -/
theorem State.tasted_failed (hk : k ≠ 3) (hno : agrees (s.fld (R.CAL_TOL k) F.CAL_TOL_AGREE) (agreeOf k) m1 m2 = false)
    (htries : s.fld R.CAL_CTRL F.CAL_CTRL_RETRIES ≤ s.triesOf (k, i)) :
    s.tasted k i slice m1 m2 quality = ((s.setTriesOf (k, i) 0).raiseD 227 i k 0 0 []).runItem (k, i) R.CAL_SWEEP_DONE doneHi := by
  unfold State.tasted
  simp only [hno, decide_eq_false (Nat.not_lt.mpr htries), Bool.and_false, Bool.false_and, Bool.false_eq_true, if_false, hk]

theorem State.tasted_accepted (hk : k ≠ 3) (hyes : agrees (s.fld (R.CAL_TOL k) F.CAL_TOL_AGREE) (agreeOf k) m1 m2 = true)
    (hq : s.accepts k (qualityOf k m1 m2 quality) = true) :
    s.tasted k i slice m1 m2 quality = ((s.setTriesOf (k, i) 0).stageResult k i slice (qualityOf k m1 m2 quality) m1 m2).runItem (k, i)
      R.CAL_SWEEP_DONE doneLo := by
  have hq' : (s.setTriesOf (k, i) 0).accepts k (qualityOf k m1 m2 quality) = true := hq
  unfold State.tasted
  simp only [hyes, hq', Bool.not_true, Bool.false_and, Bool.and_self, Bool.false_eq_true, if_false, if_true, hk]

end

/-! ### The oscillator's tasting -/

section
variable (s : State) (p : Fin 25) (a b : Int) (q : Nat)

theorem agrees_osc (g : Nat) : agrees g (agreeOf 8) [a] [b] = decide ((a - b).natAbs ≤ g) := by
  simp [agrees, agreeOf]

theorem State.accepts_osc (h : q ≤ s.fld (R.CAL_TOL 8) F.CAL_TOL_ACCEPT) : s.accepts 8 (qualityOf 8 [a] [b] q) = true :=
  decide_eq_true h

/-- The mean that is staged for the oscillator, in ppb. -/
def oscMean : Word := BitVec.ofNat 32 (unsignedOf 24 (divRound (a + b) 2))

variable {s} {r : CalRun} (hrun : s.cal.run = some r) (hitem : (8, 0) ∈ r.items)
include hrun hitem

theorem exec_tastingMeasurementDone_osc :
    exec (.tastingMeasurementDone 8 0 p [a] [b] q) s = .next (s.tasted 8 0 p [a] [b] q) := by
  have htasting : s.tasting 8 0 = true := by
    simp [State.tasting, hrun, hitem]
  show execTastingMeasurementDone 8 0 p [a] [b] q s = _
  have hheld : ¬ (!s.tasting 8 0) = true := by
    rw [htasting]
    exact Bool.false_ne_true
  exact congrArg _ ((if_neg hheld).trans ((if_neg fun h => h.elim (fun h => absurd h.1 (by decide)) fun h => absurd h.1 (by decide)).trans
    (if_neg fun h => absurd h.1 (by decide))))

variable (hrest : (r.without (8, 0)).items ≠ [])
include hrest

/-- The last try without agreement: fault 227, and a failed item. -/
theorem exec_tastingMeasurementDone_osc_failed (hno : s.fld (R.CAL_TOL 8) F.CAL_TOL_AGREE < (a - b).natAbs)
    (htries : s.fld R.CAL_CTRL F.CAL_CTRL_RETRIES ≤ s.triesOf (8, 0)) :
    exec (.tastingMeasurementDone 8 0 p [a] [b] q) s = .next
      ((((s.setTriesOf (8, 0) 0).raiseD 227 0 8 0 0 []).count R.CAL_SWEEP_DONE doneHi 1).running (r.without (8, 0))) := by
  rw [exec_tastingMeasurementDone_osc p a b q hrun hitem, s.tasted_failed 8 0 p _ _ q (by decide)
    ((agrees_osc a b _).trans (decide_eq_false (Nat.not_le.mpr hno))) htries,
    State.runItem_goesOn _ r _ _ _ (by rw [State.raiseD_cal]; exact hrun) hitem hrest]

/-- Measurements that agree: their mean staged, and an accepted item. -/
theorem exec_tastingMeasurementDone_osc_accepted (hyes : (a - b).natAbs ≤ s.fld (R.CAL_TOL 8) F.CAL_TOL_AGREE)
    (hq : q ≤ s.fld (R.CAL_TOL 8) F.CAL_TOL_ACCEPT) :
    exec (.tastingMeasurementDone 8 0 p [a] [b] q) s = .next
      ((((s.setTriesOf (8, 0) 0).stageOsc (oscMean a b)).count R.CAL_SWEEP_DONE doneLo 1).running (r.without (8, 0))) := by
  have hstage : (s.setTriesOf (8, 0) 0).stageResult 8 0 p (qualityOf 8 [a] [b] q) [a] [b] =
      (s.setTriesOf (8, 0) 0).stageOsc (oscMean a b) := rfl
  rw [exec_tastingMeasurementDone_osc p a b q hrun hitem, s.tasted_accepted 8 0 p _ _ q (by decide)
    ((agrees_osc a b _).trans (decide_eq_true hyes)) (s.accepts_osc a b q hq), hstage,
    State.runItem_goesOn ((s.setTriesOf (8, 0) 0).stageOsc (oscMean a b)) r _ _ _ hrun hitem hrest]

end

/-! ### HK_SELF_TASTING -/

section
variable (s : State) (m : Fin 8) (g1 o1 g2 o2 : Int) (q : Nat)

/-- The value that is staged for a housekeeping slice: quality, gain and offset, from measurements in half LSB (R171). -/
def hkValue : Word :=
  BitVec.ofNat 32 (min q 255 * 65536 + unsignedOf 8 (divRound (g1 + g2) 4) * 256 + unsignedOf 8 (divRound (o1 + o2) 4))

theorem State.stageResult_hk (i slice : Nat) : s.stageResult 4 i slice q [o1, g1] [o2, g2] = s.stageHk i (hkValue g1 o1 g2 o2 q) := by
  rw [hkValue, Nat.add_assoc]
  rfl

theorem exec_hkSelfTasting_accepted (hpos : (s.hkSlice m).pos = none) (htrig : (s.hkSlice m).pendingTrig = false)
    (hinj : (s.hkSlice m).inj = none) (hnext : s.nextInj (.hk m) = none) (hrun : ∀ r, s.cal.run = some r → (4, m.val) ∉ r.items)
    (ho : (o1 - o2).natAbs ≤ s.fld (R.CAL_TOL 4) F.CAL_TOL_AGREE) (hg : (g1 - g2).natAbs ≤ s.fld (R.CAL_TOL 4) F.CAL_TOL_AGREE)
    (hq : q ≤ s.fld (R.CAL_TOL 4) F.CAL_TOL_ACCEPT) :
    exec (.hkSelfTasting m [o1, g1] [o2, g2] q) s = .next ((s.setTriesOf (4, m.val) 0).stageHk m (hkValue g1 o1 g2 o2 q)) := by
  have hyes : agrees (s.fld (R.CAL_TOL 4) F.CAL_TOL_AGREE) (agreeOf 4) [o1, g1] [o2, g2] = true := by
    simp [agrees, agreeOf, ho, hg]
  have hstage : (s.setTriesOf (4, m.val) 0).stageResult 4 m 0 (qualityOf 4 [o1, g1] [o2, g2] q) [o1, g1] [o2, g2] =
      (s.setTriesOf (4, m.val) 0).stageHk m (hkValue g1 o1 g2 o2 q) := State.stageResult_hk _ g1 o1 g2 o2 q m 0
  show execHkSelfTasting m [o1, g1] [o2, g2] q s = _
  unfold execHkSelfTasting
  dsimp only
  rw [if_pos (by simp [hpos, htrig, hinj, hnext]), s.tasted_accepted 4 m 0 _ _ q (by decide) hyes (decide_eq_true hq), hstage,
    State.runItem_other ((s.setTriesOf (4, m.val) 0).stageHk m _) _ _ _ hrun]

end

/-! ### STAGED_VALUE_IN_FORCE -/

section
variable (s : State) (w : Word)

theorem exec_stagedValueInForce_osc (h : s.cal.osc = some w) : exec (.stagedValueInForce .osc) s =
    .next (if s.now % 1000 = 0 then { s.wr R.CAL_OSC w with cal := { s.cal with osc := none } } else s) := by
  show execStagedValueInForce .osc s = _
  unfold execStagedValueInForce
  simp only [h]

theorem exec_stagedValueInForce_hk (m : Fin 8) (h : Tab.get (fun _ => none) s.cal.hk m.val = some w) :
    exec (.stagedValueInForce (.hk m)) s = .next (if (s.hkSlice m).pos = some 0 then
      { s.wr (R.CAL_HK m) w with cal := { s.cal with hk := Tab.set (fun _ => none) s.cal.hk m.val none } } else s) := by
  show execStagedValueInForce (.hk m) s = _
  unfold execStagedValueInForce
  simp only [h]

/-- A sequencer skew at a tick while no sequencer runs and no rack is past its commit point. -/
theorem exec_stagedValueInForce_seqSkew (q : Fin 17) (h : Tab.get (fun _ => none) s.cal.seqSkew q.val = some w) (hnow : s.now % 1000 = 0)
    (hseq : ∀ k < 16, s.seqState k = 0) (hrack : ∀ r, s.rack.run = some r → r.window = false) :
    exec (.stagedValueInForce (.seqSkew q)) s = .next
      { s.wr (R.SEQ_SKEW q) w with cal := { s.cal with seqSkew := Tab.set (fun _ => none) s.cal.seqSkew q.val none } } := by
  have hidle : ((List.range 16).any fun k => s.seqState k != 0) = false := by
    rw [List.any_eq_false]
    exact fun k hk => by simp [hseq k (List.mem_range.mp hk)]
  have hwindow : (s.rack.run.map RackRun.window).getD false = false := by
    cases hrun : s.rack.run with
    | none => rfl
    | some r => exact hrack r hrun
  show execStagedValueInForce (.seqSkew q) s = _
  unfold execStagedValueInForce
  simp only [h, hidle, hwindow, hnow, Bool.or_self, Bool.not_false, and_self, if_true]

end

/-- Settles O23: the outcomes of a tasting, and the instant of each kind of staged value. -/
theorem calibrationValues : Obligations.CalibrationValues := by
  refine ⟨fun s r p a b q x l hrun hitems hx => ?osc, fun s m g1 o1 g2 o2 q hpos htrig hinj hnext hrun ho hg hq => ?hk,
    fun s w => ⟨fun h => ⟨fun hnow => ?_, fun hnow => ?_⟩, fun m h => ⟨fun hplace => ?_, fun hplace => ?_⟩,
      fun q h hnow hseq hrack => ?_⟩⟩
  case osc =>
    have hitem : (8, 0) ∈ r.items := by simp [hitems]
    have hrest : (r.without (8, 0)).items ≠ [] := by
      refine List.ne_nil_of_mem (a := x) ?_
      simp [CalRun.without, hitems, hx]
    refine ⟨fun hno => ⟨fun htries => ?_, fun htries => ?_⟩, fun hyes hq => ?_⟩
    · refine ⟨_, exec_tastingMeasurementDone_osc p a b q hrun hitem, ?_⟩
      rw [s.tasted_repeated 8 0 p _ _ q ((agrees_osc a b _).trans (decide_eq_false (Nat.not_le.mpr hno))) htries]
      exact ⟨s.triesOf_setTriesOf _ _, rfl⟩
    · refine ⟨_, exec_tastingMeasurementDone_osc_failed p a b q hrun hitem hrest hno htries, ?_, ?_, ?_, r.not_mem_without _⟩
      · exact (congrArg CalSt.osc (State.raiseD_cal (s.setTriesOf (8, 0) 0) 227 0 8 0 0 []) :)
      · have hflt := State.raiseD_flt (s.setTriesOf (8, 0) 0) 227 0 8 0 0 []
        rw [State.running_flt, State.count, State.setF, State.wr_flt, hflt]
        simp
      · rw [State.running_fld _ _ _ _ (by simp), State.fld_count_one _ _ _ (by decide), State.fld_raiseD]
        rfl
    · refine ⟨_, exec_tastingMeasurementDone_osc_accepted p a b q hrun hitem hrest hyes hq, rfl, ?_, ?_, r.not_mem_without _⟩
      · rw [State.running_rd _ _ _ (by simp), State.count, State.rd_setF_ne _ _ _ _ _ (by simp)]
        exact State.rd_wr_same ..
      · rw [State.running_fld _ _ _ _ (by simp), State.fld_count_one _ _ _ (by decide), State.stageOsc, State.stagedBit,
          State.fld_wr_ne _ _ _ _ _ (by simp)]
        rfl
  case hk =>
    refine ⟨_, exec_hkSelfTasting_accepted s m g1 o1 g2 o2 q hpos htrig hinj hnext hrun ho hg hq,
      Tab.get_set_same (fun _ => none) s.cal.hk m.val (some (hkValue g1 o1 g2 o2 q)), State.rd_wr_same .., fun o ho' => ?_⟩
    exact State.rd_wr_ne _ _ o _ (by simpa using ho')
  · rw [exec_stagedValueInForce_osc s w h, if_pos hnow]
  · rw [exec_stagedValueInForce_osc s w h, if_neg hnow]
  · exact ⟨_, (exec_stagedValueInForce_hk s w m h).trans (congrArg _ (if_pos hplace)), State.rd_wr_same ..,
      Tab.get_set_same (fun _ => none) s.cal.hk m.val none, fun o ho => State.rd_wr_ne s _ o w (by simpa using ho)⟩
  · rw [exec_stagedValueInForce_hk s w m h, if_neg hplace]
  · exact ⟨_, exec_stagedValueInForce_seqSkew s w q h hnow hseq hrack, State.rd_wr_same ..,
      Tab.get_set_same (fun _ => none) s.cal.seqSkew q.val none, fun o ho => State.rd_wr_ne s _ o w (by simpa using ho)⟩

end Sys2Proof.Machine

/-! CAL_RUN_ABORT of a run whose request names no submission ring (08_calibration.md R175, R177; 14_host_interface.md R304). -/

namespace Sys2Proof.Machine

/-- CAL_RUN with OP 1. -/
def abortDesc : Desc := BitVec.ofNat 512 (6 + 2 ^ 160)

/-- A run of the oscillator for a request of ring 585,712, past the 32 submission rings: the status register of that ring would lie at
CAL_SWEEP_SKIPS. -/
def strayRun : CalRun := { req := ⟨585712, 1⟩, kind := 8, items := [(8, 0)], block := 0, left := false, ref10m := true }

/-- Ring 0 offers the abort while that run is in progress, its request in execution; CAL_SWEEP_SKIPS holds a count. -/
def strayRunState : State :=
  let s := { State.reset with
    hif := { Hif.zero with bme := true, linkUp := true, sq := [(0, ⟨[abortDesc], none, 1⟩), (585712, ⟨[], some (1, abortDesc), 0⟩)] }
    cal := { CalSt.zero with run := some strayRun } }
  let s := (s.setF R.HIF_CTRL F.HIF_CTRL_EN 1).setF R.HIF_CTRL F.HIF_CTRL_READY 1
  let s := (s.setF (R.HIF_SQ_CFG 0) F.HIF_SQ_CFG_EN 1).setF (R.HIF_CQ_CFG 0) F.HIF_CQ_CFG_EN 1
  s.setF R.CAL_SWEEP_SKIPS F.CAL_SWEEP_SKIPS_LIVE 0x4000

theorem strayRunState_offers : strayRunState.offers 0 abortDesc false true = true ∧ strayRunState.cqUp (strayRunState.boundCq 0) = true := by
  decide +kernel

/-- The end of the run's request sets BUSY of its ring to 0, bit 30 of CAL_SWEEP_SKIPS. -/
theorem exec_calRunAbort_strayRun : ∃ t, exec (.calRunAbort 0 abortDesc) strayRunState = .next t ∧
    t.rd R.CAL_SWEEP_SKIPS = 0 ∧ strayRunState.rd R.CAL_SWEEP_SKIPS = 0x40000000 :=
  ⟨_, rfl, by decide +kernel, by decide +kernel⟩

/-- Refutes O22: its clause on CAL_RUN_ABORT of another ring's run does not bound that ring by the 32 of R304. The end of a run that names
ring 585,712 writes that ring's status at CAL_SWEEP_SKIPS, which the clause says is kept. -/
theorem not_calibrationRuns : ¬ Obligations.CalibrationRuns := by
  intro h
  obtain ⟨hoffers, hup⟩ := strayRunState_offers
  obtain ⟨-, habort⟩ := h strayRunState 0 abortDesc false hoffers (by decide +kernel) hup
  obtain ⟨hother, -⟩ := habort (by decide +kernel)
  obtain ⟨t, ht, -, -, -, hkept⟩ := hother strayRun rfl (by decide)
  obtain ⟨u, hu, hafter, hbefore⟩ := exec_calRunAbort_strayRun
  obtain rfl : t = u := by rw [ht] at hu; injection hu
  have hsame := hkept R.CAL_SWEEP_SKIPS (by decide) (by decide)
  rw [hafter, hbefore] at hsame
  exact absurd hsame (by decide)

end Sys2Proof.Machine

/-! Frames through the pipelines: what Cooper leaves alone while a frame is handed to it, what a decision does to a frame, and how a frame
enters, is answered and ends (09_frame_pipeline.md R184 to R205; 10_tables.md R211, R212; 11_scheduling.md R243, R247). -/

namespace Sys2Proof.Machine

/-! ### Pipelines of ports -/

theorem pipeOf_lt (p : Nat) (hp : p < 96) : pipeOf p < 4 := by
  unfold pipeOf
  split <;> omega

/-! ### What Cooper leaves alone -/

/-- t holds the frames, the reads in progress, the cache lines and the error counters of the pipelines that s holds. -/
def State.keepsFrames (s t : State) : Prop :=
  t.pk.frames = s.pk.frames ∧ t.pk.reads = s.pk.reads ∧ t.pk.cache = s.pk.cache ∧
    ∀ n < 4, t.rd (R.PIPE_COUNT_ERR n) = s.rd (R.PIPE_COUNT_ERR n)

section
variable {s t u : State}

theorem State.keepsFrames.refl (s : State) : s.keepsFrames s := ⟨rfl, rfl, rfl, fun _ _ => rfl⟩

theorem State.keepsFrames.trans (hst : s.keepsFrames t) (htu : t.keepsFrames u) : s.keepsFrames u := by
  obtain ⟨hf, hr, hc, he⟩ := hst
  obtain ⟨kf, kr, kc, ke⟩ := htu
  exact ⟨kf.trans hf, kr.trans hr, kc.trans hc, fun n hn => (ke n hn).trans (he n hn)⟩

/-- A write of other parts of the state. -/
theorem State.keepsFrames.of_eq (h : s.keepsFrames t) (hf : u.pk.frames = t.pk.frames) (hr : u.pk.reads = t.pk.reads)
    (hc : u.pk.cache = t.pk.cache) (hg : u.regs = t.regs) : s.keepsFrames u :=
  h.trans ⟨hf, hr, hc, fun n _ => by rw [State.rd, hg, State.rd]⟩

theorem State.keepsFrames.setF (h : s.keepsFrames t) (o : Nat) (f : Fld) (k : Nat) (ho : ∀ n < 4, R.PIPE_COUNT_ERR n ≠ o) :
    s.keepsFrames (t.setF o f k) :=
  h.trans ⟨rfl, rfl, rfl, fun n hn => State.rd_setF_ne t o _ f k (ho n hn)⟩

theorem State.keepsFrames.count (h : s.keepsFrames t) (o : Nat) (f : Fld) (k : Nat) (ho : ∀ n < 4, R.PIPE_COUNT_ERR n ≠ o) :
    s.keepsFrames (t.count o f k) :=
  h.setF o f _ ho

theorem State.keepsFrames.countPair (h : s.keepsFrames t) (i a b : Nat) : s.keepsFrames (t.countPair i a b) := by
  unfold State.countPair
  split
  · exact h
  split
  · exact h.of_eq rfl rfl rfl rfl
  split
  · split
    · exact h.of_eq rfl rfl rfl rfl
    · exact h.of_eq rfl rfl rfl rfl
  · exact h.of_eq rfl rfl rfl rfl

theorem State.keepsFrames.countFrame (h : s.keepsFrames t) (f : Fr) : s.keepsFrames (t.countFrame f) :=
  foldl_keep (P := s.keepsFrames) (fun _ _ hv => hv.countPair _ _ _) h

@[simp] theorem State.setFree_pk (s : State) (k : Nat) : (s.setFree k).pk = s.pk := by
  unfold State.setFree
  exact keep_ite (P := fun v => v.pk = s.pk) rfl rfl

theorem State.keepsFrames.setFree (h : s.keepsFrames t) (k : Nat) : s.keepsFrames (t.setFree k) := by
  have hfree := h.setF R.SCH_BUF_STATUS F.SCH_BUF_STATUS_FREE_CELLS k (by simp; omega)
  unfold State.setFree
  exact keep_ite (hfree.setF _ _ _ (by simp; omega)) hfree

theorem State.keepsFrames.setPortOcc (h : s.keepsFrames t) (p k : Nat) : s.keepsFrames (t.setPortOcc p k) :=
  h.setF _ _ _ (by simp; omega)

theorem State.keepsFrames.charge (h : s.keepsFrames t) (p : Nat) (c : Copy) : s.keepsFrames (t.charge p c) := by
  have hocc := h.setPortOcc p (t.portOcc p + cellsOf c.data)
  unfold State.charge
  exact keep_ite (hocc.of_eq rfl rfl rfl rfl) ((hocc.setFree _).of_eq (by simp) (by simp) (by simp) rfl)

theorem State.keepsFrames.discharge (h : s.keepsFrames t) (p : Nat) (c : Copy) : s.keepsFrames (t.discharge p c) := by
  have hocc := h.setPortOcc p (t.portOcc p - cellsOf c.data)
  unfold State.discharge
  dsimp only
  split
  · exact keep_ite ((hocc.setFree _).of_eq (by simp) (by simp) (by simp) rfl) (hocc.of_eq rfl rfl rfl rfl)
  · exact hocc

theorem State.keepsFrames.countDrop (h : s.keepsFrames t) (q : Nat) (c : Copy) : s.keepsFrames (t.countDrop q c) := by
  unfold State.countDrop
  dsimp only
  split
  · exact (h.countPair _ _ _).countPair _ _ _
  · exact h.countPair _ _ _

theorem State.keepsFrames.setQueue (h : s.keepsFrames t) (q : Nat) (l : List Copy) : s.keepsFrames (t.setQueue q l) :=
  h.of_eq rfl rfl rfl rfl

theorem State.keepsFrames.setChild (h : s.keepsFrames t) (n : Nat) (c : Child) : s.keepsFrames (t.setChild n c) :=
  h.of_eq rfl rfl rfl rfl

theorem State.keepsFrames.dropOversizeQ (h : s.keepsFrames t) (p q n : Nat) : s.keepsFrames (t.dropOversizeQ p q n) := by
  induction n generalizing t with
  | zero => exact h
  | succ n ih =>
    unfold State.dropOversizeQ
    split
    · split
      · split
        · exact ih ((((h.setQueue _ _).discharge _ _).countDrop _ _).count _ _ _ (by simp; omega))
        · exact h
      · exact h
    · exact h

theorem State.keepsFrames.dropOversize (h : s.keepsFrames t) (p : Nat) : s.keepsFrames (t.dropOversize p) :=
  keep_ite (foldl_keep (P := s.keepsFrames) (fun _ _ hv => hv.dropOversizeQ _ _ _) h) h

end

/-- Entering contention writes the children of nodes alone. -/
def State.childrenOnly (s t : State) : Prop := ∃ l, t = { s with pk := { s.pk with child := l } }

theorem State.childrenOnly.refl (s : State) : s.childrenOnly s := ⟨_, rfl⟩

theorem State.childrenOnly.setChild {s t : State} (h : s.childrenOnly t) (n : Nat) (c : Child) : s.childrenOnly (t.setChild n c) := by
  obtain ⟨l, rfl⟩ := h
  exact ⟨_, rfl⟩

theorem State.childrenOnly.enter {s t : State} (h : s.childrenOnly t) (n p w l : Nat) : s.childrenOnly (t.enter n p w l) := by
  unfold State.enter
  exact keep_ite h (h.setChild _ _)

/-- Beyond frames too long for the gates, contention changes the children of nodes alone. -/
theorem State.contend_childrenOnly (s : State) (p : Nat) : (s.dropOversize p).childrenOnly (s.contend p) := by
  unfold State.contend
  refine foldl_keep (P := (s.dropOversize p).childrenOnly) (fun _ _ h => h.enter _ _ _ _) ?_
  refine foldl_keep (P := (s.dropOversize p).childrenOnly) (fun _ _ h => h.enter _ _ _ _) ?_
  refine foldl_keep (P := (s.dropOversize p).childrenOnly) (fun _ _ h => h.enter _ _ _ _) ?_
  exact foldl_keep (P := (s.dropOversize p).childrenOnly) (fun _ _ h => h.setChild _ _) (.refl _)

/-- Without gates, no frame is too long for them. -/
theorem State.dropOversize_ungated (s : State) (p : Nat) (h : s.gateOn p = false) : s.dropOversize p = s := by
  simp [State.dropOversize, h]

theorem State.contend_ungated (s : State) (p : Nat) (h : s.gateOn p = false) : s.childrenOnly (s.contend p) := by
  have := s.contend_childrenOnly p
  rwa [s.dropOversize_ungated p h] at this

section
variable {s t : State}

theorem State.keepsFrames.contend (h : s.keepsFrames t) (p : Nat) : s.keepsFrames (t.contend p) := by
  obtain ⟨l, hl⟩ := t.contend_childrenOnly p
  generalize t.contend p = u at hl
  subst hl
  exact (h.dropOversize p).of_eq rfl rfl rfl rfl

theorem State.keepsFrames.enqueue (h : s.keepsFrames t) (p q : Nat) (c : Copy) : s.keepsFrames (t.enqueue p q c).1 := by
  unfold State.enqueue
  split
  · exact keep_mk1 (P := s.keepsFrames) (((h.charge p c).setQueue q _).contend p)
  · exact keep_mk1 (P := s.keepsFrames) ((h.countDrop q c).count _ _ _ (by simp; omega))

theorem State.keepsFrames.mirrorCopy (h : s.keepsFrames t) (m : Nat) (e : Option Nat) (p : Nat) (l : List Byte) :
    s.keepsFrames (t.mirrorCopy m e p l) := by
  have hid : s.keepsFrames t.freshId.2 := h.of_eq rfl rfl rfl rfl
  unfold State.mirrorCopy
  exact keep_ite (hid.countPair _ _ _) (hid.enqueue _ _ _)

theorem State.keepsFrames.mirrorAt (h : s.keepsFrames t) (pt port mask : Nat) (e : Option Nat) (p : Nat) (l : List Byte) :
    s.keepsFrames (t.mirrorAt pt port mask e p l) :=
  forUp_keep (P := s.keepsFrames) (fun _ _ hv => keep_ite (hv.mirrorCopy _ _ _ _) hv) h

theorem State.keepsFrames.tsqPut (h : s.keepsFrames t) (n : Nat) (hn : n < 4) (l : List Word) : s.keepsFrames (t.tsqPut n l) := by
  unfold State.tsqPut State.setTsq
  refine keep_ite (h.count _ _ _ (by simp; omega)) ?_
  exact (h.of_eq (u := { t with tim := _ }) rfl rfl rfl rfl).setF _ _ _ (by simp; omega)

theorem State.keepsFrames.ptpRecord (h : s.keepsFrames t) (dir p o i : Nat) (hp : p < 96) (l : List Byte) :
    s.keepsFrames (t.ptpRecord dir p o i l) := by
  unfold State.ptpRecord
  exact (keep_ite h (h.of_eq (u := t.drawn) rfl rfl rfl rfl)).tsqPut _ (pipeOf_lt p hp) _

theorem State.keepsFrames.tcCorrect (h : s.keepsFrames t) (p : Nat) (c : Copy) (o i : Nat) (hp : p < 96) :
    s.keepsFrames (t.tcCorrect p c o i).1 := by
  have hn := pipeOf_lt p hp
  unfold State.tcCorrect
  split
  · exact h.count _ _ _ (by simp; omega)
  · exact h.count _ _ _ (by simp; omega)

end

/-! ### Transmission -/

/-- The tree takes a copy out of queue q: virtual times, contention and buckets of the nodes above it (R240 to R242). -/
def State.treeTaken (s : State) (p q : Nat) (c : Copy) : State :=
  let sub := q / 8
  let svc := subParent s.pk.sch sub
  let s1 := s.setVtime (subNode sub) (s.child (queueNode q)).fin
  let s2 := s1.setVtime (svcNode svc) (s1.child (subNode sub)).fin
  let s3 := s2.setVtime p (s2.child (svcNode svc)).fin
  let again (n : Nat) (s : State) : State := s.setChild n { s.child n with inC := false }
  let s4 := again (queueNode q) (again (subNode sub) (again (svcNode svc) s3))
  ((s4.debitNode (subNode sub) (s.wireLen p c)).debitNode (svcNode svc) (s.wireLen p c)).debitNode p (s.wireLen p c)

/-- The egress pipeline corrects and records a PTP frame (R275, R276); the bytes that leave. -/
def State.stamped (s : State) (p : Nat) (c : Copy) (i : Nat) : State × List Byte :=
  c.ptp.elim (s, c.data) fun o =>
    let r := s.tcCorrect p c o i
    (if r.1.flag (R.TIM_PORT p) F.TIM_PORT_REC_EG then r.1.ptpRecord 1 p o i r.2 else r.1, r.2)

/-- A copy is on the wire: port p is busy until the instant e (R244). -/
def State.onWire (s : State) (p : Nat) (c : Copy) (i e : Nat) (l : List Byte) : State :=
  { s with pk := { s.pk with sent := s.pk.sent ++ [⟨c.fid, p, l, crc32 l, i⟩], txEnd := Tab.set (fun _ => 0) s.pk.txEnd p e } }

/-- The copy that left is counted, and mirrored unless it is a mirror copy (R253, R255). -/
def State.counted (s : State) (p : Nat) (c : Copy) (l : List Byte) : State :=
  c.mirror.elim (s.mirrorAt 2 p c.mask (some p) c.inPort l) fun m => s.countPair (262144 + m) 1 (frameLen l)

theorem State.transmit_eq (s : State) (p q : Nat) (c : Copy) (i : Nat) : s.transmit p q c i =
    (((((((s.treeTaken p q c).stamped p c i).1.onWire p c i (i + ((s.treeTaken p q c).stamped p c i).1.wireNs p (s.wireLen p c))
      ((s.treeTaken p q c).stamped p c i).2).countPair q 1 (frameLen ((s.treeTaken p q c).stamped p c i).2)).discharge p c).counted
      p c ((s.treeTaken p q c).stamped p c i).2).contend p) := by
  unfold State.transmit State.counted State.stamped
  cases c.ptp <;> cases c.mirror <;> rfl

section
variable {s t : State}

theorem State.keepsFrames.setVtime (h : s.keepsFrames t) (n v : Nat) : s.keepsFrames (t.setVtime n v) := h.of_eq rfl rfl rfl rfl

theorem State.keepsFrames.debitNode (h : s.keepsFrames t) (n l : Nat) : s.keepsFrames (t.debitNode n l) := h.of_eq rfl rfl rfl rfl

theorem State.keepsFrames.treeTaken (h : s.keepsFrames t) (p q : Nat) (c : Copy) : s.keepsFrames (t.treeTaken p q c) :=
  have hvirtual := ((h.setVtime _ _).setVtime _ _).setVtime _ _
  have hchildren := ((hvirtual.setChild _ _).setChild _ _).setChild _ _
  ((hchildren.debitNode _ _).debitNode _ _).debitNode _ _

theorem State.keepsFrames.stamped (h : s.keepsFrames t) (p : Nat) (c : Copy) (i : Nat) (hp : p < 96) :
    s.keepsFrames (t.stamped p c i).1 := by
  unfold State.stamped
  cases c.ptp with
  | none => exact h
  | some o => exact keep_ite ((h.tcCorrect p c o i hp).ptpRecord _ _ _ _ hp _) (h.tcCorrect p c o i hp)

theorem State.keepsFrames.counted (h : s.keepsFrames t) (p : Nat) (c : Copy) (l : List Byte) : s.keepsFrames (t.counted p c l) := by
  unfold State.counted
  cases c.mirror with
  | none => exact h.mirrorAt _ _ _ _ _ _
  | some m => exact h.countPair _ _ _

theorem State.keepsFrames.transmit (h : s.keepsFrames t) (p q : Nat) (c : Copy) (i : Nat) (hp : p < 96) :
    s.keepsFrames (t.transmit p q c i) := by
  rw [State.transmit_eq]
  have htree := h.treeTaken p q c
  have hwire (e : Nat) (l : List Byte) : s.keepsFrames (((t.treeTaken p q c).stamped p c i).1.onWire p c i e l) :=
    (htree.stamped p c i hp).of_eq rfl rfl rfl rfl
  exact ((((hwire _ _).countPair _ _ _).discharge _ _).counted _ _ _).contend _

end

/-! ### Decision and policing -/

section
variable {s t : State}

theorem State.keepsFrames.polMove (h : s.keepsFrames t) (i : Nat) (a b : Int) : s.keepsFrames (t.polMove i a b) :=
  h.of_eq rfl rfl rfl rfl

theorem State.portEnabled_lt {p : Nat} (h : s.portEnabled p = true) : p < 96 := by
  simp only [State.portEnabled, Bool.and_eq_true, decide_eq_true_eq] at h
  exact h.1.1

theorem State.usable_lt {f : Fr} {l : List Nat} {p : Nat} (h : p ∈ s.usable f l) : p < 96 := by
  simp only [State.usable, List.mem_filter, Bool.and_eq_true] at h
  exact State.portEnabled_lt h.2.2

/-- Only packet ports are in the egress set of an outcome. -/
def Outc.portsBelow (o : Outc) : Prop := ∀ p ∈ o.ports, p < 96

theorem Outc.none_portsBelow : Outc.none.portsBelow := fun p hp => by cases hp

theorem Outc.dropped_portsBelow (l : List Nat) : (Outc.dropped l).portsBelow := fun p hp => by cases hp

/-- A decision counts, at most, and sends to packet ports alone. -/
def State.decidesFrom (s : State) (r : State × Outc × Option Nat) : Prop := s.keepsFrames r.1 ∧ r.2.1.portsBelow

theorem State.decidesFrom_ite {c : Prop} [Decidable c] {a b : State × Outc × Option Nat} (ha : s.decidesFrom a)
    (hb : s.decidesFrom b) : s.decidesFrom (if c then a else b) := by
  split <;> assumption

theorem State.decision_decidesFrom (s : State) (f : Fr) : s.decidesFrom (s.decision f) := by
  unfold State.decision
  extract_lets n noEgress a b _ e e' _ _
  have hno (l : List Nat) : s.decidesFrom (noEgress l) :=
    ⟨(State.keepsFrames.refl s).count _ _ _ (by simp; omega), Outc.dropped_portsBelow l⟩
  have hdropped (l : List Nat) : s.decidesFrom (s, Outc.dropped l, none) := ⟨.refl s, Outc.dropped_portsBelow l⟩
  have hlimit : s.decidesFrom (s.count (R.TBL_PORT_COUNT f.port) F.TBL_PORT_COUNT_LIMIT_HITS 1, Outc.none, none) :=
    ⟨(State.keepsFrames.refl s).count _ _ _ (by simp; omega), Outc.none_portsBelow⟩
  have hnone : s.decidesFrom (s, Outc.none, none) := ⟨.refl s, Outc.none_portsBelow⟩
  refine State.decidesFrom_ite hnone <| State.decidesFrom_ite hlimit <| State.decidesFrom_ite (hdropped _) <|
    State.decidesFrom_ite (hdropped _) <| State.decidesFrom_ite (hno _) <| State.decidesFrom_ite (hdropped _) <|
    State.decidesFrom_ite (hno _) ⟨.refl s, fun p (hp : p ∈ e') => ?_⟩
  by_cases hb : (bitOf b 62 && !bitOf a 62) = true
  · exact State.usable_lt (show p ∈ s.usable f _ by rwa [show e' = _ from if_pos hb] at hp)
  · exact State.usable_lt (show p ∈ s.usable f _ by rwa [show e' = e from if_neg hb] at hp)

theorem State.keepsFrames.police (h : s.keepsFrames t) (i l : Nat) (o : Outc) : s.keepsFrames (t.police i l o).1 := by
  have hdrawn : s.keepsFrames t.drawn := h.of_eq rfl rfl rfl rfl
  unfold State.police
  extract_lets _ _ _ _ _ _ v u
  have hu : s.keepsFrames u := State.keepsFrames.polMove (keep_ite hdrawn h) _ _ _
  split <;> exact hu

theorem State.police_portsBelow (s : State) (i l : Nat) (o : Outc) (h : o.portsBelow) : (s.police i l o).2.portsBelow := by
  unfold State.police
  extract_lets
  split
  · exact h
  · exact fun p hp => by cases hp

theorem State.outcome_spec (s : State) (f : Fr) : s.keepsFrames (s.outcome f).1 ∧ (s.outcome f).2.portsBelow := by
  obtain ⟨hkept, hports⟩ := s.decision_decidesFrom f
  unfold State.outcome
  split
  · next u o i heq =>
    rw [heq] at hkept hports
    exact ⟨hkept.police _ _ _, State.police_portsBelow _ _ _ _ hports⟩
  · next u o heq =>
    rw [heq] at hkept hports
    exact ⟨hkept, hports⟩

end

/-! ### A frame past its decision -/

/-- The stages of a frame that neither waits nor is parked. -/
def FStage.past (g : FStage) : Prop := g = .decided ∨ g = .cut ∨ g = .dropped

/-- A frame with its outcome, at a stage. -/
def Fr.decidedAs (f : Fr) (o : Outc) (g : FStage) : Fr := { f with out := o, stage := g }

theorem State.handOff_spec (s : State) (f : Fr) (h : f.out.portsBelow) :
    s.keepsFrames (s.handOff f).1 ∧ ∃ g, g.past ∧ (s.handOff f).2 = f.decidedAs f.out g := by
  unfold State.handOff
  split
  · next p hp =>
    have hlt : p < 96 := h p (by rw [hp]; exact List.mem_singleton_self p)
    extract_lets q c i
    split
    · split
      next u ok heq =>
      have hu : s.keepsFrames u := keep_fst heq (((State.keepsFrames.refl s).countFrame f).enqueue p q c)
      split
      · exact ⟨keep_mk1 (P := s.keepsFrames) ((hu.setQueue q _).transmit p q c i hlt), _, .inr (.inl rfl), rfl⟩
      · exact ⟨hu, _, .inr (.inr rfl), rfl⟩
    · exact ⟨.refl s, _, .inl rfl, rfl⟩
  · exact ⟨.refl s, _, .inl rfl, rfl⟩

theorem State.goOn_spec (s : State) (f : Fr) (o : Outc) (h : o.portsBelow) :
    s.keepsFrames (s.goOn f o).1 ∧ ∃ g, g.past ∧ (s.goOn f o).2 = f.decidedAs o g := by
  unfold State.goOn
  extract_lets f'
  split
  · exact ⟨(State.keepsFrames.refl s).countFrame f', _, .inr (.inr rfl), rfl⟩
  · obtain ⟨hkept, g, hg, heq⟩ := s.handOff_spec f' h
    exact ⟨hkept, g, hg, heq⟩

/-- A frame whose end is not known is held on, past its decision. -/
theorem State.enterDecision_spec (s : State) (f : Fr) (hf : f.fcs = none) :
    ∃ v o g, s.enterDecision f = v.putFr (f.decidedAs o g) ∧ s.keepsFrames v ∧ g.past := by
  obtain ⟨hout, hports⟩ := s.outcome_spec f
  obtain ⟨hgo, g, hg, heq⟩ := State.goOn_spec (s.outcome f).1 f (s.outcome f).2 hports
  refine ⟨((s.outcome f).1.goOn f (s.outcome f).2).1, (s.outcome f).2, g, ?_, hout.trans hgo, hg⟩
  unfold State.enterDecision
  generalize s.outcome f = r at heq ⊢
  obtain ⟨u, o⟩ := r
  dsimp only at heq ⊢
  generalize u.goOn f o = r at heq ⊢
  obtain ⟨v, f'⟩ := r
  subst heq
  exact if_neg (by simp [Fr.decidedAs, hf])

/-! ### Frames held -/

/-- The state with these frames held. -/
def State.withFrames (s : State) (l : List Fr) : State := { s with pk := { s.pk with frames := l } }

/-- The state with these reads in progress. -/
def State.withReads (s : State) (l : List TblRead) : State := { s with pk := { s.pk with reads := l } }

section
variable (s : State) (l : List Fr)

@[simp] theorem State.withFrames_reads : (s.withFrames l).pk.reads = s.pk.reads := rfl
@[simp] theorem State.withFrames_flt : (s.withFrames l).flt = s.flt := rfl
@[simp] theorem State.fld_withFrames (o : Nat) (g : Fld) : (s.withFrames l).fld o g = s.fld o g := rfl

theorem State.putFr_nil (f : Fr) (h : s.pk.frames = []) : s.putFr f = s.withFrames [f] := by
  simp [State.putFr, State.withFrames, h]

theorem State.putFr_single (f g : Fr) (h : s.pk.frames = [g]) (hid : f.id = g.id) : s.putFr f = s.withFrames [f] := by
  simp [State.putFr, State.withFrames, h, hid]

theorem State.dropFr_single (f : Fr) (h : s.pk.frames = [f]) : s.dropFr f.id = s.withFrames [] := by
  simp [State.dropFr, State.withFrames, h]

end

/-! ### Frames move on -/

section
variable (s : State) (n : Nat)

theorem State.framesAt_nil (g : FStage) (h : s.pk.frames = []) : s.framesAt n g = [] := by
  simp [State.framesAt, h]

theorem State.framesAt_single (f : Fr) (g : FStage) (h : s.pk.frames = [f]) (hn : pipeOf f.port = n) (hg : f.stage = g) :
    s.framesAt n g = [f] := by
  simp [State.framesAt, h, hn, hg]

theorem State.framesAt_single_ne (f : Fr) (g : FStage) (h : s.pk.frames = [f]) (hg : f.stage ≠ g) : s.framesAt n g = [] := by
  simp [State.framesAt, h, hg]

theorem State.showParked_parked (h : (s.framesAt n .parked).length < 1024) :
    (s.showParked n).fld (R.PIPE_STATUS n) F.PIPE_STATUS_PARKED = (s.framesAt n .parked).length :=
  (State.fld_setF_same _ _ _ _ (by decide)).trans (Nat.mod_eq_of_lt h)

theorem State.drain_idle (k : Nat) (h : s.framesAt n .fifo = []) : State.drain n k s = s := by
  cases k with
  | zero => rfl
  | succ k => simp [State.drain, h]

/-- With no frame held, nothing moves on. -/
theorem State.advance_nil (h : s.pk.frames = []) : s.advance n = s.showParked n := by
  have hrelease : State.release n s.pk.frames.length s = s.showParked n := by rw [h]; rfl
  unfold State.advance
  rw [hrelease]
  exact State.drain_idle _ n _ ((s.showParked n).framesAt_nil n _ h)

/-- The one frame held, parked with its results there, goes on past its decision. -/
theorem State.advance_ready (f : Fr) (h : s.pk.frames = [f]) (hn : pipeOf f.port = n) (hg : f.stage = .parked)
    (hready : f.ready = true) (hfcs : f.fcs = none) :
    ∃ v o g, s.advance n = (v.withFrames [f.decidedAs o g]).showParked n ∧ (s.withFrames []).keepsFrames v ∧ g.past := by
  obtain ⟨v, o, g, hdec, hkept, hpast⟩ := State.enterDecision_spec (s.withFrames []) f hfcs
  have hparked : s.framesAt n .parked = [f] := s.framesAt_single n f _ h hn hg
  have hrelease : State.release n s.pk.frames.length s = (v.withFrames [f.decidedAs o g]).showParked n := by
    rw [h, ← v.putFr_nil _ hkept.1, ← hdec, ← s.dropFr_single f h]
    simp [State.release, hparked, hready]
  refine ⟨v, o, g, ?_, hkept, hpast⟩
  unfold State.advance
  rw [hrelease]
  refine State.drain_idle _ n _ (State.framesAt_single_ne _ n (f.decidedAs o g) .fifo rfl ?_)
  rcases hpast with rfl | rfl | rfl <;> exact fun e => by cases e

/-- In t, frame f of pipeline n has gone on from s past its decision. -/
structure State.MovedOn (s t : State) (n : Nat) (f : Fr) : Prop where
  frames : ∀ g ∈ t.pk.frames, g.id = f.id ∧ g.stage ≠ .parked ∧ g.fwd = f.fwd
  reads : t.pk.reads = s.pk.reads
  cache : t.pk.cache = s.pk.cache
  parked : t.fld (R.PIPE_STATUS n) F.PIPE_STATUS_PARKED = 0
  errors : ∀ m < 4, t.rd (R.PIPE_COUNT_ERR m) = s.rd (R.PIPE_COUNT_ERR m)
  faults : t.flt = s.flt

theorem State.advance_movedOn (f : Fr) (h : s.pk.frames = [f]) (hn : pipeOf f.port = n) (hg : f.stage = .parked)
    (hready : f.ready = true) (hfcs : f.fcs = none) : s.MovedOn (s.advance n) n f := by
  have hflt : (s.advance n).flt = s.flt := State.advance_writes (stable_frame 2654218 s (by decide)) (.refl _ s) |>.2 .faults rfl
  obtain ⟨v, o, g, heq, ⟨hframes, hreads, hcache, herr⟩, hpast⟩ := s.advance_ready n f h hn hg hready hfcs
  have hstage : g ≠ .parked := by rcases hpast with rfl | rfl | rfl <;> exact fun e => by cases e
  have hnone : (v.withFrames [f.decidedAs o g]).framesAt n .parked = [] :=
    State.framesAt_single_ne _ n (f.decidedAs o g) .parked rfl hstage
  rw [heq] at hflt ⊢
  refine ⟨fun k hk => ?_, hreads, hcache, ?_, fun m hm => ?_, hflt⟩
  · rw [List.mem_singleton.mp hk]
    exact ⟨rfl, hstage, rfl⟩
  · rw [State.showParked_parked _ n (by rw [hnone]; decide), hnone]
    rfl
  · exact (State.rd_setF_ne _ _ _ _ _ (by simp; omega)).trans (herr m hm)

end

/-! ### Table-store reads -/

/-- The result that a read gives a frame. -/
def readFwd (e : Option FEntry) : Fwd := e.elim .unknown fun e => .to e.port e.disc

/-- The cache line that a read of a key leaves. -/
def readLine (vid mac : Nat) (e : Option FEntry) : Line :=
  e.elim ⟨vid, mac, true, 0, false, false⟩ fun e => ⟨vid, mac, false, e.port, e.disc, false⟩

/-- A parked frame with the result of its read, and the key it was read by. -/
def Fr.answered (f : Fr) (k : Nat × Nat) (e : Option FEntry) : Fr := { f with fwd := some (readFwd e), line := some k }

/-- A parked frame whose read has not answered in time. -/
def Fr.timedOut (f : Fr) : Fr := { f with fwd := some .unknown }

theorem State.fillLine_eq (s : State) (n vid mac : Nat) (e : Option FEntry) :
    s.fillLine n vid mac e = s.useLine n (readLine vid mac e) := by
  cases e <;> rfl

theorem State.probe_congr {s t : State} (h : t.pk.cache = s.pk.cache) (n vid mac : Nat) : t.probe n vid mac = s.probe n vid mac := by
  rw [State.probe, State.cacheLines, h]
  rfl

theorem State.probe_useLine (s : State) (n : Nat) (l : Line) : (s.useLine n l).probe n l.vid l.mac = some l := by
  simp [State.probe, State.useLine, State.cacheLines, State.setLines, Line.is]

theorem State.probe_fillLine (s : State) (n vid mac : Nat) (e : Option FEntry) :
    (s.fillLine n vid mac e).probe n vid mac = some (readLine vid mac e) := by
  rw [State.fillLine_eq]
  cases e <;> exact s.probe_useLine n _

theorem State.now_at (s : State) (ns : Nat) : (s.at_ ns).now = max s.now (s.tick + ns) := by
  unfold State.at_
  dsimp only
  split <;> omega

/-- A read within its limit is not late. -/
theorem exec_readLimitExpiry_early (s : State) (f : Fr) (ns : Fin 1000) (k : Nat × Nat) (n : Fin 4) (i : Nat)
    (hr : s.pk.reads = [⟨f.id, n, [k], i, false⟩])
    (h : (s.at_ ns).now < i + max 1 (s.fld R.PIPE_CTRL F.PIPE_CTRL_READ_LIMIT) * 100) :
    exec (.readLimitExpiry f.id ns) s = .next (s.at_ ns) := by
  have hfind : s.pk.reads.find? (fun r => r.id == f.id && !r.late &&
      decide (r.at_ + max 1 (s.fld R.PIPE_CTRL F.PIPE_CTRL_READ_LIMIT) * 100 ≤ (s.at_ ns).now)) = none := by
    simp [hr]
    omega
  show execReadLimitExpiry f.id ns s = _
  unfold execReadLimitExpiry
  simp only [State.at__pk, State.fld_at_, hfind]

/-- The state in which the read of f is late: counted, raised, and f unknown. -/
def State.readLate (s : State) (f : Fr) (n : Nat) (k : Nat × Nat) (i : Nat) : State :=
  (((s.withReads [⟨f.id, n, [k], i, true⟩]).count (R.PIPE_COUNT_ERR n) F.PIPE_COUNT_ERR_READ_LATE 1).raise (260 + n) n).withFrames
    [f.timedOut]

section
variable (s : State) (f : Fr) (ns : Fin 1000) (k : Nat × Nat) (n : Fin 4) (i : Nat) (late : Bool)
variable (hf : s.pk.frames = [f]) (hstage : f.stage = .parked)
include hf hstage

theorem State.find_parked : s.pk.frames.find? (fun g => g.id == f.id && g.stage == .parked) = some f := by
  simp [hf, hstage]

/-- The line of the key is filled, and the frame goes on with what was read. -/
theorem exec_cellarReadAnswer_parked (hr : s.pk.reads = [⟨f.id, n, [k], i, late⟩]) (hfwd : f.fwd = none) (hsrc : f.srcOk = some true) :
    exec (.cellarReadAnswer f.id ns) s = .next (((((s.at_ ns).withReads []).fillLine n k.1 k.2 (s.tableRead n k.1 k.2)).withFrames
      [f.answered k (s.tableRead n k.1 k.2)]).advance n) := by
  have hfind : s.pk.reads.find? (fun r => r.id == f.id) = some ⟨f.id, n, [k], i, late⟩ := by simp [hr]
  have hrest : s.pk.reads.filter (fun r => r.id != f.id) = [] := by simp [hr]
  show execCellarReadAnswer f.id ns s = _
  unfold execCellarReadAnswer
  extract_lets u _ v
  rw [show u.pk.reads.find? (fun r => r.id == f.id) = _ from hfind]
  dsimp -zeta only
  extract_lets got first last filled
  have hv : v = (s.at_ ns).withReads [] := by rw [State.withReads, ← hrest]; rfl
  have hgot : got k = s.tableRead n k.1 k.2 := by unfold got; rw [hv]; rfl
  have hfilled : filled = ((s.at_ ns).withReads []).fillLine n k.1 k.2 (s.tableRead n k.1 k.2) := by rw [← hgot, ← hv]; rfl
  have hheld : filled.pk.frames = [f] := by rw [hfilled]; exact hf
  have hfirst : first = s.tableRead n k.1 k.2 := hgot
  rw [← hfilled, ← State.putFr_single filled (f.answered k _) f hheld rfl, State.find_parked v f hf hstage, hfirst]
  cases s.tableRead n k.1 k.2 <;> simp [hfwd, hsrc, Fr.answered, readFwd]

theorem exec_readLimitExpiry_late (hr : s.pk.reads = [⟨f.id, n, [k], i, false⟩]) (hfwd : f.fwd = none) (hsrc : f.srcOk = some true)
    (h : i + max 1 (s.fld R.PIPE_CTRL F.PIPE_CTRL_READ_LIMIT) * 100 ≤ (s.at_ ns).now) :
    exec (.readLimitExpiry f.id ns) s = .next (((s.at_ ns).readLate f n k i).advance n) := by
  have hfind : s.pk.reads.find? (fun r => r.id == f.id && !r.late &&
      decide (r.at_ + max 1 (s.fld R.PIPE_CTRL F.PIPE_CTRL_READ_LIMIT) * 100 ≤ (s.at_ ns).now)) =
      some ⟨f.id, n, [k], i, false⟩ := by
    simp [hr, h]
  have hlate : s.pk.reads.map (fun r => if r.id = f.id then { r with late := true } else r) = [⟨f.id, n, [k], i, true⟩] := by
    simp [hr]
  show execReadLimitExpiry f.id ns s = _
  unfold execReadLimitExpiry State.readLate
  rw [← State.putFr_single _ f.timedOut f (by simpa [State.withReads] using hf) rfl]
  simp only [State.at__pk, State.fld_at_, hfind, hlate, State.raise_pk, State.count_pk, s.find_parked f hf hstage,
    Fr.timedOut, hfwd, hsrc]
  rfl

end

/-! ### The queues of Cooper -/

/-- t holds the queues, the scheduler's set and the registers of Cooper and the lanes that s holds. -/
def State.keepsCooper (s t : State) : Prop :=
  t.pk.queues = s.pk.queues ∧ t.pk.sch = s.pk.sch ∧ ∀ o, 0xE00000 ≤ o → t.rd o = s.rd o

section
variable {s t : State}

theorem State.keepsCooper.refl (s : State) : s.keepsCooper s := ⟨rfl, rfl, fun _ _ => rfl⟩

theorem State.keepsCooper.count (h : s.keepsCooper t) (o : Nat) (f : Fld) (k : Nat) (ho : o < 0xE00000) : s.keepsCooper (t.count o f k) := by
  obtain ⟨hq, hs, hr⟩ := h
  exact ⟨hq, hs, fun x hx => (State.rd_setF_ne t o x f _ (by omega)).trans (hr x hx)⟩

theorem State.keepsCooper.dropFr (h : s.keepsCooper t) (id : Nat) : s.keepsCooper (t.dropFr id) := h

theorem State.keepsCooper.learn (h : s.keepsCooper t) (f : Fr) (hf : f.port < 96) : s.keepsCooper (t.learn f) := by
  have hn := pipeOf_lt f.port hf
  have hrecent (l : Tab (List (Notice × Nat))) : s.keepsCooper { t with pk := { t.pk with recent := l } } := h
  unfold State.learn
  refine keep_ite h (keep_ite (keep_ite h (h.count _ _ _ (by simp; omega))) (keep_ite ((hrecent _).count _ _ _ (by simp; omega)) ?_))
  exact h

theorem State.keepsCooper.queue (h : s.keepsCooper t) (q : Nat) : t.queue q = s.queue q := by
  rw [State.queue, h.1, State.queue]

theorem State.keepsCooper.fld (h : s.keepsCooper t) (o : Nat) (f : Fld) (ho : 0xE00000 ≤ o) : t.fld o f = s.fld o f := by
  rw [State.fld, h.2.2 o ho, State.fld]

theorem State.keepsCooper.flag (h : s.keepsCooper t) (o : Nat) (f : Fld) (ho : 0xE00000 ≤ o) : t.flag o f = s.flag o f := by
  rw [State.flag, h.fld o f ho, State.flag]

theorem State.keepsCooper.sch (h : s.keepsCooper t) (k r w : Nat) : t.sch k r w = s.sch k r w := by
  rw [State.sch, h.2.1, State.sch]

theorem State.keepsCooper.gateOn (h : s.keepsCooper t) (p : Nat) : t.gateOn p = s.gateOn p := by
  rw [State.gateOn, h.sch, State.gateOn]

theorem State.keepsCooper.queueFor (h : s.keepsCooper t) (p v c : Nat) : t.queueFor p v c = s.queueFor p v c := by
  rw [State.queueFor, h.sch, h.2.1, State.queueFor]

theorem State.keepsCooper.fits (h : s.keepsCooper t) (p q : Nat) (c : Copy) : t.fits p q c = s.fits p q c := by
  simp only [State.fits, State.queueCells, State.profile, State.portOcc, State.freeCells, h.queue, h.sch,
    h.fld (R.SCH_PORT_STATUS p) F.SCH_PORT_STATUS_OCC_CELLS (by simp; omega),
    h.fld R.SCH_BUF_STATUS F.SCH_BUF_STATUS_FREE_CELLS (by simp)]
  rfl

end

section
variable (s : State) (p q : Nat) (c : Copy)

theorem State.countPair_queues (i a b : Nat) : (s.countPair i a b).pk.queues = s.pk.queues := by
  unfold State.countPair
  split
  · rfl
  split
  · rfl
  split
  · split <;> rfl
  · rfl

theorem State.countPair_rd (i a b o : Nat) : (s.countPair i a b).rd o = s.rd o :=
  congrArg (fun r => Tab.get resetOf r o)
    ((State.countPair_writes (stable_frame 2621440 s (by decide)) (.refl _ s)).2 .registers rfl)

theorem State.charge_queues : (s.charge p c).pk.queues = s.pk.queues := by
  have hocc : (s.setPortOcc p (s.portOcc p + cellsOf c.data)).pk.queues = s.pk.queues := rfl
  unfold State.charge
  exact keep_ite (P := fun v => v.pk.queues = s.pk.queues) hocc hocc

theorem State.setFree_regsKept (k : Nat) : s.regsKept (s.setFree k) [R.SCH_BUF_STATUS, R.SCH_BUF_LOW] := by
  have hfree := (State.regsKept.refl s [R.SCH_BUF_STATUS, R.SCH_BUF_LOW]).setF (o := R.SCH_BUF_STATUS)
    F.SCH_BUF_STATUS_FREE_CELLS k (by simp)
  unfold State.setFree
  exact keep_ite (P := fun v => s.regsKept v _) (hfree.setF _ _ (by simp)) hfree

theorem State.charge_regsKept : s.regsKept (s.charge p c) [R.SCH_PORT_STATUS p, R.SCH_BUF_STATUS, R.SCH_BUF_LOW] := by
  have hocc : s.regsKept (s.setPortOcc p (s.portOcc p + cellsOf c.data)) [R.SCH_PORT_STATUS p, R.SCH_BUF_STATUS, R.SCH_BUF_LOW] :=
    (State.regsKept.refl s _).setF _ _ (by simp)
  have hfree (k : Nat) := hocc.trans ((State.setFree_regsKept _ k).mono (by simp))
  unfold State.charge
  exact keep_ite (P := fun v => s.regsKept v _) (hocc.of_regs rfl) ((hfree _).of_regs rfl)

/-- Without gates, a copy that fits joins its queue. -/
theorem State.enqueue_fits (hfits : s.fits p q c = true) (hgate : s.gateOn p = false) :
    (s.enqueue p q c).1.queue q = s.queue q ++ [c] ∧ (∀ x, x ≠ q → (s.enqueue p q c).1.queue x = s.queue x) ∧
      s.regsKept (s.enqueue p q c).1 [R.SCH_PORT_STATUS p, R.SCH_BUF_STATUS, R.SCH_BUF_LOW] := by
  have hsch : (s.charge p c).pk.sch = s.pk.sch := by
    unfold State.charge
    exact keep_ite (P := fun v => v.pk.sch = s.pk.sch) rfl rfl
  have hopen : ((s.charge p c).setQueue q (s.queue q ++ [c])).gateOn p = false := by
    rw [← hgate, State.gateOn, State.gateOn, State.sch, State.sch, ← hsch]
    rfl
  have heq : (s.enqueue p q c).1 = ((s.charge p c).setQueue q (s.queue q ++ [c])).contend p := by
    rw [State.enqueue, if_pos hfits]
  obtain ⟨l, hl⟩ := State.contend_ungated _ p hopen
  rw [heq, hl]
  refine ⟨Tab.get_set_same _ _ _ _, fun x hx => ?_, (s.charge_regsKept p c).of_regs rfl⟩
  refine (Tab.get_set_ne _ _ _ _ _ hx).trans ?_
  rw [State.charge_queues]
  rfl

/-- A copy that does not fit is counted, and joins no queue. -/
theorem State.enqueue_refused (hfits : s.fits p q c = false) (hc : c.mirror = none) :
    (s.enqueue p q c).1.pk.queues = s.pk.queues ∧ s.regsKept (s.enqueue p q c).1 [R.SCH_PORT_DROPS p] ∧
      (s.enqueue p q c).1.fld (R.SCH_PORT_DROPS p) F.SCH_PORT_DROPS_ADMIT =
        min (s.fld (R.SCH_PORT_DROPS p) F.SCH_PORT_DROPS_ADMIT + 1) (2 ^ F.SCH_PORT_DROPS_ADMIT.w - 1) := by
  have hdrop : s.countDrop q c = s.countPair (131072 + q) 1 (frameLen c.data) := by rw [State.countDrop, hc]
  have heq : (s.enqueue p q c).1 =
      (s.countPair (131072 + q) 1 (frameLen c.data)).count (R.SCH_PORT_DROPS p) F.SCH_PORT_DROPS_ADMIT 1 := by
    rw [State.enqueue, hfits, hdrop]
    rfl
  have hkept : s.regsKept (s.countPair (131072 + q) 1 (frameLen c.data)) [R.SCH_PORT_DROPS p] :=
    fun o _ => s.countPair_rd _ _ _ o
  rw [heq]
  refine ⟨s.countPair_queues _ _ _, hkept.setF _ _ (by simp), ?_⟩
  rw [State.fld_count_one _ _ _ (by decide), State.fld, State.countPair_rd]
  rfl

theorem State.mirrorAt_off (h : ∀ m < 8, s.flag (R.SCH_MIRROR_CFG m) F.SCH_MIRROR_CFG_ENABLE = false) (pt port mask : Nat)
    (e : Option Nat) (i : Nat) (l : List Byte) : s.mirrorAt pt port mask e i l = s := by
  refine forUp_invariant (P := fun _ t => t = s) (a := 0) (n := 8) (fun m t hm ht => ?_) rfl
  rw [ht]
  exact if_neg (by simp [State.mirrors, h m (by omega)])

end

/-! ### The end of a frame -/

/-- What is held once the one frame held has passed its FCS, its notice judged. -/
def State.passed (s : State) (f : Fr) : State := (if f.learned then s else s.learn f).dropFr f.id

theorem State.learn_frames (s : State) (f : Fr) : (s.learn f).pk.frames = s.pk.frames := by
  unfold State.learn
  exact keep_ite (P := fun v => v.pk.frames = s.pk.frames) rfl (keep_ite (P := fun v => v.pk.frames = s.pk.frames)
    (keep_ite (P := fun v => v.pk.frames = s.pk.frames) rfl rfl) (keep_ite (P := fun v => v.pk.frames = s.pk.frames) rfl rfl))

theorem State.passed_keepsCooper (s : State) (f : Fr) (hf : f.port < 96) : s.keepsCooper (s.passed f) :=
  (keep_ite (P := s.keepsCooper) (.refl s) ((State.keepsCooper.refl s).learn f hf)).dropFr f.id

theorem State.passed_frames (s : State) (f : Fr) (hf : s.pk.frames = [f]) : (s.passed f).pk.frames = [] := by
  unfold State.passed
  rw [State.dropFr_single]
  · rfl
  · exact keep_ite (P := fun v => v.pk.frames = [f]) hf ((s.learn_frames f).trans hf)

/-- A stored frame for one port that asks for no counter pair, with no mirror session enabled, is offered to its queue. -/
theorem State.endPass_decided (s : State) (f : Fr) (e : Nat) (hp : f.port < 96) (hstage : f.stage = .decided) (hports : f.out.ports = [e])
    (hdrop : f.out.drop = false) (hpairs : f.out.pairs = [])
    (hmirror : ∀ m < 8, ((s.passed f).enqueue e (s.queueFor e f.vid f.out.cls) f.copy).1.flag (R.SCH_MIRROR_CFG m)
      F.SCH_MIRROR_CFG_ENABLE = false) :
    s.endPass f = ((s.passed f).enqueue e (s.queueFor e f.vid f.out.cls) f.copy).1 := by
  have hcount : (s.passed f).countFrame f = s.passed f := by rw [State.countFrame, hpairs]; rfl
  have hqueue := (s.passed_keepsCooper f hp).queueFor e f.vid f.out.cls
  unfold State.endPass
  extract_lets u v w
  have hv : v = ((s.passed f).enqueue e (s.queueFor e f.vid f.out.cls) f.copy).1 := by
    unfold v
    rw [if_pos hstage, hports, ← hqueue]
    show (((s.passed f).countFrame f).enqueue e (((s.passed f).countFrame f).queueFor e f.vid f.out.cls) f.copy).1 = _
    rw [hcount]
  have hw : w = v := by
    rw [hv]
    show State.mirrorAt v 0 f.port f.out.mirror none f.port f.data = _
    rw [hv, State.mirrorAt_off _ hmirror]
  rw [hdrop, hw, hv]
  rfl

section
variable (s : State) (f : Fr) (p : Fin 96) (ns : Fin 1000)
variable (hf : s.pk.frames = [f]) (hp : f.port = p.val) (hfcs : f.fcs = none)
include hf hp hfcs

theorem State.receiving_single : s.receiving p = some f := by
  simp [State.receiving, hf, hp, hfcs]

theorem exec_frameEnd_pass (hstage : f.stage = .decided) :
    exec (.frameEnd p .pass ns) s = .next ((s.at_ ns).endPass f) := by
  show execFrameEnd p .pass ns s = _
  unfold execFrameEnd
  simp only [State.receiving_single (s.at_ ns) f p hf hp hfcs, hstage]
  rfl

theorem exec_frameEnd_fcs : exec (.frameEnd p .fcs ns) s =
    .next ((((s.at_ ns).endFail f f.data.length).fcsError p).advance (pipeOf p)) := by
  show execFrameEnd p .fcs ns s = _
  unfold execFrameEnd
  simp only [State.receiving_single (s.at_ ns) f p hf hp hfcs]

theorem exec_ingressFailAfterCommit_cut (n : Nat) (hstage : f.stage = .cut) :
    exec (.ingressFailAfterCommit p n ns) s = .next (((s.at_ ns).stomp f n).fcsError p) := by
  show execIngressFailAfterCommit p n ns s = _
  unfold execIngressFailAfterCommit
  simp only [State.receiving_single (s.at_ ns) f p hf hp hfcs, hstage, if_true]

theorem exec_ingressFailAfterCommit_uncut (n : Nat) (hstage : f.stage ≠ .cut) :
    exec (.ingressFailAfterCommit p n ns) s = .next (s.at_ ns) := by
  show execIngressFailAfterCommit p n ns s = _
  unfold execIngressFailAfterCommit
  simp only [State.receiving_single (s.at_ ns) f p hf hp hfcs, hstage, if_false]

end

/-! ### Parse status -/

theorem reach_le (n i st : Nat) (h : reach n i = some st) : st ≤ 4 := by
  unfold reach at h
  split at h
  · cases h; decide
  · split at h
    · cases h; decide
    · cases h

theorem extracts_le (data : List Byte) (cur : Nat) (l : List Nat) (t : Tab (List Byte)) (st : Nat)
    (h : (extracts data cur l t).2 = some st) : st ≤ 4 := by
  induction l generalizing t with
  | nil => cases h
  | cons x l ih =>
    unfold extracts at h
    dsimp only at h
    split at h
    · split at h
      · next hreach => cases h; exact reach_le _ _ _ hreach
      · exact ih _ h
    · exact ih _ h

theorem nextOf_le (g : Nat → Nat) (v st : Nat) (h : nextOf g v = .inr st) : st ≤ 4 := by
  unfold nextOf at h
  dsimp only at h
  split at h
  · split at h <;> cases h
    decide
  · split at h <;> cases h <;> decide

/-- PARSE_STATUS has five values (R186). -/
theorem walk_status_le (g : Nat → Nat → Nat) (data : List Byte) (k v cur : Nat) (r : Parsed) :
    (walk g data k v cur r).status ≤ 4 := by
  induction k generalizing v cur r with
  | zero => exact (by decide : 3 ≤ 4)
  | succ k ih =>
    unfold walk
    dsimp only
    split
    · exact Nat.le_refl 4
    split
    · next hreach => exact reach_le _ _ _ hreach
    split
    · next hext => exact extracts_le _ _ _ _ _ (congrArg Prod.snd hext)
    split
    · exact Nat.zero_le 4
    split
    · next hnext => exact nextOf_le _ _ _ hnext
    · exact ih _ _ _

theorem State.parse_status_le (s : State) (data : List Byte) : (s.parse data).status ≤ 4 := walk_status_le _ _ _ _ _ _

/-! ### Lookups -/

/-- A frame with its keys and the results of its lookups. -/
def State.looked (s : State) (f : Fr) : Fr :=
  let n := pipeOf f.port
  let f := s.keyed f
  let group := isGroup f.dst
  let f := { f with flow := f.port * 4096 + crc32 (keyBytes f.vid f.dst) % 4096 }
  let dl := if group then none else s.probe n f.vid f.dst
  let sl := s.probe n f.vid f.src
  let hit := match sl with | some l => !l.neg && l.port == f.port | none => false
  let limited := s.atLimit f.port && s.flag (R.TBL_PORT_LEARN f.port) F.TBL_PORT_LEARN_ACTION && !hit
  { f with
    fwd := if group then some .unknown else dl.map Line.fwd, line := dl.map fun _ => (f.vid, f.dst), srcHit := hit,
    srcOk := if limited then (if sl.isSome then some false else none) else some true }

/-- A parsed frame g is counted, and recorded where it is of PTP. -/
def State.parsed (s : State) (g : Fr) : State :=
  let s := s.count (R.PIPE_PARSE_COUNT (pipeOf g.port) (s.parse g.data).status) F.PIPE_PARSE_COUNT_VAL 1
  match g.ptp with
  | some o => if s.flag (R.TIM_PORT g.port) F.TIM_PORT_REC_IN then s.ptpRecord 0 g.port o g.t0 g.data else s
  | none => s

/-- The line that the destination of a frame hits becomes the most recently used of its set. -/
def State.usedDst (s : State) (n : Nat) (dl : Option Line) : State :=
  match dl with
  | some l => s.useLine n l
  | none => s

/-- The line that the source of a frame g hits becomes the most recently used of its set, with its hit. -/
def State.usedSrc (s : State) (g : Fr) : State :=
  match s.probe (pipeOf g.port) g.vid g.src with
  | some l => s.useLine (pipeOf g.port) { l with hit := l.hit || g.srcHit }
  | none => s

/-- A frame g that misses is counted, and its read issued. -/
def State.missed (s : State) (g : Fr) : State :=
  let s := s.count (R.PIPE_COUNT_PARK (pipeOf g.port)) F.PIPE_COUNT_PARK_MISSES 1
  let keys := (if g.fwd.isNone then [(g.vid, g.dst)] else []) ++ (if g.srcOk.isNone then [(g.vid, g.src)] else [])
  s.withReads (s.pk.reads ++ [⟨g.id, pipeOf g.port, keys, s.now, false⟩])

/-- The line of the destination of a frame g, which a group address does not look up. -/
def State.dstLine (s : State) (g : Fr) : Option Line := if isGroup g.dst then none else s.probe (pipeOf g.port) g.vid g.dst

/-- The state in which frame f has been parsed and its keys looked up. -/
def State.probed (s : State) (f : Fr) : State :=
  ((s.parsed (s.looked f)).usedDst (pipeOf f.port) (s.dstLine (s.looked f))).usedSrc (s.looked f)

theorem State.enterPipe_eq (s : State) (f : Fr) : s.enterPipe f =
    let n := pipeOf f.port
    let g := s.looked f
    let parked := s.framesAt n .parked
    let guard := parked.any fun k => k.flow == g.flow
    if (!g.ready || guard) && decide (512 ≤ parked.length) then none
    else
      let t := if g.ready then s.probed f else (s.probed f).missed g
      let t := if guard then t.count (R.PIPE_COUNT_PARK n) F.PIPE_COUNT_PARK_GUARD_HELD 1 else t
      if g.ready && !guard then some (t.enterDecision g) else some ((t.putFr { g with stage := .parked }).showParked n) := by
  unfold State.enterPipe State.probed State.missed State.parsed State.usedDst State.usedSrc State.dstLine State.looked
  rfl

section
variable (s : State) (f : Fr)

theorem State.enterPipe_ready (hf : s.pk.frames = []) (hready : (s.looked f).ready = true) :
    s.enterPipe f = some ((s.probed f).enterDecision (s.looked f)) := by
  simp [State.enterPipe_eq, s.framesAt_nil _ _ hf, hready]

theorem State.enterPipe_misses (hf : s.pk.frames = []) (hready : (s.looked f).ready = false) :
    s.enterPipe f = some ((((s.probed f).missed (s.looked f)).putFr { s.looked f with stage := .parked }).showParked (pipeOf f.port)) := by
  simp [State.enterPipe_eq, s.framesAt_nil _ _ hf, hready]

/-- A port that is not at its learning limit admits every source. -/
theorem State.looked_srcOk (h : s.atLimit f.port = false) : (s.looked f).srcOk = some true := by
  show (if (s.atLimit f.port && _ && _) = true then _ else some true) = some true
  rw [h]
  rfl

theorem State.looked_fwd : (s.looked f).fwd = if isGroup (s.looked f).dst then some .unknown else (s.dstLine (s.looked f)).map Line.fwd := by
  unfold State.dstLine
  show (if isGroup (s.looked f).dst then some Fwd.unknown else Option.map Line.fwd
    (if isGroup (s.looked f).dst then none else s.probe (pipeOf f.port) (s.looked f).vid (s.looked f).dst)) = _
  split <;> rfl

/-! ### What parsing and lookups leave -/

theorem State.ptpRecord_frame (dir p o i : Nat) (l : List Byte) : FrameOf 32778 s (s.ptpRecord dir p o i l) :=
  State.ptpRecord_writes (stable_frame 32778 s (by decide)) (.refl _ s)

theorem State.tsqPut_regsKept (n : Nat) (l : List Word) : s.regsKept (s.tsqPut n l) [R.TIM_TSQ_STATUS n] := by
  unfold State.tsqPut State.setTsq
  refine keep_ite (P := fun v => s.regsKept v _) ((State.regsKept.refl s _).setF _ _ (by simp)) ?_
  exact State.regsKept.setF (t := { s with tim := _ }) (fun _ _ => rfl) _ _ (by simp)

theorem State.ptpRecord_regsKept (dir p o i : Nat) (l : List Byte) :
    s.regsKept (s.ptpRecord dir p o i l) [R.TIM_TSQ_STATUS (pipeOf p)] := by
  unfold State.ptpRecord
  refine State.regsKept.trans (fun o _ => ?_) (State.tsqPut_regsKept _ _ _)
  exact keep_ite (P := fun v => v.rd o = s.rd o) rfl rfl

end

/-- In t, a frame of port p with this PARSE_STATUS has been parsed and looked up since s: it is counted, and may be recorded and move
cache lines. -/
structure State.Looked (s t : State) (p st : Nat) : Prop where
  pk : ∃ c, t.pk = { s.pk with cache := c }
  now : t.now = s.now
  regs : s.regsKept t [R.PIPE_PARSE_COUNT (pipeOf p) st, R.TIM_TSQ_STATUS (pipeOf p)]
  count : t.rd (R.PIPE_PARSE_COUNT (pipeOf p) st) =
    (s.count (R.PIPE_PARSE_COUNT (pipeOf p) st) F.PIPE_PARSE_COUNT_VAL 1).rd (R.PIPE_PARSE_COUNT (pipeOf p) st)

section
variable {s t : State} {p st : Nat}

theorem State.Looked.ptpRecord (h : s.Looked t p st) (dir o i : Nat) (l : List Byte) (hp : p < 96) :
    s.Looked (t.ptpRecord dir p o i l) p st := by
  have hn := pipeOf_lt p hp
  have hframe := t.ptpRecord_frame dir p o i l
  have hkept := t.ptpRecord_regsKept dir p o i l
  obtain ⟨⟨c, hc⟩, hnow, hregs, hcount⟩ := h
  exact ⟨⟨c, (hframe.2 .pipeline rfl).trans hc⟩, (hframe.2 .clock rfl).trans hnow, hregs.trans (hkept.mono (by simp)),
    (hkept _ (by simp; omega)).trans hcount⟩

theorem State.Looked.parsed (g : Fr) (hp : g.port < 96) : s.Looked (s.parsed g) g.port (s.parse g.data).status := by
  have hcount : s.Looked (s.count (R.PIPE_PARSE_COUNT (pipeOf g.port) (s.parse g.data).status) F.PIPE_PARSE_COUNT_VAL 1) g.port
      (s.parse g.data).status := ⟨⟨_, rfl⟩, rfl, (State.regsKept.refl s _).setF _ _ (by simp), rfl⟩
  unfold State.parsed
  dsimp only
  split
  · exact keep_ite (P := fun v => s.Looked v _ _) (hcount.ptpRecord _ _ _ _ hp) hcount
  · exact hcount

theorem State.Looked.useLine (h : s.Looked t p st) (n : Nat) (l : Line) : s.Looked (t.useLine n l) p st := by
  obtain ⟨⟨c, hc⟩, hnow, hregs, hcount⟩ := h
  exact ⟨⟨_, show ({ t.pk with cache := _ } : Pk) = _ by rw [hc]⟩, hnow, hregs, hcount⟩

theorem State.Looked.usedDst (h : s.Looked t p st) (n : Nat) (dl : Option Line) : s.Looked (t.usedDst n dl) p st := by
  cases dl with
  | none => exact h
  | some l => exact h.useLine n l

theorem State.Looked.usedSrc (h : s.Looked t p st) (g : Fr) : s.Looked (t.usedSrc g) p st := by
  unfold State.usedSrc
  split
  · exact h.useLine _ _
  · exact h

theorem State.probed_looked (s : State) (f : Fr) (hp : f.port < 96) : s.Looked (s.probed f) f.port (s.parse f.data).status :=
  ((State.Looked.parsed (s.looked f) hp).usedDst _ _).usedSrc _

end

/-! ### Decision without entries -/

section
variable {s t : State}

theorem State.classify_unused (n key : Nat) (h : clsUsed s.pk.cls n = []) : s.classify n key = none := by
  simp [State.classify, h]

theorem State.lpmFind_unused (n : Nat) (key : Option (Bool × Nat)) (h4 : s.lpmSlots n false = []) (h6 : s.lpmSlots n true = []) :
    s.lpmFind n key = none := by
  cases key with
  | none => rfl
  | some k =>
    obtain ⟨v6, x⟩ := k
    cases v6 <;> simp [State.lpmFind, h4, h6]

/-- No classification entry and no prefix has an action for frames of pipeline n. -/
def State.noEntries (s : State) (n : Nat) : Prop := clsUsed s.pk.cls n = [] ∧ s.lpmSlots n false = [] ∧ s.lpmSlots n true = []

/-- What a frame that no action concerns asks for at a set of ports: its priority's class, no mirror, no counter pair. -/
def State.plainOut (s : State) (f : Fr) (l : List Nat) : Outc :=
  ⟨false, l, f.pcp.getD (s.fld (R.PIPE_PORT_ACTIVE f.port) F.PIPE_PORT_ACTIVE_DEF_CLASS), 0, [], none⟩

/-- Ports that a forwarding result leads to (R191). -/
def State.resultPorts (s : State) (f : Fr) : List Nat :=
  match f.fwd with
  | some (.to p _) => [p]
  | _ => s.flood f.vid

def Fr.discarded (f : Fr) : Bool :=
  match f.fwd with
  | some (.to _ d) => d
  | _ => false

theorem State.decision_plain (f : Fr) (h : s.noEntries (pipeOf f.port)) (hen : s.portEnabled f.port = true) (hsrc : f.srcOk = some true) :
    s.decision f = if f.discarded then (s, Outc.dropped [0], none)
      else if (s.usable f (s.resultPorts f)).isEmpty then
        (s.count (R.PIPE_COUNT_DROP (pipeOf f.port)) F.PIPE_COUNT_DROP_NO_EGRESS 1, Outc.dropped [0], none)
      else (s, s.plainOut f (s.usable f (s.resultPorts f)), none) := by
  obtain ⟨hcls, h4, h6⟩ := h
  have hbit (i : Nat) : bitOf 0 i = false := Nat.zero_testBit i
  have hsource : (some true == some false) = false := rfl
  unfold State.decision
  rw [hen, hsrc]
  dsimp only
  rw [State.classify_unused _ _ hcls, State.lpmFind_unused _ _ h4 h6]
  simp only [Option.getD_none, hbit, hsource, Bool.not_true, Bool.not_false, Bool.true_and, Bool.false_and, Bool.false_eq_true, if_false,
    Option.map_none]
  by_cases hd : f.discarded = true
  · exact (if_pos hd).trans (if_pos hd).symm
  by_cases he : (s.usable f (s.resultPorts f)).isEmpty = true
  · exact ((if_neg hd).trans (if_pos he)).trans ((if_neg hd).trans (if_pos he)).symm
  · exact ((if_neg hd).trans ((if_neg he).trans (if_neg he))).trans ((if_neg hd).trans (if_neg he)).symm

/-- Without actions, a decision counts at most NO_EGRESS, and no policer is asked. -/
theorem State.outcome_plain (f : Fr) (h : s.noEntries (pipeOf f.port)) (hen : s.portEnabled f.port = true) (hsrc : f.srcOk = some true) :
    (s.outcome f).2.pairs = [] ∧ ((s.outcome f).1 = s ∨
      (s.outcome f).1 = s.count (R.PIPE_COUNT_DROP (pipeOf f.port)) F.PIPE_COUNT_DROP_NO_EGRESS 1) := by
  unfold State.outcome
  rw [State.decision_plain f h hen hsrc]
  by_cases hd : f.discarded = true
  · rw [if_pos hd]
    exact ⟨rfl, .inl rfl⟩
  by_cases he : (s.usable f (s.resultPorts f)).isEmpty = true
  · rw [if_neg hd, if_pos he]
    exact ⟨rfl, .inr rfl⟩
  · rw [if_neg hd, if_neg he]
    exact ⟨rfl, .inl rfl⟩

/-- A frame for another, enabled port is decided for it. -/
theorem State.outcome_to (f : Fr) (p : Nat) (h : s.noEntries (pipeOf f.port)) (hen : s.portEnabled f.port = true)
    (hsrc : f.srcOk = some true) (hfwd : f.fwd = some (.to p false)) (hp : p ≠ f.port) (hpe : s.portEnabled p = true) :
    s.outcome f = (s, s.plainOut f [p]) := by
  have huse : s.usable f (s.resultPorts f) = [p] := by simp [State.usable, State.resultPorts, hfwd, hp, hpe]
  have hd : f.discarded = false := by simp [Fr.discarded, hfwd]
  unfold State.outcome
  rw [State.decision_plain f h hen hsrc, huse, hd]
  rfl

/-- A port that does not cut through stores its frames. -/
theorem State.goOn_stored (f : Fr) (o : Outc) (hpairs : o.pairs = [])
    (hcut : s.flag (R.PIPE_PORT_ACTIVE f.port) F.PIPE_PORT_ACTIVE_CUT_THROUGH = false) :
    s.goOn f o = (s, f.decidedAs o (if o.drop then .dropped else .decided)) := by
  unfold State.goOn
  extract_lets f'
  split
  · rw [State.countFrame, hpairs]
    rfl
  · unfold State.handOff
    split
    · rw [hcut]
      rfl
    · rfl

theorem State.enterDecision_stored (f : Fr) (v : State) (o : Outc) (hfcs : f.fcs = none) (hout : s.outcome f = (v, o)) (hpairs : o.pairs = [])
    (hcut : v.flag (R.PIPE_PORT_ACTIVE f.port) F.PIPE_PORT_ACTIVE_CUT_THROUGH = false) :
    s.enterDecision f = v.putFr (f.decidedAs o (if o.drop then .dropped else .decided)) := by
  unfold State.enterDecision
  rw [hout]
  dsimp only
  rw [v.goOn_stored f o hpairs hcut]
  exact if_neg (by simp [Fr.decidedAs, hfcs])

/-- In empty pipelines, a frame that no action concerns is stored or dropped; one for another, enabled port is decided for it. -/
theorem State.enterDecision_empty (f : Fr) (hf : s.pk.frames = []) (h : s.noEntries (pipeOf f.port)) (hen : s.portEnabled f.port = true)
    (hsrc : f.srcOk = some true) (hfcs : f.fcs = none)
    (hcut : s.flag (R.PIPE_PORT_ACTIVE f.port) F.PIPE_PORT_ACTIVE_CUT_THROUGH = false) :
    ∃ v o g, s.enterDecision f = v.withFrames [f.decidedAs o g] ∧
      (v = s ∨ v = s.count (R.PIPE_COUNT_DROP (pipeOf f.port)) F.PIPE_COUNT_DROP_NO_EGRESS 1) ∧
      ∀ e, f.fwd = some (.to e false) → e ≠ f.port → s.portEnabled e = true → v = s ∧ o = s.plainOut f [e] ∧ g = .decided := by
  obtain ⟨hpairs, hstate⟩ := State.outcome_plain f h hen hsrc
  rcases hout : s.outcome f with ⟨v, o⟩
  rw [hout] at hpairs hstate
  have hempty : v.pk.frames = [] := by rcases hstate with rfl | rfl <;> exact hf
  have hflag : v.flag (R.PIPE_PORT_ACTIVE f.port) F.PIPE_PORT_ACTIVE_CUT_THROUGH = false := by
    have hn := pipeOf_lt f.port (State.portEnabled_lt hen)
    rcases hstate with rfl | rfl
    · exact hcut
    · rw [← hcut, State.flag, State.count, State.fld_setF_ne _ _ _ _ _ _ (by simp; omega), State.flag]
  refine ⟨v, o, if o.drop then .dropped else .decided, ?_, hstate, fun e hfwd he hee => ?_⟩
  · rw [State.enterDecision_stored f v o hfcs hout hpairs hflag, State.putFr_nil _ _ hempty]
  · obtain ⟨rfl, rfl⟩ := Prod.mk.inj (hout.symm.trans (State.outcome_to f e h hen hsrc hfwd he hee))
    exact ⟨rfl, rfl, rfl⟩

end

/-! ### A frame enters -/

/-- The state in which a frame has been given its number, and its bits counted. -/
def State.admitting (s : State) (p : Nat) (data : List Byte) : State :=
  { s with
    pk := { s.pk with nextId := s.pk.nextId + 1 }
    thm := { s.thm with rxBits := Tab.set (fun _ => 0) s.thm.rxBits (pipeOf p) (Tab.get (fun _ => 0) s.thm.rxBits (pipeOf p) + 8 * frameLen data) } }

/-- A frame as it enters a port. -/
def State.entering (s : State) (p : Nat) (data : List Byte) (lat : Nat) : Fr :=
  { id := s.pk.nextId, port := p, data := data, t0 := s.now, lat := lat, tbIn := (List.range 4).map fun b => s.tbFlat b s.now,
    stage := .fifo, vid := 0, pcp := none, dst := 0, src := 0, ckey := 0, lpmKey := none, ptp := none, flow := 0, fwd := none,
    line := none, srcHit := false, srcOk := none, fcs := none, learned := false, out := Outc.none }

section
variable (s : State) (p : Fin 96) (data : List Byte) (ns : Fin 1000) (lat : Nat)

theorem exec_frameIngress_closed (h : s.receives p = false) : exec (.frameIngress p data ns lat) s = .next (s.at_ ns) := by
  have hr : (s.at_ ns).receives p = false := h
  show execFrameIngress p data ns lat s = _
  unfold execFrameIngress
  simp only [hr, Bool.false_eq_true, if_false]

/-- Into an empty pipeline, a frame goes at once. -/
theorem exec_frameIngress_empty (h : s.receives p = true) (hf : s.pk.frames = []) (t : State)
    (ht : ((s.at_ ns).admitting p data).enterPipe ((s.at_ ns).entering p data lat) = some t) :
    exec (.frameIngress p data ns lat) s = .next t := by
  have hr : (s.at_ ns).receives p = true := h
  have hwait : ((s.at_ ns).admitting p data).framesAt (pipeOf p) .fifo = [] := State.framesAt_nil _ _ _ hf
  show execFrameIngress p data ns lat s = _
  unfold execFrameIngress
  refine congrArg Host.Outcome.next ((if_pos hr).trans ((if_pos ?_).trans (congrArg (Option.getD · _) ht)))
  exact congrArg List.isEmpty hwait

end

/-! ### What a frame that has entered shows -/

theorem State.fld_word (s : State) (o : Nat) : s.fld o ⟨0, 32⟩ = (s.rd o).toNat := by
  have := (s.rd o).isLt
  simp only [State.fld, Fld.get, Nat.shiftRight_zero]
  omega

theorem State.rd_count_word (s : State) (o : Nat) :
    (s.count o ⟨0, 32⟩ 1).rd o = BitVec.ofNat 32 (min ((s.rd o).toNat + 1) (2 ^ 32 - 1)) := by
  have h := s.fld_count_one o ⟨0, 32⟩ (by decide)
  rw [State.fld_word, State.fld_word] at h
  refine BitVec.eq_of_toNat_eq (h.trans ?_)
  rw [BitVec.toNat_ofNat]
  exact (Nat.mod_eq_of_lt (by omega)).symm

theorem State.portEnabled_congr {s t : State} (h : ∀ o, 0xC01000 ≤ o → t.rd o = s.rd o) (p : Nat) : t.portEnabled p = s.portEnabled p := by
  have hactive := h (R.PIPE_PORT_ACTIVE p) (by simp)
  have hlane (x : Nat) := h (R.LANE_PORT_ACTIVE x) (by simp; omega)
  simp only [State.portEnabled, State.flag, State.fld, State.mode_, hactive, hlane]

section
variable {s t : State} {p st : Nat}

/-- Lookups leave the records of the ports. -/
theorem State.Looked.rd_above (h : s.Looked t p st) (hp : p < 96) (hst : st ≤ 4) (o : Nat) (ho : 0xC01000 ≤ o) : t.rd o = s.rd o := by
  have hn := pipeOf_lt p hp
  exact h.regs o (by simp; omega)

theorem State.Looked.noEntries (h : s.Looked t p st) (n : Nat) (hs : s.noEntries n) : t.noEntries n := by
  obtain ⟨c, hc⟩ := h.pk
  obtain ⟨hcls, h4, h6⟩ := hs
  refine ⟨?_, ?_, ?_⟩
  · rw [hc]
    exact hcls
  · rw [State.lpmSlots, hc]
    exact h4
  · rw [State.lpmSlots, hc]
    exact h6

end

/-- Frame f has entered the pipelines of s by port p with these bytes, and has its keys. -/
structure State.HasEntered (s : State) (p : Nat) (data : List Byte) (f : Fr) : Prop where
  port : f.port = p
  bytes : f.data = data
  t0 : f.t0 = s.now
  fcs : f.fcs = none
  id : f.id = s.pk.nextId
  dst : f.dst = (s.parse data).be 0 0 6
  src : f.src = (s.parse data).be 1 0 6

theorem State.HasEntered.decidedAs {s : State} {p : Nat} {data : List Byte} {f : Fr} (h : s.HasEntered p data f) (o : Outc) (g : FStage) :
    s.HasEntered p data (f.decidedAs o g) := ⟨h.port, h.bytes, h.t0, h.fcs, h.id, h.dst, h.src⟩

/-- Since s, the bytes of a frame at port p have been parsed and counted, and nothing has been sent or queued. -/
structure State.Parsed (s t : State) (p : Nat) (data : List Byte) : Prop where
  now : t.now = s.now
  sent : t.pk.sent = s.pk.sent
  queues : t.pk.queues = s.pk.queues
  count : t.rd (R.PIPE_PARSE_COUNT (pipeOf p) (s.parse data).status) =
    BitVec.ofNat 32 (min ((s.rd (R.PIPE_PARSE_COUNT (pipeOf p) (s.parse data).status)).toNat + 1) (2 ^ 32 - 1))

section
variable {s t : State} {p : Nat} {data : List Byte}

theorem State.Parsed.withFrames (h : s.Parsed t p data) (l : List Fr) : s.Parsed (t.withFrames l) p data :=
  ⟨h.now, h.sent, h.queues, h.count⟩

theorem State.Parsed.setF (h : s.Parsed t p data) (o : Nat) (f : Fld) (k : Nat) (ho : o < 0xC00020 + 256 * pipeOf p) :
    s.Parsed (t.setF o f k) p data :=
  ⟨h.now, h.sent, h.queues, (State.rd_setF_ne _ _ _ _ _ (by simp; omega)).trans h.count⟩

theorem State.Parsed.missed (h : s.Parsed t p data) (g : Fr) (hg : g.port = p) : s.Parsed (t.missed g) p data := by
  subst hg
  obtain ⟨hnow, hsent, hqueues, hcount⟩ := h.setF (R.PIPE_COUNT_PARK (pipeOf g.port)) F.PIPE_COUNT_PARK_MISSES
    (satAdd 16 (t.fld (R.PIPE_COUNT_PARK (pipeOf g.port)) F.PIPE_COUNT_PARK_MISSES) 1) (by simp)
  exact ⟨hnow, hsent, hqueues, hcount⟩

theorem State.Looked.parsedSince (h : s.Looked t p (s.parse data).status) : s.Parsed t p data := by
  obtain ⟨⟨c, hc⟩, hnow, _, hcount⟩ := h
  exact ⟨hnow, by rw [hc], by rw [hc], hcount.trans (s.rd_count_word _)⟩

end

/-! ### A frame enters empty pipelines -/

section
variable (s : State) (p : Nat) (data : List Byte) (lat : Nat)

/-- A frame that has entered, with its keys and the results of its lookups. -/
def State.enteredFr : Fr := (s.admitting p data).looked (s.entering p data lat)

/-- The state in which it has been looked up. -/
def State.entered : State := (s.admitting p data).probed (s.entering p data lat)

theorem State.enteredFr_hasEntered : s.HasEntered p data (s.enteredFr p data lat) := ⟨rfl, rfl, rfl, rfl, rfl, rfl, rfl⟩

theorem State.entered_looked (hp : p < 96) : (s.admitting p data).Looked (s.entered p data lat) p (s.parse data).status :=
  State.probed_looked _ (s.entering p data lat) hp

theorem State.entered_parsed (hp : p < 96) : s.Parsed (s.entered p data lat) p data := by
  obtain ⟨hnow, hsent, hqueues, hcount⟩ := (s.entered_looked p data lat hp).parsedSince
  exact ⟨hnow, hsent, hqueues, hcount⟩

theorem State.entered_frames (hp : p < 96) (hf : s.pk.frames = []) : (s.entered p data lat).pk.frames = [] := by
  obtain ⟨c, hc⟩ := (s.entered_looked p data lat hp).pk
  rw [hc]
  exact hf

theorem State.entered_reads (hp : p < 96) : (s.entered p data lat).pk.reads = s.pk.reads := by
  obtain ⟨c, hc⟩ := (s.entered_looked p data lat hp).pk
  rw [hc]
  rfl

/-- A port that is not at its learning limit admits every source. -/
theorem State.enteredFr_srcOk (h : s.atLimit p = false) : (s.enteredFr p data lat).srcOk = some true :=
  State.looked_srcOk _ (s.entering p data lat) h

/-- A frame for one station has the result of the line of its destination. -/
theorem State.enteredFr_fwd (h : isGroup (s.enteredFr p data lat).dst = false) : (s.enteredFr p data lat).fwd =
    (s.probe (pipeOf p) (s.enteredFr p data lat).vid (s.enteredFr p data lat).dst).map Line.fwd := by
  have hfwd := State.looked_fwd (s.admitting p data) (s.entering p data lat)
  rw [State.dstLine] at hfwd
  change isGroup ((s.admitting p data).looked (s.entering p data lat)).dst = false at h
  rw [h] at hfwd
  exact hfwd

/-- A frame that misses is parked, its read issued. -/
theorem State.enterPipe_parks (hp : p < 96) (hf : s.pk.frames = []) (hlimit : s.atLimit p = false)
    (hfwd : (s.enteredFr p data lat).fwd = none) :
    ∃ t f, (s.admitting p data).enterPipe (s.entering p data lat) = some t ∧ t.pk.frames = [f] ∧ s.HasEntered p data f ∧
      s.Parsed t p data ∧ f.vid = (s.enteredFr p data lat).vid ∧ f.stage = .parked ∧
      t.pk.reads = s.pk.reads ++ [⟨f.id, pipeOf p, [(f.vid, f.dst)], t.now, false⟩] ∧
      t.fld (R.PIPE_STATUS (pipeOf p)) F.PIPE_STATUS_PARKED = 1 := by
  have hsrc := s.enteredFr_srcOk p data lat hlimit
  have hmiss := State.enterPipe_misses (s.admitting p data) (s.entering p data lat) hf (by
    show (s.enteredFr p data lat).ready = false
    simp [Fr.ready, hfwd])
  have hhas := s.enteredFr_hasEntered p data lat
  have hparsed := s.entered_parsed p data lat hp
  have hframes := s.entered_frames p data lat hp hf
  have hreads := s.entered_reads p data lat hp
  change _ = some ((((s.entered p data lat).missed (s.enteredFr p data lat)).putFr
    ((s.enteredFr p data lat).decidedAs (s.enteredFr p data lat).out .parked)).showParked (pipeOf p)) at hmiss
  generalize s.entered p data lat = u at *
  generalize s.enteredFr p data lat = g at *
  rw [State.putFr_nil (u.missed g) _ hframes] at hmiss
  have hparked : ((u.missed g).withFrames [g.decidedAs g.out .parked]).framesAt (pipeOf p) .parked = [g.decidedAs g.out .parked] :=
    State.framesAt_single _ _ _ _ rfl (congrArg pipeOf hhas.port) rfl
  refine ⟨_, g.decidedAs g.out .parked, hmiss, rfl, hhas.decidedAs _ _, ?_, rfl, rfl, ?_, ?_⟩
  · exact ((hparsed.missed g hhas.port).withFrames _).setF _ _ _ (by simp)
  · show u.pk.reads ++ [⟨g.id, pipeOf g.port, (if g.fwd.isNone then [(g.vid, g.dst)] else []) ++
      (if g.srcOk.isNone then [(g.vid, g.src)] else []), _, false⟩] = _
    rw [hfwd, hsrc, hreads, hhas.port]
    rfl
  · rw [State.showParked_parked _ _ (by rw [hparked]; exact (by decide : 1 < 1024)), hparked]
    rfl

/-- A frame whose results are there is decided and stored, or dropped; one for another, enabled port is decided for it. -/
theorem State.enterPipe_decides (hp : p < 96) (hf : s.pk.frames = []) (hen : s.portEnabled p = true) (hnone : s.noEntries (pipeOf p))
    (hlimit : s.atLimit p = false) (hcut : s.flag (R.PIPE_PORT_ACTIVE p) F.PIPE_PORT_ACTIVE_CUT_THROUGH = false) (r : Fwd)
    (hfwd : (s.enteredFr p data lat).fwd = some r) :
    ∃ t f, (s.admitting p data).enterPipe (s.entering p data lat) = some t ∧ t.pk.frames = [f] ∧ s.HasEntered p data f ∧
      s.Parsed t p data ∧ f.vid = (s.enteredFr p data lat).vid ∧
      ∀ e, r = .to e false → e ≠ p → s.portEnabled e = true →
        f.stage = .decided ∧ f.out = s.plainOut f [e] ∧ t.pk.reads = s.pk.reads := by
  have hn := pipeOf_lt p hp
  have hsrc := s.enteredFr_srcOk p data lat hlimit
  have hready := State.enterPipe_ready (s.admitting p data) (s.entering p data lat) hf (by
    show (s.enteredFr p data lat).ready = true
    simp [Fr.ready, hfwd, hsrc])
  have hlooked := s.entered_looked p data lat hp
  have habove (o : Nat) (ho : 0xC01000 ≤ o) : (s.entered p data lat).rd o = s.rd o :=
    hlooked.rd_above hp (s.parse_status_le data) o ho
  have hnone' := hlooked.noEntries (pipeOf p) hnone
  have hhas := s.enteredFr_hasEntered p data lat
  have hparsed := s.entered_parsed p data lat hp
  have hframes := s.entered_frames p data lat hp hf
  have hreads := s.entered_reads p data lat hp
  change _ = some ((s.entered p data lat).enterDecision (s.enteredFr p data lat)) at hready
  clear hlooked
  generalize s.entered p data lat = u at *
  generalize s.enteredFr p data lat = g at *
  obtain ⟨hport, _, _, hfcs, _⟩ := id hhas
  subst hport
  have hflag : u.flag (R.PIPE_PORT_ACTIVE g.port) F.PIPE_PORT_ACTIVE_CUT_THROUGH = false := by
    rw [← hcut, State.flag, State.flag, State.fld, State.fld, habove _ (by simp)]
  obtain ⟨v, o, st, hdec, hstate, hto⟩ := State.enterDecision_empty g hframes hnone' ((State.portEnabled_congr habove g.port).trans hen)
    hsrc hfcs hflag
  have hv : s.Parsed v g.port data ∧ v.pk.reads = u.pk.reads := by
    rcases hstate with rfl | rfl
    · exact ⟨hparsed, rfl⟩
    · exact ⟨hparsed.setF (R.PIPE_COUNT_DROP (pipeOf g.port)) _ _ (by simp), rfl⟩
  rw [hdec] at hready
  refine ⟨_, g.decidedAs o st, hready, rfl, hhas.decidedAs _ _, hv.1.withFrames _, rfl, fun e hr he hee => ?_⟩
  obtain ⟨_, ho, hst⟩ := hto e (hfwd.trans (congrArg some hr)) he ((State.portEnabled_congr habove e).trans hee)
  refine ⟨hst, ho.trans ?_, hv.2.trans hreads⟩
  have hfld : u.fld (R.PIPE_PORT_ACTIVE g.port) F.PIPE_PORT_ACTIVE_DEF_CLASS = s.fld (R.PIPE_PORT_ACTIVE g.port) F.PIPE_PORT_ACTIVE_DEF_CLASS := by
    rw [State.fld, habove _ (by simp), State.fld]
  show State.plainOut u g [e] = State.plainOut s g [e]
  rw [State.plainOut, hfld, State.plainOut]

end

/-! ### The commands of the pipelines -/

/-- A stored frame for port e that asks for nothing else. -/
structure Fr.StoredFor (f : Fr) (e : Nat) : Prop where
  stage : f.stage = .decided
  ports : f.out.ports = [e]
  drop : f.out.drop = false
  pairs : f.out.pairs = []
  debit : f.out.debit = none

/-- No mirror session is enabled. -/
def State.unmirrored (s : State) : Prop := ∀ m < 8, s.flag (R.SCH_MIRROR_CFG m) F.SCH_MIRROR_CFG_ENABLE = false

theorem State.unmirrored.of_kept {s t : State} {l : List Nat} (hs : s.unmirrored) (h : s.regsKept t l)
    (hl : ∀ m < 8, R.SCH_MIRROR_CFG m ∉ l) : t.unmirrored := fun m hm => by
  rw [State.flag, h.fld _ _ (hl m hm)]
  exact hs m hm

section
variable (s : State) (f : Fr) (p : Fin 96) (ns : Fin 1000)
variable (hf : s.pk.frames = [f]) (hp : f.port = p.val) (hfcs : f.fcs = none)

include hf hp in
/-- What the end of a stored frame keeps, its copy aside. -/
theorem State.passed_at : ((s.at_ ns).passed f).pk.frames = [] ∧ s.keepsCooper ((s.at_ ns).passed f) := by
  have hlt : f.port < 96 := hp ▸ p.isLt
  exact ⟨State.passed_frames (s.at_ ns) f hf, State.passed_keepsCooper (s.at_ ns) f hlt⟩

include hf hp hfcs

/-- A stored frame that passes is offered to the queue of its class at its port. -/
theorem exec_frameEnd_stored (e : Nat) (he : e < 96) (h : f.StoredFor e) (hm : s.unmirrored) (hgate : s.gateOn e = false) :
    exec (.frameEnd p .pass ns) s = .next (((s.at_ ns).passed f).enqueue e (s.queueFor e f.vid f.out.cls) f.copy).1 := by
  have hlt : f.port < 96 := hp ▸ p.isLt
  obtain ⟨_, hcooper⟩ := s.passed_at f p ns hf hp
  have hoff : ((s.at_ ns).passed f).unmirrored := fun m hm8 => (hcooper.flag _ _ (by simp; omega)).trans (hm m hm8)
  rw [exec_frameEnd_pass s f p ns hf hp hfcs h.stage]
  refine congrArg _ (State.endPass_decided (s.at_ ns) f e hlt h.stage h.ports h.drop h.pairs ?_)
  cases hfits : ((s.at_ ns).passed f).fits e (s.queueFor e f.vid f.out.cls) f.copy with
  | true =>
    obtain ⟨_, _, hkept⟩ := State.enqueue_fits _ e _ f.copy hfits ((hcooper.gateOn e).trans hgate)
    exact hoff.of_kept hkept (by simp; omega)
  | false =>
    obtain ⟨_, hkept, _⟩ := State.enqueue_refused _ e _ f.copy hfits rfl
    exact hoff.of_kept hkept (by simp; omega)

/-- A stored frame that fails its FCS is discarded. -/
theorem exec_frameEnd_discards (e : Nat) (h : f.StoredFor e) : exec (.frameEnd p .fcs ns) s =
    .next ((((s.at_ ns).withFrames []).fcsError p).showParked (pipeOf p)) := by
  have hfail : (s.at_ ns).endFail f f.data.length = (s.at_ ns).withFrames [] := by
    rw [State.endFail, h.stage]
    show ((s.at_ ns).undebit f.out).dropFr f.id = _
    rw [State.undebit, h.debit]
    exact State.dropFr_single _ f hf
  rw [exec_frameEnd_fcs s f p ns hf hp hfcs, hfail, State.advance_nil _ _ rfl]

end

/-- The bytes of a frame that were sent, ended with the inverse of their CRC. -/
def Sent.stomped (x : Sent) (n : Nat) : Sent := { x with data := x.data.take n, fcs := 0xFFFFFFFF ^^^ crc32 (x.data.take n) }

theorem State.stomp_single (s : State) (f : Fr) (n : Nat) (x : Sent) (hf : s.pk.frames = [f]) (hs : s.pk.sent = [x]) (hx : x.fid = f.id) :
    (s.stomp f n).pk.frames = [] ∧ (s.stomp f n).pk.sent = [x.stomped n] ∧
      (s.stomp f n).fld (R.PIPE_COUNT_ERR (pipeOf f.port)) F.PIPE_COUNT_ERR_STOMPED =
        min (s.fld (R.PIPE_COUNT_ERR (pipeOf f.port)) F.PIPE_COUNT_ERR_STOMPED + 1) (2 ^ F.PIPE_COUNT_ERR_STOMPED.w - 1) := by
  refine ⟨?_, ?_, State.fld_count_one _ (R.PIPE_COUNT_ERR (pipeOf f.port)) _ (by decide)⟩
  · simp [State.stomp, State.dropFr, hf]
  · simp [State.stomp, State.dropFr, hs, hx, Sent.stomped]

/-- Settles O26: lookups give a frame its result or park it; the answer of its read, or its limit, lets it go on; its end stores, refuses
or discards it, or stomps what was cut through. -/
theorem framesThroughThePipelines : Obligations.FramesThroughThePipelines := by
  refine ⟨fun s p data ns lat => ⟨exec_frameIngress_closed s p data ns lat, ?ingress⟩,
    fun s f ns k n i hf hg hfcs hfwd hsrc hn => ⟨?answer, ?limit⟩,
    fun s f p ns hf hp hfcs => ⟨?stored, ?cut, fun hg n => exec_ingressFailAfterCommit_uncut s f p ns hf hp hfcs n hg⟩⟩
  case ingress =>
    intro hr hen hf hcls h4 h6 hlimit hcut
    have hnone : (s.at_ ns).noEntries (pipeOf p) := ⟨hcls, h4, h6⟩
    have hhas := (s.at_ ns).enteredFr_hasEntered p data lat
    have hprobe (f : Fr) (hent : (s.at_ ns).HasEntered p data f) (hvid : f.vid = ((s.at_ ns).enteredFr p data lat).vid)
        (hone : isGroup f.dst = false) :
        ((s.at_ ns).enteredFr p data lat).fwd = (s.probe (pipeOf p) f.vid f.dst).map Line.fwd := by
      rw [hent.dst.trans hhas.dst.symm] at hone ⊢
      rw [hvid]
      exact (s.at_ ns).enteredFr_fwd p data lat hone
    cases hfwd : ((s.at_ ns).enteredFr p data lat).fwd with
    | none =>
      obtain ⟨t, f, hpipe, hframes, hent, hparsed, hvid, hstage, hreads, hparked⟩ :=
        (s.at_ ns).enterPipe_parks p data lat p.isLt hf hlimit hfwd
      refine ⟨t, f, exec_frameIngress_empty s p data ns lat hr hf t hpipe, hframes, hparsed.now.trans (s.now_at ns), hent.port, hent.bytes,
        hent.t0.trans hparsed.now.symm, hent.fcs, hent.id, hent.dst, hent.src, hparsed.sent, hparsed.queues, hparsed.count,
        fun hone l hl => ?_, fun _ _ => ⟨hstage, hreads, hparked⟩⟩
      have hres := hprobe f hent hvid hone
      rw [hfwd, hl] at hres
      cases hres
    | some r =>
      obtain ⟨t, f, hpipe, hframes, hent, hparsed, hvid, hto⟩ :=
        (s.at_ ns).enterPipe_decides p data lat p.isLt hf hen hnone hlimit hcut r hfwd
      refine ⟨t, f, exec_frameIngress_empty s p data ns lat hr hf t hpipe, hframes, hparsed.now.trans (s.now_at ns), hent.port, hent.bytes,
        hent.t0.trans hparsed.now.symm, hent.fcs, hent.id, hent.dst, hent.src, hparsed.sent, hparsed.queues, hparsed.count,
        fun hone l hl hneg hdisc hport hopen => ?_, fun hone hl => ?_⟩
      · have hres := hprobe f hent hvid hone
        rw [hfwd, hl] at hres
        obtain ⟨hstage, hout, hreads⟩ := hto l.port (by simpa [Line.fwd, hneg, hdisc] using hres) hport hopen
        exact ⟨hstage, hout.trans (by rw [State.plainOut, hent.port]; rfl), hreads⟩
      · have hres := hprobe f hent hvid hone
        rw [hfwd, hl] at hres
        cases hres
  case answer =>
    intro late hr
    have hheld : (((((s.at_ ns).withReads []).fillLine n k.1 k.2 (s.tableRead n k.1 k.2)).withFrames
      [f.answered k (s.tableRead n k.1 k.2)])).pk.frames = [f.answered k (s.tableRead n k.1 k.2)] := rfl
    have hmoved := State.advance_movedOn _ n _ hheld hn hg (by simp [Fr.ready, Fr.answered, hsrc]) hfcs
    refine ⟨_, exec_cellarReadAnswer_parked s f ns k n i late hf hg hr hfwd hsrc, hmoved.reads, hmoved.parked, fun g hgs => ?_, ?_⟩
    · obtain ⟨hid, hstage, hres⟩ := hmoved.frames g hgs
      refine ⟨hid, hstage, hres.trans ?_⟩
      cases s.tableRead n k.1 k.2 <;> rfl
    · refine (State.probe_congr hmoved.cache n k.1 k.2).trans ((State.probe_fillLine _ n k.1 k.2 (s.tableRead n k.1 k.2)).trans ?_)
      cases s.tableRead n k.1 k.2 <;> rfl
  case limit =>
    intro hr due
    rw [← s.now_at ns]
    refine ⟨exec_readLimitExpiry_early s f ns k n i hr, fun hdue => ?_⟩
    have hheld : ((s.at_ ns).readLate f n k i).pk.frames = [f.timedOut] := rfl
    have hmoved := State.advance_movedOn _ n _ hheld hn hg (by simp [Fr.ready, Fr.timedOut, hsrc]) hfcs
    refine ⟨_, exec_readLimitExpiry_late s f ns k n i hf hg hr hfwd hsrc hdue, hmoved.frames, hmoved.reads.trans ?_, ?_,
      (congrArg Flt.raised hmoved.faults).trans ?_⟩
    · rw [State.readLate, State.withFrames_reads, State.raise_pk]
      rfl
    · rw [State.fld, hmoved.errors n n.isLt, ← State.fld, State.readLate, State.fld_withFrames, State.fld, State.rd, State.raise_regs,
        ← State.rd, ← State.fld, State.fld_count_one _ _ _ (by decide)]
      rfl
    · rw [State.readLate, State.withFrames_flt, State.raise_flt]
      rfl
  case stored =>
    intro e he hg hports hdrop hpairs hdebit hm hgate q
    have hstored : f.StoredFor e := ⟨hg, hports, hdrop, hpairs, hdebit⟩
    obtain ⟨hempty, hcooper⟩ := s.passed_at f p ns hf hp
    have hexec := exec_frameEnd_stored s f p ns hf hp hfcs e he hstored hm hgate
    have hframes : (((s.at_ ns).passed f).enqueue e q f.copy).1.pk.frames = [] :=
      ((State.keepsFrames.refl _).enqueue e q f.copy).1.trans hempty
    refine ⟨fun hfits => ?_, fun hfits => ?_, _, exec_frameEnd_discards s f p ns hf hp hfcs e hstored, rfl, rfl, rfl,
      Tab.get_set_same (fun _ => 0) s.pk.fcsErr p.val (Tab.get (fun _ => 0) s.pk.fcsErr p.val + 1)⟩
    · obtain ⟨hqueue, hothers, _⟩ := State.enqueue_fits _ e q f.copy ((hcooper.fits e q f.copy).trans hfits) ((hcooper.gateOn e).trans hgate)
      exact ⟨_, hexec, hframes, hqueue.trans (congrArg (· ++ [f.copy]) (hcooper.queue q)), fun x hx => (hothers x hx).trans (hcooper.queue x)⟩
    · obtain ⟨hqueues, _, hcount⟩ := State.enqueue_refused _ e q f.copy ((hcooper.fits e q f.copy).trans hfits) rfl
      refine ⟨_, hexec, hframes, hqueues.trans hcooper.1, hcount.trans ?_⟩
      rw [hcooper.fld _ _ (by simp; omega)]
  case cut =>
    intro n x hg hs hx
    obtain ⟨hframes, hsent, hcount⟩ := State.stomp_single (s.at_ ns) f n x hf hs hx
    rw [hp] at hcount
    exact ⟨_, exec_ingressFailAfterCommit_cut s f p ns hf hp hfcs n hg, hframes, hsent, hcount⟩

end Sys2Proof.Machine
